-- ==== Sys2Proof/Word.lean ====
section
/-! DEFINITION. The words of the machine: bytes, 16-bit words, 32-bit longs and 64-bit doubles. -/

namespace Sys2Proof

/-- A byte (R14). -/
abbrev Byte := BitVec 8
/-- A word: 16 bits (R14). -/
abbrev Word := BitVec 16
/-- A long: 32 bits (R14). -/
abbrev Long := BitVec 32

end Sys2Proof
end

