-- ==== Sys2Proof/Config.lean ====
section
/-! DEFINITION. What an implementation fixes: the catalogue of opcodes, the tables of the codes, and the free values. -/

namespace Sys2Proof.Config

/-! ### Free values -/

/-- The n-th free value the machine draws. It has no body: no proof can see what it is. -/
opaque freeValue : Nat → BitVec 64

/-! ### Standards and factory keys: named by the spec, stated elsewhere -/

/-- HMAC-SHA-256 of a message under a key (RFC 2104, FIPS 180-4). -/
opaque hmacSha256 : List Byte → List Byte → BitVec 256

/-- SHA-256 of a message (FIPS 180-4). -/
opaque sha256 : List Byte → BitVec 256

/-- One AES block under a 128-bit key (FIPS 197). -/
opaque aes128 : List Byte → BitVec 128 → BitVec 128

/-- Ed25519 verification of a signature over a message under a public key (RFC 8032). -/
opaque ed25519Verify : List Byte → List Byte → List Byte → Bool

/-- The factory's FAMILY secret and FAMILY public key (Table 16.2). -/
opaque familySecret : BitVec 256
opaque familyPublic : BitVec 256

/-! ### SRAM code (R416, R420) -/

/-- The data columns of Table 08.2, data bit 0 first. -/
def dataColumns : List Nat :=
  [0x07, 0x0B, 0x0D, 0x0E, 0x13, 0x15, 0x16, 0x19, 0x1A, 0x1C, 0x23, 0x25, 0x26, 0x29, 0x2A, 0x2C] ++
  [0x31, 0x32, 0x34, 0x38, 0x43, 0x45, 0x46, 0x49, 0x4A, 0x4C, 0x51, 0x52, 0x54, 0x58, 0x61, 0x62] ++
  [0x64, 0x68, 0x70, 0x83, 0x85, 0x86, 0x89, 0x8A, 0x8C, 0x91, 0x92, 0x94, 0x98, 0xA1, 0xA2, 0xA4] ++
  [0xA8, 0xB0, 0xC1, 0xC2, 0xC4, 0xC8, 0xD0, 0xE0, 0x1F, 0x2F, 0x37, 0x3B, 0x3D, 0x3E, 0x4F, 0x57]

/-- The address columns of Table 08.3, address bit 3 first. -/
def addrColumns : List Nat :=
  [0x81, 0x82, 0x84, 0x88, 0x90, 0xA0, 0xC0, 0x87, 0x8B, 0x8D] ++
  [0x8E, 0x93, 0x95, 0x96, 0x99, 0x9A, 0x9C, 0xA3, 0xA5]

/-! ### Catalogue (R856 to R858, Table 18.3) -/

/-- The origin codes of Table 18.2, with the rows' own conditions. -/
inductive OriginCode where
  | any | part | guest | p0 | p0plus | linkRight
  /-- P0 or an external origin with consent; a guest for itself or within its own range. -/
  | p0plusGuest
deriving DecidableEq, Repr

/-- A row of Table 18.3. -/
structure OpRow where
  op : Nat
  origin : OriginCode
  /-- Hardware-owned (R256). -/
  hw : Bool := false
  /-- A started command can be cancelled at its safe point (R229). -/
  cancel : Bool := false
  plen : Nat
deriving DecidableEq, Repr

/-- The opcodes of Boroux 3.2 (Table 18.3). SND.GAIN, whose origins depend on the stage it names, is checked by its own meaning. -/
def opRows0 : List OpRow :=
  [{ op := 0x0001, origin := .any, plen := 0 },
   { op := 0x0002, origin := .p0plus, plen := 1 },
   { op := 0x0003, origin := .any, plen := 0 },
   { op := 0x0101, origin := .any, plen := 0 },
   { op := 0x0102, origin := .p0plus, plen := 6 },
   { op := 0x0103, origin := .any, plen := 4 },
   { op := 0x0104, origin := .p0plus, plen := 1 },
   { op := 0x0201, origin := .any, plen := 0 },
   { op := 0x0202, origin := .p0plus, plen := 8 },
   { op := 0x0203, origin := .guest, plen := 1 },
   { op := 0x0210, origin := .guest, plen := 2 },
   { op := 0x0211, origin := .guest, plen := 1 },
   { op := 0x0301, origin := .any, plen := 8 },
   { op := 0x0310, origin := .p0plus, plen := 8 },
   { op := 0x0311, origin := .p0plus, plen := 2 },
   { op := 0x0312, origin := .p0plus, plen := 8 },
   { op := 0x0313, origin := .p0plus, plen := 5 },
   { op := 0x0314, origin := .p0plus, plen := 5 },
   { op := 0x0315, origin := .p0plus, plen := 8 }]

def opRows1 : List OpRow :=
  [{ op := 0x0316, origin := .p0plus, plen := 2 },
   { op := 0x0317, origin := .p0plusGuest, hw := true, plen := 3 },
   { op := 0x0318, origin := .p0plus, plen := 6 },
   { op := 0x0319, origin := .p0plus, plen := 4 },
   { op := 0x031A, origin := .p0plus, plen := 1 },
   { op := 0x0401, origin := .any, plen := 4 },
   { op := 0x0402, origin := .any, plen := 0 },
   { op := 0x0403, origin := .p0, plen := 2 },
   { op := 0x0404, origin := .any, plen := 0 },
   { op := 0x0501, origin := .any, plen := 1 },
   { op := 0x0502, origin := .p0plus, plen := 8 },
   { op := 0x0601, origin := .any, plen := 1 },
   { op := 0x0701, origin := .any, plen := 2 },
   { op := 0x0702, origin := .any, plen := 2 },
   { op := 0x0703, origin := .any, plen := 8 },
   { op := 0x0801, origin := .any, plen := 0 },
   { op := 0x0810, origin := .any, plen := 0 },
   { op := 0x0811, origin := .p0plus, plen := 0 },
   { op := 0x0812, origin := .p0plusGuest, plen := 12 }]

def opRows2 : List OpRow :=
  [{ op := 0x0813, origin := .p0plusGuest, cancel := true, plen := 8 },
   { op := 0x0820, origin := .p0plus, plen := 4 },
   { op := 0x0901, origin := .part, plen := 1 },
   { op := 0x0910, origin := .part, hw := true, cancel := true, plen := 8 },
   { op := 0x0911, origin := .part, hw := true, cancel := true, plen := 1 },
   { op := 0x0A01, origin := .part, plen := 1 },
   { op := 0x0A10, origin := .part, plen := 8 },
   { op := 0x0A11, origin := .part, plen := 2 },
   { op := 0x0A12, origin := .part, plen := 8 },
   { op := 0x0A13, origin := .p0plus, plen := 5 },
   { op := 0x0A20, origin := .part, plen := 8 },
   { op := 0x0B01, origin := .any, plen := 0 },
   { op := 0x0B10, origin := .part, plen := 3 },
   { op := 0x0B11, origin := .p0plus, plen := 6 },
   { op := 0x0B12, origin := .p0plus, plen := 8 },
   { op := 0x0B13, origin := .p0plus, plen := 4 },
   { op := 0x0C01, origin := .any, plen := 0 },
   { op := 0x0C02, origin := .p0plus, plen := 1 },
   { op := 0x0C10, origin := .p0plus, plen := 24 }]

def opRows3 : List OpRow :=
  [{ op := 0x0C11, origin := .p0plus, plen := 5 },
   { op := 0x0C12, origin := .p0plus, plen := 16 },
   { op := 0x0C13, origin := .p0plus, plen := 16 },
   { op := 0x0D01, origin := .any, plen := 0 },
   { op := 0x0D10, origin := .part, plen := 24 },
   { op := 0x0D11, origin := .part, plen := 12 },
   { op := 0x0D12, origin := .part, plen := 14 },
   { op := 0x0D13, origin := .part, plen := 16 },
   { op := 0x0D14, origin := .part, plen := 13 },
   { op := 0x0D15, origin := .any, plen := 8 },
   { op := 0x0D16, origin := .any, plen := 4 },
   { op := 0x0D17, origin := .p0plus, plen := 18 },
   { op := 0x0E10, origin := .part, plen := 4 },
   { op := 0x0E11, origin := .p0plus, plen := 12 },
   { op := 0x0E12, origin := .p0plus, plen := 24 },
   { op := 0x0E20, origin := .p0plus, plen := 12 },
   { op := 0x0E21, origin := .p0plus, plen := 20 },
   { op := 0x0E22, origin := .p0plus, plen := 16 },
   { op := 0x0E23, origin := .p0plus, plen := 5 }]

def opRows4 : List OpRow :=
  [{ op := 0x0E24, origin := .p0plus, plen := 10 },
   { op := 0x0E25, origin := .part, plen := 4 },
   { op := 0x0E26, origin := .p0plus, plen := 1 },
   { op := 0x0F01, origin := .any, plen := 1 },
   { op := 0x0F10, origin := .p0plus, plen := 7 },
   { op := 0x0F11, origin := .linkRight, plen := 16 },
   { op := 0x0F12, origin := .p0plus, plen := 8 },
   { op := 0x0F20, origin := .linkRight, cancel := true, plen := 48 },
   { op := 0x0F21, origin := .linkRight, plen := 12 },
   { op := 0x0F22, origin := .linkRight, cancel := true, plen := 16 },
   { op := 0x0F23, origin := .linkRight, plen := 40 },
   { op := 0x0F24, origin := .linkRight, plen := 4 },
   { op := 0x1001, origin := .any, plen := 0 },
   { op := 0x1002, origin := .p0plus, plen := 4 },
   { op := 0x1003, origin := .p0plus, plen := 4 },
   { op := 0x1010, origin := .p0plus, plen := 56 },
   { op := 0x1011, origin := .p0plus, plen := 24 },
   { op := 0x1012, origin := .p0plus, plen := 2 },
   { op := 0x1020, origin := .any, plen := 20 }]

def opRows5 : List OpRow :=
  [{ op := 0x1021, origin := .p0plus, plen := 12 },
   { op := 0x1030, origin := .p0plus, plen := 8 },
   { op := 0x1031, origin := .p0plus, plen := 20 },
   { op := 0x1032, origin := .p0, plen := 1 },
   { op := 0x1101, origin := .any, plen := 2 },
   { op := 0x1110, origin := .p0plus, plen := 3 },
   { op := 0x1111, origin := .p0plus, plen := 3 },
   { op := 0x1112, origin := .p0plus, hw := true, plen := 2 },
   { op := 0x1113, origin := .p0plus, hw := true, plen := 3 },
   { op := 0x1114, origin := .p0plus, hw := true, plen := 4 },
   { op := 0x1115, origin := .p0plus, plen := 4 },
   { op := 0x1116, origin := .p0plus, plen := 3 },
   { op := 0x1120, origin := .p0plus, cancel := true, plen := 16 },
   { op := 0x1121, origin := .p0plus, plen := 1 },
   { op := 0x1122, origin := .p0plus, plen := 0 },
   { op := 0x1130, origin := .p0plus, plen := 8 },
   { op := 0x1131, origin := .p0plus, plen := 8 },
   { op := 0x1132, origin := .p0plus, plen := 0 },
   { op := 0x1133, origin := .p0plus, plen := 8 }]

/-- All opcodes of Table 18.3. -/
def opRows : List OpRow := opRows0 ++ opRows1 ++ opRows2 ++ opRows3 ++ opRows4 ++ opRows5

/-- The row of an opcode, if it is defined (R856). -/
def opRow (op : Nat) : Option OpRow := opRows.find? fun r => r.op == op

end Sys2Proof.Config
end

