-- ==== Sys2Proof/Machine/Bits.lean ====
section
/-! DEFINITION. Bit-field, sign-extension and byte-order helpers, fixed arrays and sparse tables. -/

namespace Sys2Proof.Machine

/-- Bits [hi:lo] of a number. -/
def bits (x hi lo : Nat) : Nat := (x / 2 ^ lo) % 2 ^ (hi + 1 - lo)

/-- Bit k of a number. -/
def bit (x k : Nat) : Bool := (x / 2 ^ k) % 2 == 1

/-- 1 for true and 0 for false. -/
def b2n (b : Bool) : Nat := if b then 1 else 0

/-- The number of a list of bits, bit 0 first. -/
def bitsToNat : List Bool → Nat
  | [] => 0
  | b :: bs => b2n b + 2 * bitsToNat bs

/-- The number held by bytes in address order, lowest first (R14). -/
def leNat : List Byte → Nat
  | [] => 0
  | b :: bs => b.toNat + 256 * leNat bs

/-- The lowest n bytes of a number, lowest first (R14). -/
def leBytes : Nat → Nat → List Byte
  | 0, _ => []
  | n + 1, x => BitVec.ofNat 8 x :: leBytes n (x / 256)

/-- The number read as a signed number of w bits. -/
def sext (w x : Nat) : Int :=
  if x % 2 ^ w < 2 ^ (w - 1) then (x % 2 ^ w : Nat) else (x % 2 ^ w : Nat) - (2 ^ w : Nat)

/-- An integer narrowed to w bits. -/
def narrow (w : Nat) (x : Int) : Nat := (x % (2 ^ w : Nat)).toNat

/-- An integer held between two bounds. -/
def clampI (lo hi x : Int) : Int := max lo (min hi x)

/-- A sum that stops at its largest value. -/
def satAdd (top a b : Nat) : Nat := min top (a + b)

/-- (a − b) mod 65,536, the number of entries between two free-running indices (R232, R381). -/
def idxDiff (a b : Nat) : Nat := (a + 65536 - b % 65536) % 65536

/-- Byte i of a parameter block; a byte beyond the block reads 0. -/
def pbyte (p : List Byte) (i : Nat) : Nat := (p.getD i 0).toNat

/-- Little-endian field of n bytes at offset i of a parameter block. -/
def pfield (p : List Byte) (i n : Nat) : Nat := leNat ((List.range n).map fun k => p.getD (i + k) 0)

/-- Bytes i to i + n − 1 of a block. -/
def pslice (p : List Byte) (i n : Nat) : List Byte := (List.range n).map fun k => p.getD (i + k) 0

/-- Every byte of [i, i+n) is zero: a reserved field (R19). -/
def pzero (p : List Byte) (i n : Nat) : Bool := (pslice p i n).all (· == 0)

/-- Overwrites bytes from offset i of a block. -/
def putAt (blk : List α) (i : Nat) (new : List α) : List α :=
  blk.take i ++ new ++ blk.drop (i + new.length)

/-! ### Fixed arrays, indexed by a number -/

/-- Element i of a fixed array; an index beyond it reads the default. -/
def vget [Inhabited α] (v : Vector α n) (i : Nat) : α := v.toList.getD i default

/-- Replaces element i; an index beyond the array changes nothing. -/
def vset (v : Vector α n) (i : Nat) (x : α) : Vector α n := v.setIfInBounds i x

/-- Changes element i by a function. -/
def vmod [Inhabited α] (v : Vector α n) (i : Nat) (f : α → α) : Vector α n := vset v i (f (vget v i))

/-! ### Sparse tables: strictly rising keys, no entry equal to the default -/

/-- What a key holds, if it is listed. -/
def sfind : List (Nat × α) → Nat → Option α
  | [], _ => none
  | (k, v) :: t, a => if a = k then some v else if a < k then none else sfind t a

/-- What a key holds, or the default. -/
def sget (d : α) (l : List (Nat × α)) (a : Nat) : α := (sfind l a).getD d

/-- Removes a key. -/
def sdel : List (Nat × α) → Nat → List (Nat × α)
  | [], _ => []
  | (k, v) :: t, a => if a = k then t else if a < k then (k, v) :: t else (k, v) :: sdel t a

/-- Lists a key with a value. -/
def sins : List (Nat × α) → Nat → α → List (Nat × α)
  | [], a, x => [(a, x)]
  | (k, v) :: t, a, x =>
    if a = k then (a, x) :: t else if a < k then (a, x) :: (k, v) :: t else (k, v) :: sins t a x

/-- Gives a key a value; the default unlists it. -/
def sput [DecidableEq α] (d : α) (l : List (Nat × α)) (a : Nat) (x : α) : List (Nat × α) :=
  if x = d then sdel l a else sins l a x

/-- Keys rise strictly above b. -/
def srising (b : Nat) : List (Nat × α) → Bool
  | [] => true
  | (k, _) :: t => b < k && srising k t

/-- Keys rise strictly. -/
def ssorted : List (Nat × α) → Bool
  | [] => true
  | (k, _) :: t => srising k t

/-- The canonical form of a sparse table whose default may depend on the key. -/
def swf [DecidableEq α] (d : Nat → α) (l : List (Nat × α)) : Bool :=
  ssorted l && l.all fun e => e.2 ≠ d e.1

/-- Removes every key in [lo, hi). -/
def sclear (l : List (Nat × α)) (lo hi : Nat) : List (Nat × α) := l.filter fun e => e.1 < lo || hi ≤ e.1

/-! ### Lists -/

/-- The first failure of a list of checks, in order (R861). -/
def firstFail : List (Bool × σ) → Option σ
  | [] => none
  | (bad, st) :: t => if bad then some st else firstFail t

/-- Changes the first element that meets a test. -/
def modFirst (p : α → Bool) (f : α → α) : List α → List α
  | [] => []
  | a :: t => if p a then f a :: t else a :: modFirst p f t

/-- Removes the first element that meets a test. -/
def delFirst (p : α → Bool) : List α → List α
  | [] => []
  | a :: t => if p a then t else a :: delFirst p t

end Sys2Proof.Machine
end

