-- ==== Sys2Proof/Machine/StCore.lean ====
section
/-! DEFINITION. State of a Kuval core: registers, flags, tags, the pending load, waits, the guard unit and its windows (chapters 05 and 06). -/

namespace Sys2Proof.Machine

/-- FL [6:0] (R267); the reserved bits [15:7] read 0. -/
structure FlagReg where
  c : Bool := false
  z : Bool := false
  n : Bool := false
  v : Bool := false
  i : Bool := false
  h : Bool := true
  rf : Bool := false
deriving DecidableEq, Repr, Inhabited

/-- FL as a word (R267). -/
def FlagReg.toWord (f : FlagReg) : Word :=
  BitVec.ofNat 16 (bitsToNat [f.c, f.z, f.n, f.v, f.i, f.h, f.rf])

/-- A guard region (R349). -/
structure GuardRegion where
  base : Nat := 0
  sizeLog2 : Nat := 0
  r : Bool := false
  w : Bool := false
  x : Bool := false
  en : Bool := false
  srd : BitVec 8 := 0
deriving DecidableEq, Repr, Inhabited

/-- The guard unit of a core (R349 to R359). -/
structure GuardUnit where
  en : Bool := false
  background : Bool := false
  cfgErr : Bool := false
  regions : Vector GuardRegion 8 := Vector.replicate 8 {}
deriving DecidableEq, Repr

/-- A load that has not landed (R294), with what undoing it restores (R299). -/
structure PendLoad where
  /-- Destination register, or the pair's even register when `long`. -/
  reg : Nat
  long : Bool := false
  value : Long := 0
  tag : Bool := false
  /-- Address of the load, and RF and the base or stack pointer before it. -/
  pc : Word
  rf : Bool := false
  base : Option (Nat × Word × Bool) := none
  sp : Option (Word × Bool) := none
deriving DecidableEq, Repr, Inhabited

/-- What a waiting core waits for (R54, R56, R315), with the words its instruction takes; `early` marks a WAITB that began before
the first mode was set (R58). -/
inductive WaitFor where
  | frame
  | line (l : Nat) (words : Nat) (early : Bool)
  | interrupt
deriving DecidableEq, Repr, Inhabited

/-- Whether a core executes (R322); pegged, spare and retired stand in its unit register. -/
inductive CoreRun where
  | running
  | stopped
  | held
deriving DecidableEq, Repr, Inhabited

/-- A Kuval core (R265 to R268, Tables 06.7 and 06.9). -/
structure Core where
  w : Vector Word 8 := Vector.replicate 8 0
  wTag : BitVec 8 := 0
  sp : Word := 0
  spTag : Bool := false
  pc : Word := 0
  ct : Word := 0
  ctTag : Bool := false
  cb : Byte := 0
  db : Byte := 0
  xb : Byte := 0
  sb : Byte := 0
  fl : FlagReg := {}
  flTag : Bool := false
  pend : Option PendLoad := none
  run : CoreRun := .held
  wait : Option WaitFor := none
  halted : Bool := false
  /-- The spare runs in a retired core's place until the next frame start (R834). -/
  acting : Bool := false
  /-- Local number in its partition (R149, R834). -/
  localNo : Nat := 0
  /-- Assigned to its partition since the partition last ran (R146). -/
  fresh : Bool := true
  latch : Bool := false
  frameNo : Nat := 0
  waitfDone : Bool := false
  refFrame : Nat := 0xFFFFFFFF
  overrun : Nat := 0
  beamDot : Nat := 0
  snapFrame : Nat := 0xFFFFFFFF
  qtimeSnap : Nat := 0
  guard : GuardUnit := {}
  hostSp : Word := 0
  hostSb : Byte := 0
  vecBase : Word := 0
  vecBank : Byte := 0
  faultCount : Nat := 0
  /-- Running-priority stack, top first (R389). -/
  prio : List Nat := []
  /-- Sample counter snapshot of ASC_LO (R683). -/
  ascSnap : Nat := 0
deriving DecidableEq, Repr

end Sys2Proof.Machine
end

