-- ==== Sys2Proof/Machine/StInput.lean ====
section
/-! DEFINITION. State of touch, keys, the snapshot and the small ports (chapter 14). -/

namespace Sys2Proof.Machine

/-- Touch settings (INP.CONFIG, INP.TOUCH_CAL): A to F in `cal`. -/
structure TouchCfg where
  en : Bool := true
  rate : Nat := 240
  settle : Nat := 20
  plate : Nat := 600
  thresh : Nat := 1500
  cal : Vector Int 6 := #v[65536, 0, 0, 0, 65536, 0]
deriving DecidableEq, Repr

/-- What touch has measured (R684 to R688). -/
structure TouchSt where
  x : Nat := 0
  y : Nat := 0
  z1 : Nat := 0
  z2 : Nat := 0
  /-- Contact as reported, and of the latest sample. -/
  contact : Bool := false
  last : Bool := false
  posX : Nat := 0
  posY : Nat := 0
  press : Nat := 0
  /-- Since the previous sampling point. -/
  tapped : Bool := false
  fault : Bool := false
deriving DecidableEq, Repr

/-- Keys and GPIO (R689 to R692). Bits are numbered as KEYS of Table 14.2. -/
structure Keys where
  gpioMode : Bool := false
  diodes : Bool := false
  debMs : Nat := 5
  rowUs : Nat := 20
  deb : BitVec 48 := 0
  cnt : Vector Nat 48 := Vector.replicate 48 0
  /-- Bits that have risen since the previous sampling point. -/
  down : BitVec 48 := 0
  ghost : Bool := false
  /-- Levels at GP0 to GP23 as last sampled. -/
  pins : BitVec 24 := 0
  dir : BitVec 24 := 0
  out : BitVec 24 := 0
deriving DecidableEq, Repr

/-- A snapshot between its sampling point and its frame start (R694). -/
structure Snap where
  keys : BitVec 48 := 0
  down : BitVec 48 := 0
  x : Nat := 0
  y : Nat := 0
  press : Nat := 0
  contact : Bool := false
  tapped : Bool := false
  ghost : Bool := false
  fault : Bool := false
deriving DecidableEq, Repr, Inhabited

/-- The input window of a partition (Table 14.9). -/
structure SnapPart where
  bytes : List Byte := List.replicate 32 0
  en : Bool := false
  dest : Nat := 0
  focus : Bool := false
  mapFault : Bool := false
deriving DecidableEq, Repr, Inhabited

/-- A PWM channel (R699): the duty last set, and the ramp from `from_` to `to_` that began at `start`. -/
structure Pwm where
  freq : Nat := 20000
  set : Nat := 0
  from_ : Nat := 0
  to_ : Nat := 0
  start : Nat := 0
  rampMs : Nat := 0
deriving DecidableEq, Repr, Inhabited

/-- The rumble (R701): limits, the request (partition, duty, end), and since when the duty has been nonzero. -/
structure Rumble where
  max : Nat := 1000
  ms : Nat := 2000
  req : Option (Nat × Nat × Nat) := none
  since : Option Nat := none
deriving DecidableEq, Repr, Inhabited

/-- An I2C transfer under way (R703). -/
structure I2cOp where
  handle : Option Long
  addr : Nat
  wdata : List Byte
  rlen : Nat
  dest : Nat
deriving DecidableEq, Repr, Inhabited

/-- An I2C controller. -/
structure I2cBus where
  fast : Bool := false
  op : Option I2cOp := none
  stuck : Bool := false
  /-- A transfer has ended (R717). -/
  svc : Bool := false
deriving DecidableEq, Repr, Inhabited

/-- An SPI transfer under way (R709): mode, chip select, the whole divider of 24 MHz, the bytes that leave. -/
structure SpiOp where
  handle : Option Long
  cs : Nat
  mode : Nat
  div : Nat
  out : List Byte
  dest : Nat
deriving DecidableEq, Repr, Inhabited

/-- The SPI controller. -/
structure SpiCtl where
  op : Option SpiOp := none
  svc : Bool := false
deriving DecidableEq, Repr, Inhabited

/-- The UART (R707, R708). `flags` holds FRAMING, PARITY, OVERRUN, BREAK, and `logged` when each was last logged. -/
structure Uart where
  baud : Nat := 115200
  format : Nat := 0
  tx : List Byte := []
  rx : List Byte := []
  txEn : Bool := false
  flags : BitVec 4 := 0
  logged : Vector (Option Nat) 4 := Vector.replicate 4 none
  /-- The byte sent last. -/
  sent : Option Byte := none
deriving DecidableEq, Repr

/-- The input block and the small ports. -/
structure Input where
  touchCfg : TouchCfg := {}
  touch : TouchSt := {}
  keys : Keys := {}
  homeDown : Bool := false
  latched : Option Snap := none
  parts : Vector SnapPart 7 := Vector.replicate 7 {}
  /-- The partition whose first snapshot with focus has been delivered (R696). -/
  seen : Option Nat := some 0
  /-- Backlight and rumble. -/
  pwm : Vector Pwm 2 := Vector.replicate 2 {}
  rumble : Rumble := {}
  i2c : Vector I2cBus 2 := Vector.replicate 2 {}
  spi : SpiCtl := {}
  uart : Uart := {}
  adc : Vector Nat 4 := Vector.replicate 4 0
  /-- R712 or R713 has applied at the host port (R717). -/
  hostBad : Bool := false
deriving DecidableEq, Repr

end Sys2Proof.Machine
end

