-- ==== Sys2Proof/Machine/StShared.lean ====
section
/-! DEFINITION. State held for every block: the lint log, unit registers, fired events, partitions, mailboxes and rings (chapters 03, 04, 07, 17). -/

namespace Sys2Proof.Machine

/-! ### Lint log and units (chapter 17) -/

/-- One entry of the lint log (Table 17.5). -/
structure LintEntry where
  code : Nat := 0
  unit : Nat := 0
  count : Nat := 1
  origin : Nat := 0xFF
  boot : Bool := false
  saturated : Bool := false
  first : Nat := 0
  last : Nat := 0
  frame : Nat := 0
  detail : Nat := 0
deriving DecidableEq, Repr, Inhabited

/-- The lint log and its lifetime counters (R843, R846): at most 256 entries, entry i of the list is ring place i. -/
structure LintLog where
  entries : List LintEntry := []
  next : Nat := 0
  overwritten : Nat := 0
  counters : List (Nat × Nat) := []
deriving DecidableEq, Repr, Inhabited

/-- STATE of a unit register (Table 17.2). -/
inductive UnitState where
  | active | spare | copying | retired | pegged | absent
deriving DecidableEq, Repr, Inhabited

/-- The code of a unit state (Table 17.2). -/
def UnitState.code : UnitState → Nat
  | .active => 0 | .spare => 1 | .copying => 2 | .retired => 3 | .pegged => 4 | .absent => 5

/-- A unit register (R814). -/
structure UnitReg where
  st : UnitState := .active
  gen : Nat := 1
  admitBit : Bool := true
deriving DecidableEq, Repr, Inhabited

/-- A unit register in the spare state (R852). -/
def UnitReg.mkSpare : UnitReg := { st := .spare, admitBit := false }
/-- A unit register of a unit the package or board lacks (R852). -/
def UnitReg.mkAbsent : UnitReg := { st := .absent, admitBit := false }

/-- The unit registers of the eleven kinds of Table 17.1, indexed by kind 0x01 to 0x0B less one, then by index. -/
structure UnitTable where
  cores : Vector UnitReg 6 := (Vector.replicate 6 {}).set 5 UnitReg.mkSpare
  macros : Vector UnitReg 34 := ((Vector.replicate 34 {}).set 32 UnitReg.mkSpare).set 33 UnitReg.mkSpare
  psram : Vector UnitReg 6 := Vector.replicate 6 UnitReg.mkAbsent
  spool : Vector UnitReg 8 := Vector.replicate 8 {}
  ports : Vector UnitReg 4 := Vector.replicate 4 {}
  layers : Vector UnitReg 8 := Vector.replicate 8 {}
  voices : Vector UnitReg 24 := Vector.replicate 24 {}
  tones : Vector UnitReg 8 := Vector.replicate 8 {}
  inputs : Vector UnitReg 5 := Vector.replicate 5 {}
  links : Vector UnitReg 32 := Vector.replicate 32 {}
  flash : Vector UnitReg 2 := Vector.replicate 2 {}
deriving DecidableEq, Repr

/-! ### Fired events (chapter 07) -/

/-- The DATA of the edges one record stands for: a single value, or edges whose DATA differ (no rule names which is written). -/
inductive EvData where
  | one (v : Nat)
  | mixed
deriving DecidableEq, Repr, Inhabited

/-- An edge of a source that has fired and waits for its arbitration at the Hamper (R372). -/
structure Edge where
  part : Nat
  src : Nat
  data : EvData
deriving DecidableEq, Repr, Inhabited

/-- A record that a full or faulted ring postponed (R371, R385). -/
structure PostRec where
  src : Nat
  ring : Nat
  count : Nat
  data : EvData
  rearm : Bool := false
deriving DecidableEq, Repr, Inhabited

/-- Why a ring is faulted (Table 07.8 CAUSE). -/
inductive RingCause where
  | none | map | cons | badcfg
deriving DecidableEq, Repr, Inhabited

/-- The code of a ring's cause (Table 07.8). -/
def RingCause.code : RingCause → Nat
  | .none => 0 | .map => 1 | .cons => 2 | .badcfg => 3

/-- One event ring (R378 to R388, Table 07.8). -/
structure Ring where
  enable : Bool := false
  routeEn : Bool := true
  route : Nat := 0
  sizeLog2 : Nat := 4
  base : Nat := 0
  prod : Nat := 0
  cons : Nat := 0
  overflow : Nat := 0
  fault : Bool := false
  cause : RingCause := .none
deriving DecidableEq, Repr, Inhabited

/-- The Hamper of one partition (R370, Table 07.8). -/
structure Hmp where
  expert : Bool := false
  srcEn : BitVec 96 := BitVec.allOnes 96
  pend : BitVec 96 := 0
  counts : List (Nat × Nat) := []
  countData : List (Nat × EvData) := []
  pri : List (Nat × Nat) := []
  /-- The ring that holds the record of a pending source (R375, R395); Q0 where unlisted. -/
  claim : List (Nat × Nat) := []
  rings : Vector Ring 4 := Vector.replicate 4 {}
  posts : List PostRec := []
deriving DecidableEq, Repr

/-! ### Partitions (chapter 03) -/

/-- The state of a guest (R141). -/
inductive PartState where
  | empty | stopped | running | resetting
deriving DecidableEq, Repr, Inhabited

/-- The code of a partition state (Table 03.10). -/
def PartState.code : PartState → Nat
  | .empty => 0 | .stopped => 1 | .running => 2 | .resetting => 3

/-- An entry of a partition map (Table 03.2). -/
structure MapEntry where
  frame : Nat := 0
  v : Bool := false
  r : Bool := false
  w : Bool := false
  x : Bool := false
  window : Bool := false
  shared : Bool := false
deriving DecidableEq, Repr, Inhabited

/-- The entry of bank 0xFF (R158). -/
def MapEntry.ownWindow : MapEntry := { v := true, r := true, w := true, window := true }

/-- The word of Table 03.2 that an entry reads as. -/
def MapEntry.word (e : MapEntry) : Nat :=
  e.frame + 2 ^ 16 * b2n e.v + 2 ^ 17 * b2n e.r + 2 ^ 18 * b2n e.w + 2 ^ 19 * b2n e.x
    + 2 ^ 20 * b2n e.window + 2 ^ 21 * b2n e.shared

/-- A partition reset under way (R185): its issuer's command, its issuer as the lint log names it, when its command started, and its flags. -/
structure ResetJob where
  handle : Option Long := none
  issuer : Nat := 0
  since : Nat := 0
  scrub : Bool := false
  restart : Bool := false
  pegged : Bool := false
  selfDelay : Bool := false
deriving DecidableEq, Repr, Inhabited

/-- One partition (R141 to R198). P0 always exists; its state field reads RUNNING. -/
structure Part where
  st : PartState := .empty
  gen : Nat := 0
  map : List (Nat × MapEntry) := []
  rights : BitVec 7 := 0
  share : Nat := 8
  budget : Nat := 0
  credits : Nat := 32
  tokens : Vector Nat 3 := Vector.replicate 3 32
  hasRun : Bool := false
  entry : Nat := 0
  reset : Option ResetJob := none
  /-- DET_STATUS (R67, Table 01.11). -/
  det : BitVec 4 := 0
  /-- The line of LINE_MATCH (R75). -/
  lineMatch : Nat := 0xFFFF
  /-- The speed vote (R74). -/
  vote : Bool := false
deriving DecidableEq, Repr

/-- Which partition owns each unit of Table 03.1 (R147), by hardware index. -/
structure Owners where
  cores : Vector Nat 6 := Vector.replicate 6 0
  layers : Vector Nat 8 := Vector.replicate 8 0
  sprites : Vector Nat 32 := Vector.replicate 32 0
  voices : Vector Nat 24 := Vector.replicate 24 0
  tones : Vector Nat 8 := Vector.replicate 8 0
  inputs : Vector Nat 5 := Vector.replicate 5 0
  spool : Vector Nat 8 := Vector.replicate 8 0
  links : Vector Nat 32 := Vector.replicate 32 0
deriving DecidableEq, Repr

/-- The kinds of units that are given to guests (Table 03.10 KIND). -/
inductive UnitKind where
  | core | layer | sprite | voice | tone | input | spool | link
deriving DecidableEq, Repr, Inhabited

/-- A release that waits for the end of a 5 ms ramp out (R183): its unit, the start of the ramp and its command, which completes with
the change marked `last`. -/
structure OwnRamp where
  kind : UnitKind
  index : Nat
  since : Nat
  handle : Option Long := none
  last : Bool := true
deriving DecidableEq, Repr, Inhabited

/-- A change of ownership that has been accepted and has not yet taken effect (R183). -/
structure OwnChange where
  kind : UnitKind
  index : Nat
  dest : Nat
deriving DecidableEq, Repr, Inhabited

/-! ### Mailboxes (chapter 04) -/

/-- Where a command comes from (R209, Table 04.1). -/
inductive Origin where
  | part (p : Nat)
  | host
  | usb
  | link (node : Nat)
deriving DecidableEq, Repr, Inhabited

/-- The status codes of Table 04.6. -/
inductive Status where
  | ok | partialDone | cancelled | cancelledBeforeStart | restarted
  | busy | absent | malformed | unknownOp
  | denied | badParam | badState | stale | inUse | overBudget | notFound | notCancellable | fenced
  | poisoned | integrity | lost | noMedia | timeout | unreachable | stalled | verifyFailed | authFailed | hwFault
deriving DecidableEq, Repr, Inhabited

/-- The code of a status (Table 04.6). -/
def Status.code : Status → Nat
  | .ok => 0x0000 | .partialDone => 0x0001 | .cancelled => 0x0002 | .cancelledBeforeStart => 0x0003
  | .restarted => 0x0004 | .busy => 0x0010 | .absent => 0x0011 | .malformed => 0x0012 | .unknownOp => 0x0013
  | .denied => 0x0020 | .badParam => 0x0021 | .badState => 0x0022 | .stale => 0x0023 | .inUse => 0x0024
  | .overBudget => 0x0025 | .notFound => 0x0026 | .notCancellable => 0x0027 | .fenced => 0x0028
  | .poisoned => 0x0030 | .integrity => 0x0031 | .lost => 0x0032 | .noMedia => 0x0033 | .timeout => 0x0034
  | .unreachable => 0x0035 | .stalled => 0x0036 | .verifyFailed => 0x0037 | .authFailed => 0x0038
  | .hwFault => 0x0039

/-- A completion record (Table 04.5); the TAG keeps the poison it was read with. -/
structure Cpl where
  handle : Long := 0
  tag : Nat := 0
  tagPoison : Bool := false
  status : Status := .ok
  info : Nat := 0
  result : Nat := 0
deriving DecidableEq, Repr, Inhabited

/-- An accepted command that is outstanding (R211): its record as read and how far it has come. -/
structure Cmd where
  handle : Long := 0
  org : Origin := .host
  op : Nat := 0
  ordered : Bool := false
  quiet : Bool := false
  tag : Nat := 0
  tagPoison : Bool := false
  params : List Byte := []
  paramPoison : Bool := false
  ptrDenied : Bool := false
  /-- The table that CMP.TONE names was read at acceptance into `data`, or the map refused it (R580, R581). -/
  srcRead : Bool := false
  srcDenied : Bool := false
  /-- Started and waiting for the event that ends it. -/
  started : Bool := false
  /-- Chunks of data gathered from an external origin (R247). -/
  data : List Byte := []
  dataPoison : Bool := false
  /-- Waiting for data, with the Quartz time of the last chunk (R251). -/
  dataSince : Option Nat := none
  /-- Work done, as the opcode defines it. -/
  progress : Nat := 0
  /-- A CANCEL has been taken and the command stops at its next safe point, with the CANCEL's handle (R226, R227). -/
  cancelBy : Option Long := none
deriving DecidableEq, Repr, Inhabited

/-- A completion that waits for room, for a buffer or for its mailbox (R235, R237, R240). -/
structure HeldCpl where
  cpl : Cpl
  quiet : Bool := false
  block : List Byte := []
deriving DecidableEq, Repr, Inhabited

/-- CAUSE of a guest mailbox (Table 04.14). -/
inductive MbCause where
  | none | prod | cons | map | badcfg
deriving DecidableEq, Repr, Inhabited

/-- The code of a mailbox cause (Table 04.14). -/
def MbCause.code : MbCause → Nat
  | .none => 0 | .prod => 1 | .cons => 2 | .map => 3 | .badcfg => 4

/-- The mailbox window of one partition (Table 04.14) and its held completions. -/
structure GMbx where
  enable : Bool := false
  cplEvent : Bool := true
  fault : Bool := false
  cause : MbCause := .none
  restarted : Bool := false
  /-- Violations stop the reading of slots, or hold completions, until the next enable (Table 04.11). -/
  noRead : Bool := false
  noCpl : Bool := false
  cmdBase : Nat := 0
  cmdLog2 : Nat := 4
  cplBase : Nat := 0
  cplLog2 : Nat := 5
  cmdProd : Nat := 0
  cmdCons : Nat := 0
  cplProd : Nat := 0
  cplCons : Nat := 0
  lastReject : Nat := 0
  held : List HeldCpl := []
deriving DecidableEq, Repr, Inhabited

/-- The host mailbox (Tables 04.8 and 04.9). Slots, ring and buffers are their bytes. -/
structure HostMbx where
  cmdProd : Nat := 0
  cmdCons : Nat := 0
  cplProd : Nat := 0
  cplCons : Nat := 0
  resHandle : Vector Nat 2 := Vector.replicate 2 0
  resLen : Vector Nat 2 := Vector.replicate 2 0
  /-- Since when each result buffer is held (R259). -/
  resSince : Vector Nat 2 := Vector.replicate 2 0
  /-- A completion has been postponed for these buffers. -/
  status : BitVec 5 := 0
  irqEn : BitVec 5 := 0
  dataHandle : Nat := 0
  dataLen : Nat := 0
  /-- Bytes of the command slots, the completion ring, the data buffer and the result buffers, by window offset. -/
  bytes : List (Nat × Byte) := []
  held : List HeldCpl := []
  /-- A producer or consumer violation stops reading or completing until the port is reset (R259, R713). -/
  prodFault : Bool := false
  consFault : Bool := false
  /-- Handles in flight when the port was reset; what they answer is discarded (Table 04.10). -/
  discard : List Long := []
deriving DecidableEq, Repr

/-- One item on bulk IN (R243): its bytes, and whether its end returns a credit (R223). -/
structure UsbItem where
  bytes : List Byte := []
  completion : Bool := false
  since : Nat := 0
deriving DecidableEq, Repr, Inhabited

/-- The USB vendor interface (R241 to R244). -/
structure UsbPath where
  /-- The D+ pull-up is connected (R714), and what enumeration has set. -/
  attached : Bool := false
  address : Nat := 0
  config : Nat := 0
  suspended : Bool := false
  /-- Alternate settings of the two interfaces, and the halted endpoints. -/
  alt : Vector Nat 2 := Vector.replicate 2 0
  halted : List Nat := []
  /-- DFU: image data downloaded in recovery mode, the slot they are for, and whether the status is errVERIFY (R130). -/
  dfu : List Byte := []
  dfuSlot : Nat := 0
  dfuErr : Bool := false
  slot : Nat := 0
  /-- Whole records received and not yet read, with their slots. -/
  waiting : List (Nat × List Byte) := []
  items : List UsbItem := []
  discard : List Long := []
deriving DecidableEq, Repr

/-- A completion packet on its way to a remote node (R223, R245). -/
structure LinkCpl where
  node : Nat
  block : List Byte := []
  cpl : Cpl
  /-- Put on its way, and waiting for the acknowledgement of the next hop. -/
  sent : Bool := false
deriving DecidableEq, Repr, Inhabited

/-- A command record that a remote node sent and that waits to be read (R245). -/
structure LinkRec where
  node : Nat
  bytes : List (Byte × Bool)
deriving DecidableEq, Repr, Inhabited

/-- The memory diagnostics window of one partition (Table 08.11). -/
structure Diag where
  darnEn : Bool := false
  addr : Nat := 0
  data : Nat := 0
  chk0 : Nat := 0
  chk1 : Nat := 0
  cls : Nat := 0
  refused : Bool := false
  syndrome : Nat := 0
  errAddr : Nat := 0
  ceCount : Nat := 0
  ueCount : Nat := 0
deriving DecidableEq, Repr, Inhabited

end Sys2Proof.Machine
end

