-- ==== Sys2Proof/Machine/StLink.lean ====
section
/-! DEFINITION. State of Emgeva Link: ports, packets, node identity, time, alignment, channels, exports and remote commands (chapter 15). -/

namespace Sys2Proof.Machine

/-- The states of a port, in the order of Table 15.4. -/
inductive PortSt where
  | down | train | hello | auth | quarantined | joined | mismatch
deriving DecidableEq, Repr, Inhabited

/-- The port state code of LNK.STATUS. -/
def PortSt.code : PortSt → Nat
  | .down => 0 | .train => 1 | .hello => 2 | .auth => 3 | .quarantined => 4 | .joined => 5 | .mismatch => 6

/-- What a CTRL NAK says. -/
inductive NakWhy where
  | unreachable | stalled | closed | denied | integrity
deriving DecidableEq, Repr, Inhabited

/-- A BEAT (R746). -/
structure Beat where
  frame : Nat := 0
  time : Nat := 0
  asc : Nat := 0
  htotal : Nat := 0
  vtotal : Nat := 0
  pclk : Nat := 0
  lag : Nat := 2
  payload : List Byte := []
deriving DecidableEq, Repr, Inhabited

/-- What a packet carries. The spec gives the layout of DATA payloads only; the others are held by their content. -/
inductive LinkBody where
  | data (bs : List Byte)
  | opens (free : Nat)
  | credit (free : Nat)
  | close
  | nak (why : NakWhy)
  | blockOk
  | blockFirst (off len : Nat)
  | blockLast (crc : Nat)
  | beat (b : Beat)
  | timeReq
  | timeRep (t2 t3 : Nat)
  | hello (serial id : Nat) (auth : Bool)
  | topo (pri serial hops : Nat)
  | gridOffer (id : Nat)
  | idReq (serial : Nat)
  | idRep (serial : Nat) (id : Option Nat)
  | chal (nonce : List Byte) (serial : Nat)
  | resp (nonce : List Byte) (serial : Nat) (mac : List Byte)
  | fin (mac : List Byte)
  | record (bs : List (Byte × Bool))
  | chunk (handle : Nat) (bs : List Byte)
  | accept (word : Nat)
  | result (handle : Nat) (bs : List Byte)
  | cpl (k : Cpl)
deriving DecidableEq, Repr, Inhabited

/-- What the acknowledgement of a packet by the first hop brings about (R758, R765, R223). -/
inductive TxDone where
  | none
  | message (ch : Nat)
  | blockGroup (h : Option Long)
  | completion
deriving DecidableEq, Repr, Inhabited

/-- A packet (Table 15.5). -/
structure LinkPkt where
  vc : Nat := 0
  kind : Nat := 0
  poison : Bool := false
  first : Bool := false
  last : Bool := false
  detoured : Bool := false
  seq : Nat := 0
  dest : Nat := 0
  src : Nat := 0
  chan : Nat := 0
  typ : Nat := 0
  body : LinkBody := .close
  done : TxDone := .none
  /-- The port whose receive buffer it still takes up while it waits to be forwarded. -/
  arr : Option Nat := none
deriving DecidableEq, Repr, Inhabited

/-- What a port puts on its line (Tables 15.2 and 15.3). -/
inductive LinkTx where
  | lcw (typ a b : Nat)
  | pkt (p : LinkPkt)
  | eab
deriving DecidableEq, Repr, Inhabited

/-- A TOPO advertisement as held (R735). -/
structure Advert where
  pri : Nat := 0
  serial : Nat := 0
  hops : Nat := 0
  time : Nat := 0
deriving DecidableEq, Repr, Inhabited

/-- Training and authentication of a port (R726, R768). -/
structure PortTrain where
  ready : Bool := false
  peerReady : Bool := false
  /-- End of the 100 ms down period or of the quarantine. -/
  until_ : Option Nat := none
  fails : Nat := 0
  peerAuth : Bool := false
  nI : List Byte := []
  nR : List Byte := []
  /-- Since when an answer is awaited. -/
  since : Nat := 0
  /-- The side is the initiator. -/
  init : Bool := false
  /-- The peer's topology mode and whether its rate has been taken (R726). -/
  peerMode : Nat := 0
  agreed : Bool := false
deriving DecidableEq, Repr, Inhabited

/-- Hop reliability of a port (R731, R733). -/
structure PortHop where
  txSeq : Nat := 0
  rxSeq : Nat := 0
  replay : List LinkPkt := []
  q : Vector (List LinkPkt) 4 := Vector.replicate 4 []
  /-- Credits held for sending, and buffers of the receiver in use. -/
  credits : Vector Nat 4 := Vector.replicate 4 0
  used : Vector Nat 4 := Vector.replicate 4 0
  /-- Packets accepted since the last ACK. -/
  acks : Nat := 0
  /-- Times of the NAKs sent without progress, of retransmissions within the last second, of symbol errors. -/
  naks : List Nat := []
  retr : Nat := 0
  retrTimes : List Nat := []
  symErrs : List Nat := []
  /-- Turn of VC2 and VC3 in the ratio 3:1. -/
  turn : Nat := 0
deriving DecidableEq, Repr

/-- A port. -/
structure LPort where
  st : PortSt := .down
  /-- 1: 100, 2: 200, 3: 400 Mbit/s. -/
  rate : Nat := 1
  nbr : Option Nat := none
  serial : Option Nat := none
  authed : Bool := false
  adv : Option Advert := none
  /-- The neighbour's parent port is this link: it has sent TIME requests here (R745). -/
  child : Bool := false
  tr : PortTrain := {}
  hop : PortHop := {}
deriving DecidableEq, Repr

/-- The settings of LNK.CONFIG. -/
structure LinkCfg where
  on : Bool := false
  mode : Nat := 0
  authReq : Bool := false
  rateMax : Nat := 3
  rootPri : Nat := 0
  ports : BitVec 4 := 0
  gridOrigin : Nat := 0
  beatLag : Nat := 2
deriving DecidableEq, Repr, Inhabited

/-- Identity and routing of the node (R735 to R743). -/
structure LinkNode where
  cfg : LinkCfg := {}
  id : Nat := 0
  enumerated : Bool := false
  root : Bool := false
  best : Option Advert := none
  parent : Option Nat := none
  /-- When a better advertisement was last held. -/
  lastBetter : Nat := 0
  /-- The root's ID as far as it is known. -/
  rootId : Option Nat := none
  rootSerial : Nat := 0
  idTable : List (Nat × Nat) := []
  /-- ID requests passed on toward the root, with the ports they came from. -/
  idAsks : List (Nat × Nat) := []
  routes : List (Nat × Nat) := []
  groups : BitVec 64 := 1
  authNodes : List Nat := []
deriving DecidableEq, Repr

/-- System time (R744, R745). -/
structure LinkTime where
  off : Int := 0
  /-- 0.01 ppm, from the Quartz time `origin` on. -/
  rate : Int := 0
  origin : Nat := 0
  thetas : List Int := []
  meds : List Int := []
  locked : Bool := false
  /-- A TIME request waits for its reply. -/
  asked : Bool := false
  /-- System time has moved only forward past this (R745). -/
  floor : Nat := 0
deriving DecidableEq, Repr

/-- Alignment states (R747). -/
inductive AlignSt where
  | free | acquire | locked | holdover
deriving DecidableEq, Repr, Inhabited

/-- The alignment code of LNK.STATUS. -/
def AlignSt.code : AlignSt → Nat
  | .free => 0 | .acquire => 1 | .locked => 2 | .holdover => 3

/-- Alignment and the beat (R746 to R754). -/
structure Align where
  st : AlignSt := .free
  slew : Int := 0
  /-- Frame starts in a row with |e| of at most 100 ns. -/
  run : Nat := 0
  frameDelta : Nat := 0
  jump : Option Nat := none
  since : Nat := 0
  /-- Locked since it last entered ACQUIRE. -/
  was : Bool := false
  /-- The number of the root's last BEAT, good or not, and the last good one. -/
  lastFrame : Option Nat := none
  last : Option Beat := none
  beats : List Beat := []
  tx : List Byte := []
  dest : Vector (Option Nat) 7 := Vector.replicate 7 none
deriving DecidableEq, Repr

/-- CH_STATUS (Table 15.12). -/
structure ChStat where
  stalled : Bool := false
  peerClosed : Bool := false
  unreachable : Bool := false
  mapErr : Bool := false
  poisonRx : Bool := false
  opened : Bool := false
deriving DecidableEq, Repr, Inhabited

/-- Binding and rings of a link channel (R755). -/
structure ChCfg where
  en : Bool := false
  bulk : Bool := false
  mcast : Bool := false
  node : Nat := 0
  rchan : Nat := 0
  rxBase : Nat := 0
  txBase : Nat := 0
  sizeLog2 : Nat := 1
  slotCode : Nat := 0
deriving DecidableEq, Repr, Inhabited

/-- A link channel. -/
structure LChan where
  cfg : ChCfg := {}
  st : ChStat := {}
  rxProd : Nat := 0
  rxCons : Nat := 0
  txProd : Nat := 0
  txCons : Nat := 0
  /-- The next message to send. -/
  txNext : Nat := 0
  credits : Nat := 0
  dropped : Nat := 0
  /-- RX_CONS, and the free slots, as last announced. -/
  annCons : Nat := 0
  annFree : Nat := 0
  /-- Since when the head of the TX ring has waited without credits. -/
  wait : Option Nat := none
  dropLog : Option Nat := none
  /-- Messages between TX_CONS and the next to send: true once done with (R758, R761). -/
  txOut : List Bool := []
  /-- The node that CREDITS come from. -/
  annFrom : Option Nat := none
deriving DecidableEq, Repr, Inhabited

/-- An export (R763). -/
structure Export where
  part : Nat
  /-- The node that may write it, or a group with bit 15 set. -/
  allow : Nat
  notify : Option Nat
  base : Nat
  len : Nat
deriving DecidableEq, Repr, Inhabited

/-- A block transfer that arrives (R764): source, export, offset, length, bytes so far and their CRC state. -/
structure RxBlock where
  node : Nat
  x : Nat
  off : Nat
  len : Nat
  got : Nat := 0
  data : List Byte := []
  poison : Bool := false
deriving DecidableEq, Repr, Inhabited

/-- A LNK.BLOCK that waits for its answer (R765). -/
structure LinkBlock where
  handle : Option Long
  node : Nat
  x : Nat
  since : Nat
deriving DecidableEq, Repr, Inhabited

/-- A LNK.REMOTE that waits for its answer (R766). -/
structure RemoteOp where
  handle : Option Long
  part : Nat
  node : Nat
  dest : Nat
  dsrc : Nat
  dlen : Nat
  ends : Nat
  accepted : Option Nat := none
  block : List Byte := []
deriving DecidableEq, Repr, Inhabited

/-- A channel message being put together, or whole and waiting to be written (R758, R773 kind 15). -/
structure RxMsg where
  port : Nat := 4
  src : Nat
  chan : Nat
  group : Option Nat
  pkts : Nat := 1
  bytes : List (Byte × Bool) := []
deriving DecidableEq, Repr, Inhabited

/-- The link block. -/
structure Link where
  ports : Vector LPort 4 := Vector.replicate 4 {}
  node : LinkNode := {}
  time : LinkTime := {}
  align : Align := {}
  chans : Vector LChan 32 := Vector.replicate 32 {}
  exports : Vector (Option Export) 8 := Vector.replicate 8 none
  rxBlocks : List RxBlock := []
  blocks : List LinkBlock := []
  remotes : List RemoteOp := []
  partials : List RxMsg := []
  msgs : List RxMsg := []
  /-- Packets delivered here whose content their own rows name, with their ports. -/
  inbox : List (Nat × LinkPkt) := []
  /-- What the latest command put on the lines, by port (model's own). -/
  sent : List (Nat × LinkTx) := []
deriving DecidableEq, Repr

end Sys2Proof.Machine
end

