-- ==== Sys2Proof/Machine/StMemory.lean ====
section
/-! DEFINITION. State of memory, its codes, merge buffers, cartridge port and Rinse (chapter 08). -/

namespace Sys2Proof.Machine

/-- A merge buffer entry (R424): a line of 64 bytes, the bytes that are valid and the words that are poisoned. -/
structure MergeEntry where
  line : Nat := 0
  vals : List (Nat × Byte) := []
  poison : BitVec 8 := 0
deriving DecidableEq, Repr, Inhabited

/-- The arrangement of external memory (R13, R429). -/
inductive XArr where
  | none | lean | full
deriving DecidableEq, Repr, Inhabited

/-- The XMEM code of an arrangement (R13). -/
def XArr.code : XArr → Nat
  | .none => 0 | .lean => 1 | .full => 2

/-- The state of CS1 (R450). -/
inductive CartState where
  | absent | inserted | mounted | failed
deriving DecidableEq, Repr, Inhabited

/-- The CART code of MEM.STATUS (Table 08.10). -/
def CartState.code : CartState → Nat
  | .absent => 0 | .inserted => 1 | .mounted => 2 | .failed => 3

/-- The header of the mounted cartridge (Table 08.6). -/
structure CartHeader where
  flags : Nat := 0
  imageLen : Nat := 0
  crcTable : Nat := 0
  titleId : Nat := 0
  saveOffset : Nat := 0
  saveLen : Nat := 0
deriving DecidableEq, Repr, Inhabited

/-- A page of the cartridge read cache (R447), the most recently used first in its list. -/
structure CachePage where
  page : Nat
  bytes : List Byte
deriving DecidableEq, Repr, Inhabited

/-- A live copy of a macro (R444): logical macro, physical spare, next row, its command. -/
structure MacroCopy where
  logical : Nat
  spare : Nat
  row : Nat := 0
  handle : Option Long := none
deriving DecidableEq, Repr, Inhabited

/-- A resilver walk (R442): device, RESILVER_PTR, its command. -/
structure Resilver where
  dev : Nat
  ptr : Nat := 0
  handle : Option Long := none
  /-- Another device was lost: the walk has stopped, and its command has not completed yet (R443). -/
  aborted : Bool := false
deriving DecidableEq, Repr, Inhabited

/-- What a flash operation does with its device (R455). -/
inductive FlashKind where
  | program | erase
  /-- SVC.STAGE of an image into a slot, with its directory version (R841). -/
  | stage (slot version : Nat)
deriving DecidableEq, Repr, Inhabited

/-- A flash command under way (R455, R470): its command, its device, the place it has reached, what is left and what it writes. -/
structure FlashOp where
  handle : Option Long
  kind : FlashKind
  cs : Nat
  offset : Nat
  left : Nat
  total : Nat
  data : List Byte := []
  /-- The device is at work; false while the next page or sector waits for class 1 (R99). -/
  busy : Bool := true
deriving DecidableEq, Repr, Inhabited

/-- One loop of the Rinse (R456, R458, R459): place, start of the pass, and the corrections of this pass and the last. -/
structure RinseLoop where
  pos : Nat := 0
  passStart : Nat := 0
  counts : List (Nat × Nat) := []
  words : List Nat := []
  lastWords : List Nat := []
  /-- Lint 0x080D has been logged for this pass (R458). -/
  late : Bool := false
deriving DecidableEq, Repr, Inhabited

/-- A byte and whether it was delivered as poison. -/
abbrev PByte := Byte × Bool

/-- Memory. Bytes are what is stored. A stored check byte is held as its syndrome, the difference from the check byte
computed over the stored data and the word's own address (R417); external check symbols likewise. -/
structure Mem where
  /-- Stored bytes by physical address. -/
  cells : List Host.Cell := []
  /-- Syndromes of user SRAM words, by physical address div 8. -/
  syn : List (Nat × Byte) := []
  /-- Steward private SRAM: bytes by steward address, syndromes by address div 8 (R419). -/
  stewCells : List Host.Cell := []
  stewSyn : List (Nat × Byte) := []
  /-- Differences of the external check symbols D4 + 256·D5 from the computed ones, by codeword index (R431). -/
  xchk : List (Nat × Nat) := []
  xmem : XArr := .none
  /-- Density of one external device in MiB (R429). -/
  density : Nat := 0
  erased : Vector Bool 6 := Vector.replicate 6 false
  resilver : Option Resilver := none
  /-- The device at whose position the latest external lines were corrected, and how many in a row (R437). -/
  corrRun : Nat × Nat := (0, 0)
  /-- The external line of the latest read: words read one after another from one line are one reading of it (R437). -/
  lastLine : Option Nat := none
  bufSram : List MergeEntry := []
  bufXmem : List MergeEntry := []
  /-- External memory lost its contents in class 3: every external word reads as poison but those listed, which have
  been written whole since (R101). -/
  xVoid : Option (List Nat) := none
  /-- External lines below are past their first Rinse visit (R467). -/
  zeroPtr : Nat := 0
  patch : Vector Nat 32 := Vector.ofFn fun i => i.val
  copy : Option MacroCopy := none
  cart : CartState := .absent
  cartHdr : CartHeader := {}
  cache : List CachePage := []
  rinseSram : Nat := 8
  rinseXmem : Nat := 512
  rinseOn : Bool := false
  rinseS : RinseLoop := {}
  rinseX : RinseLoop := {}
  rinsePage : Nat := 0
  /-- Consecutive grants at a target since the last Rinse grant (R166). -/
  sinceRinse : Vector Nat 3 := Vector.replicate 3 0
  ceCount : Nat := 0
  flashOp : Option FlashOp := none
deriving DecidableEq, Repr

end Sys2Proof.Machine
end

