-- ==== Sys2Proof/Machine/StSound.lean ====
section
/-! DEFINITION. State of the sound block: voices, tone voices, inputs, gains, timed changes, the mix and its outputs (chapter 13). -/

namespace Sys2Proof.Machine

/-- The phases of an envelope (R646). -/
inductive EnvPhase where
  | idle | attack | decay | sustain | release
deriving DecidableEq, Repr, Inhabited

/-- The PHASE code of V_STATUS and N_STATUS: the phases in the order of R646. -/
def EnvPhase.code : EnvPhase → Nat
  | .idle => 0 | .attack => 1 | .decay => 2 | .sustain => 3 | .release => 4

/-- An envelope (R646). -/
structure Env where
  level : Nat := 0
  phase : EnvPhase := .idle
  atk : Nat := 0
  dec : Nat := 0
  rel : Nat := 0
  sus : Nat := 0
deriving DecidableEq, Repr, Inhabited

/-- A gain under R661: it moves from `g0` to `g1` in `n` samples, `k` of which are done. -/
structure Glide where
  g0 : Nat := 4096
  g1 : Nat := 4096
  k : Nat := 0
  n : Nat := 0
deriving DecidableEq, Repr, Inhabited

/-- The mute count and the last clean value of each channel (R667). -/
structure Mute where
  m : Nat := 48
  c : Int × Int := (0, 0)
deriving DecidableEq, Repr, Inhabited

/-- Once-per-frame marks of lint 0x0D01, 0x0D02 and 0x0D03 (R667 to R669). -/
structure SrcMarks where
  poison : Bool := false
  refused : Bool := false
  late : Bool := false
deriving DecidableEq, Repr, Inhabited

/-- What a sample voice, a tone voice and an input share: bus, gains, and how they fall silent. `fade` counts the samples of the
linear fade that a release or a partition reset gives (R183, R185, Table 13.3). -/
structure SrcCommon where
  bus : Nat := 0
  vol : Glide := {}
  pan : Nat := 64
  ramp : Nat := 0
  mute : Mute := {}
  fade : Option Nat := none
  marks : SrcMarks := {}
deriving DecidableEq, Repr, Inhabited

/-- A sample voice (R641 to R646). `fmt` is 0 PCM8, 1 PCM16, 2 ADPCM. -/
structure Voice where
  addr : Nat := 0
  fmt : Nat := 0
  end_ : Nat := 0
  loop : Bool := false
  loopStart : Nat := 0
  pitch : Nat := 0
  env : Env := {}
  endFlag : Bool := false
  posI : Nat := 0
  posF : Nat := 0
  s : SrcCommon := {}
deriving DecidableEq, Repr, Inhabited

/-- A tone voice (R647). `wave` is 0 pulse, 1 triangle, 2 saw, 3 noise. -/
structure Tone where
  freq : Nat := 0
  duty : Nat := 0
  wave : Nat := 0
  phi : Nat := 0
  lfsr : Nat := 0
  env : Env := {}
  endFlag : Bool := false
  s : SrcCommon := {}
deriving DecidableEq, Repr, Inhabited

/-- A high-pass section (R656): previous input and output. -/
structure HpState where
  x1 : Int := 0
  y1 : Int := 0
deriving DecidableEq, Repr, Inhabited

/-- A ring of a stream or a capture as Suken knows it (R648, R654): frames written and consumed, and starved or dropped ones. -/
structure SndRing where
  prod : Nat := 0
  cons : Nat := 0
  lost : Nat := 0
  /-- Samples or frames since the other side's index was read. -/
  since : Nat := 0
  /-- CONS as last written to the header. -/
  written : Nat := 0
deriving DecidableEq, Repr, Inhabited

/-- A rate converter of samples that are pushed to it (R650, R652, R653): the two latest samples per channel and the numerator. -/
structure Conv where
  x0 : Int × Int := (0, 0)
  x1 : Int × Int := (0, 0)
  r : Nat := 0
deriving DecidableEq, Repr, Inhabited

/-- The decimator of a microphone (R652) and the run of equal bits (R677). -/
structure Cic where
  int : Vector Int 4 := Vector.replicate 4 0
  comb : Vector Int 4 := Vector.replicate 4 0
  run : Nat := 0
  last : Bool := false
deriving DecidableEq, Repr, Inhabited

/-- The settings of an input (Table 13.7). `two` is STEREO or FMT16, `rate` RATE or MIC_GAIN. -/
structure InCfg where
  en : Bool := false
  two : Bool := false
  pcm8 : Bool := false
  mon : Bool := false
  base : Nat := 0
  sizeLog2 : Nat := 8
  wm : Nat := 0
  rate : Nat := 0
deriving DecidableEq, Repr, Inhabited

/-- The flags of an input: FAULT, STARVED, CLOCK_LOST, STUCK (Table 13.7). -/
structure InFlags where
  fault : Bool := false
  starved : Bool := false
  clockLost : Bool := false
  stuck : Bool := false
deriving DecidableEq, Repr, Inhabited

/-- A sound input: 0 and 1 streams, 2 and 3 microphones, 4 the I2S/TDM input. -/
structure SndIn where
  cfg : InCfg := {}
  st : InFlags := {}
  ring : SndRing := {}
  /-- Numerator of the stream position, whose integer part is `ring.cons` (R650). -/
  r : Nat := 0
  conv : Conv := {}
  hp : HpState × HpState := ({}, {})
  cic : Cic := {}
  /-- The latest filtered 48 kHz sample (R674), and those that wait for the monitor (R655). -/
  latest : Int × Int := (0, 0)
  mon : List Int := []
  /-- Ramp of an I2S input that has lost its clock, 48 to 0 (R676). -/
  lossRamp : Nat := 48
  s : SrcCommon := {}
deriving DecidableEq, Repr, Inhabited

/-- One write of a sound register that a change makes: unit by hardware index, offset within its block, value. -/
inductive SndWrite where
  | voice (v reg val : Nat)
  | tone (n reg val : Nat)
  | input (i reg val : Nat)
  | pgain (p bus : Nat) (ramp : Option Nat) (val : Nat)
  /-- BUSGAIN 0 to 3, MASTER 4, SPK_GAIN 5, I2S_GAIN 6. -/
  | gain (stage ramp val : Nat)
deriving DecidableEq, Repr, Inhabited

/-- A change that waits for its sample (R665, R666). `s` is none while it waits for a frame start; `next` while its frame has not
started. -/
structure SndChange where
  part : Nat
  s : Option Nat
  next : Bool := false
  line : Nat := 0
  writes : List SndWrite := []
  /-- The command that completes when the change applies. -/
  cmd : Option (Option Long) := none
deriving DecidableEq, Repr, Inhabited

/-- What a partition's sound window holds beside its units (Table 13.7). -/
structure SndPart where
  pgain : Vector Glide 4 := Vector.replicate 4 {}
  pgRamp : Nat := 0
  hold : Bool := false
  at_ : Nat := 0
  late : Bool := false
  atLine : Nat := 0
  atAsc : Nat := 0
  staged : List SndWrite := []
deriving DecidableEq, Repr, Inhabited

/-- A limiter with its settings (R662, R664). -/
structure Limiter where
  g : Nat := 32768
  thr : Nat := 65535
  cap : Nat := 0x4000
deriving DecidableEq, Repr, Inhabited

/-- One mixed sample after the limiters: speaker, I2S left and right, and whether a limiter held its path below unity. -/
structure MixOut where
  spk : Int := 0
  l : Int := 0
  r : Int := 0
  limited : Bool := false
deriving DecidableEq, Repr, Inhabited

/-- The I2S/TDM settings (I2S_CFG, SLOT_MAP, IN_SLOTS). -/
structure I2sCfg where
  en : Bool := false
  fmt : Nat := 0
  master : Bool := false
  slots : Nat := 1
  width : Nat := 0
  mclk : Bool := false
  bclkInv : Bool := false
  map : Nat := 0
  inSlots : Nat := 0
deriving DecidableEq, Repr, Inhabited

/-- The class-D bridge (R671, R672, R678). -/
structure Bridge where
  en : Bool := false
  vref : Nat := 3300
  /-- n of the speaker mute ramp. -/
  n : Nat := 0
  /-- Quartz time of the trip that the bridge waits out, and of the latest trips. -/
  tripped : Option Nat := none
  trips : List Nat := []
  fault : Bool := false
deriving DecidableEq, Repr, Inhabited

/-- The I2S/TDM interface. -/
structure I2sIf where
  cfg : I2sCfg := {}
  /-- A new form that waits for the ramp out (Table 13.3). -/
  next : Option I2sCfg := none
  ramp : Nat := 48
  clockLost : Bool := false
  /-- The external frame rate as measured, and the converter of the output to it (R673): a sample of the feed leaves the numerator
  by the rate, a frame adds 48,000. -/
  rate : Nat := 48000
  conv : Conv := {}
  /-- The slots of the frame that leaves. -/
  slots : List Nat := []
deriving DecidableEq, Repr, Inhabited

/-- The output stage: the last sample and the ramp of R670. -/
structure OutStage where
  fifo : List MixOut := []
  last : MixOut := {}
  level : Nat := 48
  /-- The speaker sample that the bridge plays. -/
  spk : Int := 0
  /-- Peaks and limiting of the running frame and of the last one (SND.STATUS). -/
  peakNow : Nat × Nat := (0, 0)
  peak : Nat × Nat := (0, 0)
  limNow : Bool := false
  lim : Bool := false
deriving DecidableEq, Repr, Inhabited

/-- The fixed buses, gains and filters of P0. -/
structure MixSet where
  bus : Vector Glide 4 := Vector.replicate 4 {}
  master : Glide := {}
  spkGain : Glide := {}
  i2sGain : Glide := {}
  hp : HpState × HpState := ({}, {})
  spkLim : Limiter := {}
  i2sLim : Limiter := {}
  relShift : Nat := 10
  fmic : Nat := 0
deriving DecidableEq, Repr, Inhabited

/-- The sound block. -/
structure Sound where
  /-- The audio synthesiser is locked; it has locked since the cold start (R638). -/
  locked : Bool := true
  started : Bool := true
  asc : Nat := 0
  frameAsc : Nat := 0
  voices : Vector Voice 24 := Vector.replicate 24 {}
  tones : Vector Tone 8 := Vector.replicate 8 {}
  ins : Vector SndIn 5 := Vector.replicate 5 {}
  parts : Vector SndPart 7 := Vector.replicate 7 {}
  mix : MixSet := {}
  changes : List SndChange := []
  out : OutStage := {}
  bridge : Bridge := {}
  i2s : I2sIf := {}
deriving DecidableEq, Repr

end Sys2Proof.Machine
end

