-- ==== Sys2Proof/Machine/StSpool.lean ====
section
/-! DEFINITION. State of the Spool engine (chapter 09). -/

namespace Sys2Proof.Machine

/-- The states of a channel (R473). -/
inductive ChState where
  | idle | running | stopping | parked
deriving DecidableEq, Repr, Inhabited

/-- The STATE code (R508). -/
def ChState.code : ChState → Nat
  | .idle => 0 | .running => 1 | .stopping => 2 | .parked => 3

/-- A chain of a channel's queue: its first descriptor, the command that gave it, and BULK (R497, R503). -/
structure Chain where
  first : Nat
  /-- Started by a command, which completes when the chain ends (R495). -/
  byCmd : Bool := false
  handle : Option Long := none
  bulk : Bool := false
deriving DecidableEq, Repr, Inhabited

/-- A Spool channel (R473, Table 09.9). The front of the queue is the chain that runs. -/
structure SpoolCh where
  st : ChState := .idle
  queue : List Chain := []
  bulk : Bool := false
  eventEn : Bool := true
  desc : Nat := 0
  status : Nat := 0
  cause : Nat := 0
  didx : Nat := 0
  elem : Nat := 0
  /-- Descriptor being performed or parked, its chain index and its next element. -/
  cur : Nat := 0
  curIdx : Nat := 0
  curElem : Nat := 0
  /-- The descriptor as it was read, from its first element on (R478). -/
  loaded : Option (List Byte) := none
  chainsDone : Nat := 0
  /-- Quartz time of the start or of the last element completed (R506). -/
  lastProgress : Nat := 0
deriving DecidableEq, Repr, Inhabited

end Sys2Proof.Machine
end

