-- ==== Sys2Proof/Machine/StTime.lean ====
section
/-! DEFINITION. State of Quartz time, the beam, the deadline governor and the supply (chapters 01 and 02). -/

namespace Sys2Proof.Machine

/-- Quartz time and the clock reference (R30, R69, Table 01.11 CLK_STATUS). -/
structure Clock where
  qtime : Nat := 0
  xtalOk : Bool := true
  rcFallback : Bool := false
  lfXtal : Bool := false
  /-- The crystal has been good for 1 s while the island runs on the internal oscillator (R70). -/
  returnDue : Bool := false
deriving DecidableEq, Repr, Inhabited

/-- The timing generator (R25 to R27). Positions finer than a dot are kept in units of 1/24,000,000 dot, so that
a Quartz tick moves the beam by PCLK units. -/
structure Beam where
  frame : Nat := 0xFFFFFFFF
  line : Nat := 0
  dot : Nat := 0
  field : Bool := false
  hold : Bool := true
  htotal : Nat := 0
  vtotal : Nat := 0
  hactive : Nat := 0
  vactive : Nat := 0
  interlaced : Bool := false
  pclk : Nat := 0
  /-- Movement within the present dot. -/
  frac : Nat := 0
  /-- Movement since the last Quartz tick. -/
  sub : Nat := 0
deriving DecidableEq, Repr, Inhabited

/-- The parameters of Table 01.2, voltages in units of 10 mV. -/
structure GovParams where
  vmin : Nat := 60
  vmax : Nat := 95
  lowWm : Nat := 64
  highWm : Nat := 128
  panicWm : Nat := 16
  panicSteps : Nat := 3
  holdFrames : Nat := 8
  audWm : Nat := 64
deriving DecidableEq, Repr, Inhabited

/-- The deadline governor (R43 to R49, R72, R73). -/
structure Gov where
  target : Nat := 80
  output : Nat := 80
  /-- Ticks since the output last moved by 10 mV (R45). -/
  slew : Nat := 0
  par : GovParams := {}
  /-- A lowered VMAX_CFG whose command waits for the output (R45): the VMAX_CFG that stays in force meanwhile and the command. -/
  oldVmax : Option (Nat × Option Long) := none
  calm : Nat := 0
  panic : Bool := false
  followHold : Bool := false
  thermCap : Bool := false
  /-- Junction temperature in °C. -/
  tj : Int := 25
  /-- Minimum slack of the lines fetched since the last frame start. -/
  slackRun : Nat := 255
  slackLine : Nat := 255
  slackMin : Nat := 255
  /-- Panic steps taken, for the trend record (Table 17.6). -/
  panics : Nat := 0
deriving DecidableEq, Repr, Inhabited

/-- What the chip is doing as a whole (R98, R113, R118, R120). -/
inductive Phase where
  /-- Off (R118). -/
  | off
  /-- Held in reset until VBAT valid (R119). -/
  | waitVbat
  /-- Running, Boroux serving. -/
  | run
  /-- Recovery mode (R127). -/
  | recovery
  /-- Class 3 retention (R98). -/
  | retention
  /-- Resume under way, until the frame start that releases it (R106). -/
  | resuming
deriving DecidableEq, Repr, Inhabited

/-- Which rule governs waking from the off state (R118). -/
inductive WakeRule where
  | selected | resume | thermal | buck
deriving DecidableEq, Repr, Inhabited

/-- A VIO bank (R87, R89). -/
inductive BankState where
  | off | v18 | v33 | lost
deriving DecidableEq, Repr, Inhabited

/-- The resume record (Table 02.4). -/
structure ResumeRecord where
  kind : Nat := 2
  cause : Nat := 0
  lost : Nat := 3
  entryFrame : Nat := 0xFFFFFFFF
  entryQtime : Nat := 0xFFFFFFFFFFFFFFFF
  durationMs : Nat := 0xFFFFFFFF
  vsysMin : Nat := 0xFFFF
  rideCount : Nat := 0
  trigger : Nat := 0
  slot : Nat := 0
  bootFlags : Nat := 0
deriving DecidableEq, Repr, Inhabited

/-- What a deferred reset does when it begins (R138). -/
inductive DeferredReset where
  | coldStart | recoveryStart | off (wake : Nat)
deriving DecidableEq, Repr, Inhabited

/-- The supply monitor, the always-on domain and boot (chapter 02). -/
structure Power where
  phase : Phase := .run
  /-- The TEST pin reads high (R871). -/
  testHigh : Bool := false
  /-- The supplies in mV as last measured. -/
  vsys : Nat := 4500
  vbus : Nat := 0
  vbat : Nat := 4500
  vbusOpen : Bool := false
  /-- 1, 2 or 3 (R93). -/
  cls : Nat := 1
  warn : Bool := false
  /-- Start of the present class 2 period and the class 2 time before it that R94 counts with it. -/
  c2start : Nat := 0
  c2acc : Nat := 0
  /-- End of the last class 2 period. -/
  c2end : Option Nat := none
  /-- Speaker, backlight and rumble are reduced until R97 restores them. -/
  reduced : Bool := false
  vwarn : Nat := 3100
  rideMs : Nat := 20
  resumeMax : Nat := 20
  windowOpen : Bool := false
  retLost : Bool := false
  causeLatch : Nat := 0
  wake : Nat := 0b101
  wakeRule : WakeRule := .resume
  topKept : Bool := true
  /-- VIO_A, VIO_B, VIO_C and VIO_M. -/
  banks : Vector BankState 4 := #v[.v33, .v33, .v33, .v18]
  buckStopped : Bool := false
  buckFails : Nat := 0
  record : ResumeRecord := {}
  rideCount : Nat := 0
  trigger : Nat := 0
  entryFrame : Nat := 0
  entryQtime : Nat := 0
  vsysMin : Nat := 0
  /-- CART_DET showed a cartridge at class 3 entry (R107). -/
  cartAtEntry : Bool := false
  /-- A link port was joined at class 3 entry (R109). -/
  linkAtEntry : Bool := false
  /-- External memory lost its supply in class 3 (R101). -/
  xmemLost : Bool := false
  wdFirst : Option Nat := none
  /-- Boot slot running: 0 A, 1 B, 0xFF none. -/
  slot : Nat := 0
  fallback : Bool := false
  dirCopy : Bool := false
  recoveryFlag : Bool := false
  fwVersion : Nat := 0x0302
  deferred : Option DeferredReset := none
  /-- The running slot has been confirmed in this start (R126). -/
  confirmDue : Bool := true
  /-- The running image: verified under an OWNER key, and its ROLLBACK (R784, R801). -/
  imgOwner : Bool := false
  imgRollback : Nat := 0
  /-- When the deferred reset begins (R138). -/
  deferAt : Nat := 0
deriving DecidableEq, Repr

end Sys2Proof.Machine
end

