-- ==== Sys2Proof/Machine/StVault.lean ====
section
/-! DEFINITION. State of the vault, of the fuses and of the service block (chapters 16 and 17). -/

namespace Sys2Proof.Machine

/-- The state of a key slot (R778). -/
inductive SlotSt where
  | empty | loaded | destroyed | unusable
deriving DecidableEq, Repr, Inhabited

/-- The STATE code of VLT.SLOT_INFO. -/
def SlotSt.code : SlotSt → Nat
  | .empty => 0 | .loaded => 1 | .destroyed => 2 | .unusable => 3

/-- Key material: the two factory keys, whose values the spec does not give, or 32 bytes. -/
inductive KeyMat where
  | none
  | familySecret
  | familyPublic
  | bytes (bs : List Byte)
deriving DecidableEq, Repr, Inhabited

/-- A key slot (R778). `cls` is the CLASS code of Table 16.2. -/
structure Slot where
  st : SlotSt := .empty
  cls : Nat := 0
  usage : Nat := 0
  partMask : Nat := 0
  keyId : Nat := 0
  key : KeyMat := .none
deriving DecidableEq, Repr, Inhabited

/-- Everything one-time programmable (R778, R782, R801). -/
structure Fuses where
  serial : Nat := 0
  maker : Bool := true
  field : Bool := false
  scrap : Bool := false
  entries : Nat := 0
  exits : Nat := 0
  floor : Nat := 0
  slots : Vector Slot 16 := ((Vector.replicate 16 {}).set 0 { st := .loaded, cls := 1, usage := 2, key := .familySecret }).set 15
    { st := .loaded, cls := 1, usage := 4, key := .familyPublic }
deriving DecidableEq, Repr

/-- What can be blown. Nothing is ever restored. -/
inductive Burn where
  | maker | field | scrap | entry | exit
  | floor (n : Nat)
  | load (i : Nat) (s : Slot)
  /-- Destroys a slot; `good` says whether its bits read back as ones (R787, R788). -/
  | destroy (i : Nat) (good : Bool)
deriving DecidableEq, Repr

/-- The volatile state of the vault (R795, R808). -/
structure Vault where
  nonce : Option (List Byte × Nat) := none
  svcEnd : Option Nat := none
  /-- The scrap receipt has been formed and a cold start follows. -/
  scrapped : Bool := false
deriving DecidableEq, Repr, Inhabited

/-- A migration under way (R833 to R835): old core, spare, whether the old core retires, its command. -/
structure Migration where
  src : Nat
  spare : Nat
  retire : Bool
  /-- The spare already runs in the old core's place (R834). -/
  acting : Bool := false
  handle : Option Long := none
  byCmd : Bool := false
deriving DecidableEq, Repr, Inhabited

/-- A self-test that runs outside a shadow mismatch: of a retired core or macro that SVC.REINSTATE names, or of a core that a migration
has left (R835, Table 17.9). -/
inductive SelfTest where
  | reinstate (unit : Nat) (handle : Option Long)
  | source (core : Nat)
deriving DecidableEq, Repr, Inhabited

/-- A warm restart under way (R837): image slot, and the SVC command that completes after it. -/
structure Restart where
  slot : Nat
  swap : Bool := false
  cmd : Option Cmd := none
  /-- The slot failed and the running one is loaded (R839). -/
  fellBack : Bool := false
deriving DecidableEq, Repr, Inhabited

/-- An hourly record (Table 17.6). -/
structure HourRec where
  hour : Nat := 0
  vcore : Nat := 0
  tj : Int := 0
  slack : Nat := 255
  panics : Nat := 0
  overruns : Nat := 0
deriving DecidableEq, Repr, Inhabited

/-- A monthly record (Table 17.6). -/
structure MonthRec where
  month : Nat := 0
  band : Nat := 0
  hours : Nat := 0
  maxVcore : Nat := 0
  panics : Nat := 0
deriving DecidableEq, Repr, Inhabited

/-- The service block. -/
structure Service where
  shadowEn : Bool := true
  shadowMs : Nat := 1000
  /-- The core being shadowed, and since when. -/
  shadow : Option (Nat × Nat) := none
  /-- Both-pass mismatches by core, with their times (Table 17.4). -/
  passes : List (Nat × Nat) := []
  test : Option SelfTest := none
  migrations : List Migration := []
  restart : Option Restart := none
  hours : List HourRec := []
  months : List MonthRec := []
  /-- Frame overruns of the hour being recorded, and the band means of the baseline (R848, R849). -/
  overruns : Nat := 0
  baseline : List Nat := []
  /-- Unit resets that wait for their unit: unit ID, command (R821). -/
  resets : List (Nat × Option Long) := []
  /-- The repair record: units retired before the last cold start, and the patch table then (R852). -/
  repair : List Nat := []
  repairPatch : Vector Nat 32 := Vector.ofFn fun i => i.val
  /-- The steward's copy of the unit registers (R822). -/
  table : UnitTable := {}
deriving DecidableEq, Repr

end Sys2Proof.Machine
end

