-- ==== Sys2Proof/Machine/StVideo.lean ====
section
/-! DEFINITION. State of the layers, sprites, palette, stitch lists, composition and scan-out (chapters 10, 11 and 12). -/

namespace Sys2Proof.Machine

/-! ### Layers (chapter 10) -/

/-- The kinds of layer (Table 10.1). -/
inductive LKind where
  | tile | affine | sprite | bitmap | overlay
deriving DecidableEq, Repr, Inhabited

/-- The KIND code (Table 10.8). -/
def LKind.code : LKind → Nat
  | .tile => 0 | .affine => 1 | .sprite => 2 | .bitmap => 3 | .overlay => 4

/-- The kind of a hardware layer (Table 10.1). -/
def kindOf (hw : Nat) : LKind :=
  if hw < 2 then .tile else if hw < 4 then .affine else if hw = 4 then .sprite else if hw < 7 then .bitmap else .overlay

/-- The block registers of a layer as written; `k` holds offsets 0x20 to 0x2E (Table 10.8). -/
structure LayerRegs where
  en : Bool := false
  ess : Bool := false
  opaque0 : Bool := false
  z : Nat := 0
  x : Nat := 0
  y : Nat := 0
  w : Nat := 1
  h : Nat := 1
  galpha : Nat := 255
  subst : Nat := 0
  palbase : Nat := 0
  fmt : Nat := 0
  base : Vector Nat 3 := Vector.replicate 3 0
  k : Vector Nat 8 := Vector.replicate 8 0
deriving DecidableEq, Repr, Inhabited

/-- The reset values of the kind-specific registers (Table 10.8). -/
def kReset (hw : Nat) : Vector Nat 8 :=
  match kindOf hw with
  | .affine => #v[0, 0, 0, 0, 0x1000, 0, 0, 0x1000]
  | .bitmap => #v[0, 0, 4096, 4096, 0, 0, 1, 1]
  | _ => Vector.replicate 8 0

/-- Admission and the marks of the underrun policy of a layer, a sprite group or a stitch list (R175, R176, R615). -/
structure UnitMarks where
  admitted : Bool := false
  overbooked : Bool := false
  /-- Shed in the last completed frame, and in this one. -/
  shed : Bool := false
  shedNow : Bool := false
  /-- Shed in the frame whose line 0 has opened and which has not started. -/
  shedNext : Bool := false
  /-- Admitted under OVERBOOK, and hidden since that right was removed (R164). -/
  underRight : Bool := false
  gone : Bool := false
  /-- A fetch has been refused in the frame being fetched (R552). -/
  refusedNow : Bool := false
  /-- Pixels substituted in this frame, in the one whose line 0 has opened, and in the last completed one (R573, R586). -/
  substNow : Nat := 0
  substNext : Nat := 0
  substLast : Nat := 0
deriving DecidableEq, Repr, Inhabited

/-- A layer. -/
structure LayerSt where
  r : LayerRegs := {}
  m : UnitMarks := {}
deriving DecidableEq, Repr, Inhabited

/-- A layer at reset: Z is its hardware index (Table 10.8). -/
def LayerSt.reset (hw : Nat) : LayerSt := { r := { z := hw, k := kReset hw } }

/-- The sprite group of a partition (R512). -/
structure SprGroup where
  en : Bool := false
  ess : Bool := false
  tilebase : Nat := 0
  palbase : Nat := 0
  subst : Nat := 0
  quota : Nat := 0
  lineOver : Bool := false
  m : UnitMarks := {}
deriving DecidableEq, Repr, Inhabited

/-- The stitch list of a partition (R544 to R549). The `act` fields are those of the last list start. -/
structure StitchSt where
  en : Bool := false
  slots : Nat := 1
  base : Nat := 0
  count : Nat := 1
  order : Bool := false
  mapErr : Bool := false
  late : Bool := false
  pos : Nat := 0
  skipped : Nat := 0
  actEn : Bool := false
  actSlots : Nat := 1
  actBase : Nat := 0
  actCount : Nat := 1
  /-- The list has ended or stopped for this frame. -/
  stopped : Bool := false
  /-- LINE of the stitch before. -/
  prevLine : Nat := 0
  m : UnitMarks := {}
deriving DecidableEq, Repr, Inhabited

/-- The live display state that a line's snapshot takes (R37, R515). Sprite attributes are keyed 4 × sprite + word and affine sets
4 × run + word, by hardware index; palette entries by their number. -/
structure Lyr where
  layers : Vector LayerSt 8 := Vector.ofFn fun i => LayerSt.reset i.val
  groups : Vector SprGroup 7 := Vector.replicate 7 {}
  sprites : List (Nat × Nat) := []
  affs : List (Nat × Nat) := []
  palette : List (Nat × Nat) := []
  palOwner : Vector Nat 16 := Vector.replicate 16 0
deriving DecidableEq, Repr

/-- What each partition's layer window holds beside the live state (R518, R519), and the underrun policy's count of it (R621). -/
structure LyrPart where
  hold : Bool := false
  atFrame : Bool := false
  /-- Writes staged under HOLD, in write order: offset from 0x4000 and value. -/
  staged : List (Nat × Nat) := []
  /-- Released writes that wait for their opening, and whether it is the one for line 0. -/
  released : List (Bool × Nat × Nat) := []
  palLow : Option (Nat × Nat) := none
  palLowSt : Option (Nat × Nat) := none
  stitch : StitchSt := {}
  /-- Hidden by a partition reset from step 2 of R185 on. -/
  hidden : Bool := false
  /-- Consecutive frames aborted on this partition's account. -/
  aborts : Nat := 0
  /-- This frame has been aborted on this partition's account. -/
  abortNow : Bool := false
  /-- End of the storm hold in Quartz time. -/
  storm : Option Nat := none
deriving DecidableEq, Repr, Inhabited

/-! ### Composition (chapter 11) -/

/-- The blend settings of a layer (CMP.BLEND). -/
structure Blend where
  mode : Nat := 0
  premul : Bool := false
  prioZ : Nat := 0
deriving DecidableEq, Repr, Inhabited

/-- A tone table at reset (Table 11.7). -/
def toneReset : List Nat := (List.range 129).map fun i => min 4095 (64 * i)

/-- The composition settings (Table 11.7). -/
structure CmpSet where
  blend : Vector Blend 8 := Vector.replicate 8 {}
  bg : Vector Nat 3 := Vector.replicate 3 0
  tone : Nat := 0
  tables : Vector (List Nat) 3 := Vector.replicate 3 toneReset
  dither : Nat := 2
  depth : Vector Nat 3 := Vector.replicate 3 8
deriving DecidableEq, Repr

/-- A change that a command makes at the next frame start (R517, R578, R183). -/
inductive FrameChange where
  | setup (hw : Nat) (regs : List (Nat × Nat))
  | enable (hw : Nat) (ctrl : Nat)
  | group (p : Nat) (ctrl : Nat)
  | palette (p : Nat) (first : Nat) (entries : List Nat)
  | grant (p first count quota : Nat)
  | stitch (p base count slots : Nat) (en : Bool)
  | own (ch : OwnChange)
  | blend (hw : Nat) (b : Blend)
  | background (r g b : Nat)
  | tone (mode : Nat) (tables : Option (Vector (List Nat) 3))
  | dither (mode : Nat) (depth : Vector Nat 3)
  | selenite (w flags x y wd ht tol golden : Nat)
deriving DecidableEq, Repr

/-- A change that waits, with the command it belongs to (none: the steward's own). `last` marks the change with which its command completes. -/
structure Queued where
  handle : Option Long
  last : Bool := true
  ch : FrameChange
deriving DecidableEq, Repr

/-- A pixel in the 13-bit range (R561 to R566), or one to be substituted (R570). -/
inductive Pix where
  | clear
  | px (r g b a : Nat) (prio : Bool)
  | bad (prio : Bool)
deriving DecidableEq, Repr, Inhabited

/-- What a unit shows at a dot: its pixel, substitution made; whether it was substituted (R573); and the hardware sprite it is of. -/
structure Dot where
  pix : Pix := .clear
  subst : Bool := false
  sprite : Nat := 0
deriving DecidableEq, Repr, Inhabited

/-- A fetched line of one layer or sprite group, by dot: its hardware layer and the partition it belongs to. -/
structure UnitLine where
  hw : Nat
  part : Nat
  dots : List Dot
deriving DecidableEq, Repr, Inhabited

/-- A line between the opening of its fetch window and the end of its scan-out. -/
structure LineSlot where
  line : Nat
  snap : Lyr
  /-- Settings of its frame. -/
  cmp : CmpSet
  frame : Nat
  missed : Bool := false
  fetched : Option (List UnitLine) := none
  /-- The 12-bit tone-mapped colours, by dot. -/
  composed : Option (List (Nat × Nat × Nat)) := none
deriving DecidableEq, Repr

/-! ### Scan-out (chapter 12) -/

/-- A display mode (Table 12.2, Table 12.13). `iface` is 0 DPI, 1 DSI, 2 composite. -/
structure Mode where
  iface : Nat := 0
  width : Nat := 0
  lanes2 : Bool := false
  opts : Nat := 0
  hactive : Nat := 0
  htotal : Nat := 0
  hsStart : Nat := 0
  hsWidth : Nat := 0
  vsWidth : Nat := 0
  vactive : Nat := 0
  vtotal : Nat := 0
  vsStart : Nat := 0
  pclk : Nat := 0
  laneRate : Nat := 0
  pclkMax : Nat := 81000000
  startHeld : Bool := false
deriving DecidableEq, Repr, Inhabited

/-- A relock in progress (R604 to R607): the mode it locks to, when it began, when lock was last tried, and the SCN.MODE it belongs to. -/
structure Relock where
  mode : Mode
  since : Nat := 0
  byCmd : Bool := false
  handle : Option Long := none
  timedOut : Bool := false
deriving DecidableEq, Repr, Inhabited

/-- An SCN.MODE that waits for the release of an earlier one (R632). -/
structure ModeReq where
  mode : Mode
  handle : Option Long
deriving DecidableEq, Repr, Inhabited

/-- A panel sequence in progress (Table 12.8): action, the step whose wait runs, its times in ms, and its command. -/
structure PanelSeq where
  action : Nat
  stage : Nat := 0
  t1 : Nat := 0
  t2 : Nat := 0
  t3 : Nat := 0
  ulps : Bool := false
  /-- Quartz time at which the present wait ends. -/
  until_ : Nat := 0
  handle : Option Long := none
deriving DecidableEq, Repr, Inhabited

/-- A DCS command that waits to be sent or answered (R597, R598). -/
structure Dcs where
  kind : Nat
  vc : Nat
  data : List Byte := []
  handle : Option Long := none
  since : Nat := 0
deriving DecidableEq, Repr, Inhabited

/-- A selenite window and its results (R623 to R630). -/
structure SelWin where
  en : Bool := false
  goldenEn : Bool := false
  x : Nat := 0
  y : Nat := 0
  w : Nat := 0
  h : Nat := 0
  golden : Nat := 0
  /-- CRC register of the running frame, before its final inversion. -/
  run : Nat := 0xFFFFFFFF
  exp : Nat := 0
  pin : Bool := false
  content : Bool := false
  loadOpen : Bool := false
  loadShort : Bool := false
  discarded : Bool := false
deriving DecidableEq, Repr, Inhabited

/-- An abort under way (R616, R617): the line on which it was raised, and whether the beam was then on a blanking line. -/
structure AbortSt where
  line : Nat
  empty : Bool := false
  /-- Waits for the frame start it applies to. -/
  deferred : Bool := false
deriving DecidableEq, Repr, Inhabited

/-- The panel (R631). -/
structure Panel where
  pnlEn : Bool := false
  pnlResetN : Bool := false
  blEn : Bool := false
  power : Bool := false
  videoOn : Bool := false
  ulps : Bool := false
  seq : Option PanelSeq := none
deriving DecidableEq, Repr, Inhabited

/-- The DCS commands (R597, R598). -/
structure DcsUnit where
  waiting : List Dcs := []
  read : Option Dcs := none
  /-- The frame and line in which the last waiting write went out. -/
  line : Option (Nat × Nat) := none
deriving DecidableEq, Repr, Inhabited

/-- The selenite check (R623 to R630). -/
structure Selenite where
  win : Vector SelWin 4 := Vector.replicate 4 {}
  tol : Nat := 12
  stuck : Nat := 0
  /-- A frame that was aborted, or in which the output was held. -/
  spoilt : Bool := false
deriving DecidableEq, Repr

/-- The line that leaves the chip. -/
structure PinLine where
  /-- What the data pins carry for each active dot (R591), or the luma codes on composite (R602). -/
  words : List Nat := []
  /-- The DAC codes of the active dots on composite, chroma included (R602). -/
  dac : List Nat := []
  /-- The subcarrier phase at dot 0 of the line, in cycles over 132 (NTSC) or 2,160,000 (PAL), and the PAL switch (R602, R603). -/
  subPhase : Nat := 0
  palMinus : Bool := false
deriving DecidableEq, Repr, Inhabited

/-- Why the output is held, and the cuts (R604 to R611). -/
structure Holding where
  /-- Held after lock under START_HELD (R609), by VIDEO_OFF (R631), after a cut (R610). -/
  startHeld : Bool := false
  videoOff : Bool := false
  cut : Bool := false
  /-- The output is to be held from the end of the line being scanned (R605). -/
  due : Bool := false
  /-- Released, and no frame start since. -/
  fresh : Bool := false
  cutLock : Bool := false
  cuts : List Nat := []
deriving DecidableEq, Repr, Inhabited

/-- Scan-out. -/
structure Scan where
  mode : Option Mode := none
  relock : Option Relock := none
  /-- An SCN.MODE locked while the output stays held, which completes at its release. -/
  relockDone : Option (Option Long) := none
  modeQ : List ModeReq := []
  h : Holding := {}
  pclkOut : Nat := 0
  panel : Panel := {}
  dcs : DcsUnit := {}
  sel : Selenite := {}
  abort : Option AbortSt := none
  /-- The accounts of an abort that waits for its frame: partition, local layer, sprite group or not. -/
  abortWho : List (Nat × Nat × Bool) := []
  pins : PinLine := {}
  lines : List LineSlot := []
deriving DecidableEq, Repr

end Sys2Proof.Machine
end

