-- ==== Sys2Proof/Syntax.lean ====
section
/-! DEFINITION. The commands of the block: one constructor per row of the table of operations and events, and the operands they take. -/

namespace Sys2Proof

/-- Which command a mailbox row runs: one that was accepted, named by its handle, or one of the steward's own (origin 0),
which has no handle and brings its parameters. -/
inductive Req where
  | accepted (handle : Long)
  | own (params : List Byte)
deriving DecidableEq, Repr

/-- Where the steward reads its next record from (R208). -/
inductive AcceptFrom where
  | guest (p : Fin 7)
  | host
  | usb
  | link
deriving DecidableEq, Repr

/-! ### Kuval operands (chapter 05) -/

/-- A core: K0 to K5 are 0 to 5, the steward core is 6. -/
abbrev CoreId := Fin 7
/-- A general register W0 to W7. -/
abbrev Reg := Fin 8
/-- A long pair L0 to L3. -/
abbrev Pair := Fin 4

/-- The operand forms of a two-operand ALU instruction (R277): MODE 0 to 3; `small` holds k − 1. -/
inductive AluForm where
  | reg (d s : Reg)
  | imm (d : Reg) (v : Word)
  | small (d : Reg) (k1 : Fin 8)
  | pair (p q : Pair)
deriving DecidableEq, Repr

/-- The special registers of Table 05.4 by E: 0 CT, 1 SP, 2 DB, 3 XB, 4 SB, 5 CB, 6 FL, 7 undefined. -/
abbrev Special := Fin 8

/-- The sizes of a load or store (R282). -/
inductive Size where
  | b | sb | w | l
deriving DecidableEq, Repr

/-- The addressing modes of Table 05.7. -/
inductive MemForm where
  | ind (b : Reg)
  | postInc (b : Reg)
  | preDec (b : Reg)
  | disp (b : Reg) (d : Word)
  | spDisp (d : Word)
  | abs (a : Word)
  | pairInd (p : Pair)
  | pcDisp (d : Word)
deriving DecidableEq, Repr

/-- A branch displacement: one word (R286) or two (R287). -/
inductive BranchForm where
  | short (d : Byte)
  | long (d : Word)
deriving DecidableEq, Repr

/-- The target of a jump or call within the code bank (Table 05.9). -/
inductive JumpForm where
  | reg (s : Reg)
  | abs (a : Word)
deriving DecidableEq, Repr

/-- The target of a far jump or call (Table 05.9). -/
inductive FarForm where
  | pair (p : Pair)
  | abs (b : Byte) (a : Word)
deriving DecidableEq, Repr

/-- An operand that is a register or a constant: REP, WAITB, SEV (Table 05.10). -/
inductive RegOrImm where
  | reg (s : Reg)
  | imm (v : Word)
deriving DecidableEq, Repr

/-- The block, gather and multiply-accumulate instructions (R309, R310). `word` is the size .W. -/
inductive BlockOp where
  | bcpy (word : Bool) (d s : Reg)
  | bset (word : Bool) (d v : Reg)
  | bfnd (d v : Reg)
  | mac (d s : Reg)
  | xld (word : Bool) (d s b : Reg)
deriving DecidableEq, Repr

/-- What follows a repeat prefix: an instruction it repeats, or any other, which it does not take (R304). -/
inductive Repeated where
  | block (o : BlockOp)
  | other
deriving DecidableEq, Repr


/-! ### Small ports (chapter 14) -/

/-- The lines of an idle I2C bus as a transfer finds them (R706): high, low but brought back by recovery, or stuck. -/
inductive BusLines where
  | high | recovered | stuck
deriving DecidableEq, Repr

/-- How an I2C transfer ends (R703, R704): whole, with the bytes read; at a NACK of the address or of a written byte, with the bytes
transferred before it. -/
inductive I2cEnd where
  | done (data : List Byte)
  | nackAddress (n : Byte)
  | nackData (n : Byte)
deriving DecidableEq, Repr

/-! ### Emgeva Link (chapter 15) -/

/-- A port of Emgeva Link: 0 N, 1 E, 2 S, 3 W. -/
abbrev LinkPortId := Fin 4
/-- A local link channel by hardware index. -/
abbrev LinkChanId := Fin 32

/-- What a CTRL NAK is about: a channel of this node, a block transfer to an export, a remote mailbox. -/
inductive NakFor where
  | channel (ch : LinkChanId)
  | block (node : Word) (x : Fin 8)
  | remote (node : Word)
deriving DecidableEq, Repr

/-- What a CTRL NAK says (CTRL_NAK). -/
inductive NakCause where
  | unreachable | stalled | closed | denied | integrity
deriving DecidableEq, Repr

/-- What a remote node answers a LNK.REMOTE with (R245, R766): its acceptance word, a part of the result block, its completion. -/
inductive RemoteAnswer where
  | accepted (word : Long)
  | result (handle : Long) (data : List Byte)
  | completed (handle : Long) (status info : Word) (result : Long)
deriving DecidableEq, Repr

/-! ### What the pins and the board show (chapters 01, 02 and 12) -/

/-- What the read-back of the pins found over a frame (R624 to R627). -/
structure FrameObs where
  pin : BitVec 4 := 0
  stuck : BitVec 28 := 0
  loadOpen : Bool := false
  loadShort : Bool := false
deriving DecidableEq, Repr

/-- The supply as measured, in mV. -/
structure Supply where
  vsys : Nat
  vbus : Nat
  vbat : Nat
deriving DecidableEq, Repr

/-- What probing the external memory finds (R429, R466): nothing, an arrangement with the density of a device in MiB, or mixed densities. -/
inductive XProbe where
  | none
  | lean (mib : Nat)
  | full (mib : Nat)
  | mixed
deriving DecidableEq, Repr

/-- What the boot ROM finds from VBAT valid on (R87, R119, R120): RECOVERY_N low, the four banks in mV, the external memory, CART_DET and
the 32.768 kHz crystal. -/
structure BootObs where
  supply : Supply
  recovery : Bool := false
  vioA : Nat := 3300
  vioB : Nat := 3300
  vioC : Nat := 3300
  vioM : Nat := 1800
  xmem : XProbe := .none
  cart : Bool := false
  lfXtal : Bool := false
deriving DecidableEq, Repr

/-- What a resume finds (R32, R99, R101, R106, R107): the supply, the Quartz ticks that the retention is timed at and its length in ms,
the lowest VSYS, CART_DET (at every moment of the retention, and now), the cartridge header unchanged, VIO_M having held, and the
completion poll of a flash operation. -/
structure ResumeObs where
  supply : Supply
  ticks : Nat
  ms : Nat
  vsysMin : Nat
  cartStayed : Bool := false
  cartNow : Bool := false
  headerSame : Bool := true
  vioMHeld : Bool := true
  flashOk : Bool := true
deriving DecidableEq, Repr

/-- The sources that wake Suken from the off state (R118). -/
inductive WakeSrc where
  | vbus | home | resetN
  /-- The resume condition is met (R105, R116). -/
  | resumeCondition
deriving DecidableEq, Repr

/-- A request at a memory target (R165): the unit that makes it (its unit ID, or 0x0E03 for the steward), the Kuval address in its
partition's map, and the bytes it stores, or how many it reads. -/
inductive MemReq where
  | read (unit : Word) (a : BitVec 24) (n : Fin 65)
  | write (unit : Word) (a : BitVec 24) (bytes : List Byte)
deriving DecidableEq, Repr

/-- A loop of the Rinse (R456). -/
inductive RinseId where
  | sram | xmem | cart
deriving DecidableEq, Repr

/-- The standard requests of the USB device port. -/
inductive UsbRequest where
  | getDescriptor (kind index : Byte)
  | setAddress (a : Fin 128)
  | setConfiguration (n : Byte)
  | getConfiguration
  | getStatus
  | clearHalt (ep : Byte)
  | setHalt (ep : Byte)
  | getInterface (n : Byte)
  | setInterface (n alt : Byte)
deriving DecidableEq, Repr

/-- One constructor per row of the table of operations and events, in the order of the table.
A mailbox row takes a `Req`, an event row the values the event brings with it. -/
inductive Instr where
  /-- SYS_INFO (R10): Reports stepping, package, firmware version, external memory arrangement and link ports present. -/
  | sysInfo (r : Req)
  /-- SYS_RESET (R138): Requests a cold start, or a cold start into recovery mode, 1 ms after the command finishes. -/
  | sysReset (r : Req)
  /-- SYS_BOOT_STATUS (R137): Reports the running boot slot, its attempts, version and marks. -/
  | sysBootStatus (r : Req)
  /-- PWR_STATUS (R137): Reports VSYS, VBUS, the ride-through class and the source flags. -/
  | pwrStatus (r : Req)
  /-- PWR_CONFIG (R137): Sets VWARN, RIDE_MS and RESUME_MAX. -/
  | pwrConfig (r : Req)
  /-- PWR_RESUME_INFO (R139): Copies the 32-byte resume record to the destination or as a result block. -/
  | pwrResumeInfo (r : Req)
  /-- PWR_OFF (R138): Enters the off state 1 ms after the command finishes, with the selected wake sources. -/
  | pwrOff (r : Req)
  /-- GOV_STATUS (R74): Reports governor target, output, frame minimum slack and flags, and sets LIVE_READ. -/
  | govStatus (r : Req)
  /-- GOV_LIMITS (R45): Sets the governor parameters, waiting for the output to fall when VMAX_CFG is lowered below it. -/
  | govLimits (r : Req)
  /-- GOV_VOTE (R74): Enables or disables the partition's speed vote. -/
  | govVote (r : Req)
  /-- TIME_LINE_EVENT (R75): Sets the line that raises the partition's LINE_MATCH event, or disables it. -/
  | timeLineEvent (r : Req)
  /-- TIME_DET (R67): Reads, and optionally clears, DET_STATUS and the partition's overrun counts. -/
  | timeDet (r : Req)
  /-- PART_STATUS (R197): Reports a partition's state, generation and allocations and optionally copies its map and trailer. -/
  | partStatus (r : Req)
  /-- PART_CREATE (R142): Moves a guest from EMPTY to STOPPED with cores, share, credits, rights and budget. -/
  | partCreate (r : Req)
  /-- PART_DESTROY (R142): Moves a guest from STOPPED to EMPTY, returning its units to P0 and clearing its map. -/
  | partDestroy (r : Req)
  /-- PART_MAP (R157): Writes a run of partition map entries. -/
  | partMap (r : Req)
  /-- PART_ASSIGN (R182): Gives a range of units held by P0 to a guest. -/
  | partAssign (r : Req)
  /-- PART_RELEASE (R182): Returns a range of a guest's units to P0. -/
  | partRelease (r : Req)
  /-- PART_START (R146): Moves a guest from STOPPED to RUNNING, starting or continuing its cores. -/
  | partStart (r : Req)
  /-- PART_STOP (R145): Stops every core of a running guest at its next instruction boundary. -/
  | partStop (r : Req)
  /-- PART_RESET (R185): Starts a partition reset, stopping cores and tearing down the partition's work. -/
  | partReset (r : Req)
  /-- PART_QUOTA (R167): Sets a guest's share, credit count and beam budget. -/
  | partQuota (r : Req)
  /-- PART_RIGHTS (R164): Sets a guest's rights, removing any right at once. -/
  | partRights (r : Req)
  /-- PART_FOCUS (R181): Changes input focus at the next frame start. -/
  | partFocus (r : Req)
  /-- MBX_CANCEL (R226): Cancels a target handle with the outcomes of Table 04.7. -/
  | mbxCancel (r : Req)
  /-- MBX_STATUS (R263): Reports the origin's credits and held completions and mailbox flags. -/
  | mbxStatus (r : Req)
  /-- MBX_CONSENT (R252): Sets the CONTROL consent bit of an external path. -/
  | mbxConsent (r : Req)
  /-- MBX_SYNC (R221): Has no effect and completes OK, after earlier commands when ORDERED. -/
  | mbxSync (r : Req)
  /-- KUV_STATUS (R322): Reports a core's state, next address and fault count. -/
  | kuvStatus (r : Req)
  /-- KUV_REGS (R323): Writes the register block of a stopped or held core. -/
  | kuvRegs (r : Req)
  /-- GUARD_STATUS (R362): Reports a core's guard unit state and fault count. -/
  | guardStatus (r : Req)
  /-- HMP_STATUS (R409): Reports a ring's indices, enable, fault, cause, mode and postponed count. -/
  | hmpStatus (r : Req)
  /-- HMP_RAISE (R368): Fires a software event source of a partition. -/
  | hmpRaise (r : Req)
  /-- HMP_SETUP (R410): Configures and optionally enables ring Q0 in basic mode. -/
  | hmpSetup (r : Req)
  /-- MEM_STATUS (R469): Reports external memory arrangement, device states, resilvering, cartridge state and corrections. -/
  | memStatus (r : Req)
  /-- MEM_CART_MOUNT (R454): Checks the cartridge header, CRC table and signature and mounts it. -/
  | memCartMount (r : Req)
  /-- MEM_CART_UNMOUNT (R469): Returns the cartridge to INSERTED so that its reads return poison. -/
  | memCartUnmount (r : Req)
  /-- MEM_FLASH_PROGRAM (R470): Reads the whole source and programs flash pages. -/
  | memFlashProgram (r : Req)
  /-- MEM_FLASH_ERASE (R455): Erases 4 KiB flash sectors, cancellable at sector boundaries. -/
  | memFlashErase (r : Req)
  /-- MEM_RINSE (R458): Sets the Rinse pass periods for SRAM and external memory. -/
  | memRinse (r : Req)
  /-- SPL_STATUS (R508): Reports a Spool channel's state, queue and last stop. -/
  | splStatus (r : Req)
  /-- SPL_SUBMIT (R497): Places a descriptor chain at the back of a channel's queue. -/
  | splSubmit (r : Req)
  /-- SPL_RESUME (R493): Restarts a parked chain at its parked element. -/
  | splResume (r : Req)
  /-- LYR_STATUS (R555): Reports a layer, sprite group or stitch list's cost, load and flags. -/
  | lyrStatus (r : Req)
  /-- LYR_SETUP (R554): Loads a layer block image, applied at the next frame start. -/
  | lyrSetup (r : Req)
  /-- LYR_ENABLE (R175): Enables or disables a layer or sprite group with its marks, subject to admission. -/
  | lyrEnable (r : Req)
  /-- LYR_PALETTE (R554): Loads a run of palette entries at the next frame start. -/
  | lyrPalette (r : Req)
  /-- LYR_GRANT (R555): Gives palette banks and sprite quota to a partition. -/
  | lyrGrant (r : Req)
  /-- STCH_SET (R549): Sets the stitch list base, count, slots and enable. -/
  | stchSet (r : Req)
  /-- CMP_STATUS (R586): Reports tone and dither modes, depths and the substitution count. -/
  | cmpStatus (r : Req)
  /-- CMP_BLEND (R578): Sets a layer's blend mode, PREMUL and PRIO_Z from the next frame. -/
  | cmpBlend (r : Req)
  /-- CMP_BACKGROUND (R569): Sets the background colour from the next frame. -/
  | cmpBackground (r : Req)
  /-- CMP_TONE (R580): Reads a tone table and sets the tone mode from the next frame. -/
  | cmpTone (r : Req)
  /-- CMP_DITHER (R575): Sets the dither mode and channel depths from the next frame. -/
  | cmpDither (r : Req)
  /-- SCN_STATUS (R635): Reports the produced pixel clock and output state. -/
  | scnStatus (r : Req)
  /-- SCN_SEL_STATUS (R628): Reports a selenite window's last result or the stuck-pin map. -/
  | scnSelStatus (r : Req)
  /-- SCN_MODE (R588): Sets the display mode and interface, starting a pixel synthesiser relock. -/
  | scnMode (r : Req)
  /-- SCN_PANEL (R631): Runs a panel power or video sequence of Table 12.8. -/
  | scnPanel (r : Req)
  /-- SCN_DCS (R597): Sends one DCS short write, long write or read to a DSI panel. -/
  | scnDcs (r : Req)
  /-- SCN_SELENITE (R623): Sets a selenite check window from the next frame start. -/
  | scnSelenite (r : Req)
  /-- SND_STATUS (R682): Reports output peaks and speaker, I2S and limiter state. -/
  | sndStatus (r : Req)
  /-- SND_VOICE (R644): Sets and keys a sample voice, now or timed to the beam. -/
  | sndVoice (r : Req)
  /-- SND_ENV (R646): Sets a voice's envelope parameters. -/
  | sndEnv (r : Req)
  /-- SND_TONE (R647): Sets and keys a tone voice. -/
  | sndTone (r : Req)
  /-- SND_STREAM (R650): Configures and enables a stream input. -/
  | sndStream (r : Req)
  /-- SND_CAPTURE (R654): Configures and enables a microphone or I2S capture. -/
  | sndCapture (r : Req)
  /-- SND_GAIN (R661): Sets a partition, bus, master or output gain with a ramp. -/
  | sndGain (r : Req)
  /-- SND_CAP (R664): Sets a hearing cap, raising by P0 only. -/
  | sndCap (r : Req)
  /-- SND_OUTPUT (R673): Sets speaker enable, limiter, SPK_VREF, I2S format, slot map and FMIC. -/
  | sndOutput (r : Req)
  /-- INP_SNAPSHOT (R697): Sets or disables the partition's snapshot destination. -/
  | inpSnapshot (r : Req)
  /-- INP_CONFIG (R720): Sets key mode, debounce, row time and touch parameters. -/
  | inpConfig (r : Req)
  /-- INP_TOUCH_CAL (R687): Sets the touch calibration coefficients A to F. -/
  | inpTouchCal (r : Req)
  /-- IO_GPIO (R689): Sets GPIO directions and outputs and returns the live inputs. -/
  | ioGpio (r : Req)
  /-- IO_I2C (R703): Performs one I2C controller transfer. -/
  | ioI2c (r : Req) (lines : BusLines)
  /-- IO_SPI (R709): Performs one full-duplex SPI controller transfer. -/
  | ioSpi (r : Req)
  /-- IO_UART (R707): Sets the UART rate and format and enables it. -/
  | ioUart (r : Req)
  /-- IO_PWM (R699): Sets a PWM channel's frequency, duty, ramp and rumble limits. -/
  | ioPwm (r : Req)
  /-- IO_RUMBLE (R701): Requests rumble at a duty for a duration from the focus partition. -/
  | ioRumble (r : Req)
  /-- IO_ADC (R702): Reports the latest auxiliary ADC code and millivolts. -/
  | ioAdc (r : Req)
  /-- LNK_STATUS (R776): Reports node or port link state. -/
  | lnkStatus (r : Req)
  /-- LNK_CONFIG (R734): Sets topology mode, rates, root priority, ports, grid origin and beat lag. -/
  | lnkConfig (r : Req)
  /-- LNK_CHANNEL (R755): Binds and configures a link channel and its rings. -/
  | lnkChannel (r : Req)
  /-- LNK_GROUP (R743): Sets the node's multicast group membership. -/
  | lnkGroup (r : Req)
  /-- LNK_REMOTE (R766): Sends a command record to a remote node's steward and returns its answer. -/
  | lnkRemote (r : Req)
  /-- LNK_EXPORT (R763): Declares or removes an export range for block transfers. -/
  | lnkExport (r : Req)
  /-- LNK_BLOCK (R765): Sends a block transfer to an export of a node or group. -/
  | lnkBlock (r : Req)
  /-- LNK_BEAT_TX (R753): Sets the beat payload at the root. -/
  | lnkBeatTx (r : Req)
  /-- LNK_BEAT_RX (R754): Enables or disables beat record delivery to a destination. -/
  | lnkBeatRx (r : Req)
  /-- VLT_STATUS (R812): Reports life-cycle state, service entries, rollback floor and loaded slots. -/
  | vltStatus (r : Req)
  /-- VLT_SLOT_INFO (R812): Writes the metadata and KCV of all 16 slots. -/
  | vltSlotInfo (r : Req)
  /-- VLT_NONCE (R795): Returns a fresh nonce and makes it the outstanding nonce. -/
  | vltNonce (r : Req)
  /-- VLT_LOAD (R793): Writes a key into an empty slot, plain in MAKER or wrapped otherwise. -/
  | vltLoad (r : Req)
  /-- VLT_DERIVE (R792): Derives a DEVICE or LINK key by HKDF into an empty slot. -/
  | vltDerive (r : Req)
  /-- VLT_DESTROY (R789): Destroys the named loaded slots and confirms destruction. -/
  | vltDestroy (r : Req) (bad : BitVec 16)
  /-- VLT_PROVE (R796): Answers a challenge with a DEVICE-key MAC. -/
  | vltProve (r : Req)
  /-- VLT_VERIFY (R799): Verifies a signed image in flash. -/
  | vltVerify (r : Req)
  /-- VLT_LIFECYCLE (R784): Moves the life cycle to FIELD or SCRAP. -/
  | vltLifecycle (r : Req) (bad : BitVec 16)
  /-- VLT_SERVICE (R807): Enters SERVICE with a token or leaves it. -/
  | vltService (r : Req)
  /-- VLT_FLOOR (R801): Raises the rollback floor. -/
  | vltFloor (r : Req)
  /-- SVC_UNIT_STATUS (R854): Reports a unit's state, generation, owner and ADMIT. -/
  | svcUnitStatus (r : Req)
  /-- SVC_UNIT_RESET (R821): Returns a pegged or active unit to its reset state. -/
  | svcUnitReset (r : Req)
  /-- SVC_PEG (R819): Pegs a named unit. -/
  | svcPeg (r : Req)
  /-- SVC_SPARE_MACRO (R823): Copies a logical SRAM macro live to a spare macro. -/
  | svcSpareMacro (r : Req)
  /-- SVC_MIGRATE (R835): Moves a core's state to the spare core after the next frame start. -/
  | svcMigrate (r : Req)
  /-- SVC_XMEM (R826): Retires or resilvers an external memory device. -/
  | svcXmem (r : Req)
  /-- SVC_SHADOW (R829): Enables or disables the shadow check and sets its period. -/
  | svcShadow (r : Req)
  /-- SVC_REINSTATE (R854): Self-tests a retired core or macro and returns it as spare. -/
  | svcReinstate (r : Req)
  /-- SVC_STAGE (R841): Writes an image into a non-running slot and rewrites the boot directory. -/
  | svcStage (r : Req)
  /-- SVC_SWAP (R839): Warm-restarts the steward into the other boot slot. -/
  | svcSwap (r : Req)
  /-- SVC_RESTART (R837): Warm-restarts the steward from the running slot. -/
  | svcRestart (r : Req)
  /-- SVC_LINT_READ (R854): Copies the lint log header and entries. -/
  | svcLintRead (r : Req)
  /-- SVC_LINT_COUNTS (R846): Copies the lifetime lint counters of a block. -/
  | svcLintCounts (r : Req)
  /-- SVC_LINT_CLEAR (R847): Clears the lint log and counters in SERVICE. -/
  | svcLintClear (r : Req)
  /-- SVC_TREND (R848): Copies the newest hourly or monthly trend records. -/
  | svcTrend (r : Req)
  /-- MOV (R277): Copies the second operand into the destination. -/
  | mov (k : CoreId) (f : AluForm)
  /-- ADD (R277): Adds the second operand to the destination. -/
  | add (k : CoreId) (f : AluForm)
  /-- ADC (R277): Adds the second operand and carry to the destination. -/
  | adc (k : CoreId) (f : AluForm)
  /-- SUB (R277): Subtracts the second operand from the destination. -/
  | sub (k : CoreId) (f : AluForm)
  /-- SBC (R277): Subtracts the second operand and carry from the destination. -/
  | sbc (k : CoreId) (f : AluForm)
  /-- CMP (R277): Sets flags from destination minus second operand. -/
  | cmp (k : CoreId) (f : AluForm)
  /-- AND (R277): Bitwise AND into the destination. -/
  | and (k : CoreId) (f : AluForm)
  /-- OR (R277): Bitwise OR into the destination. -/
  | or (k : CoreId) (f : AluForm)
  /-- XOR (R277): Bitwise XOR into the destination. -/
  | xor (k : CoreId) (f : AluForm)
  /-- TST (R277): Sets flags from destination AND second operand. -/
  | tst (k : CoreId) (f : AluForm)
  /-- SHL (R278): Shifts the destination left. -/
  | shl (k : CoreId) (f : AluForm)
  /-- SHR (R278): Shifts the destination right with zeros in. -/
  | shr (k : CoreId) (f : AluForm)
  /-- SAR (R278): Shifts the destination right arithmetically. -/
  | sar (k : CoreId) (f : AluForm)
  /-- ROR (R278): Rotates the destination right within 16 bits. -/
  | ror (k : CoreId) (f : AluForm)
  /-- MULU (R279): Unsigned 16 by 16 multiply into a long pair. -/
  | mulu (k : CoreId) (f : AluForm)
  /-- MULS (R279): Signed 16 by 16 multiply into a long pair. -/
  | muls (k : CoreId) (f : AluForm)
  /-- NOT (R281): Inverts a register. -/
  | not (k : CoreId) (d : Reg)
  /-- NEG (R281): Negates a register. -/
  | neg (k : CoreId) (d : Reg)
  /-- INC (R281): Increments a register. -/
  | inc (k : CoreId) (d : Reg)
  /-- DEC (R281): Decrements a register. -/
  | dec (k : CoreId) (d : Reg)
  /-- SXT (R281): Sign-extends the low byte of a register. -/
  | sxt (k : CoreId) (d : Reg)
  /-- ZXT (R281): Zero-extends the low byte of a register. -/
  | zxt (k : CoreId) (d : Reg)
  /-- SWAB (R281): Swaps the bytes of a register. -/
  | swab (k : CoreId) (d : Reg)
  /-- CLR (R281): Clears a register and its tag. -/
  | clr (k : CoreId) (d : Reg)
  /-- RDS (R281): Reads a special register into a W register. -/
  | rds (k : CoreId) (d : Reg) (e : Special)
  /-- WRS (R268): Writes a special register from a W register. -/
  | wrs (k : CoreId) (e : Special) (w : Reg)
  /-- LD (R294): Loads memory into a register, landing after the delay slot. -/
  | ld (k : CoreId) (z : Size) (r : Reg) (m : MemForm)
  /-- ST (R283): Stores a register to memory. -/
  | st (k : CoreId) (z : Size) (r : Reg) (m : MemForm)
  /-- LDE (R285): Loads through the extra bank. -/
  | lde (k : CoreId) (z : Size) (r : Reg) (m : MemForm)
  /-- STE (R285): Stores through the extra bank. -/
  | ste (k : CoreId) (z : Size) (r : Reg) (m : MemForm)
  /-- BRANCH (R288): Short or long conditional branch. -/
  | branch (k : CoreId) (cond : Fin 15) (f : BranchForm)
  /-- BSR (R288): Pushes the return offset and branches. -/
  | bsr (k : CoreId) (f : BranchForm)
  /-- JMP (R289): Jumps within the code bank. -/
  | jmp (k : CoreId) (f : JumpForm)
  /-- CALL (R289): Pushes the return offset and jumps. -/
  | call (k : CoreId) (f : JumpForm)
  /-- JMPF (R289): Jumps to another code bank. -/
  | jmpf (k : CoreId) (f : FarForm)
  /-- CALLF (R289): Pushes CB and return offset and jumps far. -/
  | callf (k : CoreId) (f : FarForm)
  /-- RET (R290): Pops PC. -/
  | ret (k : CoreId)
  /-- RETF (R289): Pops PC and CB. -/
  | retf (k : CoreId)
  /-- RETI (R336): Pops an interrupt frame and restores mode, flags and stack. -/
  | reti (k : CoreId)
  /-- PUSH (R290): Pushes a register. -/
  | push (k : CoreId) (r : Reg)
  /-- POP (R294): Pops into a register with the load delay. -/
  | pop (k : CoreId) (r : Reg)
  /-- PUSHF (R289): Pushes FL. -/
  | pushf (k : CoreId)
  /-- POPF (R268): Pops FL, keeping H and RF. -/
  | popf (k : CoreId)
  /-- MOVI (R291): Loads a sign-extended 8-bit immediate. -/
  | movi (k : CoreId) (d : Reg) (v : Byte)
  /-- MOVB (R291): Loads DB, XB or SB with an immediate. -/
  | movb (k : CoreId) (e : Fin 8) (v : Byte)
  /-- ADDI (R291): Adds a signed 8-bit immediate. -/
  | addi (k : CoreId) (d : Reg) (v : Byte)
  /-- CMPI (R291): Compares with a signed 8-bit immediate. -/
  | cmpi (k : CoreId) (d : Reg) (v : Byte)
  /-- ADDSP (R291): Adds twice a signed immediate to SP. -/
  | addsp (k : CoreId) (v : Byte)
  /-- NOP (R292): Does nothing. -/
  | nop (k : CoreId)
  /-- WAITF (R54): Fences and waits for the frame latch or next frame start. -/
  | waitf (k : CoreId)
  /-- FENCE (R314): Waits until all earlier accesses are complete and visible. -/
  | fence (k : CoreId)
  /-- WAITB (R56): Fences and waits for a line of the reference frame. -/
  | waitb (k : CoreId) (l : RegOrImm)
  /-- EI (R292): Enables interrupts. -/
  | ei (k : CoreId)
  /-- DI (R292): Disables interrupts. -/
  | di (k : CoreId)
  /-- WAITI (R315): Waits for an interrupt. -/
  | waiti (k : CoreId)
  /-- SEV (R316): Fences and raises a software event of the partition. -/
  | sev (k : CoreId) (n : RegOrImm)
  /-- TRAP (R331): Enters the host-mode trap handler. -/
  | trap (k : CoreId) (n : Fin 64)
  /-- REP (R301): Repeats the following block instruction up to 64 times uninterruptibly. -/
  | rep (k : CoreId) (n : RegOrImm) (o : Repeated)
  /-- REPI (R302): Repeats the following block instruction from CT, interruptibly. -/
  | repi (k : CoreId) (o : Repeated)
  /-- XLD (R310): Performs one gather element. -/
  | xld (k : CoreId) (word : Bool) (d : Reg) (r : Reg) (b : Reg)
  /-- BCPY (R309): Copies one byte or word from DB to XB. -/
  | bcpy (k : CoreId) (word : Bool) (d : Reg) (r : Reg)
  /-- BSET (R309): Writes one byte or word of a value into XB. -/
  | bset (k : CoreId) (word : Bool) (d : Reg) (v : Reg)
  /-- BFND_W (R309): Compares one word of XB with a value. -/
  | bfndW (k : CoreId) (d : Reg) (v : Reg)
  /-- MAC (R309): Multiplies two words and accumulates into L0. -/
  | mac (k : CoreId) (d : Reg) (r : Reg)
  /-- UNDEFINED_ENCODING (R275): An undefined encoding faults ILLEGAL. -/
  | undefinedEncoding (k : CoreId) (w : Word)
  /-- STEWARD_EXTENSION (R276): A steward extension executed on a play core faults ILLEGAL. -/
  | stewardExtension (k : CoreId) (w : Word)
  /-- HAMPER_INTERRUPT_ENTRY (R329): A presented Hamper request is taken at a boundary, pushing a frame and the ring level. -/
  | hamperInterruptEntry (k : CoreId)
  /-- GUARD_ENABLE (R358): Writing GUARD_CTRL.EN 1 checks the regions and enables the guard. -/
  | guardEnable (k : CoreId) (background clearErr : Bool)
  /-- GUARD_DISABLE (R356): Writing GUARD_CTRL.EN 0 disables the guard at once. -/
  | guardDisable (k : CoreId) (background clearErr : Bool)
  /-- GUARD_REGION_WRITE (R357): A region register write, ignored with a GUARD fault while enabled. -/
  | guardRegionWrite (k : CoreId) (g : Fin 8) (reg : Fin 4) (v : Word)
  /-- FRAME_START (R26): The beam reaches F:0:0, advancing the frame counter and setting frame latches. -/
  | frameStart (o : FrameObs)
  /-- LINE_START (R25): The beam reaches dot 0 of a line. -/
  | lineStart
  /-- FETCH_COMPLETE (R41): A line's last fetch completes and its slack is measured. -/
  | fetchComplete (n : Fin 2048) (dots : Fin 8192)
  /-- FETCH_DEADLINE (R38): A layer's fetch is incomplete at its deadline. -/
  | fetchDeadline (n : Fin 2048) (layers : BitVec 8) (groups : BitVec 7)
  /-- ABORT_RASTER_JUMP (R617): After the scanned line, the generator jumps to VSYNC_START for a short frame. -/
  | abortRasterJump
  /-- STORM_HOLD_END (R621): A storm hold ends after 1 s of Quartz time. -/
  | stormHoldEnd (p : Fin 7)
  /-- LINE_COMPOSE (R39): A line is composed, tone-mapped and dithered once fetched and a buffer slot is free. -/
  | lineCompose (n : Fin 2048)
  /-- VCORE_TARGET_REACHED (R45): The VCORE output reaches a lowered VMAX_CFG and GOV.LIMITS completes. -/
  | vcoreTargetReached
  /-- THERMAL_CAP (R48): The junction exceeds 110 °C and the target is capped at 0.80 V. -/
  | thermalCap (tj : Int)
  /-- CLOCK_REFERENCE_FALLBACK (R69): A missing or off crystal switches the island to the internal oscillator. -/
  | clockReferenceFallback
  /-- CLOCK_REFERENCE_RETURN (R70): The island returns to the crystal after 1 s within tolerance. -/
  | clockReferenceReturn
  /-- VCORE_FOLLOW_FAULT (R72): The output stays far from the target for 100 µs and the target is held. -/
  | vcoreFollowFault (out : Fin 256)
  /-- BEAM_LINE_READ (R77): Reading BEAM_LINE snapshots the beam group and sets BEAM_READ. -/
  | beamLineRead (k : CoreId)
  /-- QTIME_0_READ (R77): Reading QTIME_0 snapshots Quartz time and sets QTIME_READ. -/
  | qtime0Read (k : CoreId)
  /-- GOV_STATE_READ (R67): Reading GOV_STATE, GOV_SLACK or GOV_SLACK_MIN sets LIVE_READ. -/
  | govStateRead (k : CoreId) (reg : Fin 3)
  /-- VWARN_CROSSING (R92): VSYS crosses VWARN, raising SUPPLY and changing WARN. -/
  | vwarnCrossing (v : Supply)
  /-- CLASS_2_ENTRY (R95): VSYS below VRIDE or loss of every source enters class 2. -/
  | class2Entry (v : Supply)
  /-- CLASS_2_END (R94): A source is present and VSYS reaches 2.65 V, ending class 2. -/
  | class2End (v : Supply)
  /-- CLASS_1_RESTORE (R97): After 50 ms of class 1 the speaker, backlight and rumble are restored. -/
  | class1Restore
  /-- RIDE_MS_EXPIRY (R93): Class 2 lasting beyond RIDE_MS moves to class 3. -/
  | rideMsExpiry
  /-- CLASS_3_ENTRY (R98): VSYS below VSTOP freezes all state in retention. -/
  | class3Entry (v : Supply)
  /-- RETENTION_LOST (R100): VSYS below VRET latches RET_LOST and closes the resume window. -/
  | retentionLost (v : Supply)
  /-- RESUME_WINDOW_EXPIRY (R105): The resume window closes and Suken enters the off state. -/
  | resumeWindowExpiry
  /-- RESUME (R106): The resume condition is met in the window and the chip restarts its clocks. -/
  | resume (o : ResumeObs)
  /-- RESUME_RELEASE (R106): At the next frame start the output, cores, Spool and Hamper continue. -/
  | resumeRelease
  /-- VIO_BANK_LOST (R89): A running VIO bank out of range for 50 µs goes high-impedance. -/
  | vioBankLost (b : Fin 4)
  /-- VBUS_OVERVOLTAGE (R81): VBUS above 6.0 V opens the VBUS ideal diode. -/
  | vbusOvervoltage (v : Supply)
  /-- VBUS_OVERVOLTAGE_CLEAR (R81): VBUS below 5.8 V for 10 ms closes the diode again. -/
  | vbusOvervoltageClear (v : Supply)
  /-- WATCHDOG_EXPIRY (R114): The steward watchdog expires, warm-restarting or cold-starting. -/
  | watchdogExpiry
  /-- BOROUX_START (R837): The reloaded image starts, rebuilds the unit table and serves mailboxes. -/
  | borouxStart
  /-- THERMAL_SHUTDOWN (R116): The junction above 125 °C for 1 ms enters the off state. -/
  | thermalShutdown (tj : Int)
  /-- BUCK_CURRENT_LIMIT (R117): The buck at its limit for 100 µs stops and holds Suken in reset. -/
  | buckCurrentLimit
  /-- BUCK_RESTART (R117): The buck restarts 10 ms after stopping. -/
  | buckRestart
  /-- POWER_ON_RESET (R113): VSYS below 1.5 V resets everything. -/
  | powerOnReset (v : Supply)
  /-- RESET_N_ASSERT (R113): RESET_N low for 10 µs causes a cold start. -/
  | resetNAssert
  /-- WAKE_FROM_OFF (R118): A selected wake source wakes the chip from the off state. -/
  | wakeFromOff (src : WakeSrc)
  /-- VBAT_VALID (R119): VSYS has held 2.65 V for 5 ms with a source, starting boot. -/
  | vbatValid (o : BootObs)
  /-- DEFERRED_RESET_START (R138): The reset or off state requested by SYS.RESET or PWR.OFF begins 1 ms later. -/
  | deferredResetStart
  /-- PARTITION_RESET_COMPLETE (R185): The reset's steps end, the generation increases and the completion is written. -/
  | partitionResetComplete (p : Fin 7)
  /-- PARTITION_RESET_OVERRUN (R188): A reset step overruns its bound and the unit is pegged. -/
  | partitionResetOverrun (p : Fin 7) (unit : Word)
  /-- SELF_RESET_DELAY (R189): A guest's self-reset starts step 1 after 1 ms. -/
  | selfResetDelay (p : Fin 7)
  /-- UNIT_RELEASE_RAMP_END (R183): A voice or input released after its 5 ms ramp out. -/
  | unitReleaseRampEnd (unit : Word)
  /-- GUEST_STALL_TIMEOUT (R179): A guest request stalled 1 ms at a target logs lint. -/
  | guestStallTimeout (p : Fin 7) (target : Fin 3)
  /-- MEMORY_REQUEST (R165): A requester's access is granted at a memory target. -/
  | memoryRequest (q : MemReq)
  /-- MERGE_ENTRY_EVICT (R428): A merge buffer entry is evicted and written with fresh check bits. -/
  | mergeEntryEvict (xmem : Bool) (line : Long)
  /-- EXTERNAL_DEVICE_LOST (R437): A PSRAM device is declared lost and set to erasure. -/
  | externalDeviceLost (d : Fin 6)
  /-- RESILVER_LINE (R442): The resilver walk rewrites one external line. -/
  | resilverLine
  /-- MACRO_COPY_ROW (R444): The live copy moves one row to the spare macro. -/
  | macroCopyRow (bad : Bool)
  /-- RINSE_VISIT (R457): The Rinse checks and scrubs one line or cartridge page. -/
  | rinseVisit (l : RinseId)
  /-- RINSE_PASS_LATE (R458): A Rinse pass exceeds twice its period. -/
  | rinsePassLate (l : RinseId)
  /-- CART_PAGE_FILL (R447): A cartridge page fill completes, checked by CRC. -/
  | cartPageFill (page : Word)
  /-- CART_REMOVAL (R452): A filtered CART_DET removal invalidates the cache and sets ABSENT. -/
  | cartRemoval
  /-- CART_INSERTION (R453): A filtered insertion sets INSERTED. -/
  | cartInsertion (image : Option (List Byte))
  /-- FLASH_OP_COMPLETE (R455): A polled flash program or erase reports completion. -/
  | flashOpComplete
  /-- FLASH_OP_TIMEOUT (R455): A flash program or erase exceeds its time. -/
  | flashOpTimeout
  /-- DARN_READ_RAW (R461): Reads a word's stored data, check and class. -/
  | darnReadRaw (k : CoreId)
  /-- DARN_WRITE_RAW (R461): Stores data and check bits as given. -/
  | darnWriteRaw (k : CoreId)
  /-- DARN_WRITE_CHECK (R461): Stores only the given check bits. -/
  | darnWriteCheck (k : CoreId)
  /-- CMD_PROD_WRITE (R233): A guest doorbell write makes command slots available. -/
  | cmdProdWrite (k : CoreId) (v : Word)
  /-- RECORD_ACCEPTANCE (R203): The steward reads a slot and writes a handle or rejection. -/
  | recordAcceptance (f : AcceptFrom)
  /-- CPL_CONS_WRITE (R234): The consumer index advances, returning credits. -/
  | cplConsWrite (k : CoreId) (v : Word)
  /-- POSTPONED_COMPLETION_WRITE (R235): A postponed completion is written when space appears. -/
  | postponedCompletionWrite (f : AcceptFrom)
  /-- MAILBOX_ENABLE (R236): ENABLE 0 to 1 resets indices and clears FAULT. -/
  | mailboxEnable (k : CoreId) (cplEvent : Bool)
  /-- MAILBOX_DISABLE (R237): ENABLE 1 to 0 discards unread records and holds completions. -/
  | mailboxDisable (k : CoreId) (cplEvent : Bool)
  /-- RESULT_BUFFER_TIMEOUT (R259): A host result buffer held 1 s sets FAULT. -/
  | resultBufferTimeout (n : Fin 2)
  /-- DATA_CHUNK_TIMEOUT (R251): A command waiting 1 s for data completes TIMEOUT. -/
  | dataChunkTimeout (h : Long)
  /-- HOST_READ (R710): Host SPI read transaction of the host mailbox. -/
  | hostRead (a : Word) (n : Nat)
  /-- HOST_WRITE (R710): Host SPI write transaction to the host mailbox. -/
  | hostWrite (a : Word) (data : List Byte)
  /-- HOST_QUAD_READ (R710): Host quad read transaction. -/
  | hostQuadRead (a : Word) (n : Nat)
  /-- HOST_QUAD_WRITE (R710): Host quad write transaction. -/
  | hostQuadWrite (a : Word) (data : List Byte)
  /-- HOST_PORT_RESET (R713): Returns host mailbox registers to reset values. -/
  | hostPortReset
  /-- HOST_BAD_TRANSACTION (R713): An unknown command or address is ignored until HOST_CS_N rises. -/
  | hostBadTransaction
  /-- USB_DATA_ITEM (R249): A data item on bulk OUT delivers a chunk. -/
  | usbDataItem (h : Long) (data : List Byte)
  /-- USB_TRANSFER_END (R244): A bulk OUT transfer ending mid-record discards it. -/
  | usbTransferEnd (rest : List Byte)
  /-- USB_IN_PACKET_ACK (R223): An acknowledged IN packet ending a completion returns a credit. -/
  | usbInPacketAck
  /-- USB_BUS_RESET (R258): A bus reset discards external completions. -/
  | usbBusReset
  /-- USB_VBUS_CHANGE (R714): VBUS presence connects or disconnects the D+ pull-up. -/
  | usbVbusChange (present : Bool)
  /-- USB_UNSUPPORTED_REQUEST (R716): An unsupported request is stalled. -/
  | usbUnsupportedRequest
  /-- USB_SUSPEND (R716): The port suspends after 3 ms bus idle. -/
  | usbSuspend
  /-- USB_RESUME (R716): The port resumes on bus activity. -/
  | usbResume
  /-- USB_IN_UNREAD (R716): Items waiting 1 s on bulk IN log lint. -/
  | usbInUnread
  /-- DFU_DETACH (R715): Starts a cold start into recovery mode with consent. -/
  | dfuDetach
  /-- DFU_DOWNLOAD (R130): Writes image data to a slot in recovery mode. -/
  | dfuDownload (alt : Fin 2) (data : List Byte)
  /-- DFU_MANIFEST (R130): Verifies the downloaded image and writes its directory entry. -/
  | dfuManifest
  /-- DFU_UPLOAD (R131): An upload request is stalled. -/
  | dfuUpload
  /-- LINK_DATA_CHUNK (R250): A VC1 data packet delivers a chunk to a remote command. -/
  | linkDataChunk (node : Word) (handle : Long) (data : List Byte) (poison : Bool)
  /-- HAMPER_EDGE (R372): An edge of an enabled source is enqueued or coalesced. -/
  | hamperEdge (p : Fin 7) (src : Fin 96)
  /-- HAMPER_LEVEL_ASSERT (R372): An asserted level of a non-pending source is enqueued. -/
  | hamperLevelAssert (p : Fin 7) (src : Fin 96)
  /-- EOI (R396): Pops the core's stack, clears PENDING and re-enqueues as needed. -/
  | eoi (k : CoreId) (n : Fin 128)
  /-- SW_RAISE (R368): Fires a software source. -/
  | swRaise (k : CoreId) (n : Fin 32)
  /-- PRI_RAISE (R392): Pushes a level on the core's running-priority stack. -/
  | priRaise (k : CoreId) (level : Fin 4)
  /-- RING_ENABLE (R387): Enables a ring and enqueues coalesced counts and asserted levels. -/
  | ringEnable (k : CoreId) (q : Fin 4) (routeEn : Bool) (route : Fin 8) (size : Fin 16)
  /-- RING_DISABLE (R388): Disables a ring, folding postponed records into counts. -/
  | ringDisable (k : CoreId) (q : Fin 4) (routeEn : Bool) (route : Fin 8) (size : Fin 16)
  /-- RING_CONS_WRITE (R383): The consumer advances a ring's CONS. -/
  | ringConsWrite (k : CoreId) (q : Fin 4) (v : Word)
  /-- POSTPONED_RECORD_WRITE (R386): Postponed records are written when space appears. -/
  | postponedRecordWrite (p : Fin 7) (q : Fin 4)
  /-- SPOOL_START (R498): CH_CTRL.START starts the chain at CH_DESC. -/
  | spoolStart (k : CoreId) (ch : Fin 8) (bulk ev : Bool)
  /-- SPOOL_ABORT (R499): CH_CTRL.ABORT stops a running chain at the next element. -/
  | spoolAbort (k : CoreId) (ch : Fin 8) (bulk ev : Bool)
  /-- SPOOL_RESUME_WRITE (R493): CH_CTRL.RESUME restarts a parked chain. -/
  | spoolResumeWrite (k : CoreId) (ch : Fin 8) (bulk ev : Bool)
  /-- SPOOL_CLEAR (R501): CH_CTRL.CLEAR moves a parked channel to IDLE. -/
  | spoolClear (k : CoreId) (ch : Fin 8) (bulk ev : Bool)
  /-- SPOOL_CANCEL_BEFORE_START (R500): ABORT with START or RESUME on an idle channel starts nothing. -/
  | spoolCancelBeforeStart (k : CoreId) (ch : Fin 8) (resume bulk ev : Bool)
  /-- SPOOL_CHAIN_START (R497): A queued chain starts when it reaches the front of an idle channel. -/
  | spoolChainStart (ch : Fin 8)
  /-- SPOOL_ELEMENT (R479): The engine performs one element, stopping the chain if refused. -/
  | spoolElement (ch : Fin 8)
  /-- SPOOL_STALL (R506): A channel completing no element for 100 ms logs lint. -/
  | spoolStall (ch : Fin 8)
  /-- LAYER_HOLD_RELEASE (R518): Writing HOLD 0 releases staged layer writes. -/
  | layerHoldRelease (k : CoreId) (atFrame : Bool)
  /-- PALETTE_LOW_WRITE (R519): A palette low-half write is held. -/
  | paletteLowWrite (k : CoreId) (e : Fin 1024) (v : Word)
  /-- PALETTE_HIGH_WRITE (R519): A palette high-half write commits the entry. -/
  | paletteHighWrite (k : CoreId) (e : Fin 1024) (v : Word)
  /-- LAYER_ENABLE_WRITE (R520): Enabling a layer, group or admission-affecting field is admitted or refused. -/
  | layerEnableWrite (k : CoreId) (reg : Fin 2048) (v : Word)
  /-- STITCH_ENABLE_WRITE (R549): ST_CTRL.EN 1 admits the list, 0 stops it at once. -/
  | stitchEnableWrite (k : CoreId) (v : Word)
  /-- SYNTH_LOCK (R606): The pixel synthesiser is stable and the output is released. -/
  | synthLock
  /-- LOCK_TIMEOUT (R607): No lock after 200 µs keeps the hold. -/
  | lockTimeout
  /-- LOCK_RETRY (R607): Lock is retried every 10 ms. -/
  | lockRetry
  /-- OVERSHOOT_CUT (R610): A clock above its ceiling holds the output and relocks. -/
  | overshootCut (lane : Bool) (hz : Long)
  /-- DCS_WRITE_SEND (R597): A DCS write is sent in a vertical blanking line. -/
  | dcsWriteSend
  /-- DCS_READ_ANSWER (R598): A panel's DCS read answer completes the command. -/
  | dcsReadAnswer (bad : Bool) (data : List Byte)
  /-- DCS_READ_TIMEOUT (R598): No DCS answer within 10 ms. -/
  | dcsReadTimeout
  /-- PANEL_SEQUENCE_WAIT (R631): A panel sequence's wait ends and the next step runs. -/
  | panelSequenceWait
  /-- AUDIO_SAMPLE_PERIOD (R637): The output stage takes one stereo sample from the FIFO. -/
  | audioSamplePeriod
  /-- MIX_SAMPLE (R640): The mixer computes one sample from all sources. -/
  | mixSample (lateV : BitVec 24) (lateS : BitVec 2)
  /-- MIC_SAMPLE (R652): A decimated microphone sample is formed. -/
  | micSample (mic : Fin 2) (bs : BitVec 64)
  /-- I2S_INPUT_FRAME (R653): An I2S/TDM input frame is received. -/
  | i2sInputFrame (slots : List Long) (rate : Fin 65536)
  /-- I2S_CLOCK_LOST (R676): Missing or off-rate slave clock silences I2S. -/
  | i2sClockLost
  /-- I2S_CLOCK_RECOVERED (R676): I2S restarts after 10 ms of valid clock. -/
  | i2sClockRecovered
  /-- MIC_STUCK (R677): 1,024 equal bits mark a microphone stuck. -/
  | micStuck (mic : Fin 2)
  /-- BRIDGE_OVERCURRENT (R678): The bridge trips above 2.5 A. -/
  | bridgeOvercurrent
  /-- BRIDGE_RESTART (R678): The bridge ramps in 100 ms after a trip. -/
  | bridgeRestart
  /-- VOICE_KEY_ON (R646): KEY_ON starts a sample voice. -/
  | voiceKeyOn (k : CoreId) (v : Fin 24) (ctrl : Word)
  /-- VOICE_KEY_OFF (R646): KEY_OFF releases a sample voice. -/
  | voiceKeyOff (k : CoreId) (v : Fin 24) (ctrl : Word)
  /-- TONE_KEY_ON (R647): KEY_ON starts a tone voice. -/
  | toneKeyOn (k : CoreId) (n : Fin 8) (ctrl : Word)
  /-- TONE_KEY_OFF (R647): KEY_OFF releases a tone voice. -/
  | toneKeyOff (k : CoreId) (n : Fin 8) (ctrl : Word)
  /-- SOUND_HOLD_RELEASE (R683): HOLD 0 releases staged sound writes at the time AT selects. -/
  | soundHoldRelease (k : CoreId) (at_ : Fin 4)
  /-- ASC_LO_READ (R683): Reading ASC_LO snapshots the sample counter. -/
  | ascLoRead (k : CoreId)
  /-- TOUCH_SAMPLE (R684): One touch sample is measured and classified. -/
  | touchSample (pen : Bool) (x1 x2 x3 y1 y2 y3 z1 z2 : Fin 4096)
  /-- KEY_SCAN (R690): The key matrix and GPIO inputs are sampled and debounced. -/
  | keyScan (keys : BitVec 36) (pins : BitVec 24)
  /-- HOME_KEY_PRESS (R693): Home key pressed raises HOME. -/
  | homeKeyPress
  /-- HOME_KEY_RELEASE (R693): Home key released raises HOME. -/
  | homeKeyRelease
  /-- HOME_KEY_HOLD (R693): Home key held 2 s raises HOME. -/
  | homeKeyHold
  /-- AUX_CONVERSION (R702): An auxiliary input is converted. -/
  | auxConversion (ch : Fin 4) (code : Fin 4096)
  /-- RUMBLE_DURATION_END (R701): Rumble stops at the end of its duration. -/
  | rumbleDurationEnd
  /-- RUMBLE_TIMEOUT (R701): Rumble stops after RUMBLE_MS of continuous duty. -/
  | rumbleTimeout
  /-- I2C_STRETCH_TIMEOUT (R705): Clock stretching beyond STRETCH_MS ends the transfer. -/
  | i2cStretchTimeout (b : Fin 2) (n : Byte) (recovers : Bool)
  /-- UART_RX_BYTE (R708): A received byte is stored with error flags. -/
  | uartRxByte (b : Byte) (framing parity brk : Bool)
  /-- UART_TX_BYTE (R707): A byte is sent from the TX FIFO. -/
  | uartTxByte (cts : Bool)
  /-- UART_DATA_WRITE (R707): Writing UART_DATA pushes the TX FIFO. -/
  | uartDataWrite (k : CoreId) (v : Byte)
  /-- UART_DATA_READ (R707): Reading UART_DATA pops the RX FIFO. -/
  | uartDataRead (k : CoreId)
  /-- PORT_PRESENCE_DETECT (R725): 64 valid IDLE sets move a DOWN port to TRAIN. -/
  | portPresenceDetect (q : LinkPortId)
  /-- TRAIN_LCW (R726): A TRAIN control word sets rate and readiness. -/
  | trainLcw (q : LinkPortId) (a b : Byte)
  /-- TRAIN_SYMBOL_COUNT (R726): 4,096 clean symbols make a side ready. -/
  | trainSymbolCount (q : LinkPortId)
  /-- TRAINING_HOLDOFF_END (R725): The 100 ms down period after failed training ends. -/
  | trainingHoldoffEnd (q : LinkPortId)
  /-- HELLO_RECEIVE (R725): HELLO accepted moves to AUTH or JOINED. -/
  | helloReceive (q : LinkPortId) (serial : BitVec 64) (id : Word) (auth : Bool)
  /-- AUTH_CHAL (R768): The initiator's challenge is received. -/
  | authChal (q : LinkPortId) (nonce : BitVec 128) (serial : BitVec 64)
  /-- AUTH_RESP (R768): The responder's nonce and MAC are received. -/
  | authResp (q : LinkPortId) (nonce : BitVec 128) (serial : BitVec 64) (mac : BitVec 128)
  /-- AUTH_FIN (R768): The initiator's MAC is received. -/
  | authFin (q : LinkPortId) (mac : BitVec 128)
  /-- AUTH_TIMEOUT (R768): No answer within 10 ms quarantines the port. -/
  | authTimeout (q : LinkPortId)
  /-- QUARANTINE_EXPIRY (R725): A quarantined port returns to DOWN. -/
  | quarantineExpiry (q : LinkPortId)
  /-- ACK_LCW (R731): An ACK releases replay buffers. -/
  | ackLcw (q : LinkPortId) (seq : Byte)
  /-- NAK_LCW (R731): A NAK retransmits from the expected SEQ. -/
  | nakLcw (q : LinkPortId) (seq : Byte)
  /-- CREDIT_LCW (R733): A CREDIT grants VC buffers. -/
  | creditLcw (q : LinkPortId) (vc : Fin 4) (n : Byte) (full : Bool)
  /-- DEPART_LCW (R728): A DEPART takes the port to DOWN. -/
  | departLcw (q : LinkPortId) (cause : Byte)
  /-- SYMBOL_ERROR (R724): A symbol error is counted, retraining after 256 in 1 ms. -/
  | symbolError (q : LinkPortId)
  /-- PRESENCE_LOSS (R728): No valid symbol for 10 µs takes the port DOWN and reroutes. -/
  | presenceLoss (q : LinkPortId)
  /-- RETRANSMIT_TIMEOUT (R731): No ACK for 20 µs retransmits. -/
  | retransmitTimeout (q : LinkPortId)
  /-- ACK_DELAY_EXPIRY (R731): An ACK is sent 2 µs after an unacknowledged packet. -/
  | ackDelayExpiry (q : LinkPortId)
  /-- CREDIT_STATE_REPEAT (R772): Full credit state is repeated every 100 µs. -/
  | creditStateRepeat (q : LinkPortId)
  /-- LINK_PACKET_RECEIVE (R731): A packet is checked, acknowledged and delivered or forwarded. -/
  | linkPacketReceive (q : LinkPortId) (bytes : List Byte) (aborted : Bool)
  /-- TOPO_ADVERTISEMENT (R735): A TOPO advertisement is received and may be adopted. -/
  | topoAdvertisement (q : LinkPortId) (pri : Byte) (serial : BitVec 64) (hops : Word)
  /-- TOPO_ADVERTISE_TIMER (R735): Every 10 ms a TOPO advertisement is sent. -/
  | topoAdvertiseTimer
  /-- ADVERTISEMENT_EXPIRY (R735): An unrefreshed advertisement is dropped after 30 ms. -/
  | advertisementExpiry (q : LinkPortId)
  /-- ROOT_ELECTION_TIMEOUT (R735): No better advertisement for 50 ms makes the node root. -/
  | rootElectionTimeout
  /-- GRID_ID_OFFER (R737): A neighbour's ID offer sets or conflicts with the grid ID. -/
  | gridIdOffer (q : LinkPortId) (at_ : LinkPortId) (id : Word)
  /-- ID_REQUEST (R738): The root assigns an ID to a requesting serial. -/
  | idRequest (q : LinkPortId) (serial : BitVec 64)
  /-- ID_REPLY (R738): A node receives its assigned ID. -/
  | idReply (q : LinkPortId) (serial : BitVec 64) (id : Option Word)
  /-- TIME_EXCHANGE_TIMER (R745): Every 32 ms a TIME request is sent to the parent. -/
  | timeExchangeTimer
  /-- TIME_REQUEST (R745): A parent answers a TIME request with t2 and t3. -/
  | timeRequest (q : LinkPortId) (t2 t3 : Nat)
  /-- TIME_REPLY (R745): A child computes offset and delay and disciplines system time. -/
  | timeReply (t1 t2 t3 t4 : Nat)
  /-- BEAT_RECEIVE (R746): A BEAT from the root is stored for delivery. -/
  | beatReceive (q : LinkPortId) (src : Word) (frame : Long) (time : Nat) (asc : Long) (htotal vtotal : Word) (pclk : Long) (lag : Byte) (payload : List Byte)
  /-- MGMT_RECEIVE (R245): A management record from a remote node enters the link path. -/
  | mgmtReceive (q : LinkPortId) (node : Word) (record : BitVec 256) (poison authentic : Bool)
  /-- PHASE_JUMP (R748): The generator jumps k lines for alignment. -/
  | phaseJump
  /-- HOLDOVER_EXPIRY (R751): 10 s without a route makes the node FREE. -/
  | holdoverExpiry
  /-- CHANNEL_ENABLE (R757): Link channel EN 1 sends OPEN. -/
  | channelEnable (k : CoreId) (ch : Fin 32) (bulk mcast : Bool)
  /-- CHANNEL_DISABLE (R762): Link channel EN 0 closes it and sends CLOSE. -/
  | channelDisable (k : CoreId) (ch : Fin 32) (bulk mcast : Bool)
  /-- TX_PROD_WRITE (R758): The link TX doorbell queues messages. -/
  | txProdWrite (k : CoreId) (ch : Fin 32) (v : Word)
  /-- LINK_MESSAGE_SEND (R758): A message is sent when a credit is held. -/
  | linkMessageSend (ch : LinkChanId)
  /-- RX_CONS_WRITE (R757): The RX consumer advance may announce credits. -/
  | rxConsWrite (k : CoreId) (ch : Fin 32) (v : Word)
  /-- CREDIT_ANNOUNCE_TIMER (R757): Free slots are re-announced every 1 ms. -/
  | creditAnnounceTimer (ch : LinkChanId)
  /-- DATA_RECEIVE (R758): A channel message is written into the RX ring. -/
  | dataReceive
  /-- CTRL_OPEN (R757): OPEN sets the channel's credits. -/
  | ctrlOpen (node : Word) (ch : LinkChanId) (free : Fin 257)
  /-- CTRL_CLOSE (R762): CLOSE sets PEER_CLOSED. -/
  | ctrlClose (node : Word) (ch : LinkChanId)
  /-- CTRL_CREDIT (R757): A channel credit announcement. -/
  | ctrlCredit (node : Word) (ch : LinkChanId) (free : Fin 257)
  /-- CTRL_NAK (R762): A NAK (UNREACHABLE, STALLED, CLOSED, DENIED, INTEGRITY) is received. -/
  | ctrlNak (about : NakFor) (why : NakCause)
  /-- CHANNEL_STALL_TIMEOUT (R760): A message blocked 100 ms drops the TX ring. -/
  | channelStallTimeout (ch : LinkChanId)
  /-- BLOCK_RECEIVE (R764): A block transfer packet is checked and written. -/
  | blockReceive (node : Word) (group : Option (Fin 64)) (x : Fin 8) (first : Option (Long × Long)) (last : Option Long) (data : List Byte) (poison : Bool)
  /-- BLOCK_OK_RECEIVE (R765): BLOCK_OK completes LNK.BLOCK. -/
  | blockOkReceive (node : Word) (x : Fin 8)
  /-- BLOCK_TIMEOUT (R765): No block answer in 1 s. -/
  | blockTimeout
  /-- REMOTE_ANSWER_RECEIVE (R766): A remote acceptance, result or completion arrives for LNK.REMOTE. -/
  | remoteAnswerReceive (node : Word) (answer : RemoteAnswer)
  /-- REMOTE_TIMEOUT (R766): No remote answer within TMO. -/
  | remoteTimeout
  /-- SERVICE_DURATION_END (R808): The service token's minutes end SERVICE. -/
  | serviceDurationEnd
  /-- NONCE_EXPIRY (R795): The outstanding nonce expires after 60 s. -/
  | nonceExpiry
  /-- SHADOW_ROTATE (R829): The spare begins shadowing the next core. -/
  | shadowRotate
  /-- SELF_TEST_COMPLETE (R833): Self-test outcome decides migration or retirement. -/
  | selfTestComplete (coreOk spareOk : Bool)
  /-- UNIT_RESET_TIMEOUT (R821): A unit not reset in 10 ms stays pegged. -/
  | unitResetTimeout (unit : Word)
  /-- TREND_HOURLY (R848): An hourly trend record is formed. -/
  | trendHourly (vcore : Word) (tj : Int) (slack : Byte)
  /-- TREND_MONTHLY (R848): A monthly trend record is formed and stored. -/
  | trendMonthly
  /-- REGISTER_WRITE (R865): A write to a window register with no row of its own. -/
  | registerWrite (k : CoreId) (off v : Word)
  /-- AUDIO_SYNTH_LOCK (R71): The audio synthesiser completes its lock or relock, and the audio output resumes behind a 1 ms ramp (and ASC starts at first lock). -/
  | audioSynthLock
  /-- VCORE_FOLLOW_RECOVERY (R72): The VCORE output comes back within 10 mV of its target, ending the governor's hold of R72. -/
  | vcoreFollowRecovery (out : Fin 256)
  /-- I2C_TRANSFER_END (R704): An I2C transfer ends with STOP after its last byte or a NACK, completing IO.I2C and asserting the port's service source. -/
  | i2cTransferEnd (b : Fin 2) (e : I2cEnd)
  /-- SPI_TRANSFER_END (R709): An SPI controller transfer of LEN bytes ends, chip select rises, IO.SPI completes and the SPI service source asserts. -/
  | spiTransferEnd (data : List Byte)
  /-- USB_COMMAND_RECORD (R242): A whole 32-byte command record arrives on the USB bulk OUT endpoint and takes the next USB slot. -/
  | usbCommandRecord (bytes : List Byte)
  /-- USB_STANDARD_REQUEST (R714): A supported EP0 standard request such as GET_DESCRIPTOR or SET_CONFIGURATION is answered, a configuration restarting the slot numbering of R242. -/
  | usbStandardRequest (q : UsbRequest)
  /-- TEST_PIN_HIGH (R871): The TEST pin reads high and Suken is held in power-on reset while it stays high. -/
  | testPinHigh (high : Bool)
deriving DecidableEq, Repr

end Sys2Proof
end

