-- ==== Sys2Proof/Machine/State.lean ====
section
/-! DEFINITION. The state of the machine, its faults and refusals, and the state after reset. -/

namespace Sys2Proof.Machine

/-- Why the machine stops with a fault. No rule of the spec stops the block, so nothing raises one. -/
inductive Fault where
  /-- Raised by nothing: the block has no stop of its own. Safe. -/
  | none
deriving DecidableEq, Repr

/-- Why a command has no meaning. -/
inductive Refusal where
  /-- The command named has no meaning yet. Raised by exec only. Safe. -/
  | notModelled (mnemonic : String)
  /-- A steward extension executed on the steward core: its effect is not published (R276). Safe. -/
  | unpublishedExtension
deriving DecidableEq, Repr

/-- What the board and the package fix (R3, R4, R13). -/
structure Board where
  /-- SK40-Q176 rather than SK40-B289. -/
  q176 : Bool := false
  /-- The core designated as spare (R148). -/
  spareCore : Nat := 5
deriving DecidableEq, Repr, Inhabited

/-- P0's map: banks 0x00 to 0x07 are steward private SRAM, which stands outside the physical map at the pseudo-frames 0xF000 to 0xF007,
and bank 0xFF is its window. -/
def stewardMap : List (Nat × MapEntry) :=
  ((List.range 8).map fun b => (b, { frame := 0xF000 + b, v := true, r := true, w := true, x := true })) ++ [(0xFF, MapEntry.ownWindow)]

/-- The answer of the latest MEMORY_REQUEST: the bytes a read delivered (model's own). -/
structure MemReply where
  bytes : List PByte := []
  refused : Bool := false
deriving DecidableEq, Repr, Inhabited

/-- Everything that changes as the chip runs, but for the queue. -/
structure Chip where
  board : Board := {}
  clk : Clock := {}
  beam : Beam := {}
  gov : Gov := {}
  pwr : Power := {}
  lint : LintLog := {}
  units : UnitTable := {}
  /-- Fired edges that wait for their arbitration (R372). -/
  edges : List Edge := []
  hmp : Vector Hmp 7 := Vector.replicate 7 {}
  parts : Vector Part 7 := (Vector.replicate 7 {}).set 0 { st := .running, rights := BitVec.allOnes 7, map := stewardMap }
  own : Owners := {}
  ownRamp : List OwnRamp := []
  focus : Nat := 0
  /-- PART.FOCUS commands that wait for the frame start (R181): handle and partition. -/
  focusPending : List (Option Long × Nat) := []
  /-- Acceptance sequence number (R210). -/
  seq : Nat := 0
  cmds : List Cmd := []
  mbx : Vector GMbx 7 := Vector.replicate 7 {}
  host : HostMbx := {}
  usb : UsbPath := {}
  linkRecs : List LinkRec := []
  linkCpls : List LinkCpl := []
  /-- Result packets' next slot index of the link path (Table 04.4 SLOT). -/
  linkSlot : Nat := 0
  /-- The steward is down between step 1 and step 4 of a warm restart (R837). -/
  stewDown : Bool := false
  /-- CONTROL consent of the host SPI, USB and link paths (R252). -/
  consent : Vector Bool 3 := Vector.replicate 3 false
  cores : Vector Core 7 := (Vector.replicate 7 {}).set 6 { run := .running }
  mem : Mem := {}
  diag : Vector Diag 7 := Vector.replicate 7 {}
  spool : Vector SpoolCh 8 := Vector.replicate 8 {}
  lyr : Lyr := {}
  lyrParts : Vector LyrPart 7 := Vector.replicate 7 {}
  cmp : CmpSet := {}
  /-- Composition settings of the frame whose line 0 has opened. -/
  cmpNext : Option CmpSet := none
  /-- Changes that wait for the opening for line 0, and composition changes that wait for the frame start behind it. -/
  frameQ : List Queued := []
  cmpTaken : List Queued := []
  scan : Scan := {}
  snd : Sound := {}
  inp : Input := {}
  link : Link := {}
  vlt : Vault := {}
  svc : Service := {}
  fuses : Fuses := {}
  /-- Fuses blown by the running command, in order (model's own). -/
  burns : List Burn := []
  /-- The latest completion formed (model's own). -/
  lastCpl : Option Cpl := none
  memReply : MemReply := {}
  /-- How many free values have been drawn (model's own). -/
  freeCnt : Nat := 0
deriving DecidableEq, Repr

/-- The state. -/
structure State where
  chip : Chip := {}
  pending : List Instr := []
deriving DecidableEq, Repr

/-- The machine after reset. -/
def State.reset : State := {}

end Sys2Proof.Machine
end

