-- ==== Sys2Proof/Machine/Ops.lean ====
section
/-! DEFINITION. Shared operations: free values, the lint log, fired events, unit registers and the partition map. -/

namespace Sys2Proof.Machine

/-- What a meaning answers. -/
abbrev Out := Host.Outcome State Fault Refusal

/-! ### One-time programmable bits (R778, R782, R801) -/

/-- What blowing a fuse leaves: an empty slot takes a key once, a slot is destroyed for good, a count and the floor only rise. -/
def Fuses.burn (f : Fuses) : Burn → Fuses
  | .maker => { f with maker := true }
  | .field => { f with field := true }
  | .scrap => { f with scrap := true }
  | .entry => { f with entries := min 8 (f.entries + 1) }
  | .exit => { f with exits := min 8 (f.exits + 1) }
  | .floor n => { f with floor := max f.floor n }
  | .load i s =>
    if (f.slots.toList.getD i { st := .destroyed }).st = .empty then { f with slots := vset f.slots i { s with st := .loaded } } else f
  | .destroy i good =>
    let old := f.slots.toList.getD i { st := .destroyed }
    let st : SlotSt := if good then .destroyed else .unusable
    if old.st = .empty ∨ old.st = .loaded then { f with slots := vset f.slots i { old with st := st, key := .none } } else f

/-- Blows a fuse. -/
def burnNow (b : Burn) (c : Chip) : Chip := { c with burns := c.burns ++ [b], fuses := c.fuses.burn b }

/-- The fuses after a command: those before it with every blown one blown. -/
def settleFuses (old : Fuses) (c : Chip) : Chip := { c with fuses := c.burns.foldl Fuses.burn old, burns := [] }

/-- A meaning that changes the chip: it always answers a next state, in which no fuse has been restored. -/
def onAlways (f : Chip → Chip) (s : State) : Out := .next { s with chip := settleFuses s.chip.fuses (f s.chip) }

/-- The chip is off, held in reset or in retention: its state stands still (R98, R118, R119). -/
def asleep (c : Chip) : Bool := c.pwr.phase == .off || c.pwr.phase == .waitVbat || c.pwr.phase == .retention

/-- A meaning that changes the chip while it is awake. -/
def onChip (f : Chip → Chip) (s : State) : Out := onAlways (fun c => if asleep c then c else f c) s

/-- A meaning that changes the chip while it is awake, but not before a resume has released it (R106). -/
def onRun (f : Chip → Chip) (s : State) : Out := onChip (fun c => if c.pwr.phase = .resuming then c else f c) s

/-- Draws a free value of 64 bits: nothing constrains it. -/
def freeNat (c : Chip) : Nat × Chip :=
  ((Config.freeValue c.freeCnt).toNat, { c with freeCnt := c.freeCnt + 1 })

/-- The present element of a partition array. -/
def partOf (c : Chip) (p : Nat) : Part := (c.parts.toList.getD p {})

/-- Changes one partition. -/
def modPart (p : Nat) (f : Part → Part) (c : Chip) : Chip := { c with parts := vset c.parts p (f (partOf c p)) }

/-- One core; an index beyond the cores reads a core in reset. -/
def coreOf (c : Chip) (k : Nat) : Core := c.cores.toList.getD k {}

/-- Changes one core. -/
def modCore (k : Nat) (f : Core → Core) (c : Chip) : Chip := { c with cores := vset c.cores k (f (coreOf c k)) }

/-! ### Events (R366 to R372) -/

/-- Fires an edge of a source of a partition with its DATA; it waits for its arbitration. -/
def fire (p src data : Nat) (c : Chip) : Chip := { c with edges := c.edges ++ [⟨p, src, .one data⟩] }

/-- Fires an edge of a source in every running partition, P0 included (R92, R95, R452). -/
def fireRunning (src data : Nat) (c : Chip) : Chip :=
  (List.range 7).foldl (fun c p => if (partOf c p).st = .running then fire p src data c else c) c

/-- DATA of a SERVICE event (R892). -/
def serviceData (unit kind outcome : Nat) : Nat := unit + 2 ^ 16 * kind + 2 ^ 24 * outcome

/-- Fires SERVICE (source 60) in P0 (R892). -/
def fireService (unit kind outcome : Nat) (c : Chip) : Chip := fire 0 60 (serviceData unit kind outcome) c

/-! ### The lint log (R843 to R846) -/

/-- Ring places of the log that hold data, newest first. -/
def lintOrder (l : LintLog) : List Nat :=
  (List.range l.entries.length).map fun k => (l.next + 256 - 1 - k) % 256

/-- The place of the newest entry of a code and unit. -/
def lintNewest (l : LintLog) (code unit : Nat) : Option Nat :=
  (lintOrder l).find? fun i => (l.entries.getD i {}).code == code && (l.entries.getD i {}).unit == unit

/-- One more occurrence of an entry (R844). -/
def LintEntry.again (now : Nat) (e : LintEntry) : LintEntry :=
  if e.count = 65535 then { e with saturated := true, last := now } else { e with count := e.count + 1, last := now }

/-- Writes a new entry at NEXT (R844). -/
def lintWrite (e : LintEntry) (l : LintLog) : LintLog :=
  if l.entries.length < 256 then { l with entries := l.entries ++ [e], next := (l.next + 1) % 256 }
  else { l with entries := l.entries.set l.next e, next := (l.next + 1) % 256, overwritten := satAdd 0xFFFFFFFF l.overwritten 1 }

/-- Logs an occurrence of a lint code for a unit: it merges into the pair's newest entry while that entry is younger than
1 s, and is a new entry with the LINT event otherwise; the lifetime counter counts it either way (R844, R846).
`boot` marks an entry of the boot ROM (Table 17.5). The DATA of the LINT event is stated nowhere and is a free value. -/
def lintAs (boot : Bool) (code unit origin detail : Nat) (c : Chip) : Chip :=
  let l := { c.lint with counters := sput 0 c.lint.counters code (satAdd 0xFFFFFFFF (sget 0 c.lint.counters code) 1) }
  match lintNewest l code unit with
  | some i =>
    if c.clk.qtime < (l.entries.getD i {}).first + 24000000 then
      { c with lint := { l with entries := l.entries.set i ((l.entries.getD i {}).again c.clk.qtime) } }
    else lintNew l
  | none => lintNew l
where
  lintNew (l : LintLog) : Chip :=
    let e : LintEntry :=
      { code := code, unit := unit, origin := origin, boot := boot, first := c.clk.qtime, last := c.clk.qtime,
        frame := c.beam.frame, detail := detail }
    let (d, c) := freeNat c
    fire 0 58 (d % 2 ^ 32) { c with lint := lintWrite e l }

/-- Logs an occurrence outside the boot ROM. -/
def lint (code unit origin detail : Nat) (c : Chip) : Chip := lintAs false code unit origin detail c

/-- UNIT of an occurrence whose unit has no unit ID: 0x0E00 plus the code's block (R845). -/
def blockUnit (code : Nat) : Nat := 0x0E00 + code / 256

/-- Logs an occurrence that names its block, with an origin and DETAIL. -/
def lintBlock (code origin detail : Nat) (c : Chip) : Chip := lint code (blockUnit code) origin detail c

/-! ### Unit registers (R814 to R818) -/

/-- A unit: kind and index of Table 17.1. -/
structure UnitId where
  kind : Nat
  index : Nat
deriving DecidableEq, Repr, Inhabited

/-- The 16-bit unit ID (Table 17.1). -/
def UnitId.code (u : UnitId) : Nat := 256 * u.kind + u.index

/-- The unit that an ID names. -/
def unitOfCode (n : Nat) : UnitId := ⟨n / 256 % 256, n % 256⟩

/-- The unit ID of a core; the steward core has none and names the Kuval block (R845). -/
def coreUnit (k : Nat) : Nat := if k < 6 then 0x0100 + k else 0x0E05

/-- The register of a unit, if its kind and index exist. -/
def unitReg? (c : Chip) (u : UnitId) : Option UnitReg :=
  match u.kind with
  | 1 => c.units.cores.toList[u.index]?
  | 2 => c.units.macros.toList[u.index]?
  | 3 => c.units.psram.toList[u.index]?
  | 4 => c.units.spool.toList[u.index]?
  | 5 => c.units.ports.toList[u.index]?
  | 6 => c.units.layers.toList[u.index]?
  | 7 => c.units.voices.toList[u.index]?
  | 8 => c.units.tones.toList[u.index]?
  | 9 => c.units.inputs.toList[u.index]?
  | 10 => c.units.links.toList[u.index]?
  | 11 => c.units.flash.toList[u.index]?
  | _ => none

/-- Stores the register of a unit. -/
def setUnitReg (u : UnitId) (r : UnitReg) (c : Chip) : Chip :=
  let t := c.units
  let t := match u.kind with
    | 1 => { t with cores := vset t.cores u.index r }
    | 2 => { t with macros := vset t.macros u.index r }
    | 3 => { t with psram := vset t.psram u.index r }
    | 4 => { t with spool := vset t.spool u.index r }
    | 5 => { t with ports := vset t.ports u.index r }
    | 6 => { t with layers := vset t.layers u.index r }
    | 7 => { t with voices := vset t.voices u.index r }
    | 8 => { t with tones := vset t.tones u.index r }
    | 9 => { t with inputs := vset t.inputs u.index r }
    | 10 => { t with links := vset t.links u.index r }
    | 11 => { t with flash := vset t.flash u.index r }
    | _ => t
  { c with units := t }

/-- The state of a unit; a unit that does not exist reads ABSENT. -/
def unitState (c : Chip) (u : UnitId) : UnitState := ((unitReg? c u).map (·.st)).getD .absent

/-- A unit is pegged (R820). -/
def isPegged (c : Chip) (kind index : Nat) : Bool := unitState c ⟨kind, index⟩ == .pegged

/-- ADMIT as Table 17.2 gives it for a state. -/
def UnitState.admits : UnitState → Bool
  | .active => true
  | _ => false

/-- Changes the state of a unit: GEN steps when the state differs, ADMIT follows Table 17.2, and lint 0x1101 records
the old and new state in DETAIL (R815, R817, Table 17.8). -/
def setUnitState (u : UnitId) (st : UnitState) (c : Chip) : Chip :=
  match unitReg? c u with
  | none => c
  | some r =>
    if r.st = st then c
    else lint 0x1101 u.code 0xFF (r.st.code + 256 * st.code)
      (setUnitReg u { st, gen := (r.gen + 1) % 256, admitBit := st.admits } c)

/-- Pegs a unit in any state but ABSENT and RETIRED (R819); a unit already pegged stays as it is. -/
def pegUnit (u : UnitId) (c : Chip) : Chip :=
  match unitState c u with
  | .absent => c
  | .retired => c
  | _ => setUnitState u .pegged c

/-- A request of a unit whose ADMIT is 0 reaches the fabric: the unit is pegged at once (R818). -/
def pegTraffic (u : UnitId) (addr : Nat) (c : Chip) : Chip :=
  fireService u.code 2 0 (lint 0x1104 u.code 0xFF addr (setUnitState u .pegged c))

/-! ### Ownership and local numbers (R147, R149) -/

/-- The owners of the units of a kind, by hardware index. -/
def ownVec (c : Chip) : UnitKind → List Nat
  | .core => c.own.cores.toList
  | .layer => c.own.layers.toList
  | .sprite => c.own.sprites.toList
  | .voice => c.own.voices.toList
  | .tone => c.own.tones.toList
  | .input => c.own.inputs.toList
  | .spool => c.own.spool.toList
  | .link => c.own.links.toList

/-- The owner of a unit. -/
def ownerOf (c : Chip) (k : UnitKind) (i : Nat) : Nat := (ownVec c k).getD i 0

/-- The hardware indices of the units of a kind that a partition owns, ascending. -/
def ownedUnits (c : Chip) (p : Nat) (k : UnitKind) : List Nat :=
  (List.range (ownVec c k).length).filter fun i => ownerOf c k i == p

/-- The unit a command names: a guest by local number among its own (R149), P0 by hardware index. -/
def unitOfLocal (c : Chip) (p : Nat) (k : UnitKind) (n : Nat) : Option Nat :=
  if p = 0 then (if n < (ownVec c k).length then some n else none) else (ownedUnits c p k)[n]?

/-- The unit that a window of a partition shows at a local number: one that the partition owns. -/
def windowUnit (c : Chip) (p : Nat) (k : UnitKind) (n : Nat) : Option Nat :=
  match unitOfLocal c p k n with
  | some i => if ownerOf c k i = p then some i else none
  | none => none

/-- The local number of a unit in its owner's view. -/
def localOf (c : Chip) (k : UnitKind) (i : Nat) : Nat :=
  let p := ownerOf c k i
  if p = 0 then i else ((ownedUnits c p k).filter (· < i)).length

/-! ### The partition map (R153 to R156) -/

/-- The right an access needs. -/
inductive Right where
  | r | w | x
deriving DecidableEq, Repr

/-- The entry of a bank. -/
def mapEntry (c : Chip) (p bank : Nat) : MapEntry := sget {} (partOf c p).map bank

/-- An entry grants a right. -/
def MapEntry.grants (e : MapEntry) : Right → Bool
  | .r => e.r
  | .w => e.w
  | .x => e.x

/-- Every byte of a range of Kuval addresses lies in a valid memory bank that grants the right (R156); the range wraps at
2^24 and window banks do not serve it. -/
def kRangeOk (c : Chip) (p : Nat) (right : Right) (ka n : Nat) : Bool :=
  (List.range ((ka % 65536 + n + 65535) / 65536)).all fun i =>
    let e := mapEntry c p ((ka / 65536 + i) % 256)
    e.v && !e.window && e.grants right

/-- The first address of a range that the map refuses, window banks included (R475, R491). -/
def firstRefused (c : Chip) (p : Nat) (right : Right) (ka n : Nat) : Option Nat :=
  (List.range ((ka % 65536 + n + 65535) / 65536)).findSome? fun i =>
    let e := mapEntry c p ((ka / 65536 + i) % 256)
    if e.v && !e.window && e.grants right then none
    else some (if i = 0 then ka % 2 ^ 24 else (ka / 65536 + i) % 256 * 65536)

/-- The physical address that a Kuval address reaches (R154). -/
def kPhys (c : Chip) (p ka : Nat) : Nat := (mapEntry c p (ka / 65536 % 256)).frame * 65536 + ka % 65536

/-- A partition holds a right of Table 03.3. -/
def hasRight (c : Chip) (p k : Nat) : Bool := p == 0 || (partOf c p).rights.getLsbD k

/-- EXPERT (Table 03.3). -/
def hasExpert (c : Chip) (p : Nat) : Bool := hasRight c p 0

end Sys2Proof.Machine
end

