-- ==== Sys2Proof/Machine/Keys.lean ====
section
/-! DEFINITION. Key slots, the life cycle, key derivation and the verification of signed images (chapter 16). -/

namespace Sys2Proof.Machine

/-! ### The life cycle (R782) -/

/-- The life-cycle states of Table 16.3. -/
inductive Life where
  | blank | maker | field | service | scrap
deriving DecidableEq, Repr, Inhabited

/-- The STATE byte of Table 16.3. -/
def Life.code : Life → Nat
  | .blank => 0 | .maker => 1 | .field => 2 | .service => 3 | .scrap => 4

/-- The life-cycle state that the fuses decode to (Table 16.3). -/
def Fuses.life (f : Fuses) : Life :=
  if f.scrap then .scrap
  else if !f.maker then .blank
  else if !f.field then .maker
  else if f.entries = f.exits + 1 then .service else .field

/-- The life-cycle state of the chip. -/
def lifeOf (c : Chip) : Life := c.fuses.life

/-! ### Slots (R778 to R781, Table 16.2) -/

/-- Slot i; a number beyond 15 names nothing. -/
def slotOf (c : Chip) (i : Nat) : Slot := c.fuses.slots.toList.getD i { st := .unusable }

/-- The bits of USAGE that a class permits (Table 16.2). -/
def usagePermitted (cls : Nat) : Nat :=
  match cls with
  | 1 => 0b0000110
  | 2 => 0b1000001
  | 3 => 0b0000100
  | 4 => 0b0001000
  | 5 => 0b0100000
  | 6 => 0b0010000
  | _ => 0

/-- The states in which Table 16.2 lets a class be used for a USAGE bit. -/
def usableIn (cls use : Nat) (l : Life) : Bool :=
  match cls with
  | 1 => if use = 2 then l == .blank || l == .maker else l == .maker || l == .field || l == .service
  | 2 => l == .maker || l == .field || l == .service
  | 3 => l == .maker || l == .field || l == .service
  | 4 => l == .maker || l == .field
  | 5 => l == .field || l == .service
  | 6 => l == .maker || l == .field || l == .service
  | _ => false

/-- A slot holds a key with a USAGE bit that its class permits and that may be used in a state (R779). -/
def Slot.allows (s : Slot) (use : Nat) (l : Life) : Bool :=
  s.st == .loaded && bit s.usage use && bit (usagePermitted s.cls) use && usableIn s.cls use l

/-- The slots, in ascending order, that hold a class of key usable for a purpose now. -/
def slotsFor (c : Chip) (cls use : Nat) : List Nat :=
  (List.range 16).filter fun i => (slotOf c i).cls == cls && (slotOf c i).allows use (lifeOf c)

/-- The 32 bytes of key material. -/
def KeyMat.bytesOf : KeyMat → List Byte
  | .none => List.replicate 32 0
  | .familySecret => leBytes 32 Config.familySecret.toNat
  | .familyPublic => leBytes 32 Config.familyPublic.toNat
  | .bytes bs => bs

/-- The 32 bytes of a slot. -/
def keyOf (c : Chip) (i : Nat) : List Byte := (slotOf c i).key.bytesOf

/-! ### MACs and derivation (R792, Table 16.6) -/

/-- ASCII bytes. -/
def ascii (s : String) : List Byte := s.toList.map fun ch => BitVec.ofNat 8 ch.toNat

/-- HMAC-SHA-256 as 32 bytes. -/
def hmac (key msg : List Byte) : List Byte := leBytes 32 (Config.hmacSha256 key msg).toNat

/-- HMAC-SHA-256 truncated to its first 16 bytes. -/
def hmac16 (key msg : List Byte) : List Byte := (hmac key msg).take 16

/-- HKDF-SHA-256 with up to 64 bytes of output (RFC 5869). -/
def hkdf (ikm salt info : List Byte) (n : Nat) : List Byte :=
  let prk := hmac salt ikm
  let t1 := hmac prk (info ++ [1])
  (t1 ++ hmac prk (t1 ++ info ++ [2])).take n

/-- The serial, 8 bytes little-endian. -/
def serialBytes (c : Chip) : List Byte := leBytes 8 c.fuses.serial

/-- The key check value of a slot (R781). -/
def kcv (c : Chip) (i : Nat) : Nat :=
  if (slotOf c i).st = .loaded then leNat ((hmac (keyOf c i) (ascii "SUKEN-KCV")).take 4) else 0

/-- HMAC under the node's LINK key, if one is loaded: the lowest-numbered slot (R768). -/
def linkMac (c : Chip) (msg : List Byte) : Option (List Byte) :=
  ((slotsFor c 6 4).head?).map fun i => hmac16 (keyOf c i) msg

/-! ### Encrypted cartridges (R803 to R806) -/

/-- The lowest-numbered CONTENT slot that a title's KEY_ID names, if its key may be used. -/
def contentSlot (c : Chip) (title : Nat) : Option Nat :=
  (slotsFor c 4 3).find? fun i => (slotOf c i).keyId == title % 65536

/-- The counter block for a multiple of 16 in the cartridge (R803). -/
def counterBlock (title o : Nat) : List Byte := leBytes 8 title ++ (leBytes 8 (o / 16)).reverse

/-- AES-128 in counter mode over the 16 bytes at offset o. -/
def ctrBlock (key : List Byte) (title o : Nat) (bs : List Byte) : List Byte :=
  List.zipWith (· ^^^ ·) bs (leBytes 16 (Config.aes128 key (BitVec.ofNat 128 (leNat (counterBlock title o)))).toNat)

/-- A partition may read an encrypted cartridge's frames (R806). -/
def mayDecrypt (c : Chip) (p : Nat) : Bool :=
  lifeOf c != .service &&
    (p == 0 || (hasRight c p 6 && (slotsFor c 4 3).any fun i =>
      (slotOf c i).keyId == c.mem.cartHdr.titleId % 65536 && some i == contentSlot c c.mem.cartHdr.titleId && bit (slotOf c i).partMask p))

/-! ### Signed images (R798, R799) -/

/-- What an image's verification gave. -/
inductive Verdict where
  | good (keyId rollback : Nat) (owner : Bool)
  | bad
deriving DecidableEq, Repr

/-- Verifies an image by its signature block (Table 16.8): `kind` 1 a steward image of a version, 2 a cartridge of a title. -/
def verifyImage (c : Chip) (kind version title : Nat) (img : List Byte) : Verdict :=
  let n := img.length
  let blk := img.drop (n - 128)
  let rollback := pfield blk 0x0C 4
  let keyId := pfield blk 0x08 2
  let form := 256 ≤ n && pfield blk 0 4 == 0x47534B53 && pfield blk 4 2 == 1 && pbyte blk 6 == kind && pzero blk 7 1 && pzero blk 0x0A 2
    && pzero blk 0x1C 36 && decide (rollback ≤ 64) && pfield blk 0x10 4 == version && pfield blk 0x14 8 == title
    && (kind == 1 || rollback == 0)
  let msg := img.take (n - 128) ++ blk.take 64
  let key := (slotsFor c 1 2 ++ slotsFor c 3 2).find? fun i =>
    (slotOf c i).keyId == keyId && Config.ed25519Verify (keyOf c i) msg (blk.drop 64)
  match form, key with
  | true, some i => if kind = 1 ∧ rollback < c.fuses.floor then .bad else .good keyId rollback ((slotOf c i).cls == 3)
  | _, _ => .bad

/-- An image failed its verification: lint 0x1005, whose reason has no code of its own and is a free value. -/
def lintImage (c : Chip) : Chip :=
  let (d, c) := freeNat c
  lintBlock 0x1005 0xFF (d % 2 ^ 32) c

end Sys2Proof.Machine
end

