-- ==== Sys2Proof/Machine/Memory.lean ====
section
/-! DEFINITION. Memory: stored bytes, the SRAM and external codes, poison, merge buffers, the cartridge cache, and accesses through the map (chapter 08). -/

namespace Sys2Proof.Machine

/-! ### Stored bytes -/

/-- What an address that nothing has written holds: flash is erased, every other store is zero. -/
def unlisted (pa : Nat) : Byte := if 0x20000000 ≤ pa ∧ pa < 0x40000000 then 0xFF else 0

/-- The stored byte at a physical address. -/
def Mem.byte (m : Mem) (pa : Nat) : Byte := sget (unlisted pa) m.cells pa

/-- Stores a byte at a physical address. -/
def Mem.setByte (pa : Nat) (b : Byte) (m : Mem) : Mem := { m with cells := sput (unlisted pa) m.cells pa b }

/-- The canonical form of stored bytes: addresses strictly rising, no entry equal to what an unlisted address reads as. -/
def Mem.wf (m : Mem) : Bool := swf unlisted m.cells && swf (fun _ => 0) m.stewCells

/-- n stored bytes from a physical address. -/
def Mem.bytes (m : Mem) (pa n : Nat) : List Byte := (List.range n).map fun i => m.byte (pa + i)

/-- Stores bytes from a physical address. -/
def Mem.setBytes : Nat → List Byte → Mem → Mem
  | _, [], m => m
  | pa, b :: bs, m => Mem.setBytes (pa + 1) bs (m.setByte pa b)

/-- The ranges of Table 08.1, and steward private SRAM, which stands outside that map (`stewardMap`). -/
inductive Region where
  | sram | xmem | cs0 | cs1 | stew | nothing
deriving DecidableEq, Repr

/-- Capacity of external memory in bytes (R429). -/
def Mem.xCapacity (m : Mem) : Nat := if m.xmem = .none then 0 else 4 * m.density * 2 ^ 20

/-- The range a physical address lies in; external memory beyond the fitted capacity holds nothing (R412). -/
def Mem.region (m : Mem) (pa : Nat) : Region :=
  if pa < 0x400000 then .sram
  else if 0x10000000 ≤ pa ∧ pa < 0x10000000 + m.xCapacity then .xmem
  else if 0x20000000 ≤ pa ∧ pa < 0x30000000 then .cs0
  else if 0x30000000 ≤ pa ∧ pa < 0x40000000 then .cs1
  else if 0xF0000000 ≤ pa ∧ pa < 0xF0080000 then .stew
  else .nothing

/-! ### The SRAM code (R416, R417) -/

/-- XOR of the columns of the set bits of a number. -/
def foldColumns : List Nat → Nat → Nat
  | [], _ => 0
  | col :: cs, x => (if x % 2 = 1 then col else 0) ^^^ foldColumns cs (x / 2)

/-- The address fold of a physical address, bits [21:3] (R416). -/
def addrFold (pa : Nat) : Nat := foldColumns Config.addrColumns (pa / 8 % 2 ^ 19)

/-- The address fold of a steward address, bits [18:3] (R419). -/
def stewFold (a : Nat) : Nat := foldColumns Config.addrColumns (a / 8 % 2 ^ 16)

/-- The check byte of a 64-bit word at a fold (R416). -/
def sramCheck (fold data : Nat) : Nat := foldColumns Config.dataColumns data ^^^ fold

/-- The classes of Table 08.4; DATA names its bit. -/
inductive SynClass where
  | clean | check | data (bit : Nat) | poison | ueEven | ueOdd
deriving DecidableEq, Repr

/-- The CLASS code of DARN_STATUS (Table 08.11). -/
def SynClass.code : SynClass → Nat
  | .clean => 0 | .check => 1 | .data _ => 2 | .poison => 3 | .ueEven => 4 | .ueOdd => 5

/-- Number of set bits of a byte. -/
def weight8 (x : Nat) : Nat := ((List.range 8).filter fun i => bit x i).length

/-- Classifies a syndrome (Table 08.4). -/
def synClass (syn : Nat) : SynClass :=
  if syn = 0 then .clean
  else if syn = 0x7F then .poison
  else if weight8 syn = 1 then .check
  else match Config.dataColumns.findIdx? (· == syn) with
    | some j => .data j
    | none => if weight8 syn % 2 = 0 then .ueEven else .ueOdd

/-- Inverts bit j of a word of bytes. -/
def flipBit (bs : List Byte) (j : Nat) : List Byte :=
  bs.modify (j / 8) fun b => b ^^^ BitVec.ofNat 8 (2 ^ (j % 8))

/-- The logical macro of a user SRAM address (R413). -/
def macroOf (pa : Nat) : Nat := pa / 64 % 32

/-- The row of a user SRAM address within its macro (R413). -/
def rowOf (pa : Nat) : Nat := pa / 2048 % 2048

/-- The physical macro that holds a user SRAM address (R414). -/
def Mem.physMacro (m : Mem) (pa : Nat) : Nat := vget m.patch (macroOf pa)

/-! ### What an error leaves behind (R459, Table 08.8, Table 08.11) -/

/-- The lowest bank of a partition that maps a physical frame as memory. -/
def bankOfFrame (c : Chip) (p frame : Nat) : Option Nat :=
  ((partOf c p).map.find? fun e => e.2.v && !e.2.window && e.2.frame == frame).map (·.1)

/-- Raises MEMORY (source 13) in every partition that maps the frame of a physical address, with the line's Kuval address and the kind. -/
def fireMemory (pa kind : Nat) (c : Chip) : Chip :=
  (List.range 7).foldl (fun c p => match bankOfFrame c p (pa / 65536) with
    | some b => fire p 13 (b * 65536 + pa % 65536 / 64 * 64 + kind * 2 ^ 24) c
    | none => c) c

/-- Raises MEMORY for a device event in every partition that has external frames (R437, R442). -/
def fireMemoryDevice (kind : Nat) (c : Chip) : Chip :=
  (List.range 7).foldl (fun c p =>
    if (partOf c p).map.any fun e => e.2.v && !e.2.window && 0x1000 ≤ e.2.frame && e.2.frame < 0x2000 then fire p 13 (kind * 2 ^ 24) c
    else c) c

/-- Counts an error in the diagnostics window of every partition that maps the word (Table 08.11). -/
def noteDiag (pa : Nat) (corrected : Bool) (c : Chip) : Chip :=
  (List.range 7).foldl (fun c p => match bankOfFrame c p (pa / 65536) with
    | some b =>
      let d := vget c.diag p
      let d := { d with errAddr := b * 65536 + pa % 65536 / 8 * 8 }
      let d := if corrected then { d with ceCount := satAdd 0xFFFF d.ceCount 1 } else { d with ueCount := satAdd 0xFFFF d.ueCount 1 }
      { c with diag := vset c.diag p d }
    | none => c) c

/-- Counts a correction at a unit and a word for the Rinse, with lint 0x080E and SERVICE at the sixteenth of a pass and at a
word corrected in two passes running (R459). -/
def noteCorrection (unit word : Nat) (loop : RinseLoop) (c : Chip) : RinseLoop × Chip :=
  let n := sget 0 loop.counts unit + 1
  let again := !loop.words.contains word && loop.lastWords.contains word
  let loop := { loop with counts := sput 0 loop.counts unit n, words := if loop.words.contains word then loop.words else word :: loop.words }
  (loop, if n = 16 ∨ again then fireService unit 1 0 (lint 0x080E unit 0xFF 0 c) else c)

/-- A correction in user or steward SRAM. -/
def noteSramCorrection (unit word : Nat) (c : Chip) : Chip :=
  let (l, c) := noteCorrection unit word c.mem.rinseS c
  { c with mem := { c.mem with rinseS := l, ceCount := satAdd 0xFFFF c.mem.ceCount 1 } }

/-- A correction in external memory. -/
def noteXmemCorrection (unit word : Nat) (c : Chip) : Chip :=
  let (l, c) := noteCorrection unit word c.mem.rinseX c
  { c with mem := { c.mem with rinseX := l, ceCount := satAdd 0xFFFF c.mem.ceCount 1 } }

/-- Changes memory. -/
def modMem (f : Mem → Mem) (c : Chip) : Chip := { c with mem := f c.mem }

/-! ### Reading and writing SRAM words -/

/-- What a word read delivers: 8 bytes, or poison. -/
structure WordRead where
  bytes : List Byte
  poison : Bool
deriving DecidableEq, Repr

/-- A word delivered as poison. -/
def WordRead.bad : WordRead := ⟨List.replicate 8 0, true⟩

/-- The physical macro of an address is pegged or retired: reads deliver poison and writes are ignored (Table 17.3). -/
def macroFenced (c : Chip) (pa : Nat) : Bool :=
  match unitState c ⟨2, c.mem.physMacro pa⟩ with
  | .pegged => true
  | .retired => true
  | _ => false

/-- Reads a stored user SRAM word with correction and write-back as one action (R417, R418). `pa` is word-aligned. -/
def readSram (pa : Nat) (c : Chip) : WordRead × Chip :=
  if macroFenced c pa then (.bad, c)
  else
    let bs := c.mem.bytes pa 8
    let syn := (sget 0 c.mem.syn (pa / 8)).toNat
    let unit := 0x0200 + c.mem.physMacro pa
    let detail := pa / 8 * 8 + 2 ^ 24 * syn
    let fixed (bs' : List Byte) : WordRead × Chip :=
      (⟨bs', false⟩, c |> modMem (fun m => { m.setBytes pa bs' with syn := sdel m.syn (pa / 8) }) |> lint 0x0801 unit 0xFF detail
        |> noteDiag pa true |> fireMemory pa 0 |> noteSramCorrection unit (pa / 8))
    let spoilt : WordRead × Chip :=
      (.bad, c |> modMem (fun m => { m.setBytes pa (List.replicate 8 0) with syn := sins m.syn (pa / 8) 0x7F }) |> lint 0x0802 unit 0xFF detail
        |> noteDiag pa false |> fireMemory pa 1)
    match synClass syn with
    | .clean => (⟨bs, false⟩, c)
    | .check => fixed bs
    | .data j => fixed (flipBit bs j)
    | .poison => (.bad, c)
    | .ueEven => spoilt
    | .ueOdd => spoilt

/-- Writes a whole user SRAM word with its check byte, or its poison encoding (R420, R423). -/
def writeSram (pa : Nat) (w : WordRead) (c : Chip) : Chip :=
  if macroFenced c pa then c
  else if w.poison then modMem (fun m => { m.setBytes pa (List.replicate 8 0) with syn := sins m.syn (pa / 8) 0x7F }) c
  else modMem (fun m => { m.setBytes pa w.bytes with syn := sdel m.syn (pa / 8) }) c

/-! ### Steward private SRAM (R419) -/

/-- The stored byte at a steward address. -/
def Mem.stewByte (m : Mem) (a : Nat) : Byte := sget 0 m.stewCells a

/-- Stores bytes from a steward address. -/
def Mem.setStewBytes : Nat → List Byte → Mem → Mem
  | _, [], m => m
  | a, b :: bs, m => Mem.setStewBytes (a + 1) bs { m with stewCells := sput 0 m.stewCells a b }

/-- Reads a stored steward word with correction and write-back (R417 to R419). `a` is word-aligned. -/
def readStew (a : Nat) (c : Chip) : WordRead × Chip :=
  let bs := (List.range 8).map fun i => c.mem.stewByte (a + i)
  let syn := (sget 0 c.mem.stewSyn (a / 8)).toNat
  let detail := a + 2 ^ 24 * syn
  let fixed (bs' : List Byte) : WordRead × Chip :=
    (⟨bs', false⟩, c |> modMem (fun m => { m.setStewBytes a bs' with stewSyn := sdel m.stewSyn (a / 8) }) |> lint 0x0801 0x0E08 0xFF detail
      |> noteSramCorrection 0x0E08 (2 ^ 20 + a / 8))
  let spoilt : WordRead × Chip :=
    (.bad, c |> modMem (fun m => { m.setStewBytes a (List.replicate 8 0) with stewSyn := sins m.stewSyn (a / 8) 0x7F }) |> lint 0x0802 0x0E08 0xFF detail)
  match synClass syn with
  | .clean => (⟨bs, false⟩, c)
  | .check => fixed bs
  | .data j => fixed (flipBit bs j)
  | .poison => (.bad, c)
  | .ueEven => spoilt
  | .ueOdd => spoilt

/-- Writes bytes within one steward word; a partial store into a poisoned word leaves it poison (R423). -/
def writeStew (a : Nat) (bs : List Byte) (c : Chip) : Chip :=
  let (w, c) := if bs.length = 8 then (WordRead.mk [] false, c) else readStew (a / 8 * 8) c
  if w.poison then c else modMem (fun m => { m.setStewBytes a bs with stewSyn := sdel m.stewSyn (a / 8) }) c

/-- Poisons the steward word of an address (R423). -/
def poisonStew (a : Nat) (c : Chip) : Chip :=
  modMem (fun m => { m.setStewBytes (a / 8 * 8) (List.replicate 8 0) with stewSyn := sins m.stewSyn (a / 8) 0x7F }) c

/-! ### The external code (R431 to R441) -/

/-- Product in GF(2^8) over 0x11D (R432): Horner over the bits of b, bit 7 first. -/
def gmul (a b : Nat) : Nat :=
  (List.range 8).foldl (fun acc i =>
    let acc2 := acc * 2
    let acc2 := if acc2 ≥ 256 then acc2 ^^^ 0x11D else acc2
    if bit b (7 - i) then acc2 ^^^ a else acc2) 0

/-- A power of the primitive element (R432). -/
def gpow : Nat → Nat
  | 0 => 1
  | n + 1 => gmul 2 (gpow n)

/-- The inverse in GF(2^8): x^254. -/
def ginv (a : Nat) : Nat :=
  let a2 := gmul a a
  let a4 := gmul a2 a2
  let a8 := gmul a4 a4
  let a16 := gmul a8 a8
  let a32 := gmul a16 a16
  let a64 := gmul a32 a32
  let a128 := gmul a64 a64
  gmul a128 (gmul a64 (gmul a32 (gmul a16 (gmul a8 (gmul a4 a2)))))

/-- S0 = c(1) of a codeword given as symbols D0 first (R434). -/
def synd0 (sym : List Nat) : Nat := sym.foldl (· ^^^ ·) 0

/-- S1 = c(α): device Dk sits at position 5 − k (R432, R434). -/
def synd1 (sym : List Nat) : Nat := ((List.range 6).map fun k => gmul (gpow (5 - k)) (sym.getD k 0)).foldl (· ^^^ ·) 0

/-- The check symbols of four data bytes: D4 and D5 so that c(1) = c(α) = 0 when full (R432), D4 their XOR when lean (R433). -/
def xCheck (arr : XArr) (d : List Nat) : Nat × Nat :=
  let x := synd0 d
  match arr with
  | .lean => (x, 0)
  | _ =>
    let d4 := gmul (x ^^^ synd1 d) (ginv 3)
    (d4, x ^^^ d4)

/-- The poison encoding of a codeword (Table 08.5). -/
def xPoison : XArr → List Nat
  | .lean => [0, 0, 0, 0, 0xA5, 0]
  | _ => [0, 0, 0, 0, 1, 1]

/-- What decoding a codeword finds. -/
inductive Decoded where
  | data (d : List Nat)
  | poison
  | corrected (pos : Nat) (d : List Nat)
  | bad
deriving DecidableEq, Repr

/-- The four data symbols. -/
def dataOf (sym : List Nat) : List Nat := sym.take 4

/-- Symbols at every place but those erased agree. -/
def agreeBut (erased : List Nat) (a b : List Nat) : Bool :=
  (List.range 6).all fun k => erased.contains k || a.getD k 0 == b.getD k 0

/-- Decodes a codeword of the full arrangement with the given devices in erasure (R434, R438, R439). -/
def decodeFull (erased : List Nat) (sym : List Nat) : Decoded :=
  match erased with
  | [] =>
    let s0 := synd0 sym
    let s1 := synd1 sym
    if s0 = 0 then (if s1 = 0 then .data (dataOf sym) else if s1 = 3 then .poison else .bad)
    else match (List.range 6).find? fun i => gmul s0 (gpow i) == s1 with
      | some i => .corrected i (dataOf (sym.modify (5 - i) (· ^^^ s0)))
      | none => .bad
  | [k] =>
    if agreeBut [k] sym (xPoison .full) then .poison
    else
      let sym := sym.set k 0
      let e := synd0 sym
      if synd1 sym = gmul e (gpow (5 - k)) then .data (dataOf (sym.set k e)) else .bad
  | [j, k] =>
    if agreeBut [j, k] sym (xPoison .full) && !(j == 4 && k == 5) then .poison
    else
      let sym := (sym.set j 0).set k 0
      let s0 := synd0 sym
      let ej := gmul (synd1 sym ^^^ gmul s0 (gpow (5 - k))) (ginv (gpow (5 - j) ^^^ gpow (5 - k)))
      .data (dataOf ((sym.set j ej).set k (s0 ^^^ ej)))
  | _ => .poison

/-- Decodes a codeword of the lean arrangement (R435, R440). -/
def decodeLean (erased : List Nat) (sym : List Nat) : Decoded :=
  match erased with
  | [] =>
    if synd0 (sym.take 5) = 0 then .data (dataOf sym)
    else if agreeBut [5] sym (xPoison .lean) then .poison else .bad
  | [k] =>
    if agreeBut [k, 5] sym (xPoison .lean) then .poison
    else .data (dataOf (sym.set k (synd0 ((sym.set k 0).take 5))))
  | _ => .poison

/-- The codeword index of a physical address: 16 codewords of 4 bytes per line (R431). -/
def cwIndex (pa : Nat) : Nat := (pa - 0x10000000) / 4

/-- The stored symbols of a codeword: data bytes, and check symbols as computed XOR the stored difference. -/
def Mem.symbols (m : Mem) (cw : Nat) : List Nat :=
  let d := (m.bytes (0x10000000 + 4 * cw) 4).map (·.toNat)
  let (d4, d5) := xCheck m.xmem d
  let diff := sget 0 m.xchk cw
  d ++ [d4 ^^^ diff % 256, d5 ^^^ diff / 256]

/-- Stores the symbols of a codeword. -/
def Mem.setSymbols (cw : Nat) (sym : List Nat) (m : Mem) : Mem :=
  let d := sym.take 4
  let (d4, d5) := xCheck m.xmem d
  let diff := (d4 ^^^ sym.getD 4 0) + 256 * (d5 ^^^ sym.getD 5 0)
  { m.setBytes (0x10000000 + 4 * cw) (d.map (BitVec.ofNat 8)) with xchk := sput 0 m.xchk cw diff }

/-- Stores four data bytes with their check symbols. -/
def Mem.setCodeword (cw : Nat) (d : List Nat) (m : Mem) : Mem :=
  { m.setBytes (0x10000000 + 4 * cw) (d.map (BitVec.ofNat 8)) with xchk := sdel m.xchk cw }

/-- The devices in erasure when a line is read: a resilvered device is present below RESILVER_PTR (R442). -/
def Mem.erasedFor (m : Mem) (line : Nat) : List Nat :=
  (List.range 6).filter fun k => m.erased.toList.getD k false &&
    !(match m.resilver with | some r => r.dev == k && !r.aborted && line < r.ptr | none => false)

/-- More devices are lost than the code carries (R441). -/
def Mem.xDead (m : Mem) : Bool :=
  let n := ((List.range 6).filter fun k => m.erased.toList.getD k false).length
  match m.xmem with
  | .full => 2 < n
  | .lean => 1 < n
  | .none => true

/-- Decodes the sixteen codewords of an external line (R434 to R440): data per codeword, none for poison or uncorrectable
(with true for uncorrectable), and the position of the corrections made. Corrections at two positions spoil the line. -/
def decodeLine (m : Mem) (line : Nat) : List (Option (List Nat) × Bool) × Option Nat :=
  let er := m.erasedFor line
  let ds := (List.range 16).map fun n =>
    let sym := m.symbols (16 * line + n)
    if m.xmem = .lean then decodeLean er sym else decodeFull er sym
  let pos := ds.filterMap fun d => match d with | .corrected i _ => some i | _ => none
  match pos with
  | [] => (ds.map fun d => match d with
      | .data x => (some x, false) | .corrected _ x => (some x, false) | .poison => (none, false) | .bad => (none, true), none)
  | i :: rest =>
    if rest.all (· == i) then
      (ds.map fun d => match d with
        | .data x => (some x, false) | .corrected _ x => (some x, false) | .poison => (none, false) | .bad => (none, true), some i)
    else (ds.map fun _ => (none, true), none)

/-- The word of a line from its decoded codewords: poison when either codeword is (R436). -/
def lineWord (ds : List (Option (List Nat) × Bool)) (i : Nat) : WordRead :=
  match (ds.getD (2 * i) (none, true)).1, (ds.getD (2 * i + 1) (none, true)).1 with
  | some a, some b => ⟨(a ++ b).map (BitVec.ofNat 8), false⟩
  | _, _ => .bad

/-- An uncorrectable codeword lies in word i of a line. -/
def lineWordBad (ds : List (Option (List Nat) × Bool)) (i : Nat) : Bool :=
  (ds.getD (2 * i) (none, true)).2 || (ds.getD (2 * i + 1) (none, true)).2

/-- Stores an external word whole, or its poison encoding (R420, R423). Beyond the code's losses writes are ignored (R441). -/
def writeXmem (pa : Nat) (w : WordRead) (c : Chip) : Chip :=
  if c.mem.xDead then c
  else
    let cw := cwIndex pa
    let c := modMem (fun m =>
      if w.poison then (m.setSymbols cw (xPoison m.xmem)).setSymbols (cw + 1) (xPoison m.xmem)
      else
        let d := w.bytes.map (·.toNat)
        (m.setCodeword cw (d.take 4)).setCodeword (cw + 1) ((d.drop 4).take 4)) c
    if w.poison then c
    else modMem (fun m => { m with xVoid := m.xVoid.map fun l => if l.contains (pa / 8) then l else (pa / 8) :: l }) c

/-- Declares device Dk lost: erasure, RETIRED, lint 0x0805, the MEMORY event, and lint 0x0806 when no check remains
(R437, R439, R440, R827). -/
def loseDevice (k : Nat) (c : Chip) : Chip :=
  if c.mem.erased.toList.getD k false then c
  else
    let stop (c : Chip) : Chip := match c.mem.resilver with
      | some r => if r.aborted then c else
          lint 0x0807 (0x0300 + r.dev) 0xFF 1 (setUnitState ⟨3, r.dev⟩ .retired { c with mem := { c.mem with resilver := some { r with aborted := true } } })
      | none => c
    let c := c |> stop |> modMem (fun m => { m with erased := vset m.erased k true, corrRun := (0, 0) }) |> setUnitState ⟨3, k⟩ .retired
      |> lint 0x0805 (0x0300 + k) 0xFF 0 |> fireMemoryDevice 2
    let n := ((List.range 6).filter fun j => c.mem.erased.toList.getD j false).length
    if (c.mem.xmem = .full ∧ n = 2) ∨ (c.mem.xmem = .lean ∧ n = 1) then lintBlock 0x0806 0xFF 0 c else c

/-- A word of an external line at or above ZERO_PTR: what a store has put there since cold start, else zero; nothing is decoded
and nothing reported (R467). -/
def unpassedWord (m : Mem) (pa : Nat) : WordRead :=
  if m.symbols (cwIndex pa) = xPoison m.xmem then .bad else ⟨m.bytes pa 8, false⟩

/-- Reads an external line with decoding, correction and write-back (R434 to R437). -/
def readLine (line : Nat) (c : Chip) : List WordRead × Chip :=
  if c.mem.xVoid.isNone && decide (c.mem.zeroPtr ≤ line) then
    ((List.range 8).map fun i => unpassedWord c.mem (0x10000000 + 64 * line + 8 * i), c)
  else if c.mem.xDead then (List.replicate 8 .bad, c)
  else
    let base := 0x10000000 + 64 * line
    let (ds, pos) := decodeLine c.mem line
    let void (i : Nat) : Bool := match c.mem.xVoid with | some l => !l.contains ((base + 8 * i) / 8) | none => false
    let words := (List.range 8).map fun i => if void i then .bad else lineWord ds i
    let fix (c : Chip) : Chip := match pos with
      | none => if c.mem.lastLine = some line then c else { c with mem := { c.mem with corrRun := (0, 0), lastLine := some line } }
      | some i =>
        let k := 5 - i
        let run := if c.mem.corrRun.1 = k then c.mem.corrRun.2 + 1 else 1
        let c := (List.range 16).foldl (fun c n => match (ds.getD n (none, true)).1 with
          | some d => modMem (Mem.setCodeword (16 * line + n) d) c | none => c) c
        let c := { c with mem := { c.mem with corrRun := (k, run), lastLine := some line } } |> lint 0x0803 (0x0300 + k) 0xFF base |> noteDiag base true
          |> fireMemory base 0 |> noteXmemCorrection (0x0300 + k) (base / 8)
        if 64 ≤ run then loseDevice k c else c
    let spoil (c : Chip) (i : Nat) : Chip :=
      if lineWordBad ds i && !void i then
        writeXmem (base + 8 * i) .bad c |> lintBlock 0x0804 0xFF (base + 8 * i) |> noteDiag (base + 8 * i) false |> fireMemory (base + 8 * i) 1
      else c
    (words, (List.range 8).foldl spoil (fix c))

/-- Reads one external word: its line is read and decoded. -/
def readXmem (pa : Nat) (c : Chip) : WordRead × Chip :=
  let (ws, c) := readLine ((pa - 0x10000000) / 64) c
  (ws.getD (pa / 8 % 8) .bad, c)

/-! ### Merge buffers (R424 to R428) -/

/-- Reads a stored word of a read-write target. -/
def readStored (r : Region) (pa : Nat) (c : Chip) : WordRead × Chip :=
  if r = .sram then readSram pa c else readXmem pa c

/-- Writes a stored word of a read-write target. -/
def writeStored (r : Region) (pa : Nat) (w : WordRead) (c : Chip) : Chip :=
  if r = .sram then writeSram pa w c else writeXmem pa w c

/-- The merge buffer of a target. -/
def Mem.buf (m : Mem) : Region → List MergeEntry
  | .sram => m.bufSram
  | _ => m.bufXmem

/-- Replaces the merge buffer of a target. -/
def setBuf (r : Region) (l : List MergeEntry) (c : Chip) : Chip :=
  modMem (fun m => if r = .sram then { m with bufSram := l } else { m with bufXmem := l }) c

/-- The valid bytes of word i of an entry, by byte place. -/
def MergeEntry.word (e : MergeEntry) (i : Nat) : List (Option Byte) :=
  (List.range 8).map fun b => sfind e.vals (8 * i + b)

/-- A word with an entry's valid bytes laid over it; a word that reads as poison stays poison unless all its bytes are valid (R423, R428). -/
def overlay (e : MergeEntry) (i : Nat) (stored : WordRead) : WordRead :=
  let ov := e.word i
  if e.poison.getLsbD i then .bad
  else if ov.all Option.isSome then ⟨ov.map (·.getD 0), false⟩
  else if stored.poison then .bad
  else ⟨List.zipWith (fun o b => o.getD b) ov stored.bytes, false⟩

/-- Word i of an entry holds something. -/
def MergeEntry.touches (e : MergeEntry) (i : Nat) : Bool := e.poison.getLsbD i || (e.word i).any Option.isSome

/-- Word i needs no read: it is poisoned or wholly valid. -/
def MergeEntry.whole (e : MergeEntry) (i : Nat) : Bool := e.poison.getLsbD i || (e.word i).all Option.isSome

/-- Writes an entry's words to its target with fresh check bits (R428). -/
def evictEntry (r : Region) (e : MergeEntry) (c : Chip) : Chip :=
  (List.range 8).foldl (fun c i =>
    if e.touches i then
      let pa := 64 * e.line + 8 * i
      if e.whole i then writeStored r pa (overlay e i .bad) c
      else
        let (w, c) := readStored r pa c
        writeStored r pa (overlay e i w) c
    else c) c

/-- Evicts the entry of a line, if there is one. -/
def evictLine (r : Region) (line : Nat) (c : Chip) : Chip :=
  match (c.mem.buf r).find? (·.line == line) with
  | some e => evictEntry r e (setBuf r (delFirst (·.line == line) (c.mem.buf r)) c)
  | none => c

/-- Evicts every entry of a target (R427). -/
def evictAll (r : Region) (c : Chip) : Chip :=
  let l := c.mem.buf r
  l.foldl (fun c e => evictEntry r e c) (setBuf r [] c)

/-- Reads a word through the merge buffer (R426). -/
def readThrough (r : Region) (pa : Nat) (c : Chip) : WordRead × Chip :=
  match (c.mem.buf r).find? (·.line == pa / 64) with
  | some e =>
    let i := pa / 8 % 8
    if e.whole i then (overlay e i .bad, c)
    else
      let (w, c) := readStored r pa c
      (overlay e i w, c)
  | none => readStored r pa c

/-- Stores into an entry: bytes from byte place b of the line, all within one word. A poisoned beat poisons the word, a clean
whole word clears it (R423). -/
def MergeEntry.store (e : MergeEntry) (b : Nat) (bs : List Byte) (poison : Bool) : MergeEntry :=
  let i := b / 8
  if poison then { e with vals := sclear e.vals (8 * i) (8 * i + 8), poison := e.poison ||| (1#8 <<< i) }
  else
    let vals := (List.range bs.length).foldl (fun v k => sins v (b + k) (bs.getD k 0)) e.vals
    if bs.length = 8 then { e with vals := vals, poison := e.poison &&& ~~~(1#8 <<< i) }
    else { e with vals := vals }

/-- Stores up to 8 bytes within one word of a read-write target through its merge buffer (R425, R427). The entry written
is the last of its list, so that the first is the least recently written. -/
def storeThrough (r : Region) (pa : Nat) (bs : List Byte) (poison : Bool) (c : Chip) : Chip :=
  let line := pa / 64
  let old := ((c.mem.buf r).find? (·.line == line)).getD { line := line }
  let e := old.store (pa % 64) bs poison
  let rest := delFirst (·.line == line) (c.mem.buf r)
  if (List.range 8).all e.whole then evictEntry r e (setBuf r rest c)
  else
    let l := rest ++ [e]
    match l with
    | first :: more => if 12 < l.length then evictEntry r first (setBuf r more c) else setBuf r l c
    | [] => c

/-- Stores a whole aligned line: it bypasses the buffer, and an entry for the line is discarded (R425). -/
def storeLine (r : Region) (line : Nat) (ws : List WordRead) (c : Chip) : Chip :=
  let c := setBuf r (delFirst (·.line == line) (c.mem.buf r)) c
  (List.range 8).foldl (fun c i => writeStored r (64 * line + 8 * i) (ws.getD i .bad) c) c

/-! ### The cartridge (R446 to R450) -/

/-- CRC-32 (IEEE 802.3) over bytes. -/
def crc32 (bs : List Byte) : Nat :=
  (bs.foldl (fun acc b => (List.range 8).foldl (fun a _ => if a % 2 = 1 then (a / 2) ^^^ 0xEDB88320 else a / 2) (acc ^^^ b.toNat)) 0xFFFFFFFF)
    ^^^ 0xFFFFFFFF

/-- A page lies in the CRC table, in the save region, or is covered by an entry of the table (R449). -/
inductive PageKind where
  | table | save | covered
deriving DecidableEq, Repr

/-- Pages of the CRC table: one per 1,023 pages of the image (R449). -/
def CartHeader.tablePages (h : CartHeader) : Nat := (h.imageLen / 4096 + 1022) / 1023

/-- The kind of a page. -/
def CartHeader.pageKind (h : CartHeader) (page : Nat) : PageKind :=
  if h.crcTable / 4096 ≤ page ∧ page < h.crcTable / 4096 + h.tablePages then .table
  else if bit h.flags 2 ∧ h.saveOffset / 4096 ≤ page ∧ page < (h.saveOffset + h.saveLen) / 4096 then .save
  else .covered

/-- The stored bytes of a cartridge page pass their check (R447, R449). -/
def cartPageGood (m : Mem) (page : Nat) : Bool :=
  let bs := m.bytes (0x30000000 + 4096 * page) 4096
  match m.cartHdr.pageKind page with
  | .save => true
  | .table => crc32 (bs.take 4092) == leNat (bs.drop 4092)
  | .covered => crc32 bs == leNat (m.bytes (0x30000000 + m.cartHdr.crcTable + 4096 * (page / 1023) + 4 * (page % 1023)) 4)

/-- The bytes of an encrypted cartridge's page in plain (R803, R804); none without a usable CONTENT key. -/
def cartPlain (c : Chip) (page : Nat) (bs : List Byte) : Option (List Byte) :=
  let h := c.mem.cartHdr
  if page = 0 ∨ h.pageKind page ≠ .covered then some bs
  else (contentSlot c h.titleId).map fun i =>
    let key := hkdf (keyOf c i) (leBytes 8 h.titleId) (ascii "SUKEN-CART") 16
    (List.range 256).flatMap fun b =>
      let o := 4096 * page + 16 * b
      if h.imageLen ≤ o + 128 ∧ o < h.imageLen then pslice bs (16 * b) 16 else ctrBlock key h.titleId o (pslice bs (16 * b) 16)

/-- Fills a page of the read cache (R447): a good page is kept, the least recently used of 16 leaving; a page that fails twice
is poison, is not kept, and is reported. The answer says whether the page was delivered. -/
def cartFill (page : Nat) (c : Chip) : Option (List Byte) × Chip :=
  if cartPageGood c.mem page then
    let bs := c.mem.bytes (0x30000000 + 4096 * page) 4096
    match (if bit c.mem.cartHdr.flags 0 then cartPlain c page bs else some bs) with
    | some bs => (some bs, modMem (fun m => { m with cache := (⟨page, bs⟩ :: m.cache).take 16 }) c)
    | none => (none, c)
  else
    (none, c |> lint 0x080A 0x0B01 0xFF page |> fireMemory (0x30000000 + 4096 * page) 4)

/-- Reads a word of the cartridge window (R446, R447, R450). -/
def readCart (pa : Nat) (c : Chip) : WordRead × Chip :=
  if c.mem.cart ≠ .mounted ∨ isPegged c 0x0B 1 then (.bad, c)
  else
    let page := (pa - 0x30000000) / 4096
    let word (bs : List Byte) : WordRead := ⟨pslice bs (pa % 4096) 8, false⟩
    match c.mem.cache.find? (·.page == page) with
    | some p => (word p.bytes, modMem (fun m => { m with cache := p :: m.cache.filter (·.page != page) }) c)
    | none => match cartFill page c with
      | (some bs, c) => (word bs, c)
      | (none, c) => (.bad, c)

/-! ### Accesses at physical addresses -/

/-- Reads the aligned word at a physical address. `p` is the partition it is made for: an access to nothing reads as poison and is
logged (R412). -/
def busRead (pa : Nat) (c : Chip) : WordRead × Chip :=
  match c.mem.region pa with
  | .sram => readThrough .sram pa c
  | .xmem => readThrough .xmem pa c
  | .cs0 => if isPegged c 0x0B 0 then (.bad, c) else (⟨c.mem.bytes pa 8, false⟩, c)
  | .cs1 => readCart pa c
  | .stew => readStew (pa - 0xF0000000) c
  | .nothing => (.bad, lintBlock 0x0811 0 pa c)

/-- Stores up to 8 bytes within one word at a physical address; a store to flash or to nothing is ignored and logged (R412). -/
def busWrite (pa : Nat) (bs : List Byte) (poison : Bool) (c : Chip) : Chip :=
  match c.mem.region pa with
  | .sram => storeThrough .sram pa bs poison c
  | .xmem => storeThrough .xmem pa bs poison c
  | .stew => if poison then poisonStew (pa - 0xF0000000) c else writeStew (pa - 0xF0000000) bs c
  | _ => lintBlock 0x0811 0 pa c

/-! ### Token buckets (R167 to R171) -/

/-- The target of a physical address: user SRAM, the external channel, the flash port (R165). -/
def targetOf (pa : Nat) : Nat := if pa < 0x10000000 then 0 else if pa < 0x20000000 then 1 else 2

/-- Refills every guest's bucket at a target by its SHARE, up to 4 × SHARE (R168, R169). -/
def refill (t : Nat) (c : Chip) : Chip :=
  { c with parts := c.parts.map fun q => { q with tokens := vset q.tokens t (min (4 * q.share) (vget q.tokens t + q.share)) } }

/-- One guest-class grant of an access of up to 64 bytes costs a token; a guest that alone requests without one refills every
bucket first (R168, R169). P0 and bulk accesses cost none. -/
def chargeToken (p t : Nat) (c : Chip) : Chip :=
  if p = 0 then c
  else
    let c := if vget (partOf c p).tokens t = 0 then refill t c else c
    modPart p (fun q => { q with tokens := vmod q.tokens t (· - 1) }) c

/-! ### Accesses through the partition map (R154, R155) -/

/-- A read of an encrypted cartridge's frames that its partition may not make (R806). -/
def cartBarred (c : Chip) (p pa : Nat) : Bool :=
  c.mem.region pa == .cs1 && c.mem.cart == .mounted && bit c.mem.cartHdr.flags 0 && !mayDecrypt c p

/-- Reads the word of a physical address for a partition. -/
def partRead (p pa : Nat) (c : Chip) : WordRead × Chip := if cartBarred c p pa then (.bad, c) else busRead pa c

/-- Reads the words of a Kuval range in order; `ka8` is the number of the first word. -/
def readKWords (p : Nat) : List Nat → Chip → List PByte × Chip
  | [], c => ([], c)
  | k :: ks, c =>
    let (w, c) := partRead p (kPhys c p (8 * k % 2 ^ 24)) c
    let (rest, c) := readKWords p ks c
    (w.bytes.map (fun b => (b, w.poison)) ++ rest, c)

/-- The word numbers that n bytes from a Kuval address touch. -/
def kWords (ka n : Nat) : List Nat := (List.range ((ka % 8 + n + 7) / 8)).map fun i => ka / 8 + i

/-- Reads n bytes from a Kuval address of a partition. The caller has checked the rights. -/
def readKFree (p ka n : Nat) (c : Chip) : List PByte × Chip :=
  let (bs, c) := readKWords p (kWords ka n) c
  ((bs.drop (ka % 8)).take n, c)

/-- Charges one grant per 64 bytes of an access (R168). -/
def chargeRange (p ka n : Nat) (c : Chip) : Chip :=
  (List.range ((n + 63) / 64)).foldl (fun c i => chargeToken p (targetOf (kPhys c p (ka + 64 * i))) c) c

/-- Reads n bytes in the guest class, or in the steward's for P0. -/
def readK (p ka n : Nat) (c : Chip) : List PByte × Chip := readKFree p ka n (chargeRange p ka n c)

/-- Writes the parts of a byte string that fall in each word. -/
def writeKWords (p ka : Nat) (bs : List PByte) : List Nat → Chip → Chip
  | [], c => c
  | k :: ks, c =>
    let lo := max ka (8 * k)
    let hi := min (ka + bs.length) (8 * k + 8)
    let seg := (bs.drop (lo - ka)).take (hi - lo)
    writeKWords p ka bs ks (busWrite (kPhys c p (lo % 2 ^ 24)) (seg.map (·.1)) (seg.any (·.2)) c)

/-- Writes bytes at a Kuval address of a partition. The caller has checked the rights. -/
def writeKFree (p ka : Nat) (bs : List PByte) (c : Chip) : Chip := writeKWords p ka bs (kWords ka bs.length) c

/-- Writes bytes in the guest class, or in the steward's for P0. -/
def writeK (p ka : Nat) (bs : List PByte) (c : Chip) : Chip := writeKFree p ka bs (chargeRange p ka bs.length c)

/-- Writes a whole aligned line at a Kuval address: in SRAM and external memory it bypasses the merge buffer (R425, R486). -/
def writeKLine (p ka : Nat) (bs : List PByte) (c : Chip) : Chip :=
  let pa := kPhys c p ka
  let r := c.mem.region pa
  if r = .sram ∨ r = .xmem then
    let words := (List.range 8).map fun i =>
      let w := (bs.drop (8 * i)).take 8
      if w.any (·.2) then WordRead.bad else ⟨w.map (·.1), false⟩
    storeLine r (pa / 64) words c
  else writeKFree p ka bs c

/-- Bytes without poison. -/
def clean (bs : List Byte) : List PByte := bs.map fun b => (b, false)

/-- The bytes without their poison marks. -/
def plain (bs : List PByte) : List Byte := bs.map (·.1)

/-- Some byte was delivered as poison. -/
def anyPoison (bs : List PByte) : Bool := bs.any (·.2)

end Sys2Proof.Machine
end

