-- ==== Sys2Proof/Machine/Hamper.lean ====
section
/-! DEFINITION. The Hamper: levels, enqueueing, records, rings, EOI and the running-priority stack (chapter 07). -/

namespace Sys2Proof.Machine

/-- The Hamper of a partition. -/
def hmpOf (c : Chip) (p : Nat) : Hmp := c.hmp.toList.getD p {}

/-- Changes the Hamper of a partition. -/
def modHmp (p : Nat) (f : Hmp → Hmp) (c : Chip) : Chip := { c with hmp := vset c.hmp p (f (hmpOf c p)) }

/-- Ring q of a Hamper. -/
def Hmp.ring (h : Hmp) (q : Nat) : Ring := h.rings.toList.getD q {}

/-- Changes ring q of a partition. -/
def modRing (p q : Nat) (f : Ring → Ring) (c : Chip) : Chip :=
  modHmp p (fun h => { h with rings := vset h.rings q (f (h.ring q)) }) c

/-- Level sources of Table 07.2: VOICE, STREAM, AUDIO_IN, LINK0 to LINK15 and the ports of P0. -/
def isLevelSrc (s : Nat) : Bool := (10 ≤ s && s ≤ 12) || (24 ≤ s && s ≤ 39) || (48 ≤ s && s ≤ 53)

/-- The ring that a source's next enqueue goes to: Q0 in basic mode, the ring of SRC_PRI in expert mode (R371, R395). -/
def Hmp.ringOf (h : Hmp) (s : Nat) : Nat := if h.expert then sget 0 h.pri s else 0

/-- Records in a ring (R381). -/
def Ring.count (r : Ring) : Nat := idxDiff r.prod r.cons

/-- A ring takes a record: enabled, not faulted and not full (R371). -/
def Ring.open (r : Ring) : Bool := r.enable && !r.fault && decide (r.count < 2 ^ r.sizeLog2)

/-- DATA of edges merged into one record. -/
def EvData.merge : EvData → EvData → EvData
  | .one a, .one b => if a = b then .one a else .mixed
  | _, _ => .mixed

/-- The DATA word written: edges with different DATA leave it open, and it is then a free value. -/
def evWord (d : EvData) (c : Chip) : Nat × Chip :=
  match d with
  | .one v => (v, c)
  | .mixed => let (x, c) := freeNat c; (x % 2 ^ 32, c)

/-- The sixteen bytes of a record (Table 07.3). -/
def recordBytes (src : Nat) (level kind postponed rearm : Bool) (count ring data frame line dot : Nat) : List Byte :=
  leBytes 1 src ++ leBytes 1 (bitsToNat [level, kind, postponed, rearm]) ++ leBytes 1 count ++ leBytes 1 ring
    ++ leBytes 4 data ++ leBytes 4 frame ++ leBytes 2 line ++ leBytes 2 dot

/-- The first eight bytes of a ring header (Table 07.4). -/
def headerBytes (r : Ring) (waiting : Bool) : List Byte :=
  leBytes 2 r.prod ++ leBytes 1 r.sizeLog2 ++ leBytes 1 (b2n waiting) ++ leBytes 4 r.overflow

/-- Some record of ring q is postponed. -/
def Hmp.waiting (h : Hmp) (q : Nat) : Bool := h.posts.any (·.ring == q)

/-- The line and dot of the live beam; 0 while the beam is held (R76). -/
def liveBeam (c : Chip) : Nat × Nat := if c.beam.hold then (0, 0) else (c.beam.line, c.beam.dot)

/-- The ring's writes are refused by the map: it is faulted until enabled again (R404). -/
def faultRing (p q : Nat) (cause : RingCause) (code : Nat) (c : Chip) : Chip :=
  c |> modRing p q (fun g => { g with fault := true, cause := cause }) |> lintBlock code p q

/-- Writes the header of a ring that runs, so that it shows OVERFLOW and FLAGS.WAITING (R385, Table 07.4). -/
def showHeader (p q : Nat) (c : Chip) : Chip :=
  let g := (hmpOf c p).ring q
  if g.enable && !g.fault then
    if kRangeOk c p .w g.base 8 then writeK p g.base (clean (headerBytes g ((hmpOf c p).waiting q))) c
    else faultRing p q .map 0x0702 c
  else c

/-- Places a record among the postponed ones, with its OVERFLOW and lint (R385, R407). -/
def postpone (p : Nat) (r : PostRec) (c : Chip) : Chip :=
  c |> modHmp p (fun h => { h with posts := h.posts ++ [r] })
    |> modRing p r.ring (fun g => { g with overflow := satAdd 0xFFFFFFFF g.overflow 1 })
    |> lintBlock 0x0701 p r.ring |> showHeader p r.ring

/-- Writes one record and the header of its ring, and advances PROD; none if the map refuses a byte of them (R382, R384, R404). -/
def writeRecord (p q src : Nat) (level postponed rearm : Bool) (count : Nat) (data : EvData) (c : Chip) : Option Chip :=
  let g := (hmpOf c p).ring q
  let slot := g.base + 16 + 16 * (g.prod % 2 ^ g.sizeLog2)
  if !(kRangeOk c p .w (slot % 2 ^ 24) 16 && kRangeOk c p .w g.base 8) then none
  else
    let (d, c) := evWord data c
    let (l, x) := liveBeam c
    let c := writeK p (slot % 2 ^ 24) (clean (recordBytes src level (isLevelSrc src) postponed rearm count q d c.beam.frame l x)) c
    let g' := { g with prod := (g.prod + 1) % 65536 }
    let c := writeK p g.base (clean (headerBytes g' ((hmpOf c p).waiting q))) c
    some (modRing p q (fun _ => g') c)

/-- Enqueues a source: one record for the ring its level selects, written or postponed (R371). -/
def enqueue (p src count : Nat) (data : EvData) (rearm level : Bool) (c : Chip) : Chip :=
  let q := (hmpOf c p).ringOf src
  let c := modHmp p (fun h => { h with pend := h.pend ||| (1#96 <<< src), claim := sput 0 h.claim src q }) c
  let rec' : PostRec := { src := src, ring := q, count := count, data := data, rearm := rearm }
  if ((hmpOf c p).ring q).open then
    match writeRecord p q src level false rearm count data c with
    | some c => c
    | none => postpone p rec' (faultRing p q .map 0x0702 c)
  else postpone p rec' c

/-- Adds to a source's coalesce count and merges its DATA. -/
def Hmp.coalesce (s n : Nat) (d : EvData) (h : Hmp) : Hmp :=
  let old := sget 0 h.counts s
  { h with counts := sput 0 h.counts s (min 255 (old + n)),
           countData := sins h.countData s (if old = 0 then d else ((sfind h.countData s).getD d).merge d) }

/-- Clears a source's coalesce count. -/
def Hmp.uncount (s : Nat) (h : Hmp) : Hmp := { h with counts := sdel h.counts s, countData := sdel h.countData s }

/-- A record of the source is postponed. -/
def Hmp.posted (h : Hmp) (s : Nat) : Bool := h.posts.any (·.src == s)

/-- The arbitration of an edge of a source (R372). A postponed record whose PENDING an EOI has cleared stands as the source's
claim (R375, R398), so an edge still counts into it. -/
def takeEdge (p s : Nat) (d : EvData) (c : Chip) : Chip :=
  let h := hmpOf c p
  if !h.srcEn.getLsbD s then c
  else if !(h.ring (h.ringOf s)).enable then modHmp p (Hmp.coalesce s 1 d) c
  else if h.posted s then
    modHmp p (fun h => { h with posts := modFirst (·.src == s) (fun r => { r with count := min 255 (r.count + 1), data := r.data.merge d }) h.posts }) c
  else if !h.pend.getLsbD s then enqueue p s 1 d false false c
  else modHmp p (Hmp.coalesce s 1 d) c

/-- The arbitration of an asserted level of a source (R372, R373). -/
def takeLevel (p s : Nat) (c : Chip) : Chip :=
  let h := hmpOf c p
  if h.srcEn.getLsbD s && (h.ring (h.ringOf s)).enable && !h.pend.getLsbD s && !h.posted s then enqueue p s 1 (.one 0) false true c
  else c

/-- The postponed record of a ring that is written next: the lowest source number (R386). -/
def Hmp.nextPost (h : Hmp) (q : Nat) : Option PostRec :=
  (h.posts.filter (·.ring == q)).foldl (fun best r => match best with
    | some b => if r.src < b.src then some r else some b | none => some r) none

/-- Writes postponed records of a ring, each again the claim of its source (R398), while it takes them, in ascending source number, at most n of them (R386). A level is sampled
when its record is written (R377). -/
def drainPosts (level : Chip → Nat → Nat → Bool) (p q : Nat) : Nat → Chip → Chip
  | 0, c => c
  | n + 1, c =>
    let h := hmpOf c p
    if (h.ring q).open then
      match h.nextPost q with
      | none => c
      | some r =>
        let c' := modHmp p (fun h => { h with posts := delFirst (· == r) h.posts, pend := h.pend ||| (1#96 <<< r.src) }) c
        match writeRecord p q r.src (isLevelSrc r.src && level c p r.src) true r.rearm r.count r.data c' with
        | some c' => drainPosts level p q n c'
        | none => faultRing p q .map 0x0702 c
    else c

/-- The configuration of a ring that an enable checks: BASE a multiple of 16 and SIZE_LOG2 from 4 to 12 (R378, R387). -/
def Ring.configOk (g : Ring) : Bool := g.base % 16 == 0 && 4 ≤ g.sizeLog2 && g.sizeLog2 ≤ 12

/-- Writes ENABLE from 0 to 1: the check, the header, the coalesced edges and the asserted levels (R387). -/
def enableRing (level : Chip → Nat → Nat → Bool) (p q : Nat) (c : Chip) : Chip :=
  let g := (hmpOf c p).ring q
  if !g.configOk then
    c |> modRing p q (fun g => { g with cause := .badcfg }) |> lintBlock 0x0705 p q
  else
    let g' : Ring := { g with enable := true, prod := 0, cons := 0, overflow := 0, fault := false, cause := .none }
    let c := modRing p q (fun _ => g') c
    let c := if kRangeOk c p .w g.base 16 then writeK p g.base (clean (headerBytes g' false ++ List.replicate 8 0)) c
      else faultRing p q .map 0x0702 c
    (List.range 96).foldl (fun c s =>
      let h := hmpOf c p
      if h.ringOf s = q ∧ h.srcEn.getLsbD s then
        let n := sget 0 h.counts s
        let c := if 0 < n ∧ !h.pend.getLsbD s then
            enqueue p s n ((sfind h.countData s).getD (.one 0)) false false (modHmp p (Hmp.uncount s) c) else c
        if isLevelSrc s && level c p s then takeLevel p s c else c
      else c) c

/-- Writes ENABLE from 1 to 0: postponed records fold into counts, and PENDING clears for the sources whose record the ring holds,
which keeps one record a source (R388, R375, R395). -/
def disableRing (p q : Nat) (c : Chip) : Chip :=
  let h := hmpOf c p
  let h := (h.posts.filter (·.ring == q)).foldl (fun h r => h.coalesce r.src r.count r.data) h
  let mask : BitVec 96 := (List.range 96).foldl (fun m s => if sget 0 h.claim s = q then m ||| (1#96 <<< s) else m) 0
  c |> modHmp p (fun _ => { h with posts := h.posts.filter (·.ring != q), pend := h.pend &&& ~~~mask })
    |> modRing p q (fun g => { g with enable := false })

/-- A write of CONS (R383, R405). -/
def writeCons (level : Chip → Nat → Nat → Bool) (p q v : Nat) (c : Chip) : Chip :=
  let g := (hmpOf c p).ring q
  if 2 ^ g.sizeLog2 < idxDiff g.prod (v % 65536) then faultRing p q .cons 0x0707 c
  else drainPosts level p q 96 (modRing p q (fun g => { g with cons := v % 65536 }) c)

/-- A write of EOI by core k (R396, R397). A postponed record stays its source's claim, and nothing more is enqueued (R375, R398). -/
def writeEoi (level : Chip → Nat → Nat → Bool) (p k s : Nat) (c : Chip) : Chip :=
  if 96 ≤ s then lint 0x0703 (coreUnit k) p s c
  else
    let c := modCore k (fun x => { x with prio := x.prio.drop 1 }) c
    let h := hmpOf c p
    if !h.pend.getLsbD s then c
    else
      let c := modHmp p (fun h => { h with pend := h.pend &&& ~~~(1#96 <<< s) }) c
      let n := sget 0 h.counts s
      if h.posted s then c
      else if isLevelSrc s then
        if h.srcEn.getLsbD s && level c p s then enqueue p s 1 (.one 0) true true c else c
      else if 0 < n then
        enqueue p s n ((sfind h.countData s).getD (.one 0)) true false (modHmp p (Hmp.uncount s) c)
      else c

/-- A write of PRI_RAISE by core k (R392). -/
def writePriRaise (p k level : Nat) (c : Chip) : Chip :=
  if 8 ≤ (coreOf c k).prio.length then lint 0x0704 (coreUnit k) p level c
  else modCore k (fun x => { x with prio := level % 4 :: x.prio }) c

/-- A write of HMP_CTRL.MODE (R394). -/
def writeMode (p v : Nat) (c : Chip) : Chip :=
  if (List.range 4).any (fun q => ((hmpOf c p).ring q).enable) ∨ !hasExpert c p then lintBlock 0x0706 p 0 c
  else modHmp p (fun h => { h with expert := bit v 0 }) c

/-- The core of a partition with a local number (R149). -/
def coreOfLocal (c : Chip) (p n : Nat) : Option Nat :=
  if p = 0 then (if n = 0 then some 6 else none)
  else (List.range 6).find? fun k => vget c.own.cores k == p && (coreOf c k).localNo == n

/-- The rings of a partition that present a request to a core, by R390. -/
def presenting (c : Chip) (p k : Nat) : List Nat :=
  (List.range 4).filter fun q =>
    let g := (hmpOf c p).ring q
    let st := (coreOf c k).prio
    g.enable && g.routeEn && g.route == (coreOf c k).localNo && decide (0 < g.count) && decide (st.length < 8)
      && (match st with | [] => true | t :: _ => decide (t < q))

/-- The highest ring that presents a request to a core (R391). -/
def topRequest (c : Chip) (p k : Nat) : Option Nat := (presenting c p k).getLast?

/-- The Hamper of a partition at cold start and at partition reset (R408). -/
def resetHamper (p : Nat) (c : Chip) : Chip :=
  { c with hmp := vset c.hmp p {}, edges := c.edges.filter (·.part != p) }

end Sys2Proof.Machine
end

