-- ==== Sys2Proof/Machine/Mailbox.lean ====
section
/-! DEFINITION. Commands: credits, completions by every transport, the checks made when a command starts, results and cancellation (chapters 04 and 18). -/

namespace Sys2Proof.Machine

/-- The mailbox window of a partition. -/
def mbxOf (c : Chip) (p : Nat) : GMbx := c.mbx.toList.getD p {}

/-- Changes the mailbox window of a partition. -/
def modMbx (p : Nat) (f : GMbx → GMbx) (c : Chip) : Chip := { c with mbx := vset c.mbx p (f (mbxOf c p)) }

/-- Changes the host mailbox. -/
def modHost (f : HostMbx → HostMbx) (c : Chip) : Chip := { c with host := f c.host }

/-- The ORIGIN of a lint entry (Table 17.5). -/
def Origin.lintCode : Origin → Nat
  | .part p => p
  | _ => 7

/-- An origin outside the chip (R209). -/
def Origin.external : Origin → Bool
  | .part _ => false
  | _ => true

/-- Two origins share their credits and order: a link node counts by itself. -/
def Origin.same (a b : Origin) : Bool := a == b

/-! ### Credits (R223 to R225, R246) -/

/-- Commands of an origin in flight: outstanding, or completed with the completion not yet consumed (R223). -/
def inFlight (c : Chip) (o : Origin) : Nat :=
  let out := (c.cmds.filter fun m => m.org == o).length
  match o with
  | .part 0 => 0
  | .part p => out + (mbxOf c p).held.length + idxDiff (mbxOf c p).cplProd (mbxOf c p).cplCons
  | .host => out + c.host.held.length + idxDiff c.host.cplProd c.host.cplCons
  | .usb => out + (c.usb.items.filter (·.completion)).length
  | .link n => out + (c.linkCpls.filter (·.node == n)).length

/-- Commands of every remote node in flight (R246). -/
def linkInFlight (c : Chip) : Nat :=
  (c.cmds.filter fun m => match m.org with | .link _ => true | _ => false).length + c.linkCpls.length

/-- The credit count of an origin (Table 04.1). -/
def creditMax (c : Chip) : Origin → Nat
  | .part p => (partOf c p).credits
  | .host => 16
  | .usb => 16
  | .link _ => 8

/-- A credit of the origin is free (check 5 of Table 04.3). -/
def creditFree (c : Chip) (o : Origin) : Bool :=
  decide (inFlight c o < creditMax c o) && (match o with | .link _ => decide (linkInFlight c < 64) | _ => true)

/-! ### Completion records -/

/-- The sixteen bytes of a completion record (Table 04.5), the TAG as poisoned as it was read. -/
def Cpl.bytes (k : Cpl) : List PByte :=
  clean (leBytes 4 k.handle.toNat) ++ (leBytes 4 k.tag).map (fun b => (b, k.tagPoison))
    ++ clean (leBytes 2 k.status.code ++ leBytes 2 k.info ++ leBytes 4 k.result)

/-- A mailbox violation of a partition: FAULT, CAUSE and lint (Table 04.11). -/
def faultMbx (p : Nat) (cause : MbCause) (code : Nat) (c : Chip) : Chip :=
  c |> modMbx p (fun m => { m with fault := true, cause := cause, noRead := m.noRead || cause == .prod, noCpl := m.noCpl || cause != .prod })
    |> lintBlock code p 0

/-- The completion ring of a partition takes a record. -/
def GMbx.cplOpen (m : GMbx) : Bool := m.enable && !m.noCpl && decide (idxDiff m.cplProd m.cplCons < 2 ^ m.cplLog2)

/-- Writes a completion into the guest's ring; none if the map refuses it (R234, R216, Table 04.11). -/
def writeGuestCpl (p : Nat) (h : HeldCpl) (c : Chip) : Option Chip :=
  let m := mbxOf c p
  let a := m.cplBase + 16 * (m.cplProd % 2 ^ m.cplLog2)
  if !kRangeOk c p .w a 16 then none
  else
    let c := c |> writeK p a h.cpl.bytes |> modMbx p (fun m => { m with cplProd := (m.cplProd + 1) % 65536 })
    some (if !h.quiet && m.cplEvent then fire p 0 0 c else c)

/-- Delivers a completion to a guest: written, postponed while the ring is full, or held (R235, R237). -/
def deliverGuest (p : Nat) (h : HeldCpl) (c : Chip) : Chip :=
  let m := mbxOf c p
  let hold := modMbx p (fun m => { m with held := m.held ++ [h] })
  if m.cplOpen && m.held.isEmpty then
    match writeGuestCpl p h c with
    | some c => c
    | none => faultMbx p .map 0x0406 (hold c)
  else hold c

/-- Writes held completions of a guest while its ring takes them, at most n. -/
def drainGuest (p : Nat) : Nat → Chip → Chip
  | 0, c => c
  | n + 1, c =>
    match (mbxOf c p).held with
    | [] => c
    | h :: rest =>
      if (mbxOf c p).cplOpen then
        match writeGuestCpl p h (modMbx p (fun m => { m with held := rest }) c) with
        | some c => drainGuest p n c
        | none => faultMbx p .map 0x0406 c
      else c

/-- A free result buffer of the host mailbox (R240). -/
def HostMbx.freeRes (h : HostMbx) : Option Nat := (List.range 2).find? fun n => vget h.resLen n == 0

/-- Stores bytes of the host mailbox from a window offset. -/
def HostMbx.put (off : Nat) : List Byte → HostMbx → HostMbx
  | [], h => h
  | b :: bs, h => HostMbx.put (off + 1) bs { h with bytes := sput 0 h.bytes off b }

/-- Sets a bit of HM_STATUS (Table 04.9): 0 CPL, 1 RES, 2 FAULT, 3 RESTARTED, 4 DATA. -/
def HostMbx.setStatus (k : Nat) (h : HostMbx) : HostMbx := { h with status := h.status ||| (1#5 <<< k) }

/-- HOST_IRQ (R239). -/
def hostIrq (c : Chip) : Bool := (c.host.status &&& c.host.irqEn) != 0

/-- A completion fits the host mailbox now: ring space, and a buffer when it has a result block (R240). -/
def HostMbx.takes (h : HostMbx) (k : HeldCpl) : Bool :=
  decide (idxDiff h.cplProd h.cplCons < 16) && !h.consFault && (k.block.isEmpty || h.freeRes.isSome)

/-- Writes a completion, its result block first, into the host mailbox (R215, R240). -/
def HostMbx.write (now : Nat) (k : HeldCpl) (h : HostMbx) : HostMbx :=
  let h := match k.block, h.freeRes with
    | [], _ => h
    | _, none => h
    | b, some n =>
      ({ h with resHandle := vset h.resHandle n k.cpl.handle.toNat, resLen := vset h.resLen n b.length,
                resSince := vset h.resSince n now }.put (0x800 + 0x400 * n) b).setStatus 1
  let h := h.put (0x240 + 16 * (h.cplProd % 16)) (plain k.cpl.bytes)
  { h with cplProd := (h.cplProd + 1) % 65536 }.setStatus 0

/-- Delivers a completion to the host SPI window, discarding one whose port was reset under it (Table 04.10). -/
def deliverHost (k : HeldCpl) (c : Chip) : Chip :=
  if c.host.discard.contains k.cpl.handle then
    c |> modHost (fun h => { h with discard := delFirst (· == k.cpl.handle) h.discard }) |> lintBlock 0x040A 7 0
  else if c.host.takes k then modHost (HostMbx.write c.clk.qtime k) c
  else modHost (fun h => { h with held := h.held ++ [k] }) c

/-- Writes held host completions that fit, at most n; one that waits for a buffer does not hold up the others. -/
def drainHost : Nat → Chip → Chip
  | 0, c => c
  | n + 1, c =>
    match c.host.held.find? c.host.takes with
    | none => c
    | some k => drainHost n (modHost (fun h => HostMbx.write c.clk.qtime k { h with held := delFirst (· == k) h.held }) c)

/-- An item on bulk IN (R243). -/
def usbItem (typ : Nat) (body : List Byte) (completion : Bool) (now : Nat) : UsbItem :=
  { bytes := leBytes 1 typ ++ [0] ++ leBytes 2 body.length ++ body, completion := completion, since := now }

/-- Delivers a completion on USB: a RESULT item first when there is a block (R243). -/
def deliverUsb (k : HeldCpl) (c : Chip) : Chip :=
  if c.usb.discard.contains k.cpl.handle then
    { c with usb := { c.usb with discard := delFirst (· == k.cpl.handle) c.usb.discard } } |> lintBlock 0x040A 7 1
  else
    let now := c.clk.qtime
    let res := if k.block.isEmpty then [] else [usbItem 3 (leBytes 4 k.cpl.handle.toNat ++ k.block) false now]
    { c with usb := { c.usb with items := c.usb.items ++ res ++ [usbItem 2 (plain k.cpl.bytes) true now] } }

/-- Delivers a completion record by its command's path; the steward's own has no ring. -/
def deliver (m : Cmd) (k : HeldCpl) (c : Chip) : Chip :=
  match m.org with
  | .part 0 => c
  | .part p => deliverGuest p k c
  | .host => deliverHost k c
  | .usb => deliverUsb k c
  | .link n => { c with linkCpls := c.linkCpls ++ [{ node := n, block := k.block, cpl := k.cpl }] }

/-- Completes a command: its record is formed and delivered, and its handle is no longer outstanding (R211, R213). -/
def complete (m : Cmd) (st : Status) (info result : Nat) (block : List Byte) (c : Chip) : Chip :=
  let k : Cpl := { handle := m.handle, tag := m.tag, tagPoison := m.tagPoison, status := st, info := info, result := result }
  deliver m { cpl := k, quiet := m.quiet, block := block }
    { c with cmds := delFirst (fun x => x.handle == m.handle && x.org == m.org) c.cmds, lastCpl := some k }

/-- The outstanding command with a handle. -/
def findCmd (c : Chip) (h : Long) : Option Cmd := c.cmds.find? (·.handle == h)

/-- The steward's own command, which has no handle. -/
def ownCmd (op : Nat) (params : List Byte) : Cmd := { org := .part 0, op := op, params := params }

/-- Completes a command that has been waiting, named by its handle (none: the steward's own). A CANCEL that waited for it to stop
completes after it (R227). -/
def finish (h : Option Long) (st : Status) (info result : Nat) (c : Chip) : Chip :=
  match h with
  | none => complete (ownCmd 0 []) st info result [] c
  | some h => match findCmd c h with
    | none => c
    | some m =>
      let c := complete m st info result [] c
      match m.cancelBy with
      | none => c
      | some k => match findCmd c k with
        | some x => complete x .ok 1 0 [] c
        | none => complete (ownCmd 0x0401 []) .ok 1 0 [] c

/-- Changes an outstanding command. -/
def modCmd (h : Long) (f : Cmd → Cmd) (c : Chip) : Chip := { c with cmds := modFirst (·.handle == h) f c.cmds }

/-- A CANCEL has reached a started command. -/
def cancelWaits (h : Option Long) (c : Chip) : Bool :=
  match h with
  | none => false
  | some h => ((findCmd c h).bind (·.cancelBy)).isSome

/-! ### Starting a command (R861, Table 18.4) -/

/-- What a started command answers: a completion, or a wait for the event that ends it. -/
inductive Reply where
  | done (st : Status) (info result : Nat) (block : List Byte)
  | wait
deriving DecidableEq, Repr

/-- A completion with nothing but its status. -/
def Reply.fail (st : Status) : Reply := .done st 0 0 []

/-- OK with nothing to report. -/
def Reply.ok : Reply := .done .ok 0 0 []

/-- OK with a RESULT. -/
def Reply.res (info result : Nat) : Reply := .done .ok info result []

/-- A command's own checks in order, then its effect; a failed check changes nothing (R861). -/
def checked (l : List (Bool × Reply)) (eff : Chip → Reply × Chip) (c : Chip) : Reply × Chip :=
  match firstFail l with
  | some r => (r, c)
  | none => eff c

/-- Shorthand for a check with a bare status. -/
def chk (bad : Bool) (st : Status) : Bool × Reply := (bad, .fail st)

/-- Consent of an external path (R252 to R254): the link path's holds for authenticated peers, and in recovery mode the host SPI window and USB hold it for what R129 accepts. -/
def consentOf (c : Chip) (o : Origin) : Bool :=
  match o with
  | .part _ => true
  | .host => vget c.consent 0 || c.pwr.phase == .recovery
  | .usb => vget c.consent 1 || c.pwr.phase == .recovery
  | .link n => vget c.consent 2 && c.link.node.authNodes.contains n

/-- The partition an origin acts as: an external origin has none. -/
def Origin.partNo : Origin → Option Nat
  | .part p => some p
  | _ => none

/-- Checks 2 and 3 of Table 18.4 that a row of the catalogue gives: its origins, consent and the LINK right. -/
def originOk (c : Chip) (code : Config.OriginCode) (o : Origin) : Bool :=
  match code with
  | .any => true
  | .part => !o.external
  | .guest => match o with | .part p => p != 0 | _ => false
  | .p0 => o == .part 0
  | .p0plus => match o with | .part p => p == 0 | _ => consentOf c o
  | .linkRight => match o with | .part p => hasRight c p 5 | _ => false
  | .p0plusGuest => match o with | .part _ => true | _ => consentOf c o

/-- The opcodes recovery mode accepts: SYS.INFO, SYS.RESET, SVC.STAGE, SVC.SWAP, SVC.RESTART (R129, R854), and in SCRAP the first
two alone (R791). -/
def inRecoverySet (c : Chip) (op : Nat) : Bool :=
  [0x0001, 0x0002].contains op || (lifeOf c != .scrap && [0x1120, 0x1121, 0x1122].contains op)

/-- The steward (or, in recovery mode, the boot ROM) is serving commands. -/
def serving (c : Chip) : Bool := (c.pwr.phase == .run && !c.stewDown) || c.pwr.phase == .recovery

/-- Every earlier command of the origin has completed, as ORDERED asks (R221). -/
def orderedReady (c : Chip) (m : Cmd) : Bool :=
  !m.ordered || (c.cmds.takeWhile fun x => x.handle != m.handle).all fun x => x.org != m.org

/-- The command that a row runs now, if there is one: the steward serves, the handle is outstanding with this opcode, it has not
started (or has started and its data are complete), and ORDERED allows it. -/
def takeReq (r : Req) (op : Nat) (c : Chip) : Option Cmd :=
  if !serving c then none
  else match r with
    | .own ps => if (Config.opRow op).any (fun row => row.plen == ps.length) then some (ownCmd op ps) else none
    | .accepted h => match findCmd c h with
      | none => none
      | some m => if m.op == op && (!m.started || m.dataSince.isSome) && orderedReady c m then some m else none

/-- Answers a started command: completes it, or leaves it started. -/
def answer (m : Cmd) : Reply × Chip → Chip
  | (.done st info result block, c) => complete m st info result block c
  | (.wait, c) => modCmd m.handle (fun x => { x with started := true }) c

/-- Runs a mailbox row: checks 1 to 3 of Table 18.4, then the command's own checks and effect (R259, R861). -/
def serve (op : Nat) (r : Req) (body : Cmd → Chip → Reply × Chip) (c : Chip) : Chip :=
  match takeReq r op c, Config.opRow op with
  | some m, some row =>
    if m.ptrDenied then answer m (.fail .denied, c)
    else if m.paramPoison || m.tagPoison then answer m (.fail .poisoned, c)
    else if c.pwr.phase == .recovery && !inRecoverySet c op then answer m (.fail .badState, c)
    else if !originOk c row.origin m.org then answer m (.fail .denied, c)
    else answer m (body m c)
  | _, _ => c

/-! ### Results longer than a word (R215) -/

/-- Answers with a block: an external origin receives it before its completion, a partition at its destination, which must be
writable memory (else DENIED). -/
def answerBlock (m : Cmd) (dest info result : Nat) (block : List Byte) (c : Chip) : Reply × Chip :=
  match m.org with
  | .part p =>
    if kRangeOk c p .w dest block.length then (.done .ok info result [], writeK p dest (clean block) c)
    else (.fail .denied, c)
  | _ => (.done .ok info result block, c)

/-- A DEST field of four bytes is well formed: [31:24] zero and 4-byte aligned, and 0 for an external origin. -/
def destOk (m : Cmd) (dest : Nat) : Bool :=
  decide (dest < 2 ^ 24) && dest % 4 == 0 && (!m.org.external || dest == 0)

/-- Byte at record offset `off` of a command's parameters; parameters begin at offset 8 (R199). -/
def Cmd.b (m : Cmd) (off : Nat) : Nat := pbyte m.params (off - 8)
/-- Field of n bytes at a record offset. -/
def Cmd.f (m : Cmd) (off n : Nat) : Nat := pfield m.params (off - 8) n
/-- Reserved bytes at record offsets [off, off + n) are zero. -/
def Cmd.z (m : Cmd) (off n : Nat) : Bool := pzero m.params (off - 8) n

/-! ### Waiting for data (R247 to R251) -/

/-- Bytes of a tone table (R585). -/
def toneBytes (mode : Nat) : Nat := match mode with | 0 => 0 | 1 => 774 | _ => 258

/-- The byte count of the data that a command of an external origin takes (R247). -/
def dataNeed (m : Cmd) : Nat :=
  match m.op with
  | 0x0812 => m.f 10 2
  | 0x0B12 => toneBytes (m.b 8)
  | 0x1120 => m.f 16 4
  | _ => 0

/-- The command has all its data. -/
def dataReady (m : Cmd) : Bool := dataNeed m ≤ m.data.length

/-- Leaves a command started and waiting for data. -/
def waitData (m : Cmd) (c : Chip) : Reply × Chip :=
  (.wait, modCmd m.handle (fun x => { x with dataSince := some (x.dataSince.getD c.clk.qtime) }) c)

/-- Delivers a chunk of data to the command of a path that a handle names (R251): one that waits for data and takes the chunk whole.
The answer says whether it was taken; a chunk that is not is discarded with lint 0x040C. -/
def takeChunk (o : Origin) (handle : Nat) (bs : List PByte) (c : Chip) : Bool × Chip :=
  match findCmd c (BitVec.ofNat 32 handle) with
  | some m =>
    if m.org == o && m.dataSince.isSome && decide (m.data.length + bs.length ≤ dataNeed m) then
      (true, modCmd m.handle (fun x => { x with data := x.data ++ plain bs, dataPoison := x.dataPoison || anyPoison bs,
                                                dataSince := some c.clk.qtime }) c)
    else (false, lintBlock 0x040C 7 0 c)
  | none => (false, lintBlock 0x040C 7 0 c)

end Sys2Proof.Machine
end

