-- ==== Sys2Proof/Machine/LayersRegs.lean ====
section
/-! DEFINITION. Layer registers: validity, cost, admission, the layer and stitch windows, HOLD and the stitch engine (chapter 10). -/

namespace Sys2Proof.Machine

/-- A layer. -/
def layerOf (c : Chip) (hw : Nat) : LayerSt := c.lyr.layers.toList.getD hw {}
/-- Changes a layer. -/
def modLayer (hw : Nat) (f : LayerSt → LayerSt) (c : Chip) : Chip :=
  { c with lyr := { c.lyr with layers := vset c.lyr.layers hw (f (layerOf c hw)) } }
/-- A sprite group. -/
def groupOf (c : Chip) (p : Nat) : SprGroup := c.lyr.groups.toList.getD p {}
/-- Changes a sprite group. -/
def modGroup (p : Nat) (f : SprGroup → SprGroup) (c : Chip) : Chip :=
  { c with lyr := { c.lyr with groups := vset c.lyr.groups p (f (groupOf c p)) } }
/-- What a partition's layer window holds. -/
def lpOf (c : Chip) (p : Nat) : LyrPart := c.lyrParts.toList.getD p {}
/-- Changes it. -/
def modLp (p : Nat) (f : LyrPart → LyrPart) (c : Chip) : Chip := { c with lyrParts := vset c.lyrParts p (f (lpOf c p)) }
/-- Changes a stitch list. -/
def modStitch (p : Nat) (f : StitchSt → StitchSt) (c : Chip) : Chip := modLp p (fun l => { l with stitch := f l.stitch }) c

/-- The hardware index of a local layer: a rank among the partition's layers (R510). -/
def layerOfLocal (c : Chip) (p i : Nat) : Option Nat := (ownedUnits c p .layer)[i]?
/-- The local number of a hardware layer in its owner's view. -/
def layerLocal (c : Chip) (hw : Nat) : Nat := ((ownedUnits c (ownerOf c .layer hw) .layer).filter (· < hw)).length

/-! ### Cost and admission (R172, R175, R176, R541) -/

/-- W′ of Table 10.5. -/
def costWidth (c : Chip) (w : Nat) : Nat := if c.beam.vtotal = 0 then w else min w c.beam.hactive

/-- Bits per pixel of a tile or affine layer. -/
def tileBpp (fmt : Nat) : Nat := 2 * 2 ^ (fmt % 4)
/-- Tile width and height. -/
def tileDim (fmt : Nat) : Nat := if bit fmt 2 then 16 else 8
/-- BPPX of a bitmap format (Table 10.4). -/
def bppx (pixfmt : Nat) : Nat :=
  match pixfmt with
  | 0 => 1
  | 4 => 3
  | 5 => 4
  | 6 => 4
  | 11 => 4
  | _ => 2

/-- The cost of a layer in beam bytes per line (Table 10.5). -/
def layerCost (c : Chip) (hw : Nat) (r : LayerRegs) : Nat :=
  let w := costWidth c r.w
  match kindOf hw with
  | .tile => (w + tileDim r.fmt) * tileBpp r.fmt / 8 + 2 * (w / tileDim r.fmt + 2)
  | .affine => 4 * w
  | .sprite => 0
  | .bitmap => bppx (r.fmt % 16) * ((w * vget r.k 2 + 4095) / 4096 + 2) * (if bit r.fmt 9 then 2 else 1)
  | .overlay => (w + 3) / 4 + 16

/-- The cost of a sprite group. -/
def groupCost (g : SprGroup) : Nat := 24 * g.quota
/-- The cost of a stitch list. -/
def stitchCost (s : StitchSt) : Nat := 8 * s.slots

/-- A unit counts toward the load: enabled and not overbooked. -/
def counts (en : Bool) (m : UnitMarks) : Bool := en && !m.overbooked

/-- A partition's load (R172). -/
def loadOf (c : Chip) (p : Nat) : Nat :=
  ((ownedUnits c p .layer).map fun hw => if counts (layerOf c hw).r.en (layerOf c hw).m then layerCost c hw (layerOf c hw).r else 0).sum
    + (if counts (groupOf c p).en (groupOf c p).m then groupCost (groupOf c p) else 0)
    + (if counts (lpOf c p).stitch.en (lpOf c p).stitch.m then stitchCost (lpOf c p).stitch else 0)

/-- What admission answers. -/
inductive Admit where
  | yes | overbooked | refused
deriving DecidableEq, Repr

/-- Admission of a unit of a cost beside the rest of the load; `expert` marks a window enable, which OVERBOOK lets past the budget
(R175, R176). -/
def admission (c : Chip) (p rest cost : Nat) (expert : Bool) : Admit :=
  if rest + cost ≤ (partOf c p).budget then .yes
  else if expert && hasRight c p 2 then .overbooked
  else .refused

/-- The marks of a unit that admission has let in. -/
def UnitMarks.admitAs (a : Admit) (m : UnitMarks) : UnitMarks := { m with admitted := true, overbooked := a == .overbooked, underRight := a == .overbooked, gone := false }
/-- The marks of a unit that is disabled. -/
def UnitMarks.drop (m : UnitMarks) : UnitMarks := { m with admitted := false, overbooked := false, underRight := false, gone := false }

/-- Lint of a refused or overbooked enable (Table 03.7). -/
def lintAdmit (a : Admit) (p detail : Nat) (c : Chip) : Chip :=
  match a with
  | .yes => c
  | .overbooked => lintBlock 0x0303 p detail c
  | .refused => lintBlock 0x0302 p detail c

/-- Gives a layer new registers; if it is enabled by them and the change is one of admission, it is admitted or refused (R520). -/
def setLayerRegs (hw : Nat) (r : LayerRegs) (test expert : Bool) (c : Chip) : Chip :=
  let p := ownerOf c .layer hw
  let old := layerOf c hw
  if !r.en then modLayer hw (fun l => { r := r, m := l.m.drop }) c
  else if !test && old.r.en then modLayer hw (fun l => { l with r := r }) c
  else
    let rest := loadOf (modLayer hw (fun l => { l with r := { l.r with en := false } }) c) p
    match admission c p rest (layerCost c hw r) expert with
    | .refused => lintAdmit .refused p hw c
    | a => lintAdmit a p hw (modLayer hw (fun l => { r := r, m := l.m.admitAs a }) c)

/-- The same for a sprite group. -/
def setGroup (p : Nat) (g : SprGroup) (test expert : Bool) (c : Chip) : Chip :=
  let old := groupOf c p
  if !g.en then modGroup p (fun _ => { g with m := old.m.drop }) c
  else if !test && old.en then modGroup p (fun _ => { g with m := old.m }) c
  else
    let rest := loadOf (modGroup p (fun x => { x with en := false }) c) p
    match admission c p rest (groupCost g) expert with
    | .refused => lintAdmit .refused p 0x80 c
    | a => lintAdmit a p 0x80 (modGroup p (fun _ => { g with m := old.m.admitAs a }) c)

/-- The same for a stitch list. EN written 0 stops the list at once (R549). -/
def setStitch (p : Nat) (s : StitchSt) (test expert : Bool) (c : Chip) : Chip :=
  let old := (lpOf c p).stitch
  if !s.en then modStitch p (fun _ => { s with m := old.m.drop, actEn := false }) c
  else if !test && old.en then modStitch p (fun _ => { s with m := old.m }) c
  else
    let rest := loadOf (modStitch p (fun x => { x with en := false }) c) p
    match admission c p rest (stitchCost s) expert with
    | .refused => lintAdmit .refused p 0x81 c
    | a => lintAdmit a p 0x81 (modStitch p (fun _ => { s with m := old.m.admitAs a }) c)

/-- The effective mark of a unit (R543). -/
def essEff (ess : Bool) (m : UnitMarks) : Bool := ess && !m.overbooked

/-! ### Register values (Table 10.8, R538, R551) -/

/-- A format value is valid for a kind. -/
def fmtValid (kd : LKind) (v : Nat) : Bool :=
  match kd with
  | .bitmap =>
    let pf := v % 16
    let tf := bits v 8 7
    pf != 7 && pf < 12 && bits v 5 4 != 3 && tf != 3 && (tf == 0 || pf == 6 || pf == 11)
  | .tile => v % 4 != 3 && bits v 5 4 != 3 && bits v 7 6 != 3
  | .affine => v % 4 != 3 && bits v 5 4 != 3 && bits v 7 6 != 3
  | _ => true

/-- A value of a block register is within its range. -/
def blockValid (kd : LKind) (reg v : Nat) : Bool :=
  match reg with
  | 0x08 => 1 ≤ v % 4096 && v % 4096 ≤ 2048
  | 0x0A => 1 ≤ v % 4096 && v % 4096 ≤ 2048
  | 0x12 => fmtValid kd v
  | 0x14 => (match kd with | .bitmap => v % 16 == 0 | .tile => v % 32 == 0 | .affine => v % 32 == 0 | _ => true)
  | 0x18 => (match kd with | .bitmap => v % 16 == 0 | .tile => v % 2 == 0 | .affine => v % 2 == 0 | _ => true)
  | 0x1C => kd != .bitmap || v % 16 == 0
  | 0x20 => kd != .bitmap || v % 16 == 0
  | 0x22 => kd != .bitmap || v % 16 == 0
  | 0x24 => kd != .bitmap || (512 ≤ v % 16384 && v % 16384 ≤ 8192)
  | 0x26 => kd != .bitmap || (512 ≤ v % 16384 && v % 16384 ≤ 8192)
  | 0x2C => kd != .bitmap || (1 ≤ v % 4096 && v % 4096 ≤ 2048)
  | 0x2E => kd != .bitmap || (1 ≤ v % 4096 && v % 4096 ≤ 2048)
  | _ => true

/-- A register holds the low or the high part of an address. -/
def setLo (a v : Nat) : Nat := a / 65536 * 65536 + v % 65536
/-- The high byte of an address. -/
def setHi (a v : Nat) : Nat := v % 256 * 65536 + a % 65536

/-- The width of a kind-specific register. -/
def kMask (kd : LKind) (i : Nat) : Nat :=
  match kd, i with
  | .bitmap, 2 => 2 ^ 14
  | .bitmap, 3 => 2 ^ 14
  | .bitmap, 4 => 2 ^ 11
  | .bitmap, 5 => 2 ^ 11
  | .bitmap, 6 => 2 ^ 12
  | .bitmap, 7 => 2 ^ 12
  | _, _ => 2 ^ 16

/-- The bits of L_FMT that a kind defines; the others are reserved (R16, R551). -/
def fmtMask : LKind → Nat → Nat
  | .tile, v => v &&& 0x1F7
  | .affine, v => v &&& 0x1F7
  | .bitmap, v => v % 1024
  | _, v => v % 65536

/-- Writes a block register. -/
def LayerRegs.write (kd : LKind) (reg v : Nat) (r : LayerRegs) : LayerRegs :=
  match reg with
  | 0x00 => { r with en := bit v 0, ess := bit v 1, opaque0 := bit v 2, z := bits v 6 4 }
  | 0x04 => { r with x := v }
  | 0x06 => { r with y := v }
  | 0x08 => { r with w := v % 4096 }
  | 0x0A => { r with h := v % 4096 }
  | 0x0C => { r with galpha := v % 256 }
  | 0x0E => { r with subst := v % 1024 }
  | 0x10 => { r with palbase := v % 1024 }
  | 0x12 => { r with fmt := fmtMask kd v }
  | 0x14 => { r with base := vmod r.base 0 fun a => setLo a v }
  | 0x16 => { r with base := vmod r.base 0 fun a => setHi a v }
  | 0x18 => { r with base := vmod r.base 1 fun a => setLo a v }
  | 0x1A => { r with base := vmod r.base 1 fun a => setHi a v }
  | 0x1C => { r with base := vmod r.base 2 fun a => setLo a v }
  | 0x1E => { r with base := vmod r.base 2 fun a => setHi a v }
  | _ => if 0x20 ≤ reg ∧ reg ≤ 0x2E then { r with k := vset r.k ((reg - 0x20) / 2) (v % kMask kd ((reg - 0x20) / 2)) } else r

/-- Reads a block register; STATUS comes from the layer's marks. -/
def LayerSt.read (hw reg : Nat) (l : LayerSt) : Nat :=
  let r := l.r
  match reg with
  | 0x00 => bitsToNat [r.en, r.ess, r.opaque0, false] + 16 * r.z
  | 0x02 => (kindOf hw).code + 16 * hw
      + 256 * bitsToNat [l.m.admitted, l.m.overbooked, essEff r.ess l.m, l.m.shedNow]
  | 0x04 => r.x
  | 0x06 => r.y
  | 0x08 => r.w
  | 0x0A => r.h
  | 0x0C => r.galpha
  | 0x0E => r.subst
  | 0x10 => r.palbase
  | 0x12 => r.fmt
  | 0x14 => vget r.base 0 % 65536
  | 0x16 => vget r.base 0 / 65536
  | 0x18 => vget r.base 1 % 65536
  | 0x1A => vget r.base 1 / 65536
  | 0x1C => vget r.base 2 % 65536
  | 0x1E => vget r.base 2 / 65536
  | _ => if 0x20 ≤ reg ∧ reg ≤ 0x2E then vget r.k ((reg - 0x20) / 2) else 0

/-- The Stitch column of a block register. -/
def blockStitchable (kd : LKind) (reg : Nat) : Bool :=
  match reg with
  | 0x00 => false
  | 0x02 => false
  | 0x08 => false
  | 0x0A => false
  | 0x12 => false
  | _ =>
    if reg < 0x20 then true
    else match kd with
      | .tile => reg ≤ 0x22
      | .affine => reg ≤ 0x2E
      | .bitmap => reg == 0x28 || reg == 0x2A
      | _ => false

/-- A kind of layer uses a block register (Table 10.8); a write of one it does not use has no effect beyond the value (R551). -/
def blockUsed (kd : LKind) (reg : Nat) : Bool :=
  match kd with
  | .tile => reg ≤ 0x22
  | .affine => true
  | .bitmap => true
  | .sprite => reg < 0x20 && reg != 0x12
  | .overlay => reg ≤ 0x20 && reg != 0x12

/-! ### Where an offset of the window leads (R556) -/

/-- A register of the layer window, named by its hardware unit. -/
inductive LReg where
  | block (hw reg : Nat)
  | group (reg : Nat)
  | aff (key : Nat)
  | sprite (key : Nat)
  | pal (entry : Nat) (high : Bool)
deriving DecidableEq, Repr

/-- The palette entries of a partition: its banks, ascending (R513). -/
def palBanks (l : Lyr) (p : Nat) : List Nat := (List.range 16).filter fun b => vget l.palOwner b == p
/-- The hardware entry of a local one. -/
def palEntry (l : Lyr) (p e : Nat) : Option Nat := (palBanks l p)[e / 64]?.map fun b => 64 * b + e % 64

/-- The sprite run of a local run number. -/
def runOf (c : Chip) (p n : Nat) : Option Nat := windowUnit c p .sprite n

/-- The register at an offset from 0x4000 in a partition's view. -/
def lregAt (c : Chip) (p o : Nat) : Option LReg :=
  if o < 0x400 then
    let reg := o % 0x80
    if 0x30 ≤ reg then none else (layerOfLocal c p (o / 0x80)).map fun hw => .block hw reg
  else if 0x400 ≤ o ∧ o ≤ 0x40A then
    if (ownedUnits c p .sprite).isEmpty then none else some (.group (o - 0x400))
  else if 0x500 ≤ o ∧ o < 0x600 then (runOf c p ((o - 0x500) / 8)).map fun r => .aff (4 * r + o % 8 / 2)
  else if 0x800 ≤ o ∧ o < 0x1000 then
    (runOf c p ((o - 0x800) / 64)).map fun r => .sprite (4 * (8 * r + (o - 0x800) / 8 % 8) + o % 8 / 2)
  else if 0x1000 ≤ o ∧ o < 0x2000 then
    let e := (o - 0x1000) / 4
    (palEntry c.lyr p e).map fun h => .pal h (o % 4 == 2)
  else none

/-- A value written to a register is valid (R551). -/
def LReg.valid (v : Nat) : LReg → Bool
  | .block hw reg => blockValid (kindOf hw) reg v
  | .group 0x02 => v % 32 == 0
  | _ => true

/-- The register takes writes. -/
def LReg.writable : LReg → Bool
  | .block _ reg => reg != 0x02
  | .group reg => reg ≤ 0x0A
  | _ => true

/-- Reserved bits of a sprite attribute word read zero (Table 10.3). -/
def spriteMask (key v : Nat) : Nat :=
  match key % 4 with
  | 1 => v % 2 ^ 15
  | 2 => v % 2 ^ 14
  | 3 => bits v 14 9 * 512 + bits v 8 4 * 16 + v % 16
  | _ => v % 2 ^ 16

/-- Reads a register of the live state. -/
def lregRead (c : Chip) (p : Nat) : LReg → Nat
  | .block hw reg => (layerOf c hw).read hw reg
  | .group reg =>
    let g := groupOf c p
    match reg with
    | 0x00 => bitsToNat [g.en, g.ess]
    | 0x02 => g.tilebase % 65536
    | 0x04 => g.tilebase / 65536
    | 0x06 => g.palbase
    | 0x08 => g.subst
    | 0x0A => g.quota % 128 + 256 * b2n g.lineOver + 512 * b2n g.m.shed
    | _ => 0
  | .aff key => sget 0 c.lyr.affs key
  | .sprite key => sget 0 c.lyr.sprites key
  | .pal e high => if high then sget 0 c.lyr.palette e / 65536 else sget 0 c.lyr.palette e % 65536

/-- Commits a palette entry with a high half, and empties the holding register given (R519). -/
def palCommit (e v : Nat) (held : Option (Nat × Nat)) (c : Chip) : Chip :=
  let lo := match held with
    | some (h, lo) => if h = e then lo else sget 0 c.lyr.palette e % 65536
    | none => sget 0 c.lyr.palette e % 65536
  { c with lyr := { c.lyr with palette := sput 0 c.lyr.palette e (v % 2 ^ 15 * 65536 + lo) } }

/-- Writes a register of the live state. `stitch` selects the holding register for palette halves (R519); a write that is an admission
is tested as one (R520). -/
def lregWrite (p v : Nat) (stitch : Bool) (x : LReg) (c : Chip) : Chip :=
  match x with
  | .block hw reg =>
    let l := layerOf c hw
    let r := l.r.write (kindOf hw) reg v
    if blockStitchable (kindOf hw) reg || !blockUsed (kindOf hw) reg then modLayer hw (fun l => { l with r := r }) c
    else setLayerRegs hw r true true c
  | .group reg =>
    let g := groupOf c p
    match reg with
    | 0x00 => setGroup p { g with en := bit v 0, ess := bit v 1 } true true c
    | 0x02 => modGroup p (fun g => { g with tilebase := setLo g.tilebase v }) c
    | 0x04 => modGroup p (fun g => { g with tilebase := setHi g.tilebase v }) c
    | 0x06 => modGroup p (fun g => { g with palbase := v % 1024 }) c
    | 0x08 => modGroup p (fun g => { g with subst := v % 1024 }) c
    | 0x0A => if bit v 8 then modGroup p (fun g => { g with lineOver := false }) c else c
    | _ => c
  | .aff key => { c with lyr := { c.lyr with affs := sput 0 c.lyr.affs key (v % 65536) } }
  | .sprite key => { c with lyr := { c.lyr with sprites := sput 0 c.lyr.sprites key (spriteMask key v) } }
  | .pal e high =>
    if high then
      let held := if stitch then (lpOf c p).palLowSt else (lpOf c p).palLow
      palCommit e v held (modLp p (fun l => if stitch then { l with palLowSt := none } else { l with palLow := none }) c)
    else modLp p (fun l => if stitch then { l with palLowSt := some (e, v % 65536) } else { l with palLow := some (e, v % 65536) }) c

/-- Lint 0x0A01: a layer's register names the layer, any other the block (Table 10.9, R845). -/
def lintReg (p off : Nat) (x : LReg) (c : Chip) : Chip :=
  match x with
  | .block hw _ => lint 0x0A01 (0x0600 + hw) p off c
  | _ => lintBlock 0x0A01 p off c

/-- A write at a window offset: ignored with lint 0x0A01 where its value is invalid (R551). -/
def lyrDirect (p o v : Nat) (c : Chip) : Chip :=
  match lregAt c p o with
  | none => c
  | some x =>
    if !x.writable then c
    else if !x.valid v then lintReg p (0x4000 + o) x c
    else lregWrite p v false x c

/-! ### HOLD (R518) -/

/-- The live state with the partition's staged and released writes made, as reads see it. -/
def stagedView (c : Chip) (p : Nat) : Chip :=
  let l := lpOf c p
  (l.released.map (·.2) ++ l.staged).foldl (fun c w => lyrDirect p w.1 w.2 c) c

/-- A write of LYR_HOLD: HOLD from 1 to 0 releases every staged write. -/
def writeHold (p v : Nat) (c : Chip) : Chip :=
  modLp p (fun l =>
    let l := { l with atFrame := bit v 1 }
    if l.hold && !bit v 0 then { l with hold := false, released := l.released ++ l.staged.map fun w => (l.atFrame, w), staged := [] }
    else { l with hold := bit v 0 }) c

/-- Released writes are waiting for their opening, or writes are staged. -/
def LyrPart.pending (l : LyrPart) : Bool := !l.released.isEmpty || !l.staged.isEmpty

/-- Applies released writes at an opening (R515 step 1). -/
def applyReleased (line0 : Bool) (c : Chip) : Chip :=
  (List.range 7).foldl (fun c p =>
    let due := (lpOf c p).released.filter fun w => !w.1 || line0
    let c := modLp p (fun l => { l with released := l.released.filter fun w => w.1 && !line0 }) c
    due.foldl (fun c w => lyrDirect p w.2.1 w.2.2 c) c) c

/-! ### The windows at 0x4000 and 0x6000 -/

/-- Reads the layer window at an offset from 0x4000. -/
def lyrRead (p o : Nat) (c : Chip) : Nat :=
  if o = 0x480 then
    let l := lpOf c p
    b2n l.hold + 2 * b2n l.atFrame + 256 * b2n l.pending
  else match lregAt c p o with
    | none => 0
    | some x => lregRead (if (lpOf c p).pending then stagedView c p else c) p x

/-- Writes the layer window at an offset from 0x4000. -/
def lyrWrite (p o v : Nat) (c : Chip) : Chip :=
  if o = 0x480 then writeHold p v c
  else if (lpOf c p).hold then
    match lregAt c p o with
    | none => c
    | some x =>
      if !x.writable then c
      else if !x.valid v then lintReg p (0x4000 + o) x c
      else modLp p (fun l => { l with staged := l.staged ++ [(o, v)] }) c
  else lyrDirect p o v c

/-- Reads the stitch list control at an offset from 0x6000. -/
def stitchRead (p o : Nat) (c : Chip) : Nat :=
  let s := (lpOf c p).stitch
  match o with
  | 0x0 => b2n s.en + 256 * (s.slots - 1)
  | 0x2 => s.base % 65536
  | 0x4 => s.base / 65536
  | 0x6 => s.count
  | 0x8 => bitsToNat [s.order, s.mapErr, s.late]
  | 0xA => s.pos
  | 0xC => s.skipped
  | _ => 0

/-- Writes the stitch list control at an offset from 0x6000 (R549, R551). -/
def stitchWrite (p o v : Nat) (c : Chip) : Chip :=
  let s := (lpOf c p).stitch
  match o with
  | 0x0 =>
    let s' := { s with en := bit v 0, slots := bits v 11 8 + 1 }
    setStitch p s' true true c
  | 0x2 => setStitch p { s with base := setLo s.base (v / 8 * 8) } true true c
  | 0x4 => setStitch p { s with base := setHi s.base v } true true c
  | 0x6 =>
    let n := v % 8192
    if n = 0 ∨ 4096 < n then lintBlock 0x0A01 p (0x6000 + o) c else setStitch p { s with count := n } true true c
  | 0x8 => modStitch p (fun s => { s with order := s.order && !bit v 0, mapErr := s.mapErr && !bit v 1, late := s.late && !bit v 2 }) c
  | _ => c

/-! ### The stitch engine (R544 to R549) -/

/-- The Stitch column of Table 10.8 for a register. -/
def LReg.stitchable : LReg → Bool
  | .block hw reg => blockStitchable (kindOf hw) reg
  | .group reg => reg == 2 || reg == 4 || reg == 6 || reg == 8
  | _ => true

/-- Lint of the stitch engine: the detail names an entry or a line. -/
def lintStitch (code p detail : Nat) (c : Chip) : Chip := lintBlock code p detail c

/-- Skips a stitch (R548). -/
def skipStitch (p : Nat) (c : Chip) : Chip :=
  let i := (lpOf c p).stitch.pos
  lintStitch 0x0A05 p i (modStitch p (fun s => { s with pos := s.pos + 1, skipped := satAdd 0xFFFF s.skipped 1 }) c)

/-- Applies one stitch's masked write; an invalid value is ignored as a direct write's is. -/
def applyStitch (p target value mask : Nat) (x : LReg) (c : Chip) : Chip :=
  let old := match x with
    | .pal e false => (match (lpOf c p).palLowSt with | some (h, lo) => if h = e then lo else lregRead c p x | none => lregRead c p x)
    | x => lregRead c p x
  let v := (old &&& (65535 - mask)) ||| (value &&& mask)
  if x.valid v then lregWrite p v true x c else lintReg p (0x4000 + target) x c

/-- Walks a list at the opening for line n: entries in order, at most `slots` applied, the rest left for the next opening (R545 to R547). -/
def walkStitches (p n : Nat) : Nat → Nat → Chip → Chip
  | 0, _, c => c
  | fuel + 1, slots, c =>
    let s := (lpOf c p).stitch
    if s.stopped ∨ s.actCount ≤ s.pos then c
    else
      let ka := (s.actBase + 8 * s.pos) % 2 ^ 24
      if !kRangeOk c p .r ka 8 then
        lintStitch 0x0A03 p s.pos (modStitch p (fun s => { s with stopped := true, mapErr := true }) c)
      else
        let (bs, c) := readKFree p ka 8 c
        if anyPoison bs then walkStitches p n fuel slots (skipStitch p c)
        else
          let b := plain bs
          let w := pfield b 0 2
          let line := w % 2048
          let target := pfield b 2 2
          if line < s.prevLine ∨ c.beam.vactive ≤ line then
            lintStitch 0x0A03 p s.pos (modStitch p (fun s => { s with stopped := true, order := true }) c)
          else if n < line then c
          else
            let last := bit w 15
            let reg := if target % 2 = 1 ∨ 0x2000 ≤ target ∨ bits w 14 11 ≠ 0 then none else (lregAt c p target).filter LReg.stitchable
            match reg with
            | none =>
              walkStitches p n fuel slots (modStitch p (fun s => { s with prevLine := line, stopped := last }) (skipStitch p c))
            | some x =>
              match slots with
              | 0 => c
              | slots + 1 =>
                let c := applyStitch p target (pfield b 4 2) (pfield b 6 2) x c
                let c := modStitch p (fun s => { s with pos := s.pos + 1, prevLine := line, stopped := last }) c
                let c := if line < n then lintStitch 0x0A04 p line (modStitch p (fun s => { s with late := true }) c) else c
                walkStitches p n fuel slots c

/-- The list start, which is the opening for line 0 (R545, R549). -/
def startList (s : StitchSt) : StitchSt :=
  { s with pos := 0, prevLine := 0, stopped := false, actEn := s.en && s.m.admitted, actSlots := s.slots, actBase := s.base, actCount := s.count }

/-- Stitches of every partition at the opening for line n, in partition order. -/
def runStitches (n : Nat) (c : Chip) : Chip :=
  (List.range 7).foldl (fun c p =>
    let c := if n = 0 then modStitch p startList c else c
    let s := (lpOf c p).stitch
    if s.actEn && !(lpOf c p).hidden then walkStitches p n 4097 s.actSlots c else c) c

end Sys2Proof.Machine
end

