-- ==== Sys2Proof/Machine/Flags.lean ====
section
/-! DEFINITION. The arithmetic of the Kuval core and every flag computation of Table 05.11. -/

namespace Sys2Proof.Machine

/-- A result and the flags it sets; a flag that is `none` is unchanged (Table 05.11). -/
structure AluRes where
  res : Nat
  z : Option Bool := none
  n : Option Bool := none
  c : Option Bool := none
  v : Option Bool := none
deriving DecidableEq, Repr

/-- Z and N from a result of w bits. -/
def AluRes.zn (w res : Nat) : AluRes := { res := res, z := some (res == 0), n := some (bit res (w - 1)) }

/-- Addition with carry in, on w bits. -/
def addFlags (w a b cin : Nat) : AluRes :=
  let sum := a + b + cin
  let res := sum % 2 ^ w
  let exact : Int := sext w a + sext w b + cin
  { AluRes.zn w res with c := some (decide (2 ^ w ≤ sum)), v := some (decide (sext w res ≠ exact)) }

/-- Subtraction with borrow in, on w bits; C is 1 when it borrows. -/
def subFlags (w a b bin : Nat) : AluRes :=
  let res := (a + 2 ^ w + 2 ^ w - b - bin) % 2 ^ w
  let exact : Int := sext w a - sext w b - bin
  { AluRes.zn w res with c := some (decide (a < b + bin)), v := some (decide (sext w res ≠ exact)) }

/-- Logic: C and V become 0. -/
def logicFlags (w res : Nat) : AluRes := { AluRes.zn w res with c := some false, v := some false }

/-- The shifts of Table 05.3. -/
inductive ShiftOp where
  | shl | shr | sar | ror
deriving DecidableEq, Repr

/-- A shift of 16 bits by n places, n below 16; n = 0 leaves C (R278, Table 05.11). -/
def shiftFlags (o : ShiftOp) (d n : Nat) : AluRes :=
  let res := match o with
    | .shl => d * 2 ^ n % 65536
    | .shr => d / 2 ^ n
    | .sar => narrow 16 (sext 16 d / (2 ^ n : Nat))
    | .ror => (d / 2 ^ n + d * 2 ^ (16 - n)) % 65536
  let out := match o with
    | .shl => bit d (16 - n)
    | .shr => bit d (n - 1)
    | .sar => bit d (n - 1)
    | .ror => bit res 15
  { AluRes.zn 16 res with c := if n = 0 then none else some out, v := some false }

/-- The operations of Table 05.3 that have a long form. -/
inductive AluOp where
  | mov | add | adc | sub | sbc | cmp | and | or | xor | tst
deriving DecidableEq, Repr

/-- The operation writes its destination. -/
def AluOp.writes : AluOp → Bool
  | .cmp => false
  | .tst => false
  | _ => true

/-- The operation reads its destination. -/
def AluOp.readsDest : AluOp → Bool
  | .mov => false
  | _ => true

/-- The operation reads C. -/
def AluOp.readsFl : AluOp → Bool
  | .adc => true
  | .sbc => true
  | _ => false

/-- A two-operand operation on w bits (Tables 05.3 and 05.11). -/
def aluOp (o : AluOp) (w d s cin : Nat) : AluRes :=
  match o with
  | .mov => { res := s }
  | .add => addFlags w d s 0
  | .adc => addFlags w d s cin
  | .sub => subFlags w d s 0
  | .sbc => subFlags w d s cin
  | .cmp => subFlags w d s 0
  | .and => logicFlags w (d &&& s)
  | .or => logicFlags w (d ||| s)
  | .xor => logicFlags w (d ^^^ s)
  | .tst => logicFlags w (d &&& s)

/-- The unary operations of Table 05.4. -/
inductive UnaryOp where
  | not | neg | inc | dec | sxt | zxt | swab | clr
deriving DecidableEq, Repr

/-- A unary operation on 16 bits (Tables 05.4 and 05.11). -/
def unaryOp (o : UnaryOp) (d : Nat) : AluRes :=
  match o with
  | .not => logicFlags 16 (65535 - d)
  | .neg => subFlags 16 0 d 0
  | .inc => { addFlags 16 d 1 0 with c := none }
  | .dec => { subFlags 16 d 1 0 with c := none }
  | .sxt => AluRes.zn 16 (narrow 16 (sext 8 d))
  | .zxt => AluRes.zn 16 (d % 256)
  | .swab => AluRes.zn 16 (d % 256 * 256 + d / 256)
  | .clr => { res := 0 }

/-- A 16 by 16 multiplication to 32 bits (Tables 05.3 and 05.11). -/
def mulFlags (signed : Bool) (d s : Nat) : AluRes :=
  logicFlags 32 (if signed then narrow 32 (sext 16 d * sext 16 s) else d * s)

/-- The accumulation of MAC: V is 1 on signed overflow of L0 and otherwise unchanged (Table 05.11). -/
def macFlags (l0 a b : Nat) : AluRes :=
  let exact : Int := sext 32 l0 + sext 16 a * sext 16 b
  let res := narrow 32 exact
  { AluRes.zn 32 res with v := if sext 32 res ≠ exact then some true else none }

/-- A condition of Table 05.8, 0 BRA to 14 BLE. -/
def condTrue (k : Nat) (f : FlagReg) : Bool :=
  match k with
  | 0 => true
  | 1 => f.z
  | 2 => !f.z
  | 3 => f.c
  | 4 => !f.c
  | 5 => f.n
  | 6 => !f.n
  | 7 => f.v
  | 8 => !f.v
  | 9 => !f.c && !f.z
  | 10 => f.c || f.z
  | 11 => f.n == f.v
  | 12 => f.n != f.v
  | 13 => !f.z && f.n == f.v
  | _ => f.z || f.n != f.v

/-- All four of Z, N, C and V are written. -/
def AluRes.allFlags (r : AluRes) : Bool := r.z.isSome && r.n.isSome && r.c.isSome && r.v.isSome

/-- Some of Z, N, C and V is written. -/
def AluRes.anyFlag (r : AluRes) : Bool := r.z.isSome || r.n.isSome || r.c.isSome || r.v.isSome

/-- Sets the flags of a result and the FL tag by R344: a tagged operand sets it, untagged operands clear it only where all four
flags are written. -/
def setFlags (r : AluRes) (tag : Bool) (x : Core) : Core :=
  { x with fl := { x.fl with z := r.z.getD x.fl.z, n := r.n.getD x.fl.n, c := r.c.getD x.fl.c, v := r.v.getD x.fl.v },
           flTag := if r.anyFlag then (if tag then true else if r.allFlags then false else x.flTag) else x.flTag }

end Sys2Proof.Machine
end

