-- ==== Sys2Proof/Machine/Operands.lean ====
section
/-! DEFINITION. Kuval operands: registers with their tags, special registers, operand forms, addressing modes, faults and the checks of the guard unit and the map. -/

namespace Sys2Proof.Machine

/-! ### Registers and tags -/

/-- The value of Wi. -/
def Core.reg (x : Core) (i : Nat) : Nat := (x.w.toList.getD i 0).toNat
/-- The tag of Wi. -/
def Core.tag (x : Core) (i : Nat) : Bool := x.wTag.getLsbD i
/-- The value of pair Lp (R266). -/
def Core.pair (x : Core) (p : Nat) : Nat := x.reg (2 * p) + 65536 * x.reg (2 * p + 1)
/-- Either word of pair Lp is tagged. -/
def Core.pairTag (x : Core) (p : Nat) : Bool := x.tag (2 * p) || x.tag (2 * p + 1)

/-- Sets one tag bit. -/
def setTagBit (m : BitVec 8) (i : Nat) (t : Bool) : BitVec 8 := if t then m ||| (1#8 <<< i) else m &&& ~~~(1#8 <<< i)

/-- Writes Wi with its tag. -/
def Core.setReg (x : Core) (i v : Nat) (t : Bool) : Core :=
  { x with w := vset x.w i (BitVec.ofNat 16 v), wTag := setTagBit x.wTag i t }

/-- Writes pair Lp with its tags, both halves as one (R266, R345). -/
def Core.setPair (x : Core) (p v : Nat) (t : Bool) : Core :=
  (x.setReg (2 * p) (v % 65536) t).setReg (2 * p + 1) (v / 65536 % 65536) t

/-- A 16-bit offset with its sum taken modulo 2^16 (R269). -/
def off16 (a b : Nat) : Nat := (a + b) % 65536

/-- A 24-bit Kuval address from a bank and an offset. -/
def kaddr (bank : Byte) (off : Nat) : Nat := bank.toNat * 65536 + off % 65536

/-- The address that a long pair gives (R272). -/
def Core.pairAddr (x : Core) (p : Nat) : Nat := x.reg (2 * p + 1) % 256 * 65536 + x.reg (2 * p)

/-! ### Faults (Tables 06.2, 06.3, 05.14 and 06.8) -/

/-- A fault before it is entered: CAUSE, DETAIL, ACCESS (0 none, 1 read, 2 write, 3 execute), the address that
ADDR_LO and ADDR_HI hold, and its lint code. -/
structure Flt where
  cause : Nat
  detail : Nat := 0
  access : Nat := 0
  addr : Nat := 0
  lint : Nat
deriving DecidableEq, Repr

/-- ILLEGAL with its lint code. -/
def Flt.illegal (code : Nat) : Flt := { cause := 2, lint := code }
/-- ALIGN at an address. -/
def Flt.align (access addr : Nat) : Flt := { cause := 3, access := access, addr := addr, lint := 0x0504 }
/-- MAP at an address. -/
def Flt.map (detail access addr : Nat) : Flt := { cause := 4, detail := detail, access := access, addr := addr, lint := 0x0506 }
/-- GUARD at an address. -/
def Flt.guard (detail access addr : Nat) : Flt := { cause := 5, detail := detail, access := access, addr := addr, lint := 0x0601 }
/-- A region register written while the guard is enabled (R357). -/
def Flt.guardWrite (addr : Nat) : Flt := { cause := 5, detail := 9, access := 2, addr := addr, lint := 0x0602 }
/-- POISON at a consumption point of Table 06.5 that is no address. -/
def Flt.poison (detail : Nat) : Flt := { cause := 6, detail := detail, lint := 0x0505 }
/-- POISON at an address consumption point (R334). -/
def Flt.poisonAddr (access addr : Nat) : Flt := { cause := 6, detail := 1, access := access, addr := addr, lint := 0x0505 }
/-- PRIV: 0 RETI, 1 control window. -/
def Flt.priv (detail : Nat) : Flt := { cause := 7, detail := detail, lint := 0x0507 }

/-- The CAUSE word of the frame (Table 06.2). -/
def Flt.word (f : Flt) : Nat := f.cause + 256 * f.access + 4096 * f.detail

/-- The ACCESS code of a right. -/
def Right.access : Right → Nat
  | .r => 1
  | .w => 2
  | .x => 3

/-! ### The guard unit (R349 to R354) -/

/-- An enabled region matches an address (R350). -/
def GuardRegion.matches (g : GuardRegion) (a : Nat) : Bool :=
  g.en && decide (g.base ≤ a) && decide (a < g.base + 2 ^ g.sizeLog2)
    && !g.srd.getLsbD ((a - g.base) / 2 ^ (g.sizeLog2 - 3))

/-- The region grants a right. -/
def GuardRegion.grants (g : GuardRegion) : Right → Bool
  | .r => g.r
  | .w => g.w
  | .x => g.x

/-- The region that decides an address: the matching one with the highest number (R351). -/
def GuardUnit.decides (u : GuardUnit) (a : Nat) : Option Nat :=
  ((List.range 8).filter fun g => (vget u.regions g).matches a).getLast?

/-- What the guard unit answers an access of play mode: none to allow it (R351, R352). -/
def guardFault (x : Core) (right : Right) (a : Nat) : Option Flt :=
  if x.fl.h || !x.guard.en then none
  else match x.guard.decides a with
    | some g => if (vget x.guard.regions g).grants right then none else some (.guard g right.access a)
    | none => if x.guard.background then none else some (.guard 8 right.access a)

/-- A region's configuration obeys R349. -/
def GuardRegion.configOk (g : GuardRegion) : Bool :=
  8 ≤ g.sizeLog2 && g.sizeLog2 ≤ 24 && g.base % 2 ^ g.sizeLog2 == 0

/-! ### Checks of an access (Table 06.4) -/

/-- The partition that owns a core. -/
def corePart (c : Chip) (k : Nat) : Nat := if k = 6 then 0 else vget c.own.cores k

/-- What the partition map answers an access: none to allow it (R156). -/
def mapFault (c : Chip) (p : Nat) (right : Right) (a : Nat) : Option Flt :=
  let e := mapEntry c p (a / 65536 % 256)
  if !e.v then some (.map 0 right.access a)
  else if e.grants right then none
  else some (.map 1 right.access a)

/-- An address lies in a bank of type window. -/
def inWindow (c : Chip) (p a : Nat) : Bool :=
  let e := mapEntry c p (a / 65536 % 256)
  e.v && e.window

/-- One data access of an instruction: its right, address, size, whether a register that forms the address is tagged, and whether a
store carries a tagged register. -/
structure Acc where
  right : Right
  addr : Nat
  size : Nat
  tagged : Bool := false
  poisonStore : Bool := false
deriving DecidableEq, Repr

/-- PRIV: play mode and the control window (R326). -/
def privFault (x : Core) (a : Nat) : Option Flt :=
  if !x.fl.h && a / 65536 == 0xFF && a % 65536 / 4096 == 1 then some (.priv 1) else none

/-- A region register of the control window is written while the guard is enabled (R357). -/
def regionWriteFault (c : Chip) (k : Nat) (a : Acc) : Option Flt :=
  let off := a.addr % 65536
  if a.right = .w ∧ inWindow c (corePart c k) a.addr ∧ (coreOf c k).guard.en ∧
      ((0x1010 ≤ off ∧ off < 0x1050) ∨ (a.size = 4 ∧ 0x1010 ≤ off + 2 ∧ off + 2 < 0x1050)) then some (.guardWrite a.addr) else none

/-- The first fault of an instruction, class by class in the order of Table 06.4 and within a class in the order of the accesses.
`target` holds the faults that a jump target of its own brings: POISON of its register, and ALIGN. -/
def dataFaultAt (c : Chip) (k : Nat) (as : List Acc) (poisonTarget alignTarget : Option Flt) : Option Flt :=
  let x := coreOf c k
  let p := corePart c k
  (as.findSome? fun a => privFault x a.addr)
  <|> poisonTarget
  <|> (as.findSome? fun a => if a.tagged then some (.poisonAddr a.right.access a.addr) else none)
  <|> (as.findSome? fun a => if a.addr % a.size ≠ 0 then some (.align a.right.access a.addr) else none)
  <|> alignTarget
  <|> (as.findSome? fun a => guardFault x a.right a.addr <|> regionWriteFault c k a)
  <|> (as.findSome? fun a => mapFault c p a.right a.addr)
  <|> (as.findSome? fun a => if a.poisonStore && inWindow c p a.addr then some (.poison 5) else none)

/-- The first fault of an instruction's data accesses. -/
def dataFault (c : Chip) (k : Nat) (as : List Acc) : Option Flt := dataFaultAt c k as none none

/-- The first fault on fetching the words of an instruction: ALIGN of the fetch, then GUARD and MAP on each word (R271, R353, Table 06.4). -/
def fetchFault (c : Chip) (k words : Nat) : Option Flt :=
  let x := coreOf c k
  let at' (i : Nat) : Nat := kaddr x.cb (off16 x.pc.toNat (2 * i))
  if x.pc.toNat % 2 ≠ 0 then some (.align 3 (at' 0))
  else (List.range words).findSome? fun i => guardFault x .x (at' i) <|> mapFault c (corePart c k) .x (at' i)

end Sys2Proof.Machine

namespace Sys2Proof

open Sys2Proof.Machine

/-! ### Operand forms -/

/-- Instruction words of an ALU form (R277). -/
def AluForm.words : AluForm → Nat
  | .imm _ _ => 2
  | _ => 1

/-- The destination register, the second operand and its tag for the 16-bit forms (R277). -/
def AluForm.operands (f : AluForm) (x : Core) : Nat × Nat × Bool :=
  match f with
  | .reg d s => (d.val, x.reg s.val, x.tag s.val)
  | .imm d v => (d.val, v.toNat, false)
  | .small d k => (d.val, k.val + 1, false)
  | .pair p _ => (2 * p.val, 0, false)

/-- The value and tag of a register or constant operand. -/
def RegOrImm.value (o : RegOrImm) (x : Core) : Nat × Bool :=
  match o with
  | .reg s => (x.reg s.val, x.tag s.val)
  | .imm v => (v.toNat, false)

/-- Size in bytes (Table 05.7). -/
def Size.bytes : Size → Nat
  | .b => 1
  | .sb => 1
  | .w => 2
  | .l => 4

/-- Instruction words of an addressing mode (Table 05.7). -/
def MemForm.words : MemForm → Nat
  | .disp _ _ => 2
  | .spDisp _ => 2
  | .abs _ => 2
  | .pcDisp _ => 2
  | _ => 1

/-- The address an addressing mode forms, whether a register it uses is tagged, and the base register with its new value where the
mode updates it (Table 05.7, R284). `bank` is DB for LD and ST and XB for LDE and STE. -/
def MemForm.address (m : MemForm) (bank : Byte) (size : Nat) (x : Core) : Nat × Bool × Option (Nat × Nat) :=
  match m with
  | .ind b => (kaddr bank (x.reg b.val), x.tag b.val, none)
  | .postInc b => (kaddr bank (x.reg b.val), x.tag b.val, some (b.val, off16 (x.reg b.val) size))
  | .preDec b =>
    let a := off16 (x.reg b.val) (65536 - size)
    (kaddr bank a, x.tag b.val, some (b.val, a))
  | .disp b d => (kaddr bank (off16 (x.reg b.val) d.toNat), x.tag b.val, none)
  | .spDisp d => (kaddr x.sb (off16 x.sp.toNat d.toNat), x.spTag, none)
  | .abs a => (kaddr bank a.toNat, false, none)
  | .pairInd p => (x.pairAddr p.val, x.pairTag p.val, none)
  | .pcDisp d => (kaddr x.cb (off16 (off16 x.pc.toNat 4) d.toNat), false, none)

/-- Instruction words of a branch. -/
def BranchForm.words : BranchForm → Nat
  | .short _ => 1
  | .long _ => 2

/-- The target of a branch (R286, R287). -/
def BranchForm.target (f : BranchForm) (x : Core) : Nat :=
  match f with
  | .short d => narrow 16 (x.pc.toNat + 2 + 2 * d.toInt)
  | .long d => narrow 16 (x.pc.toNat + 4 + 2 * d.toInt)

/-- Instruction words of a jump. -/
def JumpForm.words : JumpForm → Nat
  | .reg _ => 1
  | .abs _ => 2

/-- The target offset of a jump and whether its register is tagged. -/
def JumpForm.target (f : JumpForm) (x : Core) : Nat × Bool :=
  match f with
  | .reg s => (x.reg s.val, x.tag s.val)
  | .abs a => (a.toNat, false)

/-- Instruction words of a far jump. -/
def FarForm.words : FarForm → Nat
  | .pair _ => 1
  | .abs _ _ => 2

/-- The 24-bit target of a far jump and whether its pair is tagged. -/
def FarForm.target (f : FarForm) (x : Core) : Nat × Bool :=
  match f with
  | .pair p => (x.pairAddr p.val, x.pairTag p.val)
  | .abs b a => (b.toNat * 65536 + a.toNat, false)

end Sys2Proof

namespace Sys2Proof.Machine

/-! ### Data registers and special registers -/

/-- The base register as a single register of the data register or pair: a store of it stores the value held before (R284). -/
def dataReg (z : Size) (r : Nat) (x : Core) : Nat × Bool :=
  match z with
  | .l => (x.pair r, x.pairTag r)
  | _ => (x.reg r, x.tag r)

/-- The address of the next instruction. -/
def Core.next (x : Core) (words : Nat) : Word := BitVec.ofNat 16 (x.pc.toNat + 2 * words)

/-- The value and tag of a special register (Table 05.4); banks read zero-extended and carry no tag. -/
def specialRead (e : Nat) (x : Core) : Nat × Bool :=
  match e with
  | 0 => (x.ct.toNat, x.ctTag)
  | 1 => (x.sp.toNat, x.spTag)
  | 2 => (x.db.toNat, false)
  | 3 => (x.xb.toNat, false)
  | 4 => (x.sb.toNat, false)
  | 5 => (x.cb.toNat, false)
  | _ => (x.fl.toWord.toNat, x.flTag)

/-- FL as WRS FL and POPF write it: C, Z, N, V and I, never H or RF (R268). -/
def FlagReg.write (f : FlagReg) (v : Nat) : FlagReg :=
  { f with c := bit v 0, z := bit v 1, n := bit v 2, v := bit v 3, i := bit v 4 }

/-- Writes a special register that WRS may write (Table 05.4, R348). -/
def specialWrite (e v : Nat) (t : Bool) (x : Core) : Core :=
  match e with
  | 0 => { x with ct := BitVec.ofNat 16 v, ctTag := t }
  | 1 => { x with sp := BitVec.ofNat 16 v, spTag := t }
  | 2 => { x with db := BitVec.ofNat 8 v }
  | 3 => { x with xb := BitVec.ofNat 8 v }
  | 4 => { x with sb := BitVec.ofNat 8 v }
  | 6 => { x with fl := x.fl.write v, flTag := t }
  | _ => x

end Sys2Proof.Machine
end

