-- ==== Sys2Proof/Machine/Beam.lean ====
section
/-! DEFINITION. Quartz time, the deadline governor, the beam and timebase window, and the commands of the timebase (chapter 01). -/

namespace Sys2Proof.Machine

/-! ### Quartz time and the VCORE output (R30, R45, R47) -/

/-- Changes the governor. -/
def modGov (f : Gov → Gov) (c : Chip) : Chip := { c with gov := f c.gov }

/-- Where the VCORE output moves: the target, and 0.60 V in class 2 (R47). -/
def outTarget (c : Chip) : Nat := if c.pwr.cls = 2 then 60 else c.gov.target

/-- The output after moving a number of 10 mV steps toward a target. -/
def moveOutput (target steps out : Nat) : Nat := if out < target then min target (out + steps) else max target (out - steps)

/-- Quartz time advances by n ticks, and the output moves 10 mV per µs (R45). -/
def advanceTime (n : Nat) (c : Chip) : Chip :=
  let t := c.gov.slew + n
  let out := moveOutput (outTarget c) (t / 24) c.gov.output
  { c with clk := { c.clk with qtime := (c.clk.qtime + n) % 2 ^ 64 },
           gov := { c.gov with output := out, slew := if out = outTarget c then 0 else t % 24 } }

/-- Quartz time is at least t: a row that says a time has come brings that time. -/
def atTime (t : Nat) (c : Chip) : Chip := if c.clk.qtime < t then advanceTime (t - c.clk.qtime) c else c

/-! ### The governor (R43 to R49) -/

/-- The output of scan-out holds the governor until the first frame start after its release, and class 2 and 3 do (R46); a follow
fault holds it until the output is back (R72). -/
def govHeld (c : Chip) : Bool := c.beam.hold || c.scan.h.fresh || c.pwr.cls != 1 || c.gov.followHold

/-- vmax of R44. -/
def vmaxOf (g : Gov) : Nat := if g.thermCap then min g.par.vmax 80 else g.par.vmax

/-- Lint of the governor, with the GOVERNOR event, whose DATA is stated nowhere and is a free value. -/
def lintGov (code detail : Nat) (c : Chip) : Chip :=
  let (d, c) := freeNat c
  fire 0 56 (d % 2 ^ 32) (lintBlock code 0xFF detail c)

/-- The slack of a line whose last fetch completed a number of dots before its deadline (R41). -/
def slackOf (dots htotal : Nat) : Nat := min 255 (dots * 256 / htotal)

/-- The slack of a line is known: it is kept, and tested for panic (R44). -/
def noteSlack (line slack : Nat) (c : Chip) : Chip :=
  let c := modGov (fun g => { g with slackLine := slack, slackRun := min g.slackRun slack }) c
  let p := c.gov.par
  if !govHeld c && 0 < p.panicWm && slack < p.panicWm then
    lintGov 0x0202 line (modGov (fun g => { g with target := min (g.target + p.panicSteps) (vmaxOf g), panic := true, panics := g.panics + 1 }) c)
  else c

/-- The governor's step at a frame start (R44); `vote` is the speed vote of R44, `fill` the audio output FIFO's fill. -/
def govFrame (vote : Bool) (fill : Nat) (c : Chip) : Chip :=
  let g := c.gov
  let p := g.par
  let s := g.slackRun
  let base : Gov := { g with slackMin := s, slackRun := 255, panic := false }
  if govHeld c then { c with gov := { base with calm := 0 } }
  else if s < p.lowWm || fill < p.audWm || vote then
    let c := if g.target = vmaxOf g ∧ s < p.lowWm then lintGov 0x0201 0 c else c
    { c with gov := { base with target := min (g.target + 1) (vmaxOf g), calm := 0 } }
  else if p.highWm < s && !g.panic then
    if p.holdFrames ≤ g.calm + 1 then { c with gov := { base with target := max (g.target - 1) p.vmin, calm := 0 } }
    else { c with gov := { base with calm := g.calm + 1 } }
  else { c with gov := { base with calm := 0 } }

/-- The thermal cap lifts at a frame start below 100 °C (R49), and a VMIN_CFG that it overrode takes effect (R48). -/
def liftCap (c : Chip) : Chip :=
  if c.gov.thermCap && decide (c.gov.tj < 100) then
    modGov (fun g => let g := { g with thermCap := false }; { g with target := min (vmaxOf g) (max g.target g.par.vmin) }) c
  else c

/-- THERMAL_CAP (R48): the junction is above 110 °C. -/
def thermalCap (tj : Int) (c : Chip) : Chip :=
  if tj ≤ 110 then c
  else
    let c := modGov (fun g => { g with tj := tj }) c
    if c.gov.thermCap then c
    else lintGov 0x0203 0 (modGov (fun g => { g with thermCap := true, target := min g.target 80, output := min g.output 80 }) c)

/-- THERMAL_CAP. -/
def execThermalCap (tj : Int) (s : State) : Out := onChip (thermalCap tj) s

/-- VCORE_FOLLOW_FAULT (R72): the output has stayed more than 30 mV from its target for more than 100 µs. -/
def followFault (out : Nat) (c : Chip) : Chip :=
  if out ≤ outTarget c + 3 ∧ outTarget c ≤ out + 3 then c
  else
    let c := modGov (fun g => { g with output := out }) c
    if c.gov.followHold then c else lintGov 0x0206 0 (modGov (fun g => { g with followHold := true }) c)

/-- VCORE_FOLLOW_FAULT, with the output as it stands in units of 10 mV. -/
def execVcoreFollowFault (out : Fin 256) (s : State) : Out := onChip (followFault out.val) s

/-- VCORE_FOLLOW_RECOVERY (R72): the output is within 10 mV of its target. -/
def followRecovery (out : Nat) (c : Chip) : Chip :=
  if out ≤ outTarget c + 1 ∧ outTarget c ≤ out + 1 then modGov (fun g => { g with output := out, followHold := false }) c else c

/-- VCORE_FOLLOW_RECOVERY. -/
def execVcoreFollowRecovery (out : Fin 256) (s : State) : Out := onChip (followRecovery out.val) s

/-- VCORE_TARGET_REACHED (R45): the output has fallen to the lowered VMAX_CFG, which is then in force, and its GOV.LIMITS completes. -/
def targetReached (c : Chip) : Chip :=
  match c.gov.oldVmax with
  | none => c
  | some (_, h) => finish h .ok 0 0 (modGov (fun g => { g with oldVmax := none, output := min g.output g.par.vmax, slew := 0 }) c)

/-- VCORE_TARGET_REACHED. -/
def execVcoreTargetReached (s : State) : Out := onChip targetReached s

/-! ### The commands of the timebase (R74) -/

/-- A bit of a partition's DET_STATUS is set (R67). -/
def setDet (p k : Nat) (c : Chip) : Chip := modPart p (fun q => { q with det := q.det ||| (1#4 <<< k) }) c

/-- FLAGS of GOV.STATUS but for VOTE_ACTIVE (Table 01.10). -/
def govFlags (c : Chip) : List Bool :=
  [c.gov.target == vmaxOf c.gov, c.gov.target == c.gov.par.vmin, govHeld c, c.gov.thermCap]

/-- GOV.STATUS. -/
def govStatus (m : Cmd) (c : Chip) : Reply × Chip :=
  let vote := match m.org with
    | .part 0 => c.parts.toList.any (·.vote)
    | .part p => (partOf c p).vote
    | _ => c.parts.toList.any (·.vote)
  let c' := match m.org with | .part p => setDet p 3 c | _ => c
  (.res 0 (c.gov.target + 2 ^ 8 * c.gov.output + 2 ^ 16 * c.gov.slackMin + 2 ^ 24 * bitsToNat (govFlags c ++ [vote])), c')

/-- GOV.STATUS. -/
def execGovStatus (r : Req) (s : State) : Out := onChip (serve 0x0201 r govStatus) s

/-- The ranges of Table 01.2. -/
def GovParams.ok (p : GovParams) : Bool :=
  60 ≤ p.vmin && p.vmin ≤ 95 && p.vmin ≤ p.vmax && p.vmax ≤ 95 && 1 ≤ p.lowWm && p.lowWm ≤ 254 && p.lowWm + 1 ≤ p.highWm
    && p.panicWm < p.lowWm && 1 ≤ p.panicSteps && p.panicSteps ≤ 5 && 1 ≤ p.holdFrames

/-- The parameters of a GOV.LIMITS. -/
def limitsOf (m : Cmd) : GovParams :=
  { vmin := m.b 8, vmax := m.b 9, lowWm := m.b 10, highWm := m.b 11, panicWm := m.b 12, panicSteps := m.b 13, holdFrames := m.b 14,
    audWm := m.b 15 }

/-- GOV.LIMITS: an earlier one that still waits for the output completes first (R45). -/
def govLimits (m : Cmd) (c : Chip) : Reply × Chip :=
  let p := limitsOf m
  if !p.ok then (.fail .badParam, c)
  else
    let c := match c.gov.oldVmax with
      | some (_, h) => finish h .ok 0 0 (modGov (fun g => { g with oldVmax := none }) c)
      | none => c
    let old := c.gov.par.vmax
    let c := modGov (fun g => let g := { g with par := p }; { g with target := min (vmaxOf g) (max g.target p.vmin) }) c
    if p.vmax < c.gov.output then
      (.wait, modGov (fun g => { g with oldVmax := some (old, if m.handle = 0 then none else some m.handle) }) c)
    else (.ok, c)

/-- GOV.LIMITS. -/
def execGovLimits (r : Req) (s : State) : Out := onChip (serve 0x0202 r govLimits) s

/-- The partition of a guest's command. -/
def Cmd.guest (m : Cmd) : Nat := (m.org.partNo).getD 0

/-- GOV.VOTE. -/
def govVote (m : Cmd) (c : Chip) : Reply × Chip :=
  checked [chk (1 < m.b 8) .badParam] (fun c => (.ok, modPart m.guest (fun q => { q with vote := bit (m.b 8) 0 }) c)) c

/-- GOV.VOTE. -/
def execGovVote (r : Req) (s : State) : Out := onChip (serve 0x0203 r govVote) s

/-- TIME.LINE_EVENT. -/
def timeLineEvent (m : Cmd) (c : Chip) : Reply × Chip :=
  checked [chk (2047 < m.f 8 2 && m.f 8 2 != 0xFFFF) .badParam]
    (fun c => (.ok, modPart m.guest (fun q => { q with lineMatch := m.f 8 2 }) c)) c

/-- TIME.LINE_EVENT. -/
def execTimeLineEvent (r : Req) (s : State) : Out := onChip (serve 0x0210 r timeLineEvent) s

/-- TIME.DET. -/
def timeDet (m : Cmd) (c : Chip) : Reply × Chip :=
  let p := m.guest
  let cores := (List.range 6).filter fun k => vget c.own.cores k == p
  let total := min 65535 ((cores.map fun k => (coreOf c k).overrun).sum)
  checked [chk (3 < m.b 8) .badParam]
    (fun c =>
      let det := (partOf c p).det.toNat
      let c := if bit (m.b 8) 0 then modPart p (fun q => { q with det := 0 }) c else c
      let c := if bit (m.b 8) 1 then cores.foldl (fun c k => modCore k (fun x => { x with overrun := 0 }) c) c else c
      (.res 0 (det + 65536 * total), c)) c

/-- TIME.DET. -/
def execTimeDet (r : Req) (s : State) : Out := onChip (serve 0x0211 r timeDet) s

/-! ### The beam and timebase window (R76, R77, Table 01.11) -/

/-- The beam stands in blanking. -/
def inBlanking (c : Chip) : Bool := c.beam.hold || decide (c.beam.vactive ≤ c.beam.line) || decide (c.beam.hactive ≤ c.beam.dot)

/-- Reads the window at an offset from 0xC000. -/
def beamRead (k p off : Nat) (c : Chip) : Nat × Chip :=
  let x := coreOf c k
  let b := c.beam
  match off with
  | 0x00 =>
    let (l, d) := liveBeam c
    let c := setDet p 1 (modCore k (fun x => { x with beamDot := d, snapFrame := b.frame }) c)
    (l + 2 ^ 13 * b2n b.hold + 2 ^ 14 * b2n (inBlanking c) + 2 ^ 15 * b2n (!b.hold && b.field), c)
  | 0x02 => (x.beamDot, c)
  | 0x04 => (x.snapFrame % 65536, c)
  | 0x06 => (x.snapFrame / 65536, c)
  | 0x08 => (x.frameNo % 65536, c)
  | 0x0A => (x.frameNo / 65536, c)
  | 0x0C => (b.vtotal, c)
  | 0x0E => (b.htotal, c)
  | 0x10 => (b.vactive, c)
  | 0x12 => (b.hactive, c)
  | 0x14 => (c.clk.qtime % 65536, setDet p 0 (modCore k (fun x => { x with qtimeSnap := c.clk.qtime }) c))
  | 0x16 => (bits x.qtimeSnap 31 16, c)
  | 0x18 => (bits x.qtimeSnap 47 32, c)
  | 0x1A => (bits x.qtimeSnap 63 48, c)
  | 0x20 => (c.gov.output + 256 * bitsToNat (govFlags c), setDet p 3 c)
  | 0x22 => (c.gov.slackLine, setDet p 3 c)
  | 0x24 => (c.gov.slackMin, setDet p 3 c)
  | 0x26 => (x.overrun, c)
  | 0x28 => ((partOf c p).det.toNat, c)
  | 0x2A => (bitsToNat [c.clk.xtalOk, c.clk.rcFallback, c.clk.lfXtal], c)
  | _ => (0, c)

end Sys2Proof.Machine
end

