-- ==== Sys2Proof/Machine/LinkPort.lean ====
section
/-! DEFINITION. Emgeva Link hop by hop: ports, packets, credits, routing, election and the loss of a port (R722 to R743, R770, R773). -/

namespace Sys2Proof.Machine

/-! ### Access -/

/-- Port q: 0 N, 1 E, 2 S, 3 W. -/
def linkPort (c : Chip) (q : Nat) : LPort := c.link.ports.toList.getD q {}

/-- Changes the link block. -/
def modLink (f : Link → Link) (c : Chip) : Chip := { c with link := f c.link }

/-- Changes a port. -/
def modLPort (q : Nat) (f : LPort → LPort) (c : Chip) : Chip := modLink (fun l => { l with ports := vset l.ports q (f (linkPort c q)) }) c

/-- Changes a port's hop state. -/
def modHop (q : Nat) (f : PortHop → PortHop) (c : Chip) : Chip := modLPort q (fun p => { p with hop := f p.hop }) c

/-- Changes the node. -/
def modNode (f : LinkNode → LinkNode) (c : Chip) : Chip := modLink (fun l => { l with node := f l.node }) c

/-- Changes the alignment. -/
def modAlign (f : Align → Align) (c : Chip) : Chip := modLink (fun l => { l with align := f l.align }) c

/-- Something goes out on a port's line. -/
def putLine (q : Nat) (t : LinkTx) (c : Chip) : Chip := modLink (fun l => { l with sent := l.sent ++ [(q, t)] }) c

/-- The package has the port: N and S are missing on the SK40-Q176 (Table 15.1). -/
def portThere (c : Chip) (q : Nat) : Bool := decide (q < 4) && (!c.board.q176 || q == 1 || q == 3)

/-- The port may run: the link is configured, the port enabled, not pegged, and the island on its crystal (R752, R774, R820). -/
def portRuns (c : Chip) (q : Nat) : Bool :=
  portThere c q && c.link.node.cfg.on && c.link.node.cfg.ports.getLsbD q && !isPegged c 5 q && !c.clk.rcFallback

/-- The unit ID of a port. -/
def portUnit (q : Nat) : Nat := 0x0500 + q

/-- The link block as a unit of the lint log (R845). -/
def nodeUnit : Nat := 0x0E0F

/-- LINK_PORT in P0; its DATA is stated nowhere and is a free value. -/
def linkEvent (c : Chip) : Chip :=
  let (d, c) := freeNat c
  fire 0 57 (d % 2 ^ 32) c

/-- A peer's protocol violation of Table 15.9. -/
def lintKind (q kind : Nat) (c : Chip) : Chip := lint 0x0F05 (portUnit q) 0xFF kind c

/-- The port is JOINED. -/
def isJoined (c : Chip) (q : Nat) : Bool := (linkPort c q).st == .joined

/-- The ports in the order W, N, E, S of R736. -/
def portOrder : List Nat := [3, 0, 1, 2]

/-- Receive buffers by virtual channel (Table 15.6). -/
def vcBuffers (vc : Nat) : Nat := match vc with | 0 => 4 | 1 => 8 | _ => 16

/-! ### Sending over a hop (R731 to R733) -/

/-- The sender may send a packet of a virtual channel: one waits, a credit is held and the replay buffer has room. -/
def LPort.mayTx (p : LPort) (vc : Nat) : Bool :=
  (p.st == .hello || p.st == .auth || p.st == .joined)
    && !(vget p.hop.q vc).isEmpty && 0 < vget p.hop.credits vc && decide (p.hop.replay.length < 32)

/-- The virtual channel served next: VC0, VC1, then VC2 and VC3 in the ratio 3:1 (R732). -/
def LPort.nextVc (p : LPort) : Option Nat :=
  if p.mayTx 0 then some 0
  else if p.mayTx 1 then some 1
  else
    let a := if p.hop.turn < 3 then 2 else 3
    if p.mayTx a then some a else if p.mayTx (5 - a) then some (5 - a) else none

/-- Frees a receive buffer and grants its credit (R733). -/
def freeBuffer (q vc : Nat) (c : Chip) : Chip :=
  let h := (linkPort c q).hop
  if vget h.used vc = 0 then c
  else putLine q (.lcw 0x03 vc 1) (modHop q (fun h => { h with used := vmod h.used vc (· - 1) }) c)

/-- Frees the buffer that a packet to be forwarded took up. -/
def freeArrival (p : LinkPkt) (c : Chip) : Chip :=
  match p.arr with
  | some a => freeBuffer a p.vc c
  | none => c

/-- Sends packets of a port while it may, at most n. -/
def pumpN (q : Nat) : Nat → Chip → Chip
  | 0, c => c
  | n + 1, c =>
    let p := linkPort c q
    match p.nextVc with
    | none => c
    | some vc =>
      match vget p.hop.q vc with
      | [] => c
      | k :: rest =>
        let k' := { k with seq := p.hop.txSeq, arr := none }
        let h : PortHop :=
          { p.hop with q := vset p.hop.q vc rest, credits := vmod p.hop.credits vc (· - 1), replay := p.hop.replay ++ [k'],
                       txSeq := (p.hop.txSeq + 1) % 256, turn := if vc < 2 then p.hop.turn else (p.hop.turn + 1) % 4 }
        pumpN q n (freeArrival k (putLine q (.pkt k') (modHop q (fun _ => h) c)))

/-- Sends what a port may send. -/
def pump (q : Nat) (c : Chip) : Chip := pumpN q ((linkPort c q).hop.q.toList.foldl (fun n l => n + l.length) 0) c

/-- Queues a packet on a port. -/
def queuePkt (q : Nat) (k : LinkPkt) (c : Chip) : Chip :=
  pump q (modHop q (fun h => { h with q := vmod h.q k.vc (· ++ [k]) }) c)

/-! ### Routing (R740 to R743) -/

/-- A difference of two bytes as a signed number. -/
def sdiff8 (a b : Nat) : Int := sext 8 (a % 256 + 256 - b % 256)

/-- The port that grid routing chooses for a destination other than the node itself (R740). -/
def gridPort (own dest : Nat) (detoured : Bool) : Nat :=
  let dc := sdiff8 dest own
  let dr := sdiff8 (dest / 256) (own / 256)
  if !detoured then (if 0 < dc then 1 else if dc < 0 then 3 else if 0 < dr then 2 else 0)
  else (if 0 < dr then 2 else if dr < 0 then 0 else if 0 < dc then 1 else 3)

/-- The ports a detour tries, in order (R742). -/
def detourPorts (mode own dest chosen : Nat) : List Nat :=
  match mode with
  | 3 =>
    let dc := sdiff8 dest own
    let dr := sdiff8 (dest / 256) (own / 256)
    if chosen = 1 ∨ chosen = 3 then (if 0 < dr then [2] else if dr < 0 then [0] else []) ++ [2, 0]
    else (if 0 < dc then [1] else if dc < 0 then [3] else []) ++ [1, 3]
  | 1 => portOrder.filter (· != chosen)
  | _ => []

/-- Where a unicast packet goes. -/
inductive Hop where
  | here
  | via (q : Nat) (detoured : Bool)
  | lost
deriving DecidableEq, Repr

/-- The port that a destination's route chooses (R740, R741). -/
def chosenPort (n : LinkNode) (dest : Nat) (detoured : Bool) : Option Nat :=
  if n.cfg.mode = 3 then some (gridPort n.id dest detoured)
  else match sfind n.routes dest with
    | some q => some q
    | none => if n.root then none else n.parent

/-- Where a packet for a destination goes from here, having arrived by a port or from the node itself (R740 to R742). -/
def routeOf (c : Chip) (dest : Nat) (detoured : Bool) (arr : Option Nat) : Hop :=
  let n := c.link.node
  if !n.enumerated then .lost
  else if dest = n.id then .here
  else match chosenPort n dest detoured with
    | none => .lost
    | some q =>
      if isJoined c q then .via q detoured
      else if detoured then .lost
      else match (detourPorts n.cfg.mode n.id dest q).find? fun d => isJoined c d && some d != arr with
        | some d => .via d true
        | none => .lost

/-- Ports of the spanning tree: the parent port, and those through which a neighbour has this node as its parent (R736). -/
def treePorts (c : Chip) : List Nat :=
  (List.range 4).filter fun q => isJoined c q && (c.link.node.parent == some q || (linkPort c q).child)

/-! ### NAKs that reach this node (R758, R762, R765, R766) -/

/-- What a CTRL NAK at this node is about. -/
inductive NakAt where
  | chan (ch : Nat)
  | block (node x : Nat)
  | remote (node : Nat)
deriving DecidableEq, Repr

/-- A channel. -/
def linkChan (c : Chip) (ch : Nat) : LChan := c.link.chans.toList.getD ch {}

/-- Changes a channel. -/
def modChan (ch : Nat) (f : LChan → LChan) (c : Chip) : Chip := modLink (fun l => { l with chans := vset l.chans ch (f (linkChan c ch)) }) c

/-- Changes a channel's status. -/
def modChSt (ch : Nat) (f : ChStat → ChStat) (c : Chip) : Chip := modChan ch (fun x => { x with st := f x.st }) c

/-- The status that a NAK gives a LNK.BLOCK (R765). -/
def nakStatus : NakWhy → Status
  | .unreachable => .unreachable
  | .integrity => .integrity
  | _ => .denied

/-- Ends the first LNK.BLOCK to a node and export that waits. -/
def endBlock (node x : Nat) (st : Status) (c : Chip) : Chip :=
  match c.link.blocks.find? fun b => b.node == node && b.x == x with
  | some b => finish b.handle st 0 0 (modLink (fun l => { l with blocks := delFirst (· == b) l.blocks }) c)
  | none => c

/-- Ends the first LNK.REMOTE to a node that waits. -/
def endRemote (node : Nat) (st : Status) (info result : Nat) (c : Chip) : Chip :=
  match c.link.remotes.find? (·.node == node) with
  | some r => finish r.handle st info result (modLink (fun l => { l with remotes := delFirst (· == r) l.remotes }) c)
  | none => c

/-- A NAK takes effect at this node (R757, R760, R762, R765, R766). -/
def takeNak (at' : NakAt) (why : NakWhy) (c : Chip) : Chip :=
  match at' with
  | .chan ch => match why with
    | .unreachable => modChSt ch (fun s => { s with unreachable := true }) c
    | .stalled => modChSt ch (fun s => { s with stalled := true }) c
    | .closed => modChan ch (fun x => { x with credits := 0, st := { x.st with peerClosed := true } }) c
    | _ => c
  | .block node x => endBlock node x (nakStatus why) c
  | .remote node => match why with
    | .unreachable => endRemote node .unreachable 0 0 c
    | _ => c

/-- The channel of this node that sends to a channel of a node. -/
def chanTo (c : Chip) (node rchan : Nat) : Option Nat :=
  (List.range 32).find? fun ch => let g := (linkChan c ch).cfg; g.en && !g.mcast && g.node == node && g.rchan == rchan

/-- The messages of a channel that are done with at the front of its ring advance TX_CONS. -/
def LChan.retire (x : LChan) : LChan :=
  let n := (x.txOut.takeWhile id).length
  { x with txOut := x.txOut.drop n, txCons := (x.txCons + n) % 65536 }

/-- What the acknowledgement of a packet by the first hop brings about (R758, R765, R223). -/
def acked (k : LinkPkt) (c : Chip) : Chip :=
  match k.done with
  | .none => c
  | .message ch => modChan ch (fun x => LChan.retire { x with txOut := modFirst (· == false) (fun _ => true) x.txOut }) c
  | .blockGroup h => finish h .ok 0 0 c
  | .completion => match k.body with
    | .cpl z => { c with linkCpls := delFirst (fun e => e.node == k.dest && e.cpl == z) c.linkCpls }
    | _ => c

/-- A packet of this node's own could not go its way. -/
def ownLost (k : LinkPkt) (c : Chip) : Chip :=
  match k.body with
  | .record _ => takeNak (.remote k.dest) .unreachable c
  | .chunk _ _ => takeNak (.remote k.dest) .unreachable c
  | .cpl _ => acked k c
  | _ => match k.typ with
    | 4 => takeNak (.block k.dest k.chan) .unreachable c
    | 0 => match chanTo c k.dest k.chan with
      | some ch => takeNak (.chan ch) .unreachable c
      | none => c
    | _ => c

/-- A packet that is a NAK. -/
def LinkPkt.isNak (k : LinkPkt) : Bool := match k.body with | .nak _ => true | _ => false

/-- A NAK back to the source of a packet, on the virtual channel it came by. -/
def nakFor (own : Nat) (k : LinkPkt) (why : NakWhy) : LinkPkt :=
  { vc := if k.vc < 2 then 2 else k.vc, dest := k.src, src := own, chan := k.chan, typ := 7, first := true, last := true, body := .nak why }

/-- Sends a unicast packet on its way without answering for one that is lost. -/
def routePkt (k : LinkPkt) (arr : Option Nat) (c : Chip) : Bool × Chip :=
  match routeOf c k.dest k.detoured arr with
  | .here => (true, modLink (fun l => { l with inbox := l.inbox ++ [(4, { k with arr := none })] }) (freeArrival k c))
  | .via q d => (true, queuePkt q { k with detoured := d } c)
  | .lost => (false, lint 0x0F07 nodeUnit 0xFF k.dest (freeArrival k c))

/-- Sends a unicast packet on its way; one that finds no port is discarded, logged and answered NAK UNREACHABLE unless it was itself
a NAK (R742). -/
def sendPkt (k : LinkPkt) (arr : Option Nat) (c : Chip) : Chip :=
  match routePkt k arr c with
  | (true, c) => c
  | (false, c) =>
    if k.isNak then c
    else if k.src = c.link.node.id then ownLost k c
    else (routePkt (nakFor c.link.node.id k .unreachable) none c).2

/-- Sends copies of a multicast packet over the spanning tree, but for the arrival port (R743). The last copy carries what its
acknowledgement brings about and the buffer it takes up. -/
def spreadPkt (k : LinkPkt) (arr : Option Nat) (c : Chip) : Bool × Chip :=
  let qs := (treePorts c).filter fun q => some q != arr
  match qs.reverse with
  | [] => (false, freeArrival k c)
  | lastQ :: _ =>
    (true, qs.foldl (fun c q => queuePkt q (if q = lastQ then k else { k with arr := none, done := .none }) c) c)

/-- A packet of the node's own to a neighbour (R725, R735, R737). -/
def sendNbr (q vc typ : Nat) (b : LinkBody) (c : Chip) : Chip :=
  queuePkt q { vc := vc, kind := 2, src := c.link.node.id, typ := typ, first := true, last := true, body := b } c

/-! ### Election and the spanning tree (R735, R736, R739) -/

/-- One root is better than another: the higher ROOT_PRI, then the lower serial. -/
def betterRoot (a b : Nat × Nat) : Bool := decide (b.1 < a.1) || (a.1 == b.1 && decide (a.2 < b.2))

/-- The better of two advertisements held, the first on a tie (R735, R736). -/
def betterAdv (a b : Nat × Advert) : Nat × Advert :=
  if betterRoot (b.2.pri, b.2.serial) (a.2.pri, a.2.serial)
      ∨ (a.2.pri = b.2.pri ∧ a.2.serial = b.2.serial ∧ b.2.hops < a.2.hops) then b else a

/-- The advertisements held on joined ports, in the order of R736, with their ports. -/
def heldAdverts (c : Chip) : List (Nat × Advert) :=
  portOrder.filterMap fun q => if isJoined c q then (linkPort c q).adv.map fun a => (q, a) else none

/-- The best advertisement held. -/
def bestAdvert (c : Chip) : Option (Nat × Advert) :=
  match heldAdverts c with
  | [] => none
  | a :: t => some (t.foldl betterAdv a)

/-- The alignment state changes: lint 0x0F09 (R751). -/
def setAlign (a : AlignSt) (c : Chip) : Chip :=
  if c.link.align.st = a then c
  else lint 0x0F09 nodeUnit 0xFF a.code
    (modAlign (fun x => { x with st := a, run := 0, since := c.clk.qtime, was := x.was && a != .acquire }) c)

/-- Asks the root for an ID (R738). -/
def askId (c : Chip) : Chip :=
  match c.link.node.parent with
  | some q => sendNbr q 1 5 (.idReq c.fuses.serial) c
  | none => c

/-- The node knows another root: lint 0x0F08, and identities are formed anew (R739). -/
def newRoot (serial : Nat) (c : Chip) : Chip :=
  if c.link.node.rootSerial = serial then c
  else
    let grid := c.link.node.cfg.mode == 3
    let c := c |> lint 0x0F08 nodeUnit 0xFF 0
      |> modNode (fun n => { n with rootSerial := serial, rootId := if grid then none else some 0, enumerated := n.enumerated && !grid })
      |> modLink (fun l => { l with time := { l.time with thetas := [], meds := [], locked := false, asked := false },
                                    align := { l.align with lastFrame := none } })
    if grid ∨ serial = c.fuses.serial then c else askId c

/-- Chooses the root and the parent port from the advertisements held (R735, R736). -/
def elect (c : Chip) : Chip :=
  let own := (c.link.node.cfg.rootPri, c.fuses.serial)
  match bestAdvert c with
  | some (q, a) =>
    if betterRoot (a.pri, a.serial) own then
      newRoot a.serial (modNode (fun n => { n with best := some a, parent := some q, root := false, lastBetter := c.clk.qtime }) c)
    else modNode (fun n => { n with best := none, parent := none }) c
  | none => modNode (fun n => { n with best := none, parent := none }) c

/-- Offers the node's ID to its joined neighbours in grid mode (R737). -/
def offerId (c : Chip) : Chip :=
  if c.link.node.cfg.mode = 3 ∧ c.link.node.enumerated then
    (List.range 4).foldl (fun c q => if isJoined c q then sendNbr q 1 5 (.gridOffer c.link.node.id) c else c) c
  else c

/-- The node becomes root (R735, R737, R738): it is the reference that the others align to. -/
def becomeRoot (c : Chip) : Chip :=
  let id := if c.link.node.cfg.mode = 3 then c.link.node.cfg.gridOrigin else 0
  c |> newRoot c.fuses.serial
    |> modNode (fun n => { n with root := true, best := none, parent := none, id := id, enumerated := true, rootId := some id })
    |> setAlign .locked |> offerId

/-! ### Loss of a port (R728, R770) -/

/-- No route to the root is left: the node holds over (R751). -/
def loseRoute (c : Chip) : Chip :=
  if c.link.node.parent.isNone && !c.link.node.root && (c.link.align.st == .locked || c.link.align.st == .acquire) then setAlign .holdover c else c

/-- Sends a packet of a lost port another way, with a new SEQ on its new hop (R770). Neighbour packets end with their port, and so do
multicast copies, which have gone to the other ports of the tree already (R743). -/
def reroutePkt (k : LinkPkt) (q : Nat) (c : Chip) : Chip :=
  if k.kind = 0 then sendPkt { k with seq := 0 } (some q) c else acked k (freeArrival k c)

/-- A port goes DOWN: its cause in lint 0x0F02 and LINK_PORT if it was joined, then the work of R770. `hold` ends the period for
which it stays down. -/
def portDownAs (st : PortSt) (q cause : Nat) (hold : Option Nat) (c : Chip) : Chip :=
  let p := linkPort c q
  let pkts := p.hop.replay ++ p.hop.q.toList.flatten
  let c := modLPort q (fun p => { st := st, tr := { fails := p.tr.fails, until_ := hold, peerMode := p.tr.peerMode } }) c
  if p.st ≠ .joined then c
  else
    let c := c |> lint 0x0F02 (portUnit q) 0xFF cause |> linkEvent
      |> modNode (fun n => { n with routes := n.routes.filter (·.2 != q) })
    loseRoute (elect (pkts.foldl (fun c k => reroutePkt k q c) c))

/-- A port goes DOWN. -/
def portDown (q cause : Nat) (c : Chip) : Chip := portDownAs .down q cause none c

/-- A port goes DOWN for a cause that has no code of its own: a free value. -/
def portDrop (q : Nat) (c : Chip) : Chip :=
  let (d, c) := freeNat c
  portDown q (d % 2 ^ 32) c

/-- The node leaves: DEPART with a cause on every port that runs, and the ports go DOWN (R752, R770). -/
def departAll (cause : Nat) (c : Chip) : Chip :=
  (List.range 4).foldl (fun c q =>
    if (linkPort c q).st = .down then c else portDown q cause (putLine q (.lcw 0x05 cause 0) c)) c

/-- The island leaves its crystal: DEPART with cause 0x03, and the node is FREE (R752). -/
def linkLoseClock (c : Chip) : Chip :=
  let c := setAlign .free (departAll 3 c)
  modLink (fun l => { l with time := { l.time with thetas := [], meds := [], locked := false, asked := false } }) c

/-! ### Receiving (R729 to R731, R743, R773) -/

/-- CRC-16/CCITT (R730). -/
def crc16 (bs : List Byte) : Nat :=
  bs.foldl (fun acc b => (List.range 8).foldl
    (fun a _ => if 32768 ≤ a then (a * 2 % 65536) ^^^ 0x1021 else a * 2) (acc ^^^ (256 * b.toNat))) 0xFFFF

/-- The packet that a header and payload spell (Table 15.5). -/
def parsePkt (bs : List Byte) : LinkPkt :=
  let b0 := pbyte bs 0
  { vc := bits b0 1 0, kind := bits b0 3 2, poison := bit b0 4, first := bit b0 5, last := bit b0 6, detoured := bit b0 7, seq := pbyte bs 1,
    dest := pfield bs 2 2, src := pfield bs 4 2, chan := bits (pbyte bs 6) 4 0, typ := bits (pbyte bs 6) 7 5, body := .data (bs.drop 8) }

/-- A header is malformed: LEN, reserved bits or KIND 3 (Table 15.9 kind 4). -/
def malformed (bs : List Byte) : Bool :=
  let k := parsePkt bs
  64 < pbyte bs 7 % 128 || pbyte bs 7 % 128 != bs.length - 8 || bit (pbyte bs 7) 7 || k.kind == 3 || (k.kind == 1 && 64 ≤ k.dest)

/-- The virtual channel that Table 15.6 gives a TYPE. -/
def typeOnVc (typ vc : Nat) : Bool :=
  match typ with
  | 1 => vc == 0
  | 2 => vc == 0
  | 3 => vc == 1
  | 5 => vc == 1
  | 6 => vc == 1
  | 4 => vc == 3
  | _ => vc == 2 || vc == 3

/-- The SEQ last received in order. -/
def PortHop.lastSeq (h : PortHop) : Nat := (h.rxSeq + 255) % 256

/-- Sends ACK for the last SEQ received in order. -/
def sendAck (q : Nat) (c : Chip) : Chip :=
  putLine q (.lcw 0x01 (linkPort c q).hop.lastSeq 0) (modHop q (fun h => { h with acks := 0 }) c)

/-- Sends NAK for the expected SEQ; the sixteenth within 1 ms without progress takes the port down (R728). -/
def sendNak (q : Nat) (c : Chip) : Chip :=
  let now := c.clk.qtime
  let ns := (linkPort c q).hop.naks.filter (now < · + 24000) ++ [now]
  let c := putLine q (.lcw 0x02 (linkPort c q).hop.rxSeq 0) (modHop q (fun h => { h with naks := ns }) c)
  if 16 ≤ ns.length then portDrop q c else c

/-- A part of a channel message joins what has come before it (R758; kind 15 of Table 15.9). -/
def takePart (q : Nat) (k : LinkPkt) (payload : List Byte) (c : Chip) : Chip :=
  let grp := if k.kind = 1 then some k.dest else none
  let bs := payload.map fun b => (b, k.poison)
  let same (m : RxMsg) : Bool := m.src == k.src && m.chan == k.chan && m.group == grp
  let old := c.link.partials.find? same
  let c := modLink (fun l => { l with partials := delFirst same l.partials }) c
  let keep (m : RxMsg) (c : Chip) : Chip :=
    if k.last then modLink (fun l => { l with msgs := l.msgs ++ [m] }) c else modLink (fun l => { l with partials := l.partials ++ [m] }) c
  match old with
  | none =>
    if k.first then keep { port := q, src := k.src, chan := k.chan, group := grp, bytes := bs } c else lintKind q 15 c
  | some m =>
    if k.first then keep { port := q, src := k.src, chan := k.chan, group := grp, bytes := bs } (lintKind q 15 c)
    else if 16 ≤ m.pkts then lintKind q 15 c
    else keep { m with pkts := m.pkts + 1, bytes := m.bytes ++ bs } c

/-- A packet has come to this node: channel data join their message, and everything else waits for the command that names its content. -/
def deliverPkt (q : Nat) (k : LinkPkt) (payload : List Byte) (c : Chip) : Chip :=
  if k.typ = 0 then freeBuffer q k.vc (takePart q k payload c)
  else modLink (fun l => { l with inbox := l.inbox ++ [(q, k)] }) c

/-- A packet of a type that waits is being taken: its buffer is free (R733). -/
def takeInbox (typ : Nat) (c : Chip) : Chip :=
  match c.link.inbox.find? (·.2.typ == typ) with
  | some e => freeBuffer e.1 e.2.vc (modLink (fun l => { l with inbox := delFirst (· == e) l.inbox }) c)
  | none => c

/-- In a chain, ring or tree a node learns the way back to the source of a packet from a child port (R741). -/
def learnRoute (q id : Nat) (c : Chip) : Chip :=
  let n := c.link.node
  if n.cfg.mode = 3 ∨ n.parent = some q then c else modNode (fun n => { n with routes := sins n.routes id q }) c

/-- An accepted packet is delivered, forwarded or discarded. -/
def acceptPkt (q : Nat) (k : LinkPkt) (payload : List Byte) (c : Chip) : Chip :=
  let n := c.link.node
  if (linkPort c q).st ≠ .joined ∧ k.typ ≠ 5 ∧ k.typ ≠ 6 then lintKind q 6 (freeBuffer q k.vc c)
  else if !typeOnVc k.typ k.vc then lintKind q 7 (freeBuffer q k.vc c)
  else if k.kind = 2 then deliverPkt q k payload c
  else if !n.enumerated then freeBuffer q k.vc c
  else
    let c := learnRoute q k.src c
    let fwd := { k with arr := some q }
    if k.kind = 1 then
      if n.groups.getLsbD k.dest then deliverPkt q k payload (spreadPkt { fwd with arr := none } (some q) c).2
      else (spreadPkt fwd (some q) c).2
    else if k.dest = n.id then deliverPkt q k payload c
    else sendPkt fwd (some q) c

/-- Checks of R731 and R773 on a packet as it comes: header, payload and CRC. A packet that its sender aborts ends its message (R772). -/
def receivePkt (q : Nat) (raw : List Byte) (aborted : Bool) (c : Chip) : Chip :=
  let p := linkPort c q
  if !(p.st == .hello || p.st == .auth || p.st == .joined) then c
  else if aborted then
    let k := parsePkt raw
    modLink (fun l => { l with partials := l.partials.filter fun m => 8 ≤ raw.length → ¬(m.src = k.src ∧ m.chan = k.chan) }) c
  else
    let bs := raw.take (raw.length - 2)
    let k := parsePkt bs
    let back := (p.hop.rxSeq + 256 - k.seq) % 256
    if raw.length < 10 ∨ crc16 bs ≠ leNat (raw.drop (raw.length - 2)) then sendNak q (lint 0x0F04 (portUnit q) 0xFF 0 c)
    else if back ≠ 0 ∧ back ≤ 128 then sendAck q c
    else if back ≠ 0 then sendNak q (lint 0x0F04 (portUnit q) 0xFF 0 c)
    else if malformed bs then sendNak q (lintKind q 4 c)
    else if vcBuffers k.vc ≤ vget p.hop.used k.vc then portDrop q (lintKind q 3 c)
    else
      let c := modHop q (fun h => { h with rxSeq := (h.rxSeq + 1) % 256, used := vmod h.used k.vc (· + 1), acks := h.acks + 1, naks := [] }) c
      let c := if 8 ≤ (linkPort c q).hop.acks then sendAck q c else c
      acceptPkt q k (bs.drop 8) c

/-! ### Acknowledgements (R731) -/

/-- An ACK releases the packets up to its SEQ. -/
def takeAck (q seq : Nat) (c : Chip) : Chip :=
  let h := (linkPort c q).hop
  match h.replay.findIdx? (·.seq == seq) with
  | none => c
  | some i =>
    let c := modHop q (fun h => { h with replay := h.replay.drop (i + 1), retr := 0 }) c
    pump q ((h.replay.take (i + 1)).foldl (fun c k => acked k c) c)

/-- Sends again the packets from a place in the replay buffer; the eighth retransmission of one packet without progress takes the
port down (R728, R731). -/
def retransmit (q i : Nat) (c : Chip) : Chip :=
  let l := (linkPort c q).hop.replay.drop i
  if l.isEmpty then c
  else
    let now := c.clk.qtime
    let c := lint 0x0F04 (portUnit q) 0xFF l.length (modHop q (fun h =>
      { h with retr := h.retr + 1, retrTimes := h.retrTimes.filter (now < · + 24000000) ++ List.replicate l.length now }) c)
    if 8 ≤ (linkPort c q).hop.retr then portDrop q c else l.foldl (fun c k => putLine q (.pkt k) c) c

/-- The parts of a message, 64 bytes each; an empty message is one empty part. -/
def parts64 : Nat → List α → List (List α)
  | 0, bs => [bs]
  | n + 1, bs => if bs.length ≤ 64 then [bs] else bs.take 64 :: parts64 n (bs.drop 64)

/-- A VC1 management packet. -/
def mgmtPkt (c : Chip) (node chan : Nat) (b : LinkBody) : LinkPkt :=
  { vc := 1, dest := node, src := c.link.node.id, chan := chan, typ := 3, first := true, last := true, body := b }

/-- Results and completions for remote nodes go on their way (R245); the credit returns when the next hop acknowledges the
completion's packet (R223). -/
def linkFlush (c : Chip) : Chip :=
  let l := c.linkCpls.filter fun e => !e.sent
  l.foldl (fun c e =>
    let c := (if e.block.isEmpty then [] else parts64 32 e.block).foldl
      (fun c b => sendPkt (mgmtPkt c e.node 0 (.result e.cpl.handle.toNat b)) none c) c
    sendPkt { mgmtPkt c e.node 0 (.cpl e.cpl) with done := .completion } none c)
    { c with linkCpls := c.linkCpls.map fun e => { e with sent := true } }

/-- Runs a link command: what went out on the lines before is no longer shown, and completions for remote nodes go on their way. -/
def onLink (f : Chip → Chip) (s : State) : Out := onChip (fun c => linkFlush (f (modLink (fun l => { l with sent := [] }) c))) s

end Sys2Proof.Machine
end

