-- ==== Sys2Proof/Machine/Transfer.lean ====
section
/-! DEFINITION. The fixed tables of the PQ and HLG transfer functions (R564, R565). -/

namespace Sys2Proof.Machine

/-- Entries 0 to 127. -/
def pqt0 : List Nat :=
  [0, 7, 11, 14, 18, 21, 24, 27, 30, 32, 35, 38, 40, 43, 46, 48] ++
  [51, 53, 56, 58, 61, 63, 66, 68, 71, 73, 76, 78, 81, 83, 86, 88] ++
  [90, 93, 95, 98, 100, 103, 105, 108, 110, 113, 115, 118, 120, 123, 125, 128] ++
  [131, 133, 136, 138, 141, 143, 146, 148, 151, 154, 156, 159, 162, 164, 167, 169] ++
  [172, 175, 177, 180, 183, 185, 188, 191, 194, 196, 199, 202, 204, 207, 210, 213] ++
  [216, 218, 221, 224, 227, 230, 232, 235, 238, 241, 244, 247, 250, 253, 255, 258] ++
  [261, 264, 267, 270, 273, 276, 279, 282, 285, 288, 291, 294, 297, 300, 303, 306] ++
  [310, 313, 316, 319, 322, 325, 328, 332, 335, 338, 341, 344, 348, 351, 354, 357]

/-- Entries 128 to 255. -/
def pqt1 : List Nat :=
  [361, 364, 367, 370, 374, 377, 380, 384, 387, 391, 394, 397, 401, 404, 408, 411] ++
  [414, 418, 421, 425, 428, 432, 435, 439, 443, 446, 450, 453, 457, 460, 464, 468] ++
  [471, 475, 479, 482, 486, 490, 494, 497, 501, 505, 509, 512, 516, 520, 524, 528] ++
  [532, 535, 539, 543, 547, 551, 555, 559, 563, 567, 571, 575, 579, 583, 587, 591] ++
  [595, 599, 603, 607, 612, 616, 620, 624, 628, 632, 637, 641, 645, 649, 654, 658] ++
  [662, 667, 671, 675, 680, 684, 689, 693, 697, 702, 706, 711, 715, 720, 724, 729] ++
  [733, 738, 742, 747, 752, 756, 761, 766, 770, 775, 780, 784, 789, 794, 799, 803] ++
  [808, 813, 818, 823, 828, 833, 837, 842, 847, 852, 857, 862, 867, 872, 877, 882]

/-- Entries 256 to 383. -/
def pqt2 : List Nat :=
  [887, 893, 898, 903, 908, 913, 918, 923, 929, 934, 939, 944, 950, 955, 960, 966] ++
  [971, 976, 982, 987, 993, 998, 1004, 1009, 1015, 1020, 1026, 1031, 1037, 1042, 1048, 1054] ++
  [1059, 1065, 1071, 1076, 1082, 1088, 1094, 1099, 1105, 1111, 1117, 1123, 1129, 1135, 1141, 1147] ++
  [1152, 1158, 1164, 1171, 1177, 1183, 1189, 1195, 1201, 1207, 1213, 1220, 1226, 1232, 1238, 1245] ++
  [1251, 1257, 1263, 1270, 1276, 1283, 1289, 1296, 1302, 1308, 1315, 1322, 1328, 1335, 1341, 1348] ++
  [1355, 1361, 1368, 1375, 1381, 1388, 1395, 1402, 1409, 1415, 1422, 1429, 1436, 1443, 1450, 1457] ++
  [1464, 1471, 1478, 1485, 1492, 1500, 1507, 1514, 1521, 1528, 1536, 1543, 1550, 1558, 1565, 1572] ++
  [1580, 1587, 1595, 1602, 1610, 1617, 1625, 1632, 1640, 1647, 1655, 1663, 1671, 1678, 1686, 1694]

/-- Entries 384 to 511. -/
def pqt3 : List Nat :=
  [1702, 1709, 1717, 1725, 1733, 1741, 1749, 1757, 1765, 1773, 1781, 1789, 1797, 1806, 1814, 1822] ++
  [1830, 1839, 1847, 1855, 1864, 1872, 1880, 1889, 1897, 1906, 1914, 1923, 1931, 1940, 1949, 1957] ++
  [1966, 1975, 1984, 1992, 2001, 2010, 2019, 2028, 2037, 2046, 2055, 2064, 2073, 2082, 2091, 2100] ++
  [2109, 2119, 2128, 2137, 2146, 2156, 2165, 2175, 2184, 2193, 2203, 2212, 2222, 2232, 2241, 2251] ++
  [2261, 2270, 2280, 2290, 2300, 2310, 2319, 2329, 2339, 2349, 2359, 2369, 2379, 2390, 2400, 2410] ++
  [2420, 2430, 2441, 2451, 2461, 2472, 2482, 2493, 2503, 2514, 2524, 2535, 2546, 2556, 2567, 2578] ++
  [2589, 2599, 2610, 2621, 2632, 2643, 2654, 2665, 2676, 2687, 2699, 2710, 2721, 2732, 2744, 2755] ++
  [2766, 2778, 2789, 2801, 2812, 2824, 2836, 2847, 2859, 2871, 2882, 2894, 2906, 2918, 2930, 2942]

/-- Entries 512 to 639. -/
def pqt4 : List Nat :=
  [2954, 2966, 2978, 2990, 3003, 3015, 3027, 3039, 3052, 3064, 3077, 3089, 3102, 3114, 3127, 3139] ++
  [3152, 3165, 3178, 3191, 3203, 3216, 3229, 3242, 3255, 3268, 3282, 3295, 3308, 3321, 3335, 3348] ++
  [3361, 3375, 3388, 3402, 3416, 3429, 3443, 3457, 3470, 3484, 3498, 3512, 3526, 3540, 3554, 3568] ++
  [3582, 3597, 3611, 3625, 3640, 3654, 3668, 3683, 3698, 3712, 3727, 3741, 3756, 3771, 3786, 3801] ++
  [3816, 3831, 3846, 3861, 3876, 3891, 3907, 3922, 3937, 3953, 3968, 3984, 4000, 4015, 4031, 4047] ++
  [4062, 4078, 4094, 4110, 4126, 4142, 4159, 4175, 4191, 4207, 4224, 4240, 4257, 4273, 4290, 4306] ++
  [4323, 4340, 4357, 4374, 4391, 4408, 4425, 4442, 4459, 4476, 4494, 4511, 4528, 4546, 4563, 4581] ++
  [4599, 4616, 4634, 4652, 4670, 4688, 4706, 4724, 4742, 4761, 4779, 4797, 4816, 4834, 4853, 4871]

/-- Entries 640 to 767. -/
def pqt5 : List Nat :=
  [4890, 4909, 4928, 4946, 4965, 4984, 5004, 5023, 5042, 5061, 5081, 5100, 5119, 5139, 5159, 5178] ++
  [5198, 5218, 5238, 5258, 5278, 5298, 5318, 5338, 5359, 5379, 5400, 5420, 5441, 5462, 5482, 5503] ++
  [5524, 5545, 5566, 5587, 5609, 5630, 5651, 5673, 5694, 5716, 5737, 5759, 5781, 5803, 5825, 5847] ++
  [5869, 5891, 5914, 5936, 5958, 5981, 6004, 6026, 6049, 6072, 6095, 6118, 6141, 6164, 6187, 6211] ++
  [6234, 6258, 6281, 6305, 6329, 6353, 6377, 6401, 6425, 6449, 6473, 6498, 6522, 6547, 6571, 6596] ++
  [6621, 6646, 6671, 6696, 6721, 6746, 6772, 6797, 6823, 6848, 6874, 6900, 6926, 6952, 6978, 7004] ++
  [7030, 7057, 7083, 7110, 7137, 7163, 7190, 7217, 7244, 7272, 7299, 7326, 7354, 7381, 7409, 7437] ++
  [7465, 7492, 7521, 7549, 7577, 7605, 7634, 7663, 7691, 7720, 7749, 7778, 7807, 7836, 7866, 7895]

/-- Entries 768 to 895. -/
def pqt6 : List Nat :=
  [7925, 7954, 7984, 8014, 8044, 8074, 8104, 8135, 8165, 8191, 8191, 8191, 8191, 8191, 8191, 8191] ++
  [8191, 8191, 8191, 8191, 8191, 8191, 8191, 8191, 8191, 8191, 8191, 8191, 8191, 8191, 8191, 8191] ++
  [8191, 8191, 8191, 8191, 8191, 8191, 8191, 8191, 8191, 8191, 8191, 8191, 8191, 8191, 8191, 8191] ++
  [8191, 8191, 8191, 8191, 8191, 8191, 8191, 8191, 8191, 8191, 8191, 8191, 8191, 8191, 8191, 8191] ++
  [8191, 8191, 8191, 8191, 8191, 8191, 8191, 8191, 8191, 8191, 8191, 8191, 8191, 8191, 8191, 8191] ++
  [8191, 8191, 8191, 8191, 8191, 8191, 8191, 8191, 8191, 8191, 8191, 8191, 8191, 8191, 8191, 8191] ++
  [8191, 8191, 8191, 8191, 8191, 8191, 8191, 8191, 8191, 8191, 8191, 8191, 8191, 8191, 8191, 8191] ++
  [8191, 8191, 8191, 8191, 8191, 8191, 8191, 8191, 8191, 8191, 8191, 8191, 8191, 8191, 8191, 8191]

/-- Entries 896 to 1023. -/
def pqt7 : List Nat :=
  [8191, 8191, 8191, 8191, 8191, 8191, 8191, 8191, 8191, 8191, 8191, 8191, 8191, 8191, 8191, 8191] ++
  [8191, 8191, 8191, 8191, 8191, 8191, 8191, 8191, 8191, 8191, 8191, 8191, 8191, 8191, 8191, 8191] ++
  [8191, 8191, 8191, 8191, 8191, 8191, 8191, 8191, 8191, 8191, 8191, 8191, 8191, 8191, 8191, 8191] ++
  [8191, 8191, 8191, 8191, 8191, 8191, 8191, 8191, 8191, 8191, 8191, 8191, 8191, 8191, 8191, 8191] ++
  [8191, 8191, 8191, 8191, 8191, 8191, 8191, 8191, 8191, 8191, 8191, 8191, 8191, 8191, 8191, 8191] ++
  [8191, 8191, 8191, 8191, 8191, 8191, 8191, 8191, 8191, 8191, 8191, 8191, 8191, 8191, 8191, 8191] ++
  [8191, 8191, 8191, 8191, 8191, 8191, 8191, 8191, 8191, 8191, 8191, 8191, 8191, 8191, 8191, 8191] ++
  [8191, 8191, 8191, 8191, 8191, 8191, 8191, 8191, 8191, 8191, 8191, 8191, 8191, 8191, 8191, 8191]

/-- PQT: the ST 2084 EOTF by the formula of R565, its constants those of BT.2100 (PRESUMED: the spec names the standard). -/
def pqt : List Nat := pqt0 ++ pqt1 ++ pqt2 ++ pqt3 ++ pqt4 ++ pqt5 ++ pqt6 ++ pqt7

/-- Entries 0 to 127. -/
def hlt0 : List Nat :=
  [0, 4, 9, 13, 18, 22, 27, 31, 36, 40, 45, 49, 54, 58, 63, 67] ++
  [72, 76, 81, 85, 90, 94, 99, 103, 108, 112, 117, 121, 126, 130, 135, 139] ++
  [144, 148, 153, 157, 162, 166, 171, 175, 180, 184, 189, 193, 198, 202, 207, 211] ++
  [216, 220, 225, 229, 234, 238, 243, 247, 252, 256, 260, 265, 269, 274, 278, 283] ++
  [287, 292, 296, 301, 305, 310, 314, 319, 323, 328, 332, 337, 341, 346, 350, 355] ++
  [359, 364, 368, 373, 377, 382, 386, 391, 395, 400, 404, 409, 413, 418, 422, 427] ++
  [431, 436, 440, 445, 449, 454, 458, 463, 467, 472, 476, 481, 485, 490, 494, 499] ++
  [503, 508, 512, 516, 521, 525, 530, 534, 539, 543, 548, 552, 557, 561, 566, 570]

/-- Entries 128 to 255. -/
def hlt1 : List Nat :=
  [575, 579, 584, 588, 593, 597, 602, 606, 611, 615, 620, 624, 629, 633, 638, 642] ++
  [647, 651, 656, 660, 665, 669, 674, 678, 683, 687, 692, 696, 701, 705, 710, 714] ++
  [719, 723, 728, 732, 737, 741, 746, 750, 755, 759, 764, 768, 772, 777, 781, 786] ++
  [790, 795, 799, 804, 808, 813, 817, 822, 826, 831, 835, 840, 844, 849, 853, 858] ++
  [862, 867, 871, 876, 880, 885, 889, 894, 898, 903, 907, 912, 916, 921, 925, 930] ++
  [934, 939, 943, 948, 952, 957, 961, 966, 970, 975, 979, 984, 988, 993, 997, 1002] ++
  [1006, 1011, 1015, 1019, 1024, 1028, 1033, 1037, 1042, 1046, 1051, 1055, 1060, 1064, 1069, 1073] ++
  [1078, 1082, 1087, 1091, 1096, 1100, 1105, 1109, 1114, 1118, 1123, 1127, 1132, 1136, 1141, 1145]

/-- Entries 256 to 383. -/
def hlt2 : List Nat :=
  [1150, 1154, 1159, 1163, 1168, 1172, 1177, 1181, 1186, 1190, 1195, 1199, 1204, 1208, 1213, 1217] ++
  [1222, 1226, 1231, 1235, 1240, 1244, 1249, 1253, 1258, 1262, 1267, 1271, 1275, 1280, 1284, 1289] ++
  [1293, 1298, 1302, 1307, 1311, 1316, 1320, 1325, 1329, 1334, 1338, 1343, 1347, 1352, 1356, 1361] ++
  [1365, 1370, 1374, 1379, 1383, 1388, 1392, 1397, 1401, 1406, 1410, 1415, 1419, 1424, 1428, 1433] ++
  [1437, 1442, 1446, 1451, 1455, 1460, 1464, 1469, 1473, 1478, 1482, 1487, 1491, 1496, 1500, 1505] ++
  [1509, 1514, 1518, 1523, 1527, 1531, 1536, 1540, 1545, 1549, 1554, 1558, 1563, 1567, 1572, 1576] ++
  [1581, 1585, 1590, 1594, 1599, 1603, 1608, 1612, 1617, 1621, 1626, 1630, 1635, 1639, 1644, 1648] ++
  [1653, 1657, 1662, 1666, 1671, 1675, 1680, 1684, 1689, 1693, 1698, 1702, 1707, 1711, 1716, 1720]

/-- Entries 384 to 511. -/
def hlt3 : List Nat :=
  [1725, 1729, 1734, 1738, 1743, 1747, 1752, 1756, 1761, 1765, 1770, 1774, 1779, 1783, 1787, 1792] ++
  [1796, 1801, 1805, 1810, 1814, 1819, 1823, 1828, 1832, 1837, 1841, 1846, 1850, 1855, 1859, 1864] ++
  [1868, 1873, 1877, 1882, 1886, 1891, 1895, 1900, 1904, 1909, 1913, 1918, 1922, 1927, 1931, 1936] ++
  [1940, 1945, 1949, 1954, 1958, 1963, 1967, 1972, 1976, 1981, 1985, 1990, 1994, 1999, 2003, 2008] ++
  [2012, 2017, 2021, 2026, 2030, 2035, 2039, 2043, 2048, 2052, 2057, 2061, 2066, 2070, 2075, 2079] ++
  [2084, 2088, 2093, 2097, 2102, 2106, 2111, 2115, 2120, 2124, 2129, 2133, 2138, 2142, 2147, 2151] ++
  [2156, 2160, 2165, 2169, 2174, 2178, 2183, 2187, 2192, 2196, 2201, 2205, 2210, 2214, 2219, 2223] ++
  [2228, 2232, 2237, 2241, 2246, 2250, 2255, 2259, 2264, 2268, 2273, 2277, 2282, 2286, 2291, 2295]

/-- Entries 512 to 639. -/
def hlt4 : List Nat :=
  [2299, 2304, 2309, 2313, 2318, 2322, 2327, 2331, 2336, 2341, 2345, 2350, 2355, 2359, 2364, 2369] ++
  [2374, 2378, 2383, 2388, 2393, 2398, 2402, 2407, 2412, 2417, 2422, 2427, 2432, 2437, 2442, 2447] ++
  [2452, 2457, 2462, 2467, 2472, 2477, 2482, 2487, 2493, 2498, 2503, 2508, 2513, 2519, 2524, 2529] ++
  [2534, 2540, 2545, 2550, 2556, 2561, 2567, 2572, 2577, 2583, 2588, 2594, 2599, 2605, 2610, 2616] ++
  [2622, 2627, 2633, 2639, 2644, 2650, 2656, 2661, 2667, 2673, 2679, 2684, 2690, 2696, 2702, 2708] ++
  [2714, 2720, 2726, 2731, 2737, 2743, 2749, 2755, 2762, 2768, 2774, 2780, 2786, 2792, 2798, 2804] ++
  [2811, 2817, 2823, 2829, 2836, 2842, 2848, 2855, 2861, 2867, 2874, 2880, 2887, 2893, 2900, 2906] ++
  [2913, 2919, 2926, 2933, 2939, 2946, 2952, 2959, 2966, 2973, 2979, 2986, 2993, 3000, 3007, 3013]

/-- Entries 640 to 767. -/
def hlt5 : List Nat :=
  [3020, 3027, 3034, 3041, 3048, 3055, 3062, 3069, 3076, 3083, 3090, 3098, 3105, 3112, 3119, 3126] ++
  [3134, 3141, 3148, 3155, 3163, 3170, 3177, 3185, 3192, 3200, 3207, 3215, 3222, 3230, 3237, 3245] ++
  [3253, 3260, 3268, 3276, 3283, 3291, 3299, 3307, 3314, 3322, 3330, 3338, 3346, 3354, 3362, 3370] ++
  [3378, 3386, 3394, 3402, 3410, 3418, 3426, 3434, 3443, 3451, 3459, 3467, 3476, 3484, 3492, 3501] ++
  [3509, 3518, 3526, 3535, 3543, 3552, 3560, 3569, 3577, 3586, 3595, 3603, 3612, 3621, 3630, 3638] ++
  [3647, 3656, 3665, 3674, 3683, 3692, 3701, 3710, 3719, 3728, 3737, 3746, 3755, 3764, 3774, 3783] ++
  [3792, 3801, 3811, 3820, 3830, 3839, 3848, 3858, 3867, 3877, 3886, 3896, 3906, 3915, 3925, 3935] ++
  [3944, 3954, 3964, 3974, 3984, 3993, 4003, 4013, 4023, 4033, 4043, 4053, 4063, 4073, 4084, 4094]

/-- Entries 768 to 895. -/
def hlt6 : List Nat :=
  [4104, 4114, 4124, 4135, 4145, 4155, 4166, 4176, 4187, 4197, 4208, 4218, 4229, 4239, 4250, 4261] ++
  [4271, 4282, 4293, 4304, 4314, 4325, 4336, 4347, 4358, 4369, 4380, 4391, 4402, 4413, 4424, 4436] ++
  [4447, 4458, 4469, 4481, 4492, 4503, 4515, 4526, 4538, 4549, 4561, 4572, 4584, 4596, 4607, 4619] ++
  [4631, 4643, 4654, 4666, 4678, 4690, 4702, 4714, 4726, 4738, 4750, 4762, 4775, 4787, 4799, 4811] ++
  [4824, 4836, 4848, 4861, 4873, 4886, 4898, 4911, 4923, 4936, 4949, 4961, 4974, 4987, 5000, 5013] ++
  [5026, 5038, 5051, 5064, 5078, 5091, 5104, 5117, 5130, 5143, 5157, 5170, 5183, 5197, 5210, 5224] ++
  [5237, 5251, 5264, 5278, 5292, 5305, 5319, 5333, 5347, 5360, 5374, 5388, 5402, 5416, 5430, 5444] ++
  [5459, 5473, 5487, 5501, 5516, 5530, 5544, 5559, 5573, 5588, 5602, 5617, 5632, 5646, 5661, 5676]

/-- Entries 896 to 1023. -/
def hlt7 : List Nat :=
  [5691, 5705, 5720, 5735, 5750, 5765, 5780, 5795, 5811, 5826, 5841, 5856, 5872, 5887, 5902, 5918] ++
  [5933, 5949, 5965, 5980, 5996, 6012, 6027, 6043, 6059, 6075, 6091, 6107, 6123, 6139, 6155, 6171] ++
  [6188, 6204, 6220, 6236, 6253, 6269, 6286, 6302, 6319, 6336, 6352, 6369, 6386, 6403, 6420, 6436] ++
  [6453, 6470, 6488, 6505, 6522, 6539, 6556, 6574, 6591, 6608, 6626, 6643, 6661, 6679, 6696, 6714] ++
  [6732, 6750, 6767, 6785, 6803, 6821, 6839, 6857, 6876, 6894, 6912, 6930, 6949, 6967, 6986, 7004] ++
  [7023, 7042, 7060, 7079, 7098, 7117, 7135, 7154, 7173, 7192, 7212, 7231, 7250, 7269, 7289, 7308] ++
  [7327, 7347, 7366, 7386, 7406, 7425, 7445, 7465, 7485, 7505, 7525, 7545, 7565, 7585, 7605, 7626] ++
  [7646, 7666, 7687, 7707, 7728, 7748, 7769, 7790, 7811, 7832, 7852, 7873, 7894, 7916, 7937, 7958]

/-- HLT: the HLG inverse OETF by the formula of R565, its constants those of BT.2100 (PRESUMED: the spec names the standard). -/
def hlt : List Nat := hlt0 ++ hlt1 ++ hlt2 ++ hlt3 ++ hlt4 ++ hlt5 ++ hlt6 ++ hlt7

end Sys2Proof.Machine
end

