-- ==== Sys2Proof/Machine/LayersFetch.lean ====
section
/-! DEFINITION. What a layer draws on a line: tiles, affine planes, sprites, bitmaps and the overlay, their conversion into the 13-bit range and
the substitution of poisoned pixels (chapters 10 and 11). -/

namespace Sys2Proof.Machine

/-! ### Conversion (R561 to R565) -/

/-- A 32-bit palette entry as a colour (R561). -/
def entryColour (w : Nat) : Nat × Nat × Nat :=
  let k := if bit w 30 then 8191 else 4095
  let ch (v : Nat) : Nat := (v * k + 511) / 1023
  (ch (bits w 29 20), ch (bits w 19 10), ch (bits w 9 0))

/-- The local palette entry of a partition, 0 beyond its banks (R513). -/
def localEntry (l : Lyr) (p idx : Nat) : Nat :=
  match palEntry l p (idx % 1024) with
  | some h => sget 0 l.palette h
  | none => 0

/-- A pixel of a palette colour. -/
def palPix (l : Lyr) (p idx : Nat) (prio : Bool) : Pix :=
  let (r, g, b) := entryColour (localEntry l p idx)
  .px r g b 255 prio

/-- A direct channel of n bits (R562). -/
def expand (v n : Nat) : Nat := (v * 4095 + (2 ^ n - 1) / 2) / (2 ^ n - 1)

/-- The coefficients of Table 11.3: KY, KRV, KGU, KGV, KBU. -/
def yuvCoeff (matrix : Nat) (full : Bool) : Int × Int × Int × Int × Int :=
  match matrix, full with
  | 0, false => (38295, 52491, 12884, 26737, 66344)
  | 0, true => (32792, 45974, 11285, 23418, 58107)
  | 1, false => (38295, 58961, 7013, 17527, 69474)
  | 1, true => (32792, 51641, 6143, 15351, 60849)
  | _, false => (38295, 55209, 6161, 21391, 70440)
  | _, true => (32792, 48355, 5396, 18736, 61695)

/-- A YUV sample of 10 bits in the 13-bit range (R563). -/
def yuvColour (matrix : Nat) (full : Bool) (y cb cr : Nat) : Nat × Nat × Nat :=
  let (ky, krv, kgu, kgv, kbu) := yuvCoeff matrix full
  let yo : Int := y - (if full then 0 else 64)
  let cb : Int := cb - 512
  let cr : Int := cr - 512
  let ch (x : Int) : Nat := (clampI 0 8191 ((x + 4096) / 8192)).toNat
  (ch (ky * yo + krv * cr), ch (ky * yo - kgu * cb - kgv * cr), ch (ky * yo + kbu * cb))

/-- A 10-bit code through the transfer function TF (R564). -/
def transfer (tf p : Nat) : Nat := if tf = 1 then pqt.getD p 0 else hlt.getD p 0

/-! ### Fetches (R514, R552) -/

/-- A fetch refused by the map: lint 0x0A02 once per frame and layer. -/
def noteRefused (hw p ka : Nat) (c : Chip) : Chip :=
  if (layerOf c hw).m.refusedNow then c
  else lint 0x0A02 (0x0600 + hw) p (ka % 2 ^ 24) (modLayer hw (fun l => { l with m := { l.m with refusedNow := true } }) c)

/-- Fetches n bytes for a layer; none if they were delivered as poison, refused fetches among them. -/
def fetchRef (hw p ka n : Nat) (c : Chip) : Option (List Byte) × Chip :=
  if kRangeOk c p .r (ka % 2 ^ 24) n then
    let (bs, c) := readKFree p (ka % 2 ^ 24) n c
    (if anyPoison bs then none else some (plain bs), c)
  else (none, noteRefused hw p ka c)

/-- A fetched little-endian number. -/
def fetchNat (hw p ka n : Nat) (c : Chip) : Option Nat × Chip :=
  let (r, c) := fetchRef hw p ka n c
  (r.map leNat, c)

/-- A fetched pixel of bpp bits at place i of a row (R521). -/
def fetchTexel (hw p row i bpp : Nat) (c : Chip) : Option Nat × Chip :=
  let (r, c) := fetchNat hw p (row + i * bpp / 8) 1 c
  (r.map fun b => b / 2 ^ (i * bpp % 8) % 2 ^ bpp, c)

/-! ### Tile and affine layers (R521 to R526) -/

/-- Map width or height in tiles. -/
def mapDim (code : Nat) : Nat := 32 * 2 ^ code

/-- The pixel of a map at (mx, my) (R523, R524). The priority of a pixel whose map entry is poisoned is stated nowhere and is a free value. -/
def mapPixel (l : Lyr) (p hw : Nat) (r : LayerRegs) (mx my : Nat) (c : Chip) : Pix × Chip :=
  let tw := tileDim r.fmt
  let bpp := tileBpp r.fmt
  match fetchNat hw p (vget r.base 1 + 2 * ((my / tw) * mapDim (bits r.fmt 5 4) + mx / tw)) 2 c with
  | (none, c) =>
    let (x, c) := freeNat c
    (.bad (bit x 0), c)
  | (some e, c) =>
    let px := if bit e 10 then tw - 1 - mx % tw else mx % tw
    let ty := if bit e 11 then tw - 1 - my % tw else my % tw
    let row := vget r.base 0 + e % 1024 * (tw * tw * bpp / 8) + ty * (tw * bpp / 8)
    match fetchTexel hw p row px bpp c with
    | (none, c) => (.bad (bit e 12), c)
    | (some v, c) =>
      if v = 0 ∧ !r.opaque0 then (.clear, c)
      else
        let pal := if bpp = 8 then 0 else bits e 15 13 * 2 ^ bpp
        (palPix l p (r.palbase + pal + v) (bit e 12), c)

/-- Column x, row y of a tile layer. -/
def tilePixel (l : Lyr) (p hw : Nat) (r : LayerRegs) (x y : Nat) (c : Chip) : Pix × Chip :=
  let tw := tileDim r.fmt
  mapPixel l p hw r ((vget r.k 0 + x) % (mapDim (bits r.fmt 5 4) * tw)) ((vget r.k 1 + y) % (mapDim (bits r.fmt 7 6) * tw)) c

/-- Column x, row y of an affine layer (R525, R526). -/
def affinePixel (l : Lyr) (p hw : Nat) (r : LayerRegs) (x y : Nat) (c : Chip) : Pix × Chip :=
  let tw := tileDim r.fmt
  let k (i : Nat) : Nat := vget r.k i
  let m (i : Nat) : Int := sext 16 (k i)
  let u : Int := (sext 32 (k 0 + 65536 * k 1) + m 4 * x + m 5 * y) / 4096
  let v : Int := (sext 32 (k 2 + 65536 * k 3) + m 6 * x + m 7 * y) / 4096
  let w : Int := (mapDim (bits r.fmt 5 4) * tw : Nat)
  let h : Int := (mapDim (bits r.fmt 7 6) * tw : Nat)
  if bit r.fmt 8 then mapPixel l p hw r (u % w).toNat (v % h).toNat c
  else if 0 ≤ u ∧ u < w ∧ 0 ≤ v ∧ v < h then mapPixel l p hw r u.toNat v.toNat c
  else (.clear, c)

/-! ### Sprites (R527 to R533) -/

/-- A sprite's attributes (Table 10.3). -/
structure Sprite where
  a0 : Nat
  a1 : Nat
  a2 : Nat
  a3 : Nat
deriving DecidableEq, Repr

/-- The attributes of a hardware sprite. -/
def spriteOf (l : Lyr) (s : Nat) : Sprite :=
  ⟨sget 0 l.sprites (4 * s), sget 0 l.sprites (4 * s + 1), sget 0 l.sprites (4 * s + 2), sget 0 l.sprites (4 * s + 3)⟩

namespace Sprite
/-- EN. -/
def en (s : Sprite) : Bool := bit s.a0 11
/-- AFF. -/
def aff (s : Sprite) : Bool := bit s.a0 12
/-- Width w. -/
def w (s : Sprite) : Nat := 8 * 2 ^ bits s.a2 11 10
/-- Height h. -/
def h (s : Sprite) : Nat := 8 * 2 ^ bits s.a2 13 12
/-- Width of the bounding box (R528). -/
def bw (s : Sprite) : Nat := if s.aff then s.w * (4 + min 4 (bits s.a3 11 9)) / 4 else s.w
/-- Height of the bounding box. -/
def bh (s : Sprite) : Nat := if s.aff then s.h * (4 + min 4 (bits s.a3 14 12)) / 4 else s.h
/-- Box row on a line, if the box covers it. -/
def row (s : Sprite) (line : Nat) : Option Nat :=
  let by' := (line + 2048 - s.a0 % 2048) % 2048
  if by' < s.bh then some by' else none
end Sprite

/-- The sprites of a partition, by hardware index, in ascending local number (R149). -/
def groupSprites (c : Chip) (p : Nat) : List Nat :=
  ((ownedUnits c p .sprite).map fun r => (List.range 8).map fun i => 8 * r + i).flatten

/-- The sprites a group draws on a line, and whether the selection stopped (R532). -/
def selectSprites (l : Lyr) (quota line : Nat) : List Nat → Nat → Nat → List Nat × Bool
  | [], _, _ => ([], false)
  | s :: rest, used, texels =>
    let a := spriteOf l s
    if a.en && (a.row line).isSome then
      let t := if a.aff then 2 * a.bw else a.bw
      if used = quota ∨ 24 * quota < texels + t then ([], true)
      else
        let (more, stopped) := selectSprites l quota line rest (used + 1) (texels + t)
        (s :: more, stopped)
    else selectSprites l quota line rest used texels

/-- The texel of a sprite at box position (bx, by), if it lies on the sprite (R530). -/
def spriteTexel (l : Lyr) (p : Nat) (c : Chip) (a : Sprite) (bx by' : Nat) : Option (Nat × Nat) :=
  if a.aff then
    let set := (ownedUnits c p .sprite)[bits a.a3 8 4]?
    let m (i : Nat) : Int := match set with | some r => sext 16 (sget 0 l.affs (4 * r + i)) | none => 0
    let dx : Int := 2 * bx - a.bw + 1
    let dy : Int := 2 * by' - a.bh + 1
    let u : Int := (m 0 * dx + m 1 * dy) / 8192 + (a.w / 2 : Nat)
    let v : Int := (m 2 * dx + m 3 * dy) / 8192 + (a.h / 2 : Nat)
    if bit a.a0 13 then some ((u % a.w).toNat, (v % a.h).toNat)
    else if 0 ≤ u ∧ u < a.w ∧ 0 ≤ v ∧ v < a.h then some (u.toNat, v.toNat) else none
  else
    some (if bit a.a1 13 then a.w - 1 - bx else bx, if bit a.a1 14 then a.h - 1 - by' else by')

/-- The pixel of a sprite at a box position (R529 to R531), with SPR_SUBST for a poisoned texel (R571). -/
def spritePixel (l : Lyr) (p s : Nat) (g : SprGroup) (a : Sprite) (bx by' : Nat) (c : Chip) : Dot × Chip :=
  match spriteTexel l p c a bx by' with
  | none => ({}, c)
  | some (u, v) =>
    let bpp := if bit a.a0 14 then 8 else 4
    let unit := a.a2 % 1024 + (v / 8 * (a.w / 8) + u / 8) * (bpp / 4)
    let prio := bit a.a0 15
    match fetchTexel 4 p (g.tilebase + 32 * unit + v % 8 * bpp) (u % 8) bpp c with
    | (none, c) => ({ pix := palPix l p g.subst prio, subst := true, sprite := s }, c)
    | (some 0, c) => ({}, c)
    | (some t, c) => ({ pix := palPix l p (g.palbase + (if bpp = 8 then 0 else a.a3 % 16 * 16) + t) prio, sprite := s }, c)

/-- Threads the chip through the dots of a line. -/
def overDots (f : Nat → Chip → α × Chip) : List Nat → Chip → List α × Chip
  | [], c => ([], c)
  | d :: ds, c =>
    let (x, c) := f d c
    let (xs, c) := overDots f ds c
    (x :: xs, c)

/-- A sprite's pixels on a line, by dot. -/
def spriteLine (l : Lyr) (p : Nat) (g : SprGroup) (line hactive s : Nat) (c : Chip) : List Dot × Chip :=
  let a := spriteOf l s
  let x0 := sext 13 a.a1
  let by' := (a.row line).getD 0
  overDots (fun d c =>
    let bx : Int := d - x0
    if 0 ≤ bx ∧ bx < a.bw then spritePixel l p s g a bx.toNat by' c else ({}, c)) (List.range hactive) c

/-- The dots of the sprite in front, and where it is transparent those behind it (R533, R572). -/
def inFront (front back : List Dot) : List Dot := List.zipWith (fun f b => if f.pix = .clear then b else f) front back

/-- A sprite group on a line: its selection, and its frontmost pixel at each dot (R532, R533). -/
def groupLine (l : Lyr) (p line hactive : Nat) (c : Chip) : UnitLine × Chip :=
  let g := l.groups.toList.getD p {}
  let (chosen, stopped) := selectSprites l g.quota line (groupSprites c p) 0 0
  let c := if stopped then lintBlock 0x0A06 p line (modGroup p (fun g => { g with lineOver := true }) c) else c
  let (dots, c) := chosen.foldl (fun acc s =>
    let (back, c) := spriteLine l p g line hactive s acc.2
    (inFront acc.1 back, c)) (List.replicate hactive ({} : Dot), c)
  ({ hw := 4, part := p, dots := dots }, c)

/-! ### Bitmap planes and the overlay (R534 to R539) -/

/-- A direct-colour word as a pixel (Table 10.4, Table 11.2). -/
def directPixel (fmt w : Nat) : Pix :=
  match fmt % 16 with
  | 1 => .px (expand (bits w 15 11) 5) (expand (bits w 10 5) 6) (expand (bits w 4 0) 5) 255 false
  | 2 => .px (expand (bits w 14 10) 5) (expand (bits w 9 5) 5) (expand (bits w 4 0) 5) (255 * b2n (bit w 15)) false
  | 3 => .px (expand (bits w 11 8) 4) (expand (bits w 7 4) 4) (expand (bits w 3 0) 4) (17 * bits w 15 12) false
  | 4 => .px (expand (bits w 23 16) 8) (expand (bits w 15 8) 8) (expand (bits w 7 0) 8) 255 false
  | 5 => .px (expand (bits w 23 16) 8) (expand (bits w 15 8) 8) (expand (bits w 7 0) 8) (bits w 31 24) false
  | _ =>
    let tf := bits fmt 8 7
    let ch (v : Nat) : Nat := if tf = 0 then expand v 10 else transfer tf v
    .px (ch (bits w 29 20)) (ch (bits w 19 10)) (ch (bits w 9 0)) 255 false

/-- A YUV sample of 10 bits as a pixel (R563, R564). -/
def yuvPixel (fmt y cb cr : Nat) : Pix :=
  let (r, g, b) := yuvColour (bits fmt 5 4) (bit fmt 6) y cb cr
  let tf := bits fmt 8 7
  let ch (v : Nat) : Nat := if tf = 0 then v else transfer tf (min 1023 ((v * 1023 + 2047) / 4095))
  .px (ch r) (ch g) (ch b) 255 false

/-- Bytes of a pixel in plane 0. -/
def planeBytes (pixfmt : Nat) : Nat :=
  match pixfmt with
  | 0 => 1
  | 4 => 3
  | 5 => 4
  | 6 => 4
  | 8 => 1
  | 9 => 1
  | 10 => 1
  | _ => 2

/-- The sample (sx, sy) of a bitmap layer (R534, R535). -/
def bitmapSample (l : Lyr) (p hw : Nat) (r : LayerRegs) (sx sy : Nat) (c : Chip) : Pix × Chip :=
  let pf := r.fmt % 16
  let n := planeBytes pf
  match fetchNat hw p (vget r.base 0 + sy * vget r.k 0 + sx * n) n c with
  | (none, c) => (.bad false, c)
  | (some v, c) =>
    if pf = 0 then (if v = 0 ∧ !r.opaque0 then .clear else palPix l p (r.palbase + v) false, c)
    else if pf < 8 then (directPixel r.fmt v, c)
    else
      let cy := if pf = 9 then sy else sy / 2
      let s := if pf = 11 then 2 else 1
      let cbAt := if pf = 10 then vget r.base 1 + cy * vget r.k 1 + sx / 2 else vget r.base 1 + cy * vget r.k 1 + sx / 2 * (2 * s)
      let crAt := if pf = 10 then vget r.base 2 + cy * vget r.k 1 + sx / 2 else cbAt + s
      let (cb, c) := fetchNat hw p cbAt s c
      let (cr, c) := fetchNat hw p crAt s c
      match cb, cr with
      | some cb, some cr =>
        let ten (x : Nat) : Nat := if pf = 11 then bits x 15 6 else 4 * x
        (yuvPixel r.fmt (ten v) (ten cb) (ten cr), c)
      | _, _ => (.bad false, c)

/-- Filters four samples (R537, R566). Samples of which some are transparent and some not have no stated result: a free pixel. -/
def bilinear (fx fy : Nat) (s : List Pix) (c : Chip) : Pix × Chip :=
  match s with
  | [.px r0 g0 b0 a0 _, .px r1 g1 b1 a1 _, .px r2 g2 b2 a2 _, .px r3 g3 b3 a3 _] =>
    let lin (f x y : Nat) : Nat := (x * (16 - f) + y * f + 8) / 16
    let f4 (x0 x1 x2 x3 : Nat) : Nat := lin fy (lin fx x0 x1) (lin fx x2 x3)
    (.px (f4 r0 r1 r2 r3) (f4 g0 g1 g2 g3) (f4 b0 b1 b2 b3) (f4 a0 a1 a2 a3) false, c)
  | _ =>
    if s.any (fun x => match x with | .bad _ => true | _ => false) then (.bad false, c)
    else if s.all (· == .clear) then (.clear, c)
    else
      let (x, c) := freeNat c
      (if bit x 47 then .clear else .px (bits x 12 0) (bits x 25 13) (bits x 38 26) (bits x 46 39) false, c)

/-- Column x, row y of a bitmap layer (R537). -/
def bitmapPixel (l : Lyr) (p hw : Nat) (r : LayerRegs) (x y : Nat) (c : Chip) : Pix × Chip :=
  let k (i : Nat) : Nat := vget r.k i
  let sxf := k 4 * 4096 + x * k 2
  let syf := k 5 * 4096 + y * k 3
  let i := sxf / 4096
  let j := syf / 4096
  if k 6 ≤ i ∨ k 7 ≤ j then (.clear, c)
  else if !bit r.fmt 9 then bitmapSample l p hw r i j c
  else
    let i1 := min (i + 1) (k 6 - 1)
    let j1 := min (j + 1) (k 7 - 1)
    let (s0, c) := bitmapSample l p hw r i j c
    let (s1, c) := bitmapSample l p hw r i1 j c
    let (s2, c) := bitmapSample l p hw r i j1 c
    let (s3, c) := bitmapSample l p hw r i1 j1 c
    bilinear (sxf % 4096 / 256) (syf % 4096 / 256) [s0, s1, s2, s3] c

/-- Column x, row y of the overlay (R539). -/
def overlayPixel (l : Lyr) (p hw : Nat) (r : LayerRegs) (x y : Nat) (c : Chip) : Pix × Chip :=
  match fetchTexel hw p (vget r.base 0 + y * vget r.k 0) x 2 c with
  | (none, c) => (.bad false, c)
  | (some 0, c) => (.clear, c)
  | (some v, c) => (palPix l p (r.palbase + v) false, c)

/-! ### A line of a layer (R540, R570, R571) -/

/-- Column x, row y of a layer. -/
def layerPixel (l : Lyr) (p hw : Nat) (r : LayerRegs) (x y : Nat) (c : Chip) : Pix × Chip :=
  match kindOf hw with
  | .tile => tilePixel l p hw r x y c
  | .affine => affinePixel l p hw r x y c
  | .bitmap => bitmapPixel l p hw r x y c
  | .overlay => overlayPixel l p hw r x y c
  | .sprite => (.clear, c)

/-- A dot of a layer: a poisoned pixel takes the layer's substitute colour. -/
def substitute (l : Lyr) (p subst : Nat) : Pix → Dot
  | .bad prio => { pix := palPix l p subst prio, subst := true }
  | x => { pix := x }

/-- A layer's pixels on a line of the screen. -/
def layerLine (l : Lyr) (p hw line hactive : Nat) (c : Chip) : UnitLine × Chip :=
  let r := (l.layers.toList.getD hw {}).r
  let y : Int := line - sext 16 r.y
  let (dots, c) := overDots (fun d c =>
    let x : Int := d - sext 16 r.x
    if 0 ≤ x ∧ x < r.w ∧ 0 ≤ y ∧ y < r.h then
      let (v, c) := layerPixel l p hw r x.toNat y.toNat c
      (substitute l p r.subst v, c)
    else ({}, c)) (List.range hactive) c
  ({ hw := hw, part := p, dots := dots }, c)

/-! ### The fetches of a line -/

/-- A unit is off in the frame that is being fetched: shed, or held by a storm (R615, R621, R622). -/
def unitOff (c : Chip) (frame p : Nat) (ess : Bool) (m : UnitMarks) : Bool :=
  (if frame = c.beam.frame then m.shedNow else m.shedNext) || ((lpOf c p).storm.isSome && !essEff ess m)

/-- The layers, but for SP, that fetch for a line, and whether SP is up; from the line's snapshot and the marks that stand. -/
def layerFetches (c : Chip) (s : LineSlot) (hw : Nat) : Bool :=
  let l := s.snap.layers.toList.getD hw {}
  let m := (layerOf c hw).m
  let p := ownerOf c .layer hw
  l.r.en && l.m.admitted && !m.gone && !isPegged c 6 hw && !(lpOf c p).hidden && !unitOff c s.frame p l.r.ess m

/-- The sprite groups that fetch for a line (R512). -/
def groupFetches (c : Chip) (s : LineSlot) (p : Nat) : Bool :=
  let g := s.snap.groups.toList.getD p {}
  let m := (groupOf c p).m
  g.en && g.m.admitted && !m.gone && !(lpOf c p).hidden && layerFetches c s 4 && !unitOff c s.frame p g.ess m

/-- Fetches the line of a slot for every unit but those that missed their deadline. -/
def fetchSlot (s : LineSlot) (missL missG : Nat → Bool) (c : Chip) : List UnitLine × Chip :=
  let hact := c.beam.hactive
  let base := (List.range 8).foldl (fun acc hw =>
    if hw ≠ 4 && layerFetches acc.2 s hw && !missL hw then
      let (u, c) := layerLine s.snap (ownerOf acc.2 .layer hw) hw s.line hact acc.2
      (acc.1 ++ [u], c)
    else acc) (([] : List UnitLine), c)
  (List.range 7).foldl (fun acc p =>
    if groupFetches acc.2 s p && !missG p && !missL 4 then
      let (u, c) := groupLine s.snap p s.line hact acc.2
      (acc.1 ++ [u], c)
    else acc) base

end Sys2Proof.Machine
end

