-- ==== Sys2Proof/Machine/Compose.lean ====
section
/-! DEFINITION. Composition: depth order, blending, tone mapping and dithering, and what the output pins carry (chapters 11 and 12). -/

namespace Sys2Proof.Machine

/-! ### Depth order and blending (R557 to R569) -/

/-- A pixel on its way to the blend, with its depth key (ZE, PRIO, HW) as one number. -/
structure Depth where
  key : Nat
  hw : Nat
  dot : Dot
deriving DecidableEq, Repr, Inhabited

/-- The depth key of a pixel (R557). -/
def depthKey (z prioZ hw : Nat) (prio : Bool) : Nat := (if prio then max z prioZ else z) * 16 + b2n prio * 8 + hw

/-- The priority of a pixel. -/
def Pix.prio : Pix → Bool
  | .px _ _ _ _ p => p
  | .bad p => p
  | .clear => false

/-- Inserts a pixel behind those of greater key (R558). -/
def insDepth (x : Depth) : List Depth → List Depth
  | [] => [x]
  | y :: ys => if x.key < y.key then x :: y :: ys else y :: insDepth x ys

/-- One channel of a blend (R567). -/
def blendCh (b : Blend) (g pa s d : Nat) : Nat :=
  let a := (pa * g + 127) / 255
  let t := if b.premul then s * g else s * a
  min 8191 (match b.mode with
    | 0 => (t + d * (255 - a) + 127) / 255
    | 1 => d + (t + 127) / 255
    | _ => (d * ((t + 4095 * (255 - a) + 127) / 255) + 2047) / 4095)

/-- Blends one pixel onto the colour behind it (R567, R568): a transparent pixel and one with a = 0 leave it unchanged. -/
def blendPix (b : Blend) (g : Nat) (x : Pix) (d : Nat × Nat × Nat) : Nat × Nat × Nat :=
  match x with
  | .px r gr bl pa _ =>
    if (pa * g + 127) / 255 = 0 then d
    else (blendCh b g pa r d.1, blendCh b g pa gr d.2.1, blendCh b g pa bl d.2.2)
  | _ => d

/-- A line's unit is still shown: its partition has not been hidden since (R185). -/
def unitShown (c : Chip) (u : UnitLine) : Bool := !(lpOf c u.part).hidden

/-- The pixels of one dot: each layer's, and of SP the frontmost sprite's alone (R533, R560). -/
def dotPixels (us : List UnitLine) (d : Nat) : List (Nat × Dot) :=
  let own := us.filter (·.hw != 4) |>.map fun u => (u.hw, u.dots.getD d {})
  let sp := us.filter (·.hw == 4) |>.map fun u => u.dots.getD d {}
  let front := sp.foldl (fun (best : Option Dot) x =>
    if x.pix = .clear then best
    else match best with
      | some b => if x.sprite < b.sprite then some x else best
      | none => some x) none
  (own.filter fun x => x.2.pix != .clear) ++ (match front with | some x => [(4, x)] | none => [])

/-- Composes one dot (R567): layers of the snapshot, settings of the frame. -/
def composeDot (l : Lyr) (s : CmpSet) (px : List (Nat × Dot)) : Nat × Nat × Nat :=
  let order := px.foldl (fun acc x =>
    let z := (l.layers.toList.getD x.1 {}).r.z
    insDepth ⟨depthKey z (s.blend.toList.getD x.1 {}).prioZ x.1 x.2.pix.prio, x.1, x.2⟩ acc) []
  order.foldl (fun d x => blendPix (s.blend.toList.getD x.hw {}) (l.layers.toList.getD x.hw {}).r.galpha x.dot.pix d)
    (vget s.bg 0, vget s.bg 1, vget s.bg 2)

/-! ### Tone mapping (R574) -/

/-- The lookup of a table. -/
def lut (t : List Nat) (x : Nat) : Nat := (t.getD (x / 64) 0 * (64 - x % 64) + t.getD (x / 64 + 1) 0 * (x % 64) + 32) / 64

/-- The tone mapper. Modes: 0 CLIP, 1 LUT_RGB, 2 LUT_SHARED, 3 HUE. -/
def toneMap (s : CmpSet) (x : Nat × Nat × Nat) : Nat × Nat × Nat :=
  let (r, g, b) := x
  let t (i : Nat) : List Nat := vget s.tables i
  match s.tone with
  | 0 => (min r 4095, min g 4095, min b 4095)
  | 1 => (lut (t 0) r, lut (t 1) g, lut (t 2) b)
  | 2 => (lut (t 0) r, lut (t 0) g, lut (t 0) b)
  | _ =>
    let m := max r (max g b)
    let ch (v : Nat) : Nat := if m = 0 then 0 else min 4095 ((v * lut (t 0) m + m / 2) / m)
    (ch r, ch g, ch b)

/-! ### Dithering (R575) -/

/-- BAYER (Table 11.4). -/
def bayer (y x : Nat) : Nat :=
  [0, 8, 2, 10, 12, 4, 14, 6, 3, 11, 1, 9, 15, 7, 13, 5].getD (4 * (y % 4) + x % 4) 0

/-- ROT of a frame. -/
def ditherRot (f : Nat) : Nat := [0, 8, 4, 12].getD (f % 4) 0

/-- One channel at a depth. Modes: 0 NONE, 1 ORDERED, 2 TEMPORAL. -/
def ditherCh (mode depth y x f v : Nat) : Nat :=
  let q := 2 ^ depth - 1
  let b := if mode = 1 then bayer y x else (bayer y x + ditherRot f) % 16
  if mode = 0 then (v * q + 2047) / 4095 else (v * q + (2 * b + 1) * 4095 / 32) / 4095

/-! ### The pins (R591, R592, R602) -/

/-- A channel value of depth p placed in a field of width w (R592). -/
def placeField (p w v : Nat) : Nat :=
  if p = w then v else if w < p then v / 2 ^ (p - w) else v * 2 ^ (w - p) + v / 2 ^ (2 * p - w)

/-- The field widths of a mode: the bus of Table 12.3 or the pixel packet of Table 12.4. -/
def fieldWidths (m : Mode) : Nat × Nat × Nat :=
  if m.iface = 0 then (match m.width with | 16 => (5, 6, 5) | 18 => (6, 6, 6) | _ => (8, 8, 8))
  else match bits m.opts 3 2 with
    | 0 => (5, 6, 5)
    | 1 => (6, 6, 6)
    | 2 => (6, 6, 6)
    | _ => (8, 8, 8)

/-- PD[23:0] of a dot, or the pixel word of a DSI packet: the values of the fields, red highest (R591). -/
def pinWord (m : Mode) (s : CmpSet) (y x f : Nat) (rgb : Nat × Nat × Nat) : Nat :=
  let (wr, wg, wb) := fieldWidths m
  let ch (i w v : Nat) : Nat := placeField (vget s.depth i) w (ditherCh s.dither (vget s.depth i) y x f v)
  ch 0 wr rgb.1 * 2 ^ (wg + wb) + ch 1 wg rgb.2.1 * 2 ^ wb + ch 2 wb rgb.2.2

/-- BLACK of a composite standard (Table 12.6). -/
def blackLevel (m : Mode) : Nat := if m.opts % 4 < 2 then 272 else 240

/-- The luma code of a dot (R602). -/
def lumaCode (m : Mode) (rgb : Nat × Nat × Nat) : Nat :=
  let y := (1225 * rgb.1 + 2404 * rgb.2.1 + 467 * rgb.2.2 + 2048) / 4096
  blackLevel m + (y * (800 - blackLevel m) + 2047) / 4095

/-- What leaves the chip for the dots of a line: pin words, or luma codes on composite. -/
def lineWords (m : Mode) (s : CmpSet) (line frame : Nat) (dots : List (Nat × Nat × Nat)) : List Nat :=
  if m.iface = 2 then dots.map (lumaCode m)
  else List.zipWith (fun x rgb => pinWord m s line x frame rgb) (List.range dots.length) dots

/-! ### A line -/

/-- Slots that hold a composed line (R24, R39). -/
def fullSlots (c : Chip) : Nat := (c.scan.lines.filter fun s => s.composed.isSome).length

/-- Counts a layer's substituted pixels of a line for its frame (R573). -/
def countSubst (frame hw n : Nat) (c : Chip) : Chip :=
  modLayer hw (fun l => { l with m :=
    if frame = c.beam.frame then { l.m with substNow := l.m.substNow + n } else { l.m with substNext := l.m.substNext + n } }) c

/-- Composes a fetched line: every dot blended and tone-mapped, and the substituted pixels counted. -/
def composeLine (s : LineSlot) (us : List UnitLine) (c : Chip) : Chip :=
  let shown := us.filter (unitShown c)
  let px := (List.range c.beam.hactive).map (dotPixels shown)
  let dots := px.map fun x => toneMap s.cmp (composeDot s.snap s.cmp x)
  let c := (List.range 8).foldl (fun c hw =>
    countSubst s.frame hw ((px.map fun x => (x.filter fun y => y.1 == hw && y.2.subst).length).sum) c) c
  { c with scan := { c.scan with lines := c.scan.lines.map fun t =>
      if t.line = s.line && t.frame = s.frame then { t with composed := some dots } else t } }

/-- LINE_COMPOSE (R39): line n is composed once it is fetched and a slot of the line buffer is free. -/
def lineCompose (n : Nat) (c : Chip) : Chip :=
  match c.scan.lines.find? fun s => s.line == n && s.composed.isNone with
  | some s => match s.fetched with
    | some us => if fullSlots c < 4 then composeLine s us c else c
    | none => c
  | none => c

/-- LINE_COMPOSE. -/
def execLineCompose (n : Fin 2048) (s : State) : Out := onChip (lineCompose n.val) s

end Sys2Proof.Machine
end

