-- ==== Sys2Proof/Machine/Composite.lean ====
section
/-! DEFINITION. The composite encoder: subcarrier phase and DAC codes (R599 to R603). -/

namespace Sys2Proof.Machine

/-- π in units of 2^−60. -/
def pi60 : Int := 3622009729038561421

/-- The sine series x − x³/3! + … with n terms left, in units of 2^−60: `term` is the present term and `k` its number. -/
def sinSeries (x2 : Int) : Nat → Int → Int → Int
  | 0, _, _ => 0
  | n + 1, term, k => term + sinSeries x2 n (-(term * x2 / 2 ^ 60) / (2 * k * (2 * k + 1))) (k + 1)

/-- sin(2π p / n) in units of 2^−60, from the first quadrant (R602). -/
def sinTurn (p n : Nat) : Int :=
  let p := p % n
  let q := if 2 * p < n then p else p - n / 2
  let neg := decide (n ≤ 2 * p)
  let q' := if 4 * q ≤ n then q else n / 2 - q
  let x : Int := 2 * pi60 * q' / n
  let s := sinSeries (x * x / 2 ^ 60) 14 x 1
  if neg then -s else s

/-- Cycles of the subcarrier per dot, as a fraction (R603): 35/132 for NTSC, 709,379/2,160,000 for PAL. -/
def subcarrier (m : Mode) : Nat × Nat := if m.opts % 4 < 2 then (35, 132) else (709379, 2160000)

/-- Y of R602. -/
def lumaY (rgb : Nat × Nat × Nat) : Int := (1225 * rgb.1 + 2404 * rgb.2.1 + 467 * rgb.2.2 + 2048) / 4096

/-- The filter of R602, edge dots repeated beyond the active line. -/
def chromaFilter (u : List Int) (x : Nat) : Int :=
  let at' (i : Int) : Int := u.getD (clampI 0 (u.length - 1 : Int) i).toNat 0
  (at' (x - 2) + 4 * at' (x - 1) + 6 * at' x + 4 * at' (x + 1) + at' (x + 2) + 8) / 16

/-- The DAC codes of a line of composite (R602). -/
def dacLine (m : Mode) (phase : Nat) (palMinus : Bool) (dots : List (Nat × Nat × Nat)) : List Nat :=
  let (step, n) := subcarrier m
  let u := dots.map fun d => (d.2.2 : Int) - lumaY d
  let v := dots.map fun d => (d.1 : Int) - lumaY d
  let s : Int := 800 - blackLevel m
  (List.range dots.length).map fun x =>
    let th := (phase + step * x) % n
    let sn := sinTurn th n
    let cs := sinTurn (4 * th + n) (4 * n)
    let p : Int := if palMinus then -1 else 1
    let num := s * (492111 * chromaFilter u x * sn + 877283 * p * chromaFilter v x * cs)
    let c := (2 * num + 1000000 * 4095 * 2 ^ 60) / (2 * 1000000 * 4095 * 2 ^ 60)
    (clampI 0 1023 ((lumaCode m (dots.getD x (0, 0, 0)) : Int) + c)).toNat

/-- The subcarrier phase and the PAL switch at the next line. -/
def nextSubcarrier (m : Mode) (htotal : Nat) (s : Scan) : Scan :=
  let (step, n) := subcarrier m
  { s with pins := { s.pins with subPhase := (s.pins.subPhase + step * htotal) % n, palMinus := m.opts % 4 ≥ 2 && !s.pins.palMinus } }

/-- The sync tip on HS dots and the blanking level elsewhere on a blanking dot outside the vertical interval (Table 12.6). -/
def dacBlanking (m : Mode) (dot : Nat) : Nat :=
  if m.hsStart ≤ dot ∧ dot < m.hsStart + m.hsWidth then 0 else if m.opts % 4 < 2 then 229 else 240

end Sys2Proof.Machine
end

