-- ==== Sys2Proof/Machine/Layers.lean ====
section
/-! DEFINITION. The commands of the layers and of composition, and the changes that wait for a frame (chapters 10 and 11). -/

namespace Sys2Proof.Machine

/-! ### Resetting a partition's display state (R553, R550) -/

/-- The blend settings of a layer return to reset (R579). -/
def resetBlend (hw : Nat) (c : Chip) : Chip :=
  { c with cmp := { c.cmp with blend := vset c.cmp.blend hw {} },
           cmpNext := c.cmpNext.map fun s => { s with blend := vset s.blend hw {} } }

/-- A layer's block and blend settings take their reset values. -/
def resetLayer (hw : Nat) (c : Chip) : Chip := resetBlend hw (modLayer hw (fun _ => LayerSt.reset hw) c)

/-- A sprite run's attributes and affine set take their reset values. -/
def resetRun (r : Nat) (c : Chip) : Chip :=
  { c with lyr := { c.lyr with sprites := sclear c.lyr.sprites (32 * r) (32 * r + 32), affs := sclear c.lyr.affs (4 * r) (4 * r + 4) } }

/-- The layer window, sprite group and stitch list of a partition take their reset values; its banks and QUOTA are kept. -/
def resetLayersOf (p : Nat) (c : Chip) : Chip :=
  let c := (ownedUnits c p .layer).foldl (fun c hw => resetLayer hw c) c
  let c := (ownedUnits c p .sprite).foldl (fun c r => resetRun r c) c
  let c := (palBanks c.lyr p).foldl (fun c b => { c with lyr := { c.lyr with palette := sclear c.lyr.palette (64 * b) (64 * b + 64) } }) c
  modLp p (fun _ => {}) (modGroup p (fun g => { quota := g.quota }) c)

/-! ### Ownership of layers and sprite runs (R183) -/

/-- A layer or sprite run changes hands: a released layer's block takes its reset values, an assigned layer's blend settings too. -/
def applyOwn (ch : OwnChange) (c : Chip) : Chip :=
  match ch.kind with
  | .layer =>
    let c := if ch.dest = 0 then resetLayer ch.index c else resetBlend ch.index c
    { c with own := { c.own with layers := vset c.own.layers ch.index ch.dest } }
  | .sprite => { c with own := { c.own with sprites := vset c.own.sprites ch.index ch.dest } }
  | _ => c

/-! ### Changes that wait (R517, R578) -/

/-- A change of composition. -/
def FrameChange.isCmp : FrameChange → Bool
  | .blend _ _ => true
  | .background _ _ _ => true
  | .tone _ _ => true
  | .dither _ _ => true
  | _ => false

/-- A change of the selenite check, which waits for the frame start itself. -/
def FrameChange.isSel : FrameChange → Bool
  | .selenite _ _ _ _ _ _ _ _ => true
  | _ => false

/-- Makes a change of composition in a set of settings. -/
def CmpSet.apply (s : CmpSet) : FrameChange → CmpSet
  | .blend hw b => { s with blend := vset s.blend hw b }
  | .background r g b => { s with bg := #v[r, g, b] }
  | .tone mode t => { s with tone := mode, tables := t.getD s.tables }
  | .dither mode d => { s with dither := mode, depth := d }
  | _ => s

/-- Sets a selenite window (Table 12.13). -/
def applySel (w flags x y wd ht tol golden : Nat) (c : Chip) : Chip :=
  let win := vmod c.scan.sel.win w fun s =>
    { s with en := bit flags 0, goldenEn := bit flags 1, x := x, y := y, w := wd, h := ht, golden := golden, run := 0xFFFFFFFF }
  { c with scan := { c.scan with sel := { c.scan.sel with tol := tol, win := win } } }

/-- Makes a change of the layers. -/
def applyChange (ch : FrameChange) (c : Chip) : Chip :=
  match ch with
  | .setup hw regs =>
    modLayer hw (fun l =>
      { r := regs.foldl (fun r w => r.write (kindOf hw) w.1 w.2) l.r, m := if l.r.en then l.m.admitAs .yes else l.m }) c
  | .enable hw ctrl => modLayer hw (fun l =>
      { r := l.r.write (kindOf hw) 0 ctrl, m := if bit ctrl 0 then l.m.admitAs .yes else l.m.drop }) c
  | .group p ctrl => modGroup p (fun g =>
      { g with en := bit ctrl 0, ess := bit ctrl 1, m := if bit ctrl 0 then g.m.admitAs .yes else g.m.drop }) c
  | .palette p first entries =>
    (List.range entries.length).foldl (fun c i => match palEntry c.lyr p (first + i) with
      | some h => { c with lyr := { c.lyr with palette := sput 0 c.lyr.palette h (entries.getD i 0 % 2 ^ 31) } }
      | none => c) c
  | .grant p first count quota =>
    let owners := Vector.ofFn (n := 16) fun b =>
      if first ≤ b.val ∧ b.val < first + count then p
      else if vget c.lyr.palOwner b.val = p then 0 else vget c.lyr.palOwner b.val
    modGroup p (fun g => { g with quota := quota }) { c with lyr := { c.lyr with palOwner := owners } }
  | .stitch p base count slots en => modStitch p (fun s =>
      { s with base := base, count := count, slots := slots, en := en, m := if en then s.m.admitAs .yes else s.m.drop,
               actEn := s.actEn && en }) c
  | .own ch => applyOwn ch c
  | .selenite w f x y wd ht tol g => applySel w f x y wd ht tol g c
  | ch => { c with cmp := c.cmp.apply ch }

/-- A change waits. -/
def enqueueChange (m : Cmd) (last : Bool) (ch : FrameChange) (c : Chip) : Chip :=
  { c with frameQ := c.frameQ ++ [{ handle := if m.handle = 0 then none else some m.handle, last := last, ch := ch }] }

/-- What every accepted change will leave, as later commands' checks see it (R183). -/
def afterChanges (c : Chip) : Chip := (c.frameQ ++ c.cmpTaken).foldl (fun c q => applyChange q.ch c) c

/-- The command of a change completes. -/
def finishChange (q : Queued) (c : Chip) : Chip := if q.last then finish q.handle .ok 0 0 c else c

/-- The opening for line 0: changes of the layers apply and complete; changes of composition are taken for the coming frame. -/
def applyQueue (c : Chip) : Chip :=
  let q := c.frameQ
  let c := { c with frameQ := q.filter (·.ch.isSel) }
  let c := (q.filter fun x => !x.ch.isSel && !x.ch.isCmp).foldl (fun c x => finishChange x (applyChange x.ch c)) c
  let taken := q.filter (·.ch.isCmp)
  { c with cmpTaken := c.cmpTaken ++ taken, cmpNext := some (taken.foldl (fun s x => s.apply x.ch) (c.cmpNext.getD c.cmp)) }

/-- The frame start: the composition settings taken for this frame are in force and their commands complete; selenite settings apply. -/
def frameChanges (c : Chip) : Chip :=
  let done := c.cmpTaken
  let sel := c.frameQ.filter (·.ch.isSel)
  let c := { c with cmp := c.cmpNext.getD c.cmp, cmpNext := none, cmpTaken := [], frameQ := c.frameQ.filter fun x => !x.ch.isSel }
  let c := done.foldl (fun c x => finishChange x c) c
  sel.foldl (fun c x => finishChange x (applyChange x.ch c)) c

/-- Drops the waiting changes of commands that no longer exist (R185, R256). -/
def dropChanges (dead : Long → Bool) (c : Chip) : Chip :=
  let keep (q : Queued) : Bool := match q.handle with | some h => !dead h | none => true
  let taken := c.cmpTaken.filter keep
  { c with frameQ := c.frameQ.filter keep, cmpTaken := taken,
           cmpNext := c.cmpNext.map fun _ => taken.foldl (fun s x => s.apply x.ch) c.cmp }

/-! ### Marking over budget (R542) -/

/-- The admitted units of a partition in the order R542 takes them. -/
inductive LUnit where
  | layer (hw : Nat)
  | group
  | list
deriving DecidableEq, Repr

/-- The marks of a unit. -/
def lunitMarks (c : Chip) (p : Nat) : LUnit → UnitMarks
  | .layer hw => (layerOf c hw).m
  | .group => (groupOf c p).m
  | .list => (lpOf c p).stitch.m

/-- Changes the marks of a unit. -/
def modMarks (p : Nat) (f : UnitMarks → UnitMarks) (u : LUnit) (c : Chip) : Chip :=
  match u with
  | .layer hw => modLayer hw (fun l => { l with m := f l.m }) c
  | .group => modGroup p (fun g => { g with m := f g.m }) c
  | .list => modStitch p (fun s => { s with m := f s.m }) c

/-- DETAIL of an admission entry: the hardware layer, 0x80 the sprite group, 0x81 the stitch list. -/
def LUnit.detail : LUnit → Nat
  | .layer hw => hw
  | .group => 0x80
  | .list => 0x81

/-- Marks units overbooked until the load is within the budget. -/
def markOver (p : Nat) (c : Chip) : Chip :=
  let us := (ownedUnits c p .layer).reverse.map LUnit.layer ++ [LUnit.group, LUnit.list]
  us.foldl (fun c u =>
    let m := lunitMarks c p u
    if (partOf c p).budget < loadOf c p ∧ m.admitted ∧ !m.overbooked then
      lintBlock 0x0303 p u.detail (modMarks p (fun m => { m with overbooked := true }) u c)
    else c) c

/-- Every load is recomputed when a mode set takes effect. -/
def markAll (c : Chip) : Chip := (List.range 7).foldl (fun c p => markOver p c) c

/-- OVERBOOK is removed: units admitted under it are hidden (R164). -/
def dropOverbook (p : Nat) (c : Chip) : Chip :=
  ((ownedUnits c p .layer).map LUnit.layer ++ [LUnit.group, LUnit.list]).foldl (fun c u =>
    modMarks p (fun m => if m.underRight then { m with gone := true } else m) u c) c

/-! ### The commands of the layers (R554, R555) -/

/-- The partition that a layer command acts for. -/
def Cmd.part (m : Cmd) : Nat := (m.org.partNo).getD 0

/-- The unit that a LAYER byte names among the issuer's. -/
def lunitOf (c : Chip) (p n : Nat) : Option LUnit :=
  if n < 8 then (layerOfLocal c p n).map .layer
  else if n = 0x80 then (if (ownedUnits c p .sprite).isEmpty then none else some .group)
  else if n = 0x81 then some .list else none

/-- A layer named is pegged. -/
def lunitPegged (c : Chip) : LUnit → Bool
  | .layer hw => isPegged c 6 hw
  | _ => false

/-- LYR.STATUS. -/
def lyrStatus (m : Cmd) (c : Chip) : Reply × Chip :=
  let p := m.part
  match lunitOf c p (m.b 8) with
  | none => (.fail .badParam, c)
  | some u =>
    if lunitPegged c u then (.fail .fenced, c)
    else
      let mk := lunitMarks c p u
      let (en, ess, kind, hw, cost) := match u with
        | .layer hw => ((layerOf c hw).r.en, (layerOf c hw).r.ess, (kindOf hw).code, hw, layerCost c hw (layerOf c hw).r)
        | .group => ((groupOf c p).en, (groupOf c p).ess, 2, 4, groupCost (groupOf c p))
        | .list => ((lpOf c p).stitch.en, false, 0, 0, stitchCost (lpOf c p).stitch)
      (.res (bitsToNat [en, essEff ess mk, mk.overbooked, mk.shed] + 16 * kind + 256 * hw)
        (min 65535 cost + 65536 * min 65535 (loadOf c p)), c)

/-- LYR.STATUS. -/
def execLyrStatus (r : Req) (s : State) : Out := onChip (serve 0x0A01 r lyrStatus) s

/-- The image of LYR.SETUP: offsets 0x04 to 0x2E with their values. -/
def setupRegs (img : List Byte) : List (Nat × Nat) := (List.range 22).map fun i => (4 + 2 * i, pfield img (4 + 2 * i) 2)

/-- LYR.SETUP. -/
def lyrSetup (m : Cmd) (c : Chip) : Reply × Chip :=
  let p := m.part
  let src := m.f 12 4
  if !kRangeOk c p .r (src % 2 ^ 24) 64 then (.fail .denied, c)
  else
    let (img, c') := readKFree p (src % 2 ^ 24) 64 c
    let regs := setupRegs (plain img)
    let v := afterChanges c
    match (if m.b 8 < 8 then layerOfLocal v p (m.b 8) else none) with
    | none => (.fail .badParam, c)
    | some hw =>
      let l := layerOf v hw
      let r := regs.foldl (fun r w => r.write (kindOf hw) w.1 w.2) l.r
      checked [chk (anyPoison img) .poisoned, chk (!m.z 9 3 || 2 ^ 24 ≤ src || !(regs.all fun w => blockValid (kindOf hw) w.1 w.2)) .badParam,
               chk (isPegged v 6 hw) .fenced]
        (fun c =>
          let rest := loadOf (modLayer hw (fun l => { l with r := { l.r with en := false } }) v) p
          if r.en && admission v p rest (layerCost v hw r) false == .refused then (.fail .overBudget, lintAdmit .refused p hw c)
          else (.wait, enqueueChange m true (.setup hw regs) c)) c'

/-- LYR.SETUP. -/
def execLyrSetup (r : Req) (s : State) : Out := onChip (serve 0x0A10 r lyrSetup) s

/-- LYR.ENABLE. -/
def lyrEnable (m : Cmd) (c : Chip) : Reply × Chip :=
  let p := m.part
  let ctrl := m.b 9
  let v := afterChanges c
  match (if m.b 8 = 0x81 then none else lunitOf v p (m.b 8)) with
  | none => (.fail .badParam, c)
  | some u =>
    checked [chk (bit ctrl 7 || bit ctrl 3) .badParam, chk (lunitPegged v u) .fenced]
      (fun c =>
        let (rest, cost, ch) : Nat × Nat × FrameChange := match u with
          | .layer hw => (loadOf (modLayer hw (fun l => { l with r := { l.r with en := false } }) v) p, layerCost v hw (layerOf v hw).r, .enable hw ctrl)
          | _ => (loadOf (modGroup p (fun g => { g with en := false }) v) p, groupCost (groupOf v p), .group p (ctrl % 4))
        if bit ctrl 0 && admission v p rest cost false == .refused then (.fail .overBudget, lintAdmit .refused p u.detail c)
        else (.wait, enqueueChange m true ch c)) c

/-- LYR.ENABLE. -/
def execLyrEnable (r : Req) (s : State) : Out := onChip (serve 0x0A11 r lyrEnable) s

/-- LYR.PALETTE. -/
def lyrPalette (m : Cmd) (c : Chip) : Reply × Chip :=
  let p := m.part
  let n := m.f 10 2
  let src := m.f 12 4
  let okN := 1 ≤ n && n ≤ 1024
  if okN && !kRangeOk c p .r (src % 2 ^ 24) (4 * n) then (.fail .denied, c)
  else
    let (bs, c') := if okN then readKFree p (src % 2 ^ 24) (4 * n) c else ([], c)
    checked [chk (anyPoison bs) .poisoned,
             chk (!okN || 2 ^ 24 ≤ src || 64 * (palBanks (afterChanges c).lyr p).length < m.f 8 2 + n) .badParam]
      (fun c => (.wait, enqueueChange m true (.palette p (m.f 8 2) ((List.range n).map fun i => pfield (plain bs) (4 * i) 4)) c)) c'

/-- LYR.PALETTE. -/
def execLyrPalette (r : Req) (s : State) : Out := onChip (serve 0x0A12 r lyrPalette) s

/-- STALE with the present generation and state (Table 04.6). -/
def staleReply (c : Chip) (p : Nat) : Reply := .done .stale (partOf c p).gen (partOf c p).st.code []

/-- LYR.GRANT. -/
def lyrGrant (m : Cmd) (c : Chip) : Reply × Chip :=
  let p := m.b 8
  let first := m.b 10
  let n := m.b 11
  let q := m.b 12
  let v := afterChanges c
  let g := groupOf v p
  let total := ((List.range 7).map fun i => if i = p then q else (groupOf v i).quota).sum
  let rest := loadOf (modGroup p (fun g => { g with en := false }) v) p
  checked
    [chk (p < 1 || 6 < p || 15 < first || 16 < n || (0 < n && 16 < first + n) || 64 < q || 8 * (ownedUnits v p .sprite).length < q) .badParam,
     (m.b 9 ≠ (partOf c p).gen, staleReply c p),
     chk ((partOf c p).st == .empty || (partOf c p).st == .resetting) .badState,
     chk ((List.range 16).any fun b => first ≤ b && b < first + n && vget v.lyr.palOwner b != 0 && vget v.lyr.palOwner b != p) .inUse,
     chk (64 < total || (g.quota < q && counts g.en g.m && (partOf c p).budget < rest + 24 * q)) .overBudget]
    (fun c => (.wait, enqueueChange m true (.grant p first n q) c)) c

/-- LYR.GRANT. -/
def execLyrGrant (r : Req) (s : State) : Out := onChip (serve 0x0A13 r lyrGrant) s

/-- STCH.SET. -/
def stchSet (m : Cmd) (c : Chip) : Reply × Chip :=
  let p := m.part
  let base := m.f 8 4
  let n := m.f 12 2
  let slots := m.b 14
  let v := afterChanges c
  let rest := loadOf (modStitch p (fun s => { s with en := false }) v) p
  checked [chk (2 ^ 24 ≤ base || base % 8 != 0 || n < 1 || 4096 < n || slots < 1 || 16 < slots || 1 < m.b 15) .badParam]
    (fun c =>
      if bit (m.b 15) 0 && admission v p rest (8 * slots) false == .refused then (.fail .overBudget, lintAdmit .refused p 0x81 c)
      else (.wait, enqueueChange m true (.stitch p base n slots (bit (m.b 15) 0)) c)) c

/-- STCH.SET. -/
def execStchSet (r : Req) (s : State) : Out := onChip (serve 0x0A20 r stchSet) s

/-! ### The commands of composition (R584 to R586) -/

/-- CMP.STATUS. -/
def cmpStatus (m : Cmd) (c : Chip) : Reply × Chip :=
  let s := c.cmp
  let mine (hw : Nat) : Bool := match m.org with | .part 0 => true | .part p => ownerOf c .layer hw == p | _ => true
  let n := (((List.range 8).filter mine).map fun hw => (layerOf c hw).m.substLast).sum
  (.res (min 65535 n) (s.tone + 4 * s.dither + 16 * vget s.depth 0 + 256 * vget s.depth 1 + 4096 * vget s.depth 2), c)

/-- CMP.STATUS. -/
def execCmpStatus (r : Req) (s : State) : Out := onChip (serve 0x0B01 r cmpStatus) s

/-- CMP.BLEND. -/
def cmpBlend (m : Cmd) (c : Chip) : Reply × Chip :=
  let v := afterChanges c
  let mode := m.b 9
  match (if m.b 8 < 8 then layerOfLocal v m.part (m.b 8) else none) with
  | none => (.fail .badParam, c)
  | some hw =>
    checked [chk (mode % 4 = 3 || 8 ≤ mode || 7 < m.b 10) .badParam, chk (isPegged v 6 hw) .fenced]
      (fun c => (.wait, enqueueChange m true (.blend hw { mode := mode % 4, premul := bit mode 2, prioZ := m.b 10 }) c)) c

/-- CMP.BLEND. -/
def execCmpBlend (r : Req) (s : State) : Out := onChip (serve 0x0B10 r cmpBlend) s

/-- CMP.BACKGROUND. -/
def cmpBackground (m : Cmd) (c : Chip) : Reply × Chip :=
  checked [chk (8191 < m.f 8 2 || 8191 < m.f 10 2 || 8191 < m.f 12 2) .badParam]
    (fun c => (.wait, enqueueChange m true (.background (m.f 8 2) (m.f 10 2) (m.f 12 2)) c)) c

/-- CMP.BACKGROUND. -/
def execCmpBackground (r : Req) (s : State) : Out := onChip (serve 0x0B11 r cmpBackground) s

/-- Reads the table that a CMP.TONE of a partition names, as its acceptance does (R580): the bytes, or refused. -/
def readTone (m : Cmd) (c : Chip) : Cmd × Chip :=
  let n := toneBytes (m.b 8)
  let src := m.f 12 4 % 2 ^ 24
  if m.srcRead || m.org.external || n = 0 || 3 < m.b 8 then (m, c)
  else if !kRangeOk c m.part .r src n then ({ m with srcRead := true, srcDenied := true }, c)
  else
    let (bs, c) := readKFree m.part src n c
    ({ m with srcRead := true, data := plain bs, dataPoison := anyPoison bs }, c)

/-- The tables that a CMP.TONE loads (R585). -/
def toneTables (mode : Nat) (d : List Byte) : Option (Vector (List Nat) 3) :=
  let t (k : Nat) : List Nat := (List.range 129).map fun i => pfield d (2 * (129 * k + i)) 2
  match mode with
  | 0 => none
  | 1 => some #v[t 0, t 1, t 2]
  | _ => some #v[t 0, t 0, t 0]

/-- CMP.TONE. A table of an external origin follows as data. -/
def cmpTone (m : Cmd) (c : Chip) : Reply × Chip :=
  let mode := m.b 8
  let src := m.f 12 4
  let (m', c') := readTone m c
  let tabs := toneTables mode m'.data
  if m'.srcDenied then (.fail .denied, c')
  else if 3 < mode || !m.z 9 3 || (mode != 0 && (2 ^ 24 ≤ src || (m.org.external && src != 0))) then (.fail .badParam, c')
  else if m.org.external && !dataReady m then waitData m c'
  else if m'.dataPoison then (.fail .poisoned, lintBlock 0x0B02 (m.org.lintCode) 0 c')
  else if (tabs.map fun v => v.toList.any fun t => t.any (4096 ≤ ·)) = some true then (.fail .badParam, c')
  else (.wait, enqueueChange m true (.tone mode tabs)
    (modCmd m.handle (fun x => { x with data := [], dataSince := none }) c'))

/-- CMP.TONE. -/
def execCmpTone (r : Req) (s : State) : Out := onChip (serve 0x0B12 r cmpTone) s

/-- A dither depth. -/
def depthOk (d : Nat) : Bool := d == 5 || d == 6 || d == 8

/-- CMP.DITHER. -/
def cmpDither (m : Cmd) (c : Chip) : Reply × Chip :=
  checked [chk (2 < m.b 8 || !depthOk (m.b 9) || !depthOk (m.b 10) || !depthOk (m.b 11)) .badParam]
    (fun c => (.wait, enqueueChange m true (.dither (m.b 8) #v[m.b 9, m.b 10, m.b 11]) c)) c

/-- CMP.DITHER. -/
def execCmpDither (r : Req) (s : State) : Out := onChip (serve 0x0B13 r cmpDither) s

end Sys2Proof.Machine
end

