-- ==== Sys2Proof/Machine/Scan.lean ====
section
/-! DEFINITION. Scan-out: modes, relock and output holding, lines on their way to the pins, underrun, the selenite check and the panel (chapter 12). -/

namespace Sys2Proof.Machine

/-- Changes scan-out. -/
def modScan (f : Scan → Scan) (c : Chip) : Chip := { c with scan := f c.scan }
/-- Changes why the output is held. -/
def modHold (f : Holding → Holding) (c : Chip) : Chip := modScan (fun s => { s with h := f s.h }) c
/-- Changes the panel. -/
def modPanel (f : Panel → Panel) (c : Chip) : Chip := modScan (fun s => { s with panel := f s.panel }) c
/-- Changes the DCS commands. -/
def modDcs (f : DcsUnit → DcsUnit) (c : Chip) : Chip := modScan (fun s => { s with dcs := f s.dcs }) c
/-- Changes the selenite check. -/
def modSel (f : Selenite → Selenite) (c : Chip) : Chip := modScan (fun s => { s with sel := f s.sel }) c
/-- Changes the line at the pins. -/
def modPins (f : PinLine → PinLine) (c : Chip) : Chip := modScan (fun s => { s with pins := f s.pins }) c

/-! ### Modes (R588, R595, R599) -/

/-- ADMIT_CAP of a mode (R173). -/
def admitCapOf (m : Mode) : Nat := 1170000000 * m.htotal * 3 / (4 * m.pclk)
/-- ADMIT_CAP of the mode in force: 0 before the first. -/
def admitCap (c : Chip) : Nat := match c.scan.mode with | some m => admitCapOf m | none => 0

/-- The timing of a composite standard (Table 12.5), field 0. -/
def compositeMode (opts : Nat) : Mode :=
  match opts % 4 with
  | 0 => { htotal := 858, hactive := 720, hsStart := 736, hsWidth := 63, vactive := 240, vtotal := 263, vsStart := 243, pclk := 13500000 }
  | 1 => { htotal := 858, hactive := 720, hsStart := 736, hsWidth := 63, vactive := 240, vtotal := 262, vsStart := 243, pclk := 13500000 }
  | 2 => { htotal := 864, hactive := 720, hsStart := 732, hsWidth := 63, vactive := 288, vtotal := 313, vsStart := 290, pclk := 13500000 }
  | _ => { htotal := 864, hactive := 720, hsStart := 732, hsWidth := 63, vactive := 288, vtotal := 312, vsStart := 290, pclk := 13500000 }

/-- An interlaced composite standard. -/
def Mode.interlaced (m : Mode) : Bool := m.iface == 2 && m.opts % 2 == 0

/-- Lines of a field: field 1 of an interlaced standard has one fewer (Table 12.5). -/
def Mode.lines (m : Mode) (field : Bool) : Nat := if m.interlaced && field then m.vtotal - 1 else m.vtotal

/-- The mode that an SCN.MODE asks for. -/
def modeOf (m : Cmd) : Mode :=
  let iface := m.b 8 % 4
  let base : Mode := if iface = 2 then compositeMode (m.b 9) else
    { hactive := m.f 10 2, htotal := m.f 12 2, hsStart := m.f 14 2, hsWidth := m.b 16, vsWidth := m.b 17, vactive := m.f 18 2,
      vtotal := m.f 20 2, vsStart := m.f 22 2, pclk := m.f 24 4 }
  { base with iface := iface, width := if iface = 0 then [16, 18, 24, 0].getD (bits (m.b 8) 3 2) 0 else 0, lanes2 := bit (m.b 8) 4,
              opts := m.b 9, laneRate := m.f 28 2, pclkMax := m.f 30 2 * 10000, startHeld := bit (m.b 8) 7 }

/-- The constraints of Table 12.2. -/
def Mode.timingOk (m : Mode) : Bool :=
  64 ≤ m.hactive && m.hactive ≤ 1280 && m.hactive + 16 ≤ m.htotal && m.htotal ≤ 4095 && m.hactive ≤ m.hsStart && 1 ≤ m.hsWidth
    && m.hsWidth ≤ 255 && m.hsStart + m.hsWidth ≤ m.htotal && 16 ≤ m.vactive && m.vactive ≤ 800 && m.vactive + 4 ≤ m.vtotal
    && m.vtotal ≤ 2047 && m.vactive < m.vsStart && 1 ≤ m.vsWidth && m.vsWidth ≤ 255 && m.vsStart + m.vsWidth + 2 ≤ m.vtotal
    && 4000000 ≤ m.pclk && m.pclk ≤ 80000000 && 24 * (m.htotal * m.vtotal) ≤ m.pclk && m.pclk ≤ 75 * (m.htotal * m.vtotal)

/-- Bits per pixel of a DSI packet (R595). -/
def Mode.dsiBpp (m : Mode) : Nat := match bits m.opts 3 2 with | 0 => 16 | 1 => 18 | _ => 24

/-- A mode is one that SCN.MODE takes (R588, R595, Table 12.13). -/
def Mode.ok (m : Mode) : Bool :=
  m.pclk ≤ m.pclkMax && m.pclkMax ≤ 81000000 &&
  match m.iface with
  | 0 => m.timingOk && m.width != 0 && m.opts < 16 && m.laneRate == 0
  | 1 => m.timingOk && m.opts < 32 && m.opts % 4 != 3 && (bits m.opts 3 2 != 1 || m.hactive % 4 == 0)
      && 80 ≤ m.laneRate && m.laneRate ≤ 800
      && m.pclk * m.dsiBpp * 11 ≤ m.laneRate * 1000000 * (if m.lanes2 then 2 else 1) * 10
  | 2 => m.opts < 4 && m.laneRate == 0
  | _ => false

/-- SCN.MODE and SCN.PANEL that name DSI or a 24-bit bus on SK40-Q176 (R6, R635). -/
def scanAbsent (q176 : Bool) (op : Nat) (params : List Byte) : Bool :=
  q176 && ((op == 0x0C10 && (pbyte params 0 % 4 == 1 || (pbyte params 0 % 4 == 0 && bits (pbyte params 0) 3 2 == 2)))
    || (op == 0x0C11 && bit (pbyte params 4) 0))

/-! ### Holding, locking and releasing the output (R604 to R609) -/

/-- The waiting DCS writes are sent, which the hold of the output allows (R597, R632). -/
def flushDcs (c : Chip) : Chip :=
  let q := c.scan.dcs.waiting
  q.foldl (fun c d => finish d.handle .ok 0 0 c) (modDcs (fun s => { s with waiting := [] }) c)

/-- The beam counts as a mode says. -/
def beamMode (m : Mode) (field : Bool) (c : Chip) : Chip :=
  let b := c.beam
  { c with beam := { b with htotal := m.htotal, vtotal := m.lines field, hactive := m.hactive, vactive := m.vactive,
                            interlaced := m.interlaced, pclk := m.pclk } }

/-- The output is held from now on (R605): the beam reads as R76 says, fetches and composed lines are discarded, and a new mode is in force. -/
def holdNow (c : Chip) : Chip :=
  let c := { c with beam := { c.beam with hold := true, line := 0, dot := 0, frac := 0 } }
  let c := c |> modScan (fun s => { s with lines := [], abort := none }) |> modHold (fun s => { s with due := false })
    |> modPins (fun s => { s with words := [], dac := [] }) |> modSel (fun s => { s with spoilt := true })
  let c := match c.scan.mode with
    | some m => markAll (beamMode m c.beam.field c)
    | none => c
  flushDcs c

/-- The output is to be held from the end of the present line; at once if it is held already. -/
def holdSoon (c : Chip) : Chip := if c.beam.hold then holdNow c else modHold (fun s => { s with due := true }) c

/-- A relock begins (R604). -/
def startRelock (m : Mode) (byCmd : Bool) (h : Option Long) (c : Chip) : Chip :=
  holdSoon (modScan (fun s => { s with mode := some m, relock := some { mode := m, since := c.clk.qtime, byCmd := byCmd, handle := h } }) c)

/-- A relock to the mode in force, after a switch of reference, a cut or a resume; an SCN.MODE whose relock it repeats stays with it. -/
def relockAgain (c : Chip) : Chip :=
  match c.scan.mode with
  | none => c
  | some m => match c.scan.relock with
    | some r => startRelock m r.byCmd r.handle c
    | none => startRelock m false none c

/-- The output is released (R608): the generator starts at line VSYNC_START, dot 0, of field 0. -/
def releaseOutput (c : Chip) : Chip :=
  match c.scan.mode with
  | none => c
  | some m =>
    let c := beamMode m false c
    let c := { c with beam := { c.beam with hold := false, line := m.vsStart, dot := 0, frac := 0, field := false } }
    c |> modScan (fun s => { s with lines := [], abort := none }) |> modSel (fun s => { s with spoilt := true })
      |> modHold (fun s => { s with fresh := true, startHeld := false, videoOff := false, cut := false })

/-- SYNTH_LOCK (R606): the synthesiser is stable. The output is released, or stays held under START_HELD, VIDEO_OFF or a lock after cuts;
an SCN.MODE completes at its release, or at lock with START_HELD (R635). -/
def synthLock (c : Chip) : Chip :=
  match c.scan.relock with
  | none => c
  | some r =>
    let c := if c.beam.hold then c else holdNow c
    let c := c |> modScan (fun s => { s with relock := none, pclkOut := r.mode.pclk })
      |> modHold (fun s => { s with cut := false })
    if c.scan.h.cutLock || c.scan.h.startHeld || c.scan.h.videoOff then
      if r.byCmd && c.scan.h.startHeld then finish r.handle .ok 0 0 c
      else modScan (fun s => { s with relockDone := if r.byCmd then some r.handle else s.relockDone }) c
    else
      let c := releaseOutput c
      if r.byCmd then finish r.handle .ok 0 0 c else c

/-- SYNTH_LOCK. -/
def execSynthLock (s : State) : Out := onChip synthLock s

/-- A held output that is locked is released now: by VIDEO_ON (R609) or by a resume (R106). An SCN.MODE that waits for its release completes. -/
def releaseIfLocked (c : Chip) : Chip :=
  if c.beam.hold && c.scan.relock.isNone && c.scan.mode.isSome && !c.scan.h.cutLock && !c.scan.h.startHeld && !c.scan.h.videoOff then
    let c := releaseOutput c
    match c.scan.relockDone with
    | some h => finish h .ok 0 0 (modScan (fun s => { s with relockDone := none }) c)
    | none => c
  else c

/-- LOCK_TIMEOUT (R607): no lock after 200 µs. -/
def lockTimeout (c : Chip) : Chip :=
  match c.scan.relock with
  | some r =>
    if r.timedOut then c
    else
      let c := atTime (r.since + 4800) c
      lintBlock 0x0C04 0xFF 0 (modScan (fun s => { s with relock := some { r with timedOut := true, since := c.clk.qtime } }) c)
  | none => c

/-- LOCK_TIMEOUT. -/
def execLockTimeout (s : State) : Out := onChip lockTimeout s

/-- LOCK_RETRY (R607): lock is tried again 10 ms after the last attempt. -/
def lockRetry (c : Chip) : Chip :=
  match c.scan.relock with
  | some r =>
    if r.timedOut then
      let c := atTime (r.since + 240000) c
      modScan (fun s => { s with relock := some { r with since := c.clk.qtime } }) c
    else c
  | none => c

/-- LOCK_RETRY. -/
def execLockRetry (s : State) : Out := onChip lockRetry s

/-- The ceiling of a clock: PCLK_MAX, or LANE_RATE of a DSI lane (R610). -/
def ceilingOf (m : Mode) (lane : Bool) : Nat := if lane then m.laneRate * 1000000 else m.pclkMax

/-- OVERSHOOT_CUT (R610, R611): a clock measured above its ceiling by more than 1 % holds the output and relocks; a third cut within 1 s
leaves it held until the next SCN.MODE. -/
def overshootCut (lane : Bool) (hz : Nat) (c : Chip) : Chip :=
  match c.scan.mode with
  | none => c
  | some m =>
    if (lane && m.iface != 1) || hz * 100 ≤ ceilingOf m lane * 101 then c
    else
      let now := c.clk.qtime
      let recent := c.scan.h.cuts.filter fun t => now ≤ t + 24000000
      let locked := 2 ≤ recent.length
      let old := c.scan.relock
      let c := lintBlock 0x0C03 0xFF hz (modHold (fun s => { s with cuts := now :: recent, cut := true }) c)
      if locked then
        let c := holdNow (modHold (fun s => { s with cutLock := true }) (modScan (fun s => { s with relock := none }) c))
        match old with
        | some r => if r.byCmd then finish r.handle .hwFault 0 0 c else c
        | none => c
      else holdNow (relockAgain c)

/-- OVERSHOOT_CUT, with the clock that was measured and its frequency in Hz. -/
def execOvershootCut (lane : Bool) (hz : Long) (s : State) : Out := onChip (overshootCut lane hz.toNat) s

/-- An SCN.MODE has not been released yet: a later one waits for it (R632). -/
def modeUnreleased (s : Scan) : Bool :=
  !s.h.cutLock && ((match s.relock with | some r => r.byCmd | none => false) || s.h.startHeld || s.relockDone.isSome)

/-- An SCN.MODE is applied: CUT_LOCK clears and the synthesiser relocks. -/
def applyMode (q : ModeReq) (c : Chip) : Chip :=
  startRelock q.mode true q.handle (modHold (fun s => { s with cutLock := false, cuts := [], startHeld := q.mode.startHeld }) c)

/-- The first frame start after a release begins the next waiting SCN.MODE (R632). -/
def nextMode (c : Chip) : Chip :=
  match c.scan.modeQ with
  | [] => c
  | q :: rest => if modeUnreleased c.scan then c else applyMode q (modScan (fun s => { s with modeQ := rest }) c)

/-! ### The opening of a fetch window (R34, R515) -/

/-- The opening for line n: changes and staged writes, stitches, and the snapshot. -/
def openLine (n : Nat) (c : Chip) : Chip :=
  let c := if n = 0 then (List.range 8).foldl (fun c hw => modLayer hw (fun l => { l with m := { l.m with refusedNow := false } }) c) (applyQueue c)
    else c
  let c := runStitches n (applyReleased (n == 0) c)
  let next := decide (n < c.beam.line)
  let slot : LineSlot :=
    { line := n, snap := c.lyr, cmp := if next then c.cmpNext.getD c.cmp else c.cmp,
      frame := if next then (c.beam.frame + 1) % 2 ^ 32 else c.beam.frame }
  modScan (fun s => { s with lines := s.lines ++ [slot] }) c

/-- The line whose window opens as the beam reaches line m, if it is an active line of a frame that is not aborted (R34, R35, R619). -/
def opensAt (c : Chip) (m : Nat) : Option Nat :=
  let n := (m + 2) % c.beam.vtotal
  if n < c.beam.vactive ∧ (n < m ∨ !(c.scan.abort.any fun a => !a.deferred)) then some n else none

/-! ### Underrun (R614 to R622) -/

/-- The local layer number of UNDERRUN DATA. -/
def underrunData (layer : Nat) (sprite abort hold empty : Bool) (line : Nat) : Nat :=
  layer % 8 + 8 * b2n sprite + 16 * b2n abort + 32 * b2n hold + 64 * b2n empty + 2 ^ 16 * line

/-- A DECORATIVE unit is switched off to the end of its frame (R615). -/
def shedMarks (now : Bool) (m : UnitMarks) : UnitMarks := if now then { m with shedNow := true } else { m with shedNext := true }

/-- Sheds a layer. -/
def shedLayer (frame line hw : Nat) (c : Chip) : Chip :=
  let p := ownerOf c .layer hw
  c |> modLayer hw (fun l => { l with m := shedMarks (frame == c.beam.frame) l.m }) |> lint 0x0C01 (0x0600 + hw) p line
    |> fire p 8 (underrunData (layerLocal c hw) false false false false line)

/-- Sheds a sprite group. -/
def shedGroup (frame line p : Nat) (c : Chip) : Chip :=
  c |> modGroup p (fun g => { g with m := shedMarks (frame == c.beam.frame) g.m }) |> lintBlock 0x0C01 p line
    |> fire p 8 (underrunData 0 true false false false line)

/-- The frame is aborted on a partition's account: its count, the storm hold at the third in a row, and UNDERRUN (R620, R621). -/
def blameAbort (line : Nat) (empty : Bool) (p layer : Nat) (sprite : Bool) (c : Chip) : Chip :=
  let l := lpOf c p
  let n := if l.abortNow then l.aborts else l.aborts + 1
  let storm := decide (3 ≤ n) && l.storm.isNone && !l.abortNow
  let c := modLp p (fun l => { l with abortNow := true, aborts := if storm then 0 else n,
                                      storm := if storm then some (c.clk.qtime + 24000000) else l.storm }) c
  let c := lintBlock 0x0C02 p (p + 2 ^ 16 * line) c
  let c := if storm then lintBlock 0x0C05 p p c else c
  fire p 8 (underrunData layer sprite true storm empty line) c

/-- The frame being scanned is aborted: fetches and composed lines are discarded (R619). -/
def dropLines (c : Chip) : Chip := c |> modScan (fun s => { s with lines := [] }) |> modSel (fun s => { s with spoilt := true })

/-- An account of an abort: partition, local layer, whether the unit is the sprite group. -/
abbrev Blame := Nat × Nat × Bool

/-- Aborts the frame at line n, on the accounts given (R616). -/
def abortFrame (line : Nat) (empty : Bool) (who : List Blame) (c : Chip) : Chip :=
  let c := dropLines (modScan (fun s => { s with abort := some { line := line, empty := empty } }) c)
  who.foldl (fun c b => blameAbort line empty b.1 b.2.1 b.2.2 c) c

/-- The partition that answers for an empty line buffer: the greatest load among those with units on the line, the lower number first (R620). -/
def emptyBlame (c : Chip) (s : LineSlot) : List Blame :=
  let has (p : Nat) : Bool := groupFetches c s p || (List.range 8).any fun hw => hw != 4 && layerFetches c s hw && ownerOf c .layer hw == p
  match ((List.range 7).filter has).foldl (fun (best : Option Nat) p => match best with
      | some b => if loadOf c b < loadOf c p then some p else best
      | none => some p) none with
  | some p => [(p, 0, false)]
  | none => []

/-- Changes the slot of a line that has not been composed. -/
def setSlot (n : Nat) (f : LineSlot → LineSlot) (c : Chip) : Chip :=
  modScan (fun s => { s with lines := s.lines.map fun t => if t.line = n then f t else t }) c

/-- FETCH_COMPLETE (R41): the last fetch of line n completes a number of dots before its deadline. -/
def fetchComplete (n dots : Nat) (c : Chip) : Chip :=
  match c.scan.lines.find? fun s => s.line == n && s.fetched.isNone with
  | none => c
  | some s =>
    let (us, c) := fetchSlot s (fun _ => false) (fun _ => false) c
    let c := setSlot n (fun t => { t with fetched := some us }) c
    if s.missed then c
    else noteSlack n (if us.isEmpty then 255 else slackOf dots c.beam.htotal) c

/-- FETCH_COMPLETE. -/
def execFetchComplete (n : Fin 2048) (dots : Fin 8192) (s : State) : Out := onChip (fetchComplete n.val dots.val) s

/-- The layers and the groups that miss the deadline of a line, of those that fetch for it. -/
def missing (c : Chip) (s : LineSlot) (ml : BitVec 8) (mg : BitVec 7) : List Nat × List Nat :=
  ((List.range 8).filter fun hw => hw != 4 && ml.getLsbD hw && layerFetches c s hw, (List.range 7).filter fun p => mg.getLsbD p && groupFetches c s p)

/-- FETCH_DEADLINE (R38, R615, R616): units have not completed the fetch of line n at its deadline. DECORATIVE ones are shed and the others'
fetches stand; an ESSENTIAL one aborts the frame. A miss of line 0 in blanking aborts the frame that begins next (R617). -/
def fetchDeadline (n : Nat) (ml : BitVec 8) (mg : BitVec 7) (c : Chip) : Chip :=
  match c.scan.lines.find? fun s => s.line == n && s.fetched.isNone with
  | none => c
  | some s =>
    let (ls, gs) := missing c s ml mg
    if ls.isEmpty && gs.isEmpty then c
    else
      let essL := ls.filter fun hw => let l := layerOf c hw; essEff (s.snap.layers.toList.getD hw {}).r.ess l.m
      let essG := gs.filter fun p => essEff (s.snap.groups.toList.getD p {}).ess (groupOf c p).m
      let who : List Blame := (List.range 7).filterMap fun p =>
        match essL.find? fun hw => ownerOf c .layer hw == p with
        | some hw => some (p, layerLocal c hw, false)
        | none => if essG.contains p then some (p, 0, true) else none
      let c := noteSlack n 0 c
      let c := (ls.filter fun hw => !essL.contains hw).foldl (fun c hw => shedLayer s.frame n hw c) c
      let c := (gs.filter fun p => !essG.contains p).foldl (fun c p => shedGroup s.frame n p c) c
      if who.isEmpty then
        let (us, c) := fetchSlot s (fun hw => ls.contains hw) (fun p => gs.contains p) c
        setSlot n (fun t => { t with fetched := some us, missed := true }) c
      else if n < c.beam.line then
        modScan (fun s => { s with abort := some { line := n, deferred := true }, abortWho := who, lines := [] }) c
      else abortFrame n false who c

/-- FETCH_DEADLINE, with the hardware layers and the partitions' sprite groups that missed it. -/
def execFetchDeadline (n : Fin 2048) (layers : BitVec 8) (groups : BitVec 7) (s : State) : Out := onChip (fetchDeadline n.val layers groups) s

/-- STORM_HOLD_END (R621). -/
def stormEnd (p : Nat) (c : Chip) : Chip :=
  match (lpOf c p).storm with
  | some t => modLp p (fun l => { l with storm := none }) (atTime t c)
  | none => c

/-- STORM_HOLD_END. -/
def execStormHoldEnd (p : Fin 7) (s : State) : Out := onChip (stormEnd p.val) s

/-! ### What leaves the pins on a line (R591, R596, R616, R623) -/

/-- CRC-32 of bytes, its register kept before the final inversion. -/
def crcRun (reg : Nat) (bs : List Byte) : Nat :=
  bs.foldl (fun acc b => (List.range 8).foldl (fun a _ => if a % 2 = 1 then (a / 2) ^^^ 0xEDB88320 else a / 2) (acc ^^^ b.toNat)) reg

/-- The bytes of a dot in the selenite CRC (R623). -/
def selBytes (composite : Bool) (w : Nat) : List Byte := leBytes (if composite then 2 else 3) w

/-- The selenite windows take in a line (R623). -/
def selLine (composite : Bool) (line : Nat) (words : List Nat) (c : Chip) : Chip :=
  let take (w : SelWin) : SelWin :=
    if w.en && w.y ≤ line && line < w.y + w.h then
      { w with run := crcRun w.run (((words.drop w.x).take w.w).map (selBytes composite)).flatten }
    else w
  modSel (fun s => { s with win := s.win.map take }) c

/-- Scans out a line with the colours composed for it, or with every channel 0. -/
def scanWords (m : Mode) (line : Nat) (slot : Option LineSlot) (c : Chip) : Chip :=
  let dots := ((slot.bind (·.composed)).getD (List.replicate c.beam.hactive (0, 0, 0)))
  let words := match slot with
    | some s => lineWords m s.cmp line s.frame dots
    | none => if m.iface = 2 then dots.map (lumaCode m) else List.replicate c.beam.hactive 0
  let dac := if m.iface = 2 then dacLine m c.scan.pins.subPhase c.scan.pins.palMinus dots else []
  selLine (m.iface == 2) line words (modPins (fun s => { s with words := words, dac := dac }) c)

/-- A blanked line: nothing is driven, or the blanking level on composite. -/
def blankLine (c : Chip) : Chip := modPins (fun s => { s with words := [], dac := [] }) c

/-- The beam reaches line n: its slot is scanned out, or the line buffer is empty (R39, R616). The slot before is free. -/
def scanLine (n : Nat) (c : Chip) : Chip :=
  match c.scan.mode with
  | none => c
  | some m =>
    if c.beam.vactive ≤ n ∨ (m.iface = 2 ∧ c.scan.abort.isSome) then
      blankLine (modScan (fun s => { s with lines := s.lines.filter fun t => t.frame != c.beam.frame || n < t.line }) c)
    else match c.scan.lines.find? fun s => s.line == n && s.frame == c.beam.frame with
      | some s =>
        let c := modScan (fun x => { x with lines := x.lines.filter fun t => t.frame != c.beam.frame || n ≤ t.line }) c
        if s.composed.isSome then scanWords m n (some s) c
        else
          let c := abortFrame n true (emptyBlame c s) c
          if m.iface = 2 then blankLine c else scanWords m n none c
      | none =>
        if c.scan.abort.isSome then scanWords m n none c
        else
          let c := lintBlock 0x0C02 0xFF (7 + 2 ^ 16 * n) (dropLines (modScan (fun s => { s with abort := some { line := n, empty := true } }) c))
          if m.iface = 2 then blankLine c else scanWords m n none c

/-- HS, VS and DE at the beam's place, as active levels (R589). -/
def syncsAt (m : Mode) (line dot : Nat) : Bool × Bool × Bool :=
  (decide (m.hsStart ≤ dot ∧ dot < m.hsStart + m.hsWidth),
   decide ((m.vsStart, m.hsStart) = (line, dot) ∨ m.vsStart < line ∨ (m.vsStart = line ∧ m.hsStart ≤ dot))
     && decide (line < m.vsStart + m.vsWidth ∨ (line = m.vsStart + m.vsWidth ∧ dot < m.hsStart)),
   decide (dot < m.hactive ∧ line < m.vactive))

/-- The levels of HS, VS, DE and the data pins of the parallel interface (R591, R593, R605). -/
def dpiPins (c : Chip) : Bool × Bool × Bool × Nat :=
  match c.scan.mode with
  | none => (true, true, false, 0)
  | some m =>
    let (hs, vs, de) := if c.beam.hold then (false, false, false) else syncsAt m c.beam.line c.beam.dot
    (hs == bit m.opts 0, vs == bit m.opts 1, de != bit m.opts 2, if de then c.scan.pins.words.getD c.beam.dot 0 else 0)

/-- The packets of a DSI line, each with its dot: sync packets and the pixel packet (R596). -/
def dsiPackets (m : Mode) (line : Nat) : List (Nat × Nat) :=
  let sync := if line = m.vsStart then 0x01 else if line = m.vsStart + m.vsWidth then 0x11 else 0x21
  let pix := [0x0E, 0x1E, 0x2E, 0x3E].getD (bits m.opts 3 2) 0
  (if line < m.vactive then [(0, pix)] else []) ++ [(m.hsStart, sync)]
    ++ (if m.opts % 4 = 0 then [(m.hsStart + m.hsWidth, 0x31)] else [])

/-! ### The end of a frame (R615, R621, R627 to R630) -/

/-- What the read-back of a frame found, which comes from the pins: windows that mismatch, stuck pins, and the composite load (R624 to R627). -/
def latchSelenite (pin : Fin 4 → Bool) (stuck : Nat) (loadOpen loadShort : Bool) (c : Chip) : Chip :=
  match c.scan.mode with
  | none => c
  | some m =>
    let spoilt := c.scan.sel.spoilt
    let lopen := m.iface = 2 && loadOpen && !spoilt
    let lshort := m.iface = 2 && loadShort && !spoilt
    let c := (List.finRange 4).foldl (fun c i =>
      let w := vget c.scan.sel.win i.val
      if !w.en then c
      else
        let exp := w.run ^^^ 0xFFFFFFFF
        let bad := pin i && !spoilt
        let con := w.goldenEn && exp != w.golden && !spoilt
        let w' : SelWin := { w with exp := if spoilt then w.exp else exp, run := 0xFFFFFFFF, pin := bad, content := con,
                                    loadOpen := lopen, loadShort := lshort, discarded := spoilt }
        let c := modSel (fun s => { s with win := vset s.win i.val w' }) c
        let c := if bad then lintBlock 0x0C06 0xFF i.val c else c
        let c := if con then lintBlock 0x0C07 0xFF i.val c else c
        if bad || con then fire 0 55 (i.val + 4 * b2n bad + 8 * b2n con) c else c) c
    let st := if m.iface = 0 && !spoilt then stuck % 2 ^ 28 else 0
    let c := modSel (fun s => { s with stuck := if spoilt then s.stuck else st }) c
    let c := if st ≠ 0 then fire 0 55 16 (lintBlock 0x0C08 0xFF st c) else c
    if lopen || lshort then fire 0 55 32 (lintBlock 0x0C09 0xFF (b2n lshort) c) else c

/-- The marks of a unit as its frame ends: SHED of the last frame, and the frame that begins. -/
def UnitMarks.nextFrame (m : UnitMarks) : UnitMarks :=
  { m with shed := m.shedNow, shedNow := m.shedNext, shedNext := false, substLast := m.substNow, substNow := m.substNext, substNext := 0 }

/-- The frame that has ended: lint of substituted pixels, SHED, and the counts of aborted frames (R573, R615, R621). -/
def endFrame (c : Chip) : Chip :=
  let c := (List.range 8).foldl (fun c hw =>
    let n := (layerOf c hw).m.substNow
    if 0 < n then lint 0x0B01 (0x0600 + hw) (ownerOf c .layer hw) n c else c) c
  let c := (List.range 8).foldl (fun c hw => modLayer hw (fun l => { l with m := l.m.nextFrame }) c) c
  (List.range 7).foldl (fun c p =>
    c |> modGroup p (fun g => { g with m := g.m.nextFrame })
      |> modLp p (fun l => { l with stitch := { l.stitch with m := l.stitch.m.nextFrame }, aborts := if l.abortNow then l.aborts else 0, abortNow := false })) c

/-- An abort that a miss of line 0 raised in blanking begins with its frame (R617). -/
def beginDeferred (c : Chip) : Chip :=
  match c.scan.abort with
  | some a =>
    if a.deferred then
      let who := c.scan.abortWho
      let c := c |> modScan (fun s => { s with abort := some { line := a.line }, abortWho := [], lines := [] }) |> modSel (fun s => { s with spoilt := true })
      who.foldl (fun c b => blameAbort a.line false b.1 b.2.1 b.2.2 c) c
    else modScan (fun s => { s with abort := none }) c
  | none => c

/-! ### The panel (R631) -/

/-- What a VIDEO_ON does once its wait for ULPS is over: the held output is released. -/
def panelRelease (c : Chip) : Chip :=
  c |> modHold (fun s => { s with startHeld := false, videoOff := false }) |> modPanel (fun s => { s with ulps := false, videoOn := true })
    |> releaseIfLocked

/-- Sets the stage of the sequence, with the wait that follows it in ms. -/
def panelWait (stage ms : Nat) (c : Chip) : Chip :=
  modPanel (fun s => { s with seq := s.seq.map fun q => { q with stage := stage, until_ := c.clk.qtime + 24000 * ms } }) c

/-- The sequence ends and SCN.PANEL completes. -/
def panelDone (h : Option Long) (c : Chip) : Chip := finish h .ok 0 0 (modPanel (fun s => { s with seq := none }) c)

/-- The first step of a sequence (Table 12.8). -/
def panelStart (q : PanelSeq) (c : Chip) : Chip :=
  let c := modPanel (fun s => { s with seq := some q }) c
  match q.action with
  | 1 => panelWait 0 q.t1 (modPanel (fun s => { s with pnlEn := true, power := true }) c)
  | 2 => if c.scan.panel.ulps then panelWait 0 1 c else panelWait 1 q.t3 (panelRelease c)
  | 3 => panelWait 0 q.t3 (modPanel (fun s => { s with blEn := false, videoOn := false }) c)
  | _ => panelWait 0 q.t2 (modPanel (fun s => { s with pnlResetN := false }) c)

/-- PANEL_SEQUENCE_WAIT: the present wait ends and the next step runs. -/
def panelNext (c : Chip) : Chip :=
  match c.scan.panel.seq with
  | none => c
  | some q =>
    let c := atTime q.until_ c
    match q.action, q.stage with
    | 1, 0 => panelWait 1 q.t2 (modPanel (fun s => { s with pnlResetN := true }) c)
    | 2, 0 => panelWait 1 q.t3 (panelRelease c)
    | 2, _ => panelDone q.handle (modPanel (fun s => { s with blEn := true }) c)
    | 3, _ => panelDone q.handle (holdSoon (modHold (fun s => { s with videoOff := true }) (modPanel (fun s => { s with ulps := q.ulps && c.scan.mode.any (·.iface == 1) }) c)))
    | 4, 0 => panelWait 1 q.t1 (modPanel (fun s => { s with pnlEn := false }) c)
    | 4, _ => panelDone q.handle (modPanel (fun s => { s with power := false }) c)
    | _, _ => panelDone q.handle c

/-- PANEL_SEQUENCE_WAIT. -/
def execPanelSequenceWait (s : State) : Out := onChip panelNext s

/-! ### DCS commands (R597, R598) -/

/-- DCS_WRITE_SEND: one waiting write goes out in a vertical blanking line. -/
def dcsSend (c : Chip) : Chip :=
  match c.scan.dcs.waiting with
  | d :: rest =>
    if !c.beam.hold && c.beam.vactive ≤ c.beam.line && c.scan.dcs.line != some (c.beam.frame, c.beam.line) then
      finish d.handle .ok 0 0 (modDcs (fun s => { s with waiting := rest, line := some (c.beam.frame, c.beam.line) }) c)
    else c
  | [] => c

/-- DCS_WRITE_SEND. -/
def execDcsWriteSend (s : State) : Out := onChip dcsSend s

/-- DCS_READ_ANSWER: the panel's answer, with an ECC or checksum error or not. -/
def dcsAnswer (bad : Bool) (data : List Byte) (c : Chip) : Chip :=
  match c.scan.dcs.read with
  | none => c
  | some d =>
    let c := modDcs (fun s => { s with read := none }) c
    if bad then finish d.handle .integrity 0 0 c
    else finish d.handle .ok (min 4 data.length) (leNat (data.take 4)) c

/-- DCS_READ_ANSWER. -/
def execDcsReadAnswer (bad : Bool) (data : List Byte) (s : State) : Out := onChip (dcsAnswer bad data) s

/-- DCS_READ_TIMEOUT: no answer within 10 ms. -/
def dcsTimeout (c : Chip) : Chip :=
  match c.scan.dcs.read with
  | none => c
  | some d => lintBlock 0x0C0A 0xFF 0 (finish d.handle .timeout 0 0 (modDcs (fun s => { s with read := none }) (atTime (d.since + 240000) c)))

/-- DCS_READ_TIMEOUT. -/
def execDcsReadTimeout (s : State) : Out := onChip dcsTimeout s

/-! ### The commands of scan-out (R635, Tables 12.12 and 12.13) -/

/-- The handle of a command, none for the steward's own. -/
def Cmd.waitHandle (m : Cmd) : Option Long := if m.handle = 0 then none else some m.handle

/-- SCN.STATUS. -/
def scnStatus (m : Cmd) (c : Chip) : Reply × Chip :=
  let s := c.scan
  let storm := match m.org with
    | .part 0 => c.lyrParts.toList.any (·.storm.isSome)
    | .part p => (lpOf c p).storm.isSome
    | _ => c.lyrParts.toList.any (·.storm.isSome)
  (.res ((s.mode.map (·.iface)).getD 0 + 4 * bitsToNat [c.beam.hold, s.panel.videoOn, s.h.cutLock, s.panel.power, storm]) s.pclkOut, c)

/-- SCN.STATUS. -/
def execScnStatus (r : Req) (s : State) : Out := onChip (serve 0x0C01 r scnStatus) s

/-- SCN.SEL_STATUS. -/
def scnSelStatus (m : Cmd) (c : Chip) : Reply × Chip :=
  let w := m.b 8
  if w = 0xFF then (.res 0 c.scan.sel.stuck, c)
  else if 3 < w then (.fail .badParam, c)
  else
    let x := vget c.scan.sel.win w
    (.res (bitsToNat [x.pin, x.content, x.loadOpen, x.loadShort, x.discarded, x.en]) x.exp, c)

/-- SCN.SEL_STATUS. -/
def execScnSelStatus (r : Req) (s : State) : Out := onChip (serve 0x0C02 r scnSelStatus) s

/-- The sum of all partitions' budgets. -/
def budgetSum (c : Chip) : Nat := (c.parts.toList.map (·.budget)).sum

/-- SCN.MODE. -/
def scnMode (m : Cmd) (c : Chip) : Reply × Chip :=
  let md := modeOf m
  checked [chk (bits (m.b 8) 6 5 != 0 || !md.ok) .badParam, chk (admitCapOf md < budgetSum c) .overBudget]
    (fun c =>
      let q : ModeReq := { mode := md, handle := m.waitHandle }
      (.wait, if modeUnreleased c.scan || !c.scan.modeQ.isEmpty then modScan (fun s => { s with modeQ := s.modeQ ++ [q] }) c
        else applyMode q c)) c

/-- SCN.MODE. -/
def execScnMode (r : Req) (s : State) : Out := onChip (serve 0x0C10 r scnMode) s

/-- A panel action is in order (Table 12.9, R632): only VIDEO_ON and POWER_OFF can come in the wrong order. -/
def panelInOrder (s : Scan) (action : Nat) : Bool :=
  match action with
  | 2 => s.panel.power && s.mode.isSome && (!s.panel.videoOn || s.h.startHeld)
  | 4 => !s.panel.videoOn
  | _ => true

/-- SCN.PANEL. -/
def scnPanel (m : Cmd) (c : Chip) : Reply × Chip :=
  let a := m.b 8
  checked [chk (a < 1 || 4 < a || 1 < m.b 12) .badParam, chk (c.scan.panel.seq.isNone && !panelInOrder c.scan a) .badState, chk c.scan.panel.seq.isSome .inUse]
    (fun c => (.wait, panelStart { action := a, t1 := m.b 9, t2 := m.b 10, t3 := m.b 11, ulps := bit (m.b 12) 0, handle := m.waitHandle } c)) c

/-- SCN.PANEL. -/
def execScnPanel (r : Req) (s : State) : Out := onChip (serve 0x0C11 r scnPanel) s

/-- SCN.DCS. -/
def scnDcs (m : Cmd) (c : Chip) : Reply × Chip :=
  let k := m.b 8
  let n := m.b 9
  let d : Dcs := { kind := k, vc := m.b 10, data := pslice m.params 4 n, handle := m.waitHandle, since := c.clk.qtime }
  checked [chk (2 < k || n < 1 || 12 < n || (k == 0 && 2 < n) || (k == 2 && n != 1) || 3 < m.b 10 || m.b 11 != 0) .badParam,
           chk (!(c.scan.mode.any (·.iface == 1)) || (k == 2 && !c.beam.hold)) .badState,
           chk (k == 2 && c.scan.dcs.read.isSome) .inUse]
    (fun c =>
      if k = 2 then (.wait, modDcs (fun s => { s with read := some d }) c)
      else if c.beam.hold then (.ok, c)
      else (.wait, modDcs (fun s => { s with waiting := s.waiting ++ [d] }) c)) c

/-- SCN.DCS. -/
def execScnDcs (r : Req) (s : State) : Out := onChip (serve 0x0C12 r scnDcs) s

/-- SCN.SELENITE. -/
def scnSelenite (m : Cmd) (c : Chip) : Reply × Chip :=
  checked [chk (3 < m.b 8 || 3 < m.b 9 || 1279 < m.f 10 2 || 799 < m.f 12 2 || m.f 14 2 < 1 || 1280 < m.f 14 2 || m.f 16 2 < 1 || 800 < m.f 16 2
      || m.b 18 < 1 || m.b 19 != 0) .badParam]
    (fun c => (.wait, enqueueChange m true (.selenite (m.b 8) (m.b 9) (m.f 10 2) (m.f 12 2) (m.f 14 2) (m.f 16 2) (m.b 18) (m.f 20 4)) c)) c

/-- SCN.SELENITE. -/
def execScnSelenite (r : Req) (s : State) : Out := onChip (serve 0x0C13 r scnSelenite) s

end Sys2Proof.Machine
end

