-- ==== Sys2Proof/Machine/SoundSrc.lean ====
section
/-! DEFINITION. The sources of sound: gains, envelopes, the poison mute, sample voices, tone voices, streams, microphones, the I2S input and captures (chapter 13). -/

namespace Sys2Proof.Machine

/-- Arithmetic shift right. -/
def asr (x : Int) (n : Nat) : Int := x / (2 ^ n : Nat)

/-- A number saturated to a signed width. -/
def satW (w : Nat) (x : Int) : Int := clampI (-(2 ^ (w - 1) : Nat)) ((2 ^ (w - 1) : Nat) - 1) x

/-- A number clamped to ±(2^23 − 1). -/
def clamp24 (x : Int) : Int := clampI (-8388607) 8388607 x

/-- A function on both channels. -/
def both (f : Int → Int) (x : Int × Int) : Int × Int := (f x.1, f x.2)

/-- Changes the sound block. -/
def modSnd (f : Sound → Sound) (c : Chip) : Chip := { c with snd := f c.snd }
/-- Changes a sample voice. -/
def modVoice (v : Nat) (f : Voice → Voice) (c : Chip) : Chip := modSnd (fun s => { s with voices := vmod s.voices v f }) c
/-- Changes a tone voice. -/
def modTone (n : Nat) (f : Tone → Tone) (c : Chip) : Chip := modSnd (fun s => { s with tones := vmod s.tones n f }) c
/-- Changes an input. -/
def modIn (i : Nat) (f : SndIn → SndIn) (c : Chip) : Chip := modSnd (fun s => { s with ins := vmod s.ins i f }) c
/-- A sample voice. -/
def voiceOf (c : Chip) (v : Nat) : Voice := vget c.snd.voices v
/-- A tone voice. -/
def toneOf (c : Chip) (n : Nat) : Tone := vget c.snd.tones n
/-- An input. -/
def inOf (c : Chip) (i : Nat) : SndIn := vget c.snd.ins i

/-! ### Gains (R661) -/

/-- The value in force. -/
def Glide.val (g : Glide) : Nat :=
  if g.n ≤ g.k then g.g1 else ((g.g0 : Int) + ((g.g1 : Int) - g.g0) * g.k / g.n).toNat

/-- The next sample of a ramp. -/
def Glide.step (g : Glide) : Glide := if g.k < g.n then { g with k := g.k + 1 } else g

/-- A new value under a RAMP code. -/
def Glide.set (ramp v : Nat) (g : Glide) : Glide := { g0 := g.val, g1 := v, k := 0, n := 48 * ramp }

/-- A value multiplied by a gain. -/
def amp (x : Int) (g : Nat) : Int := asr (x * g) 12

/-! ### Envelopes (R646) -/

/-- Full level. -/
def envTop : Nat := 2 ^ 23

/-- One sample of an envelope; the answer says whether it ended in its release. -/
def Env.step (e : Env) : Env × Bool :=
  match e.phase with
  | .idle => (e, false)
  | .attack =>
    if e.atk = 0 ∨ envTop ≤ e.level + e.atk then ({ e with level := envTop, phase := .decay }, false)
    else ({ e with level := e.level + e.atk }, false)
  | .decay =>
    if e.dec = 0 ∨ e.level ≤ e.sus + e.dec then ({ e with level := min envTop e.sus, phase := .sustain }, false)
    else ({ e with level := e.level - e.dec }, false)
  | .sustain => (e, false)
  | .release =>
    if e.rel = 0 ∨ e.level ≤ e.rel then ({ e with level := 0, phase := .idle }, true) else ({ e with level := e.level - e.rel }, false)

/-- KEY_ON on an envelope. -/
def Env.on (e : Env) : Env := { e with level := if e.phase = .idle then 0 else e.level, phase := .attack }

/-- KEY_OFF on an envelope. -/
def Env.off (e : Env) : Env := if e.phase = .idle then e else { e with phase := .release }

/-- A value through an envelope. -/
def Env.apply (e : Env) (x : Int) : Int := asr (x * e.level) 23

/-! ### The poison mute (R667) -/

/-- One sample through the mute count: none stands for a poisoned raw value. -/
def Mute.step (raw : Option (Int × Int)) (q : Mute) : (Int × Int) × Mute :=
  let q' : Mute := match raw with
    | none => { q with m := q.m - 1 }
    | some x => { m := min 48 (q.m + 1), c := x }
  (both (fun x => x * q'.m / 48) q'.c, q')

/-- Logs a lint once per source and frame: `k` is 1 for 0x0D01, 2 for 0x0D02, 3 for 0x0D03. -/
def markLint (k unit p detail : Nat) (m : SrcMarks) (c : Chip) : SrcMarks × Chip :=
  let done := if k = 1 then m.poison else if k = 2 then m.refused else m.late
  if done then (m, c)
  else
    (if k = 1 then { m with poison := true } else if k = 2 then { m with refused := true } else { m with late := true },
     lint (0x0D00 + k) unit p detail c)

/-- What a fetch of sound data answers: the bytes, or the first address that the map refuses. -/
inductive SndRead where
  | ok (bs : List PByte)
  | refused (a : Nat)

/-- A fetch in the audio class through a partition's map (R645, R668). -/
def sndFetch (p a n : Nat) (c : Chip) : SndRead × Chip :=
  match firstRefused c p .r (a % 2 ^ 24) n with
  | some r => (.refused r, c)
  | none => let (bs, c) := readKFree p (a % 2 ^ 24) n c; (.ok bs, c)

/-! ### Sample voices (R642 to R645) -/

/-- The step table of the IMA ADPCM algorithm (R643). -/
def imaSteps : List Int :=
  [7, 8, 9, 10, 11, 12, 13, 14, 16, 17, 19, 21, 23, 25, 28, 31, 34, 37, 41, 45] ++
  [50, 55, 60, 66, 73, 80, 88, 97, 107, 118, 130, 143, 157, 173, 190, 209, 230, 253, 279, 307] ++
  [337, 371, 408, 449, 494, 544, 598, 658, 724, 796, 876, 963, 1060, 1166, 1282, 1411, 1552, 1707, 1878, 2066] ++
  [2272, 2499, 2749, 3024, 3327, 3660, 4026, 4428, 4871, 5358, 5894, 6484, 7132, 7845, 8630, 9493, 10442, 11487, 12635, 13899] ++
  [15289, 16818, 18500, 20350, 22385, 24623, 27086, 29794, 32767]

/-- One code of an ADPCM block on the pair (p, x). -/
def adpcmCode (q : Int × Int) (k : Nat) : Int × Int :=
  let st := imaSteps.getD q.2.toNat 0
  let d := asr st 3 + (if bit k 0 then asr st 2 else 0) + (if bit k 1 then asr st 1 else 0) + (if bit k 2 then st else 0)
  (clampI (-32768) 32767 (if bit k 3 then q.1 - d else q.1 + d),
   clampI 0 88 (q.2 + ([-1, -1, -1, -1, 2, 4, 6, 8] : List Int).getD (k % 8) 0))

/-- Sample j of an ADPCM block of 32 bytes; none when a byte up to it is poisoned or INDEX exceeds 88. -/
def adpcmSample (bs : List PByte) (j : Nat) : Option Int :=
  let need := bs.take (4 + j / 2 + 1)
  let idx := ((bs.getD 2 default).1).toNat
  if anyPoison need || decide (88 < idx) then none
  else
    let codes := (plain (need.drop 4)).flatMap fun b => [b.toNat % 16, b.toNat / 16]
    some ((codes.take (j + 1)).foldl adpcmCode (sext 16 (leNat (plain (bs.take 2))), (idx : Int))).1

/-- s(n) of a voice: none when it is poisoned; a refused address beside it. -/
def voiceSample (p : Nat) (v : Voice) (n : Nat) (c : Chip) : (Option Int × Option Nat) × Chip :=
  let take (a len : Nat) (f : List PByte → Option Int) : (Option Int × Option Nat) × Chip :=
    match sndFetch p a len c with
    | (.refused r, c) => ((none, some r), c)
    | (.ok bs, c) => ((f bs, none), c)
  let pcm (w shift : Nat) (bs : List PByte) : Option Int :=
    if anyPoison bs then none else some (sext w (leNat (plain bs)) * (shift : Nat))
  match v.fmt with
  | 0 => take (v.addr + n) 1 (pcm 8 65536)
  | 1 => take (v.addr + 2 * n) 2 (pcm 16 256)
  | _ => take (v.addr + 32 * (n / 56)) 32 (fun bs => (adpcmSample bs (n % 56)).map (· * 256))

/-- I′ of R644. -/
def Voice.nextI (v : Voice) : Nat :=
  if v.posI + 1 = v.end_ then (if v.loop then v.loopStart else v.end_ - 1) else v.posI + 1

/-- The position after a sample, and whether the voice ends (R644). A loop without length leaves the position open. -/
def Voice.advance (free : Nat) (v : Voice) : Voice × Bool :=
  let t := v.posI * 4096 + v.posF + v.pitch
  let i := t / 4096
  let v := { v with posI := i, posF := t % 4096 }
  if i < v.end_ then (v, false)
  else if v.loop then
    if v.loopStart < v.end_ then ({ v with posI := v.loopStart + (i - v.end_) % (v.end_ - v.loopStart) }, false)
    else ({ v with posI := free % 2 ^ 24 }, false)
  else ({ v with endFlag := true, env := { v.env with level := 0, phase := .idle } }, true)

/-- The linear fade of a source over 240 samples: its factor at this sample, and what remains (R183, Table 13.3). -/
def fadeStep : Option Nat → (Int → Int) × Option Nat
  | none => (id, none)
  | some k => (fun x => x * (k - 1 : Nat) / 240, some (k - 1))

/-- The raw value u of a voice, its lints, and the position's advance (R644, R668, R669). -/
def voiceRaw (v p : Nat) (late : Bool) (c : Chip) : Option Int × Chip :=
  let x := voiceOf c v
  let unit := 0x0700 + v
  if isPegged c 7 v then (none, c)
  else
    let ((a, ra), c) := voiceSample p x x.posI c
    let ((b, rb), c) := voiceSample p x x.nextI c
    let u := match a, b with
      | some a, some b => some (a + asr ((b - a) * x.posF + 2048) 12)
      | _, _ => none
    let m := x.s.marks
    let (m, c) := match ra, rb with
      | some r, _ => markLint 2 unit p r m c
      | _, some r => markLint 2 unit p r m c
      | _, _ => (m, c)
    let (m, c) := if late then markLint 3 unit p 0 m c
      else if u.isNone && ra.isNone && rb.isNone then markLint 1 unit p 0 m c else (m, c)
    (if late then none else u, modVoice v (fun y => { y with s := { y.s with marks := m } }) c)

/-- One sample of a sample voice before VOL; an idle voice gives none (R644, R646). -/
def voiceStep (v : Nat) (late : Bool) (c : Chip) : Option (Int × SrcCommon) × Chip :=
  let p := ownerOf c .voice v
  let c := modVoice v (fun x => { x with s := { x.s with vol := x.s.vol.step } }) c
  if (voiceOf c v).env.phase = .idle then (none, c)
  else
    let (raw, c) := voiceRaw v p late c
    let x := voiceOf c v
    let (val, mute) := x.s.mute.step (raw.map fun u => (u, u))
    let (f, fade) := fadeStep x.s.fade
    let (env, ended) := x.env.step
    let (free, c) := if x.loop && decide (x.end_ ≤ x.loopStart) then freeNat c else (0, c)
    let x := { x with env := env, endFlag := x.endFlag || ended, s := { x.s with mute := mute, fade := fade } }
    let out := f (env.apply val.1)
    let (y, _) := x.advance free
    let y := if fade = some 0 then { y with env := { y.env with level := 0, phase := .idle } } else y
    (some (out, x.s), modVoice v (fun _ => y) c)

/-! ### Tone voices (R647) -/

/-- The value of a tone voice at its phase. -/
def Tone.value (t : Tone) : Int :=
  let a : Int := 4194304
  match t.wave with
  | 0 => if t.phi / 65536 < t.duty then a else -a
  | 1 => (if t.phi / 2 ^ 23 = 0 then (t.phi % 2 ^ 23 : Nat) else (2 ^ 23 - 1 - t.phi % 2 ^ 23 : Nat)) - a
  | 2 => (t.phi / 2 : Nat) - a
  | _ => if t.lfsr % 2 = 1 then a else -a

/-- The phase after a sample, and the noise register when it wraps. -/
def Tone.advance (t : Tone) : Tone :=
  let s := t.phi + t.freq
  let l := if 2 ^ 24 ≤ s ∧ t.wave = 3 then t.lfsr / 2 + 2 ^ 14 * (t.lfsr % 2 ^^^ (t.lfsr / 2 % 2)) else t.lfsr
  { t with phi := s % 2 ^ 24, lfsr := l }

/-- One sample of a tone voice before VOL. -/
def toneStep (n : Nat) (c : Chip) : Option (Int × SrcCommon) × Chip :=
  let c := modTone n (fun x => { x with s := { x.s with vol := x.s.vol.step } }) c
  let x := toneOf c n
  if x.env.phase = .idle then (none, c)
  else
    let (val, mute) := x.s.mute.step (if isPegged c 8 n then none else some (x.value, x.value))
    let (f, fade) := fadeStep x.s.fade
    let (env, ended) := x.env.step
    let s := { x.s with mute := mute, fade := fade }
    let y := { x.advance with env := env, endFlag := x.endFlag || ended, s := s }
    let y := if fade = some 0 then { y with env := { y.env with level := 0, phase := .idle } } else y
    (some (f (env.apply val.1), s), modTone n (fun _ => y) c)

/-! ### Filters (R656) -/

/-- One sample of a high-pass section with coefficient A on a width. -/
def HpState.run (w : Nat) (a : Int) (h : HpState) (x : Int) : Int × HpState :=
  let y := satW w (x - h.x1 + asr (a * h.y1 + 32768) 16)
  (y, { x1 := x, y1 := y })

/-- The coefficient of an input's section (Table 13.2). -/
def hpCoeff (i : Nat) : Int := if i = 2 ∨ i = 3 then 64515 else 65450

/-- An input's filter on both channels. -/
def hpInput (i : Nat) (x : Int × Int) (c : Chip) : (Int × Int) × Chip :=
  let h := (inOf c i).hp
  let (l, h1) := h.1.run 24 (hpCoeff i) x.1
  let (r, h2) := h.2.run 24 (hpCoeff i) x.2
  ((l, r), modIn i (fun q => { q with hp := (h1, h2) }) c)

/-! ### Streams (R648 to R651, R679) -/

/-- Bytes per frame: FSZ of a stream, and of a capture (R648, R654). -/
def InCfg.fsz (i : Nat) (g : InCfg) : Nat :=
  if i < 2 then (if g.pcm8 then 1 else 2) * (if g.two then 2 else 1)
  else (if g.two then 2 else 4) * (if i = 4 then 2 else 1)

/-- Frames in the ring. -/
def InCfg.frames (g : InCfg) : Nat := 2 ^ g.sizeLog2

/-- The address of a frame. -/
def InCfg.frameAt (i : Nat) (g : InCfg) (n : Nat) : Nat := (g.base + 16 + g.fsz i * (n % g.frames)) % 2 ^ 24

/-- Reads one header word; none when it is poisoned or the map refuses it. -/
def sndWord (p a : Nat) (c : Chip) : Option Nat × Option Nat × Chip :=
  match sndFetch p a 4 c with
  | (.refused r, c) => (none, some r, c)
  | (.ok bs, c) => (if anyPoison bs then none else some (leNat (plain bs)), none, c)

/-- Writes one header word, where the map allows it. -/
def sndPutWord (p a v : Nat) (c : Chip) : Chip :=
  if kRangeOk c p .w (a % 2 ^ 24) 4 then writeKFree p (a % 2 ^ 24) (clean (leBytes 4 v)) c else c

/-- Stops an input on a ring index violation (R679). -/
def sndRingFault (i p : Nat) (c : Chip) : Chip :=
  c |> modIn i (fun q => { q with st := { q.st with fault := true } }) |> lint 0x0D0B (0x0900 + i) p 0

/-- Marks of an input's lint. -/
def inLint (k i p detail : Nat) (c : Chip) : Chip :=
  let (m, c) := markLint k (0x0900 + i) p detail (inOf c i).s.marks c
  modIn i (fun q => { q with s := { q.s with marks := m } }) c

/-- Suken reads PROD of a stream (R649, R679). -/
def streamProd (i p : Nat) (c : Chip) : Chip :=
  let q := inOf c i
  if q.ring.prod = (q.ring.cons + 1) % 2 ^ 32 ∨ q.ring.prod = q.ring.cons ∨ 32 ≤ q.ring.since then
    match sndWord p q.cfg.base c with
    | (some v, _, c) =>
      let c := modIn i (fun q => { q with ring := { q.ring with prod := v, since := 0 } }) c
      if q.cfg.frames < narrow 32 ((v : Int) - q.ring.cons) then sndRingFault i p c else c
    | (none, some r, c) => inLint 2 i p r c
    | (none, none, c) => inLint 1 i p 0 c
  else modIn i (fun q => { q with ring := { q.ring with since := q.ring.since + 1 } }) c

/-- The two channels of a frame's bytes. -/
def streamValue (g : InCfg) (bs : List PByte) : Option (Int × Int) :=
  if anyPoison bs then none
  else
    let w := if g.pcm8 then 1 else 2
    let ch (k : Nat) : Int := sext (8 * w) (pfield (plain bs) (k * w) w) * (if g.pcm8 then 65536 else 256 : Nat)
    some (ch 0, if g.two then ch 1 else ch 0)

/-- Frame n of a stream, with its lint. -/
def streamFrame (i p n : Nat) (c : Chip) : Option (Int × Int) × Chip :=
  let g := (inOf c i).cfg
  match sndFetch p (g.frameAt i n) (g.fsz i) c with
  | (.refused r, c) => (none, inLint 2 i p r c)
  | (.ok bs, c) => match streamValue g bs with
    | none => (none, inLint 1 i p 0 c)
    | some x => (some x, c)

/-- The value between two frames (R650). -/
def between (x0 x1 : Int × Int) (r den : Nat) : Int × Int := (x0.1 + (x1.1 - x0.1) * r / den, x0.2 + (x1.2 - x0.2) * r / den)

/-- Advances a stream and writes CONS at every 64 frames consumed (R649, R650). -/
def streamAdvance (i p : Nat) (c : Chip) : Chip :=
  let q := inOf c i
  let t := q.r + q.cfg.rate
  let cons := (q.ring.cons + t / 48000) % 2 ^ 32
  let c := modIn i (fun q => { q with r := t % 48000, ring := { q.ring with cons := cons } }) c
  if 64 ≤ narrow 32 ((cons : Int) - q.ring.written) then
    sndPutWord p (q.cfg.base + 4) cons (modIn i (fun q => { q with ring := { q.ring with written := cons } }) c)
  else c

/-- A stream stops: CONS is written (R649). -/
def streamStop (i p : Nat) (c : Chip) : Chip :=
  let q := inOf c i
  sndPutWord p (q.cfg.base + 4) q.ring.cons (modIn i (fun q => { q with ring := { q.ring with written := q.ring.cons } }) c)

/-- A stream starves (R651). -/
def streamStarve (i p : Nat) (c : Chip) : Chip :=
  let q := inOf c i
  let n := satAdd 0xFFFFFFFF q.ring.lost 1
  c |> modIn i (fun q => { q with ring := { q.ring with lost := n }, st := { q.st with starved := true } })
    |> sndPutWord p (q.cfg.base + 8) n |> lint 0x0D05 (0x0900 + i) p 0

/-- The raw value of a stream at a sample. -/
def streamRaw (i p : Nat) (late : Bool) (c : Chip) : Option (Int × Int) × Chip :=
  if isPegged c 9 i then (none, c)
  else
    let c := streamProd i p c
    let q := inOf c i
    if q.st.fault then (none, c)
    else if narrow 32 ((q.ring.prod : Int) - q.ring.cons) < 2 then (none, streamStarve i p c)
    else
      let c := modIn i (fun q => { q with st := { q.st with starved := false } }) c
      if late then (none, streamAdvance i p (inLint 3 i p 0 c))
      else
        let (a, c) := streamFrame i p q.ring.cons c
        let (b, c) := streamFrame i p ((q.ring.cons + 1) % 2 ^ 32) c
        let x := match a, b with | some a, some b => some (between a b q.r 48000) | _, _ => none
        (x, streamAdvance i p c)

/-- One sample of a stream before VOL: the poison mute, then the high-pass. A stream stopped by a fault feeds nothing. -/
def streamStep (i : Nat) (late : Bool) (c : Chip) : Option ((Int × Int) × SrcCommon) × Chip :=
  let p := ownerOf c .input i
  let c := modIn i (fun x => { x with s := { x.s with vol := x.s.vol.step } }) c
  let x := inOf c i
  if !x.cfg.en || x.st.fault || x.s.fade = some 0 then (none, c)
  else
    let (raw, c) := streamRaw i p late c
    let (val, mute) := (inOf c i).s.mute.step raw
    let (f, fade) := fadeStep (inOf c i).s.fade
    let (y, c) := hpInput i val c
    let c := modIn i (fun q => { q with s := { q.s with mute := mute, fade := fade } }) c
    (some (both f y, (inOf c i).s), c)

/-! ### Captures (R654, R679) -/

/-- The bytes of a captured frame. -/
def captureBytes (i : Nat) (g : InCfg) (x : Int × Int) : List Byte :=
  let one (v : Int) : List Byte := if g.two then leBytes 2 (narrow 16 (satW 16 (asr (v + 128) 8))) else leBytes 4 (narrow 32 v)
  if i = 4 then one x.1 ++ one x.2 else one x.1

/-- Suken reads CONS of a capture every 64 frames, and when the ring looks full. -/
def captureCons (i p : Nat) (c : Chip) : Chip :=
  let q := inOf c i
  if 64 ≤ q.ring.since ∨ q.cfg.frames ≤ narrow 32 ((q.ring.prod : Int) - q.ring.cons) then
    match sndWord p (q.cfg.base + 4) c with
    | (some v, _, c) =>
      let c := modIn i (fun q => { q with ring := { q.ring with cons := v, since := 0 } }) c
      if q.cfg.frames < narrow 32 ((q.ring.prod : Int) - v) then sndRingFault i p c else c
    | (none, some r, c) => inLint 2 i p r c
    | (none, none, c) => inLint 1 i p 0 c
  else c

/-- Writes one frame into a capture ring, or drops it. -/
def captureWrite (i : Nat) (x : Int × Int) (c : Chip) : Chip :=
  let p := ownerOf c .input i
  if !(inOf c i).cfg.en || (inOf c i).st.fault || isPegged c 9 i || (inOf c i).s.fade.isSome then c
  else
    let c := captureCons i p c
    let q := inOf c i
    let a := q.cfg.frameAt i q.ring.prod
    if q.st.fault then c
    else if q.cfg.frames ≤ narrow 32 ((q.ring.prod : Int) - q.ring.cons) then
      let n := satAdd 0xFFFFFFFF q.ring.lost 1
      c |> modIn i (fun q => { q with ring := { q.ring with lost := n } }) |> sndPutWord p (q.cfg.base + 8) n |> lint 0x0D06 (0x0900 + i) p 0
    else match firstRefused c p .w a (q.cfg.fsz i) with
      | some r => inLint 2 i p r c
      | none =>
        let prod := (q.ring.prod + 1) % 2 ^ 32
        c |> writeKFree p a (clean (captureBytes i q.cfg x))
          |> modIn i (fun q => { q with ring := { q.ring with prod := prod, since := q.ring.since + 1 } })
          |> sndPutWord p q.cfg.base prod

/-- A filtered 48 kHz sample of a microphone or the I2S input: kept for the outputs, captured, and queued for the monitor (R655). -/
def inputSample (i : Nat) (x : Int × Int) (c : Chip) : Chip :=
  let (y, c) := hpInput i x c
  captureWrite i y (modIn i (fun q => { q with latest := y, mon := if q.cfg.mon then (q.mon ++ [y.1]).drop (q.mon.length - 255) else [] }) c)

/-- The outputs that a pushed converter gives until it needs its next input, at most n (R650). -/
def Conv.emit (rate : Nat) : Nat → Conv → List (Int × Int) × Conv
  | 0, k => ([], k)
  | n + 1, k =>
    if k.r < 48000 then
      let (xs, k') := Conv.emit rate n { k with r := k.r + rate }
      (between k.x0 k.x1 k.r 48000 :: xs, k')
    else ([], k)

/-- A new input sample of a converter, and the 48 kHz samples that it completes. -/
def Conv.push (rate : Nat) (x : Int × Int) (k : Conv) : List (Int × Int) × Conv :=
  Conv.emit rate 16 { x0 := k.x1, x1 := x, r := k.r - 48000 }

/-- FMIC in Hz. -/
def fmicHz (code : Nat) : Nat := [16000, 32000, 48000].getD code 16000

/-- One bit of the decimator's integrators; sums wrap at 32 bits, which leaves a 25-bit result exact. -/
def Cic.bit (b : Bool) (k : Cic) : Cic :=
  let x : Int := if b then 1 else -1
  let i := k.int.toList.foldl (fun (acc : List Int × Int) v => let s := sext 32 (narrow 32 (v + acc.2)); (acc.1 ++ [s], s)) ([], x)
  { k with int := Vector.ofFn fun j => i.1.getD j.val 0, run := if b = k.last then min 65535 (k.run + 1) else 1, last := b }

/-- The combs of the decimator: w of R652. -/
def Cic.out (k : Cic) : Int × Cic :=
  let o := k.comb.toList.foldl (fun (acc : List Int × Int) v => (acc.1 ++ [acc.2], sext 32 (narrow 32 (acc.2 - v)))) ([], vget k.int 3)
  (o.2, { k with comb := Vector.ofFn fun j => o.1.getD j.val 0 })

/-- A sample formed from w (R652). -/
def micValue (gain : Nat) (w : Int) : Int := clamp24 (clamp24 (asr w 1) * (2 ^ gain : Nat))

/-- MIC_SAMPLE (R652): 64 bits of a microphone, the first in bit 0, give one sample, which is converted, filtered and captured. -/
def micSample (mic : Nat) (bs : BitVec 64) (c : Chip) : Chip :=
  let i := 2 + mic
  let q := inOf c i
  if !q.cfg.en then c
  else
    let k := (List.range 64).foldl (fun k j => Cic.bit (bs.getLsbD j) k) q.cic
    let (w, k) := k.out
    let stuck := q.st.stuck && decide (1024 ≤ k.run)
    let v := if stuck then 0 else micValue (q.cfg.rate % 8) w
    let (xs, conv) := q.conv.push (fmicHz c.snd.mix.fmic) (v, v)
    let c := modIn i (fun q => { q with cic := k, conv := conv, st := { q.st with stuck := stuck } }) c
    xs.foldl (fun c x => inputSample i x c) c

/-- MIC_SAMPLE. -/
def execMicSample (mic : Fin 2) (bs : BitVec 64) (s : State) : Out := onChip (micSample mic.val bs) s

/-- MIC_STUCK (R677): the data have held one level for 1,024 bits. -/
def micStuck (mic : Nat) (c : Chip) : Chip :=
  let q := inOf c (2 + mic)
  if q.cfg.en && decide (1024 ≤ q.cic.run) && !q.st.stuck then
    c |> modIn (2 + mic) (fun q => { q with st := { q.st with stuck := true } })
      |> lint 0x0D09 (0x0902 + mic) (ownerOf c .input (2 + mic)) 0
  else c

/-- MIC_STUCK. -/
def execMicStuck (mic : Fin 2) (s : State) : Out := onChip (micStuck mic.val) s

/-! ### The I2S/TDM input (R653, R676) -/

/-- The top 24 bits of a slot. -/
def slot24 (width v : Nat) : Int :=
  match width with
  | 0 => sext 24 (v % 65536 * 256)
  | 1 => sext 24 v
  | _ => sext 24 (v / 256)

/-- The two channels that IN_SLOTS names. -/
def i2sChannels (g : I2sCfg) (slots : List Long) : Int × Int :=
  (slot24 g.width ((slots.getD (g.inSlots % 8) 0).toNat), slot24 g.width ((slots.getD (bits g.inSlots 6 4) 0).toNat))

/-- The external rate lies within ±1,000 ppm of 48,000 Hz. -/
def i2sRateOk (rate : Nat) : Bool := 47952 ≤ rate && rate ≤ 48048

/-- Width, in bits, of a slot. -/
def slotBits (width : Nat) : Nat := [16, 24, 32].getD width 16

/-- What a slot carries of a sample (R673). -/
def slotWord (width : Nat) (x : Int) : Nat :=
  match width with
  | 0 => narrow 16 (satW 16 (asr (x + 128) 8))
  | 1 => narrow 24 x
  | _ => narrow 32 (x * 256)

/-- The number of slots of a form: two but for TDM. -/
def I2sCfg.nSlots (g : I2sCfg) : Nat := if g.fmt = 2 then g.slots else 2

/-- The slots of a frame from the I2S feed (R674). -/
def i2sFrame (c : Chip) (feed : Int × Int) (ramp : Nat) : List Nat :=
  let g := c.snd.i2s.cfg
  (List.range g.nSlots).map fun k =>
    let x : Int := match bits g.map (4 * k + 3) (4 * k) with
      | 1 => feed.1
      | 2 => feed.2
      | 3 => c.snd.out.spk
      | 4 => (inOf c 2).latest.1
      | 5 => (inOf c 3).latest.1
      | _ => 0
    slotWord g.width (x * ramp / 48)

/-- I2S_INPUT_FRAME (R653, R673): a frame of the interface. A clock slave measures its rate, converts what it takes in, and gives out
the I2S feed converted to the external rate. -/
def i2sInput (slots : List Long) (rate : Nat) (c : Chip) : Chip :=
  let g := c.snd.i2s.cfg
  if !g.en || c.snd.i2s.clockLost || (!g.master && !i2sRateOk rate) then c
  else
    let x := i2sChannels g slots
    let c := if g.master then c else
      let k := c.snd.i2s.conv
      modSnd (fun s => { s with i2s := { s.i2s with
        rate := rate, conv := { k with r := k.r + 48000 }, slots := i2sFrame c (between k.x0 k.x1 (k.r % rate) rate) s.i2s.ramp } }) c
    if !(inOf c 4).cfg.en && !(inOf c 4).cfg.mon then c
    else if g.master then inputSample 4 x c
    else
      let (xs, conv) := (inOf c 4).conv.push rate x
      xs.foldl (fun c x => inputSample 4 x c) (modIn 4 (fun q => { q with conv := conv }) c)

/-- I2S_INPUT_FRAME. -/
def execI2sInputFrame (slots : List Long) (rate : Fin 65536) (s : State) : Out := onChip (i2sInput slots rate.val) s

/-- I2S_CLOCK_LOST (R676). -/
def i2sLost (c : Chip) : Chip :=
  let g := c.snd.i2s
  if !g.cfg.en || g.cfg.master || g.clockLost then c
  else
    c |> modSnd (fun s => { s with i2s := { s.i2s with clockLost := true, slots := [] } })
      |> modIn 4 (fun q => { q with st := { q.st with clockLost := true }, lossRamp := 48 })
      |> lint 0x0D08 0x0904 (ownerOf c .input 4) 0

/-- I2S_CLOCK_LOST. -/
def execI2sClockLost (s : State) : Out := onChip i2sLost s

/-- I2S_CLOCK_RECOVERED (R676): the clock has been valid for 10 ms. -/
def i2sBack (c : Chip) : Chip :=
  if !c.snd.i2s.clockLost then c
  else
    c |> modSnd (fun s => { s with i2s := { s.i2s with clockLost := false, conv := {} } })
      |> modIn 4 (fun q => { q with st := { q.st with clockLost := false }, lossRamp := 48, conv := {} })

/-- I2S_CLOCK_RECOVERED. -/
def execI2sClockRecovered (s : State) : Out := onChip i2sBack s

/-- While the clock is lost the I2S input delivers its last sample through a 1 ms ramp, then zeros, one each sample period. -/
def i2sLostSample (c : Chip) : Chip :=
  let q := inOf c 4
  if q.st.clockLost && q.cfg.en then
    let n := q.lossRamp - 1
    captureWrite 4 (both (fun x => x * n / 48) q.latest)
      (modIn 4 (fun q => { q with lossRamp := n, mon := if q.cfg.mon then (q.mon ++ [q.latest.1 * n / 48]).drop (q.mon.length - 255) else [] }) c)
  else c

/-- One sample of a monitored input before VOL (R655): the oldest that waits; with none it feeds 0. -/
def monStep (i : Nat) (c : Chip) : Option (Int × SrcCommon) × Chip :=
  let c := modIn i (fun x => { x with s := { x.s with vol := x.s.vol.step } }) c
  let x := inOf c i
  if !x.cfg.en || !x.cfg.mon || x.s.fade = some 0 then (none, c)
  else
    let raw := x.mon.headD 0
    let (val, mute) := x.s.mute.step (if isPegged c 9 i then none else some (raw, raw))
    let (f, fade) := fadeStep x.s.fade
    let s := { x.s with mute := mute, fade := fade }
    (some (f val.1, s), modIn i (fun q => { q with mon := q.mon.drop 1, s := s }) c)

end Sys2Proof.Machine
end

