-- ==== Sys2Proof/Machine/Sound.lean ====
section
/-! DEFINITION. The mix, timed changes, the limiters, the outputs and the sound window (chapter 13). -/

namespace Sys2Proof.Machine

/-! ### Registers of a voice, a tone voice and an input -/

/-- A write of an envelope register: 0 ATK, 1 DEC, 2 REL, 3 SUS_LO, 4 SUS_HI. -/
def Env.write (k v : Nat) (e : Env) : Env :=
  match k with
  | 0 => { e with atk := v }
  | 1 => { e with dec := v }
  | 2 => { e with rel := v }
  | 3 => { e with sus := setLo e.sus v }
  | _ => { e with sus := setHi e.sus (v % 256) }

/-- A read of an envelope register. -/
def Env.read (k : Nat) (e : Env) : Nat :=
  match k with
  | 0 => e.atk
  | 1 => e.dec
  | 2 => e.rel
  | 3 => e.sus % 65536
  | _ => e.sus / 65536

/-- PAN and RAMP in one register. -/
def SrcCommon.writePan (v : Nat) (s : SrcCommon) : SrcCommon := { s with pan := v % 256, ramp := v / 256 }

/-- A new VOL, under the source's RAMP (R661). -/
def SrcCommon.writeVol (v : Nat) (s : SrcCommon) : SrcCommon := { s with vol := s.vol.set s.ramp v }

/-- KEY_ON of a voice (R644 to R646). -/
def Voice.keyOn (v : Voice) : Voice := { v with posI := 0, posF := 0, endFlag := false, env := v.env.on }

/-- KEY_OFF of a voice. -/
def Voice.keyOff (v : Voice) : Voice := { v with env := v.env.off }

/-- A write of a voice register (Table 13.7); KEY_OFF wins over KEY_ON (R675). -/
def Voice.write (reg v : Nat) (x : Voice) : Voice :=
  match reg with
  | 0x00 =>
    let x := { x with loop := bit v 2, fmt := bits v 4 3, s := { x.s with bus := bits v 6 5 } }
    if bit v 1 then x.keyOff else if bit v 0 then x.keyOn else x
  | 0x02 => { x with addr := setLo x.addr v }
  | 0x04 => { x with addr := setHi x.addr (v % 256) }
  | 0x06 => { x with end_ := setLo x.end_ v }
  | 0x08 => { x with end_ := setHi x.end_ (v % 256) }
  | 0x0A => { x with loopStart := setLo x.loopStart v }
  | 0x0C => { x with loopStart := setHi x.loopStart (v % 256) }
  | 0x0E => { x with pitch := v }
  | 0x10 => { x with s := x.s.writeVol v }
  | 0x12 => { x with s := x.s.writePan v }
  | 0x1E => if bit v 3 then { x with endFlag := false } else x
  | _ => if 0x14 ≤ reg ∧ reg ≤ 0x1C then { x with env := x.env.write ((reg - 0x14) / 2) v } else x

/-- A read of a voice register. -/
def Voice.read (reg : Nat) (x : Voice) : Nat :=
  match reg with
  | 0x00 => 4 * b2n x.loop + 8 * x.fmt + 32 * x.s.bus
  | 0x02 => x.addr % 65536
  | 0x04 => x.addr / 65536
  | 0x06 => x.end_ % 65536
  | 0x08 => x.end_ / 65536
  | 0x0A => x.loopStart % 65536
  | 0x0C => x.loopStart / 65536
  | 0x0E => x.pitch
  | 0x10 => x.s.vol.g1
  | 0x12 => x.s.pan + 256 * x.s.ramp
  | 0x1E => x.env.phase.code + 8 * b2n x.endFlag + 16 * b2n (x.s.mute.m < 48)
  | _ => if 0x14 ≤ reg ∧ reg ≤ 0x1C then x.env.read ((reg - 0x14) / 2) else 0

/-- A write of a tone voice register. -/
def Tone.write (reg v : Nat) (x : Tone) : Tone :=
  match reg with
  | 0x00 =>
    let x := { x with wave := bits v 3 2, s := { x.s with bus := bits v 6 5 } }
    if bit v 1 then { x with env := x.env.off }
    else if bit v 0 then { x with phi := 0, lfsr := 0x7FFF, endFlag := false, env := x.env.on } else x
  | 0x02 => { x with freq := setLo x.freq v }
  | 0x04 => { x with freq := setHi x.freq (v % 256) }
  | 0x06 => { x with duty := v % 256 }
  | 0x08 => { x with s := x.s.writeVol v }
  | 0x0A => { x with s := x.s.writePan v }
  | 0x16 => if bit v 3 then { x with endFlag := false } else x
  | _ => if 0x0C ≤ reg ∧ reg ≤ 0x14 then { x with env := x.env.write ((reg - 0x0C) / 2) v } else x

/-- A read of a tone voice register. -/
def Tone.read (reg : Nat) (x : Tone) : Nat :=
  match reg with
  | 0x00 => 4 * x.wave + 32 * x.s.bus
  | 0x02 => x.freq % 65536
  | 0x04 => x.freq / 65536
  | 0x06 => x.duty
  | 0x08 => x.s.vol.g1
  | 0x0A => x.s.pan + 256 * x.s.ramp
  | 0x16 => x.env.phase.code + 8 * b2n x.endFlag + 16 * b2n (x.s.mute.m < 48)
  | _ => if 0x0C ≤ reg ∧ reg ≤ 0x14 then x.env.read ((reg - 0x0C) / 2) else 0

/-- EN rises: the input starts from nothing, with its ring at 0. -/
def SndIn.start (x : SndIn) : SndIn :=
  { x with cfg := { x.cfg with en := true }, st := { x.st with fault := false, starved := false, stuck := false }, ring := {}, r := 0, conv := {},
           hp := ({}, {}), cic := {}, latest := (0, 0), mon := [], s := { x.s with mute := {}, fade := none } }

/-- A write of an input register other than EN's rise. -/
def SndIn.write (reg v : Nat) (x : SndIn) : SndIn :=
  match reg with
  | 0x00 => { x with cfg := { x.cfg with en := bit v 0, two := bit v 1, pcm8 := bit v 2, mon := bit v 3 }, s := { x.s with bus := bits v 5 4 } }
  | 0x02 => { x with cfg := { x.cfg with base := setLo x.cfg.base v } }
  | 0x04 => { x with cfg := { x.cfg with base := setHi x.cfg.base (v % 256) } }
  | 0x06 => { x with cfg := { x.cfg with sizeLog2 := v } }
  | 0x08 => { x with cfg := { x.cfg with wm := v } }
  | 0x0A => { x with cfg := { x.cfg with rate := setLo x.cfg.rate v } }
  | 0x0C => { x with cfg := { x.cfg with rate := setHi x.cfg.rate v } }
  | 0x0E => { x with s := x.s.writeVol v }
  | 0x10 => { x with s := x.s.writePan v }
  | _ => x

/-- A read of an input register. -/
def SndIn.read (reg : Nat) (x : SndIn) : Nat :=
  match reg with
  | 0x00 => bitsToNat [x.cfg.en, x.cfg.two, x.cfg.pcm8, x.cfg.mon] + 16 * x.s.bus
  | 0x02 => x.cfg.base % 65536
  | 0x04 => x.cfg.base / 65536
  | 0x06 => x.cfg.sizeLog2 % 16
  | 0x08 => x.cfg.wm
  | 0x0A => x.cfg.rate % 65536
  | 0x0C => x.cfg.rate / 65536
  | 0x0E => x.s.vol.g1
  | 0x10 => x.s.pan + 256 * x.s.ramp
  | 0x12 => bitsToNat [x.st.fault, x.st.starved, x.st.clockLost, x.st.stuck]
  | _ => 0

/-- Applies a write of an input: EN's rise starts it with its header cleared, EN's fall stops a stream with its CONS written. -/
def writeInput (i reg v : Nat) (c : Chip) : Chip :=
  let x := inOf c i
  let p := ownerOf c .input i
  let c' := modIn i (SndIn.write reg v) c
  if reg = 0 ∧ bit v 0 ∧ !x.cfg.en then
    let c' := modIn i (fun y => (y.write 0 v).start) c
    (List.range 3).foldl (fun c k => sndPutWord p (x.cfg.base + (if i < 2 then 4 + 4 * (k % 2) else if k = 1 then 8 else 0)) 0 c) c'
  else if reg = 0 ∧ !bit v 0 ∧ x.cfg.en ∧ i < 2 then streamStop i p c'
  else c'

/-! ### Timed changes (R665, R666) -/

/-- The ASC of the next sample mixed. -/
def mixIdx (s : Sound) : Nat := (s.asc + 1 + s.out.fifo.length) % 2 ^ 32

/-- A sample number lies at or before another, counted at most 2^31 ahead. -/
def ascDue (t now : Nat) : Bool := decide ((now + 2 ^ 32 - t % 2 ^ 32) % 2 ^ 32 < 2 ^ 31)

/-- Applies one write of a change, if its unit is still the partition's. -/
def applySnd (p : Nat) (w : SndWrite) (c : Chip) : Chip :=
  match w with
  | .voice v reg val => if ownerOf c .voice v = p then modVoice v (Voice.write reg val) c else c
  | .tone n reg val => if ownerOf c .tone n = p then modTone n (Tone.write reg val) c else c
  | .input i reg val => if ownerOf c .input i = p then writeInput i reg val c else c
  | .pgain q b ramp val =>
    modSnd (fun s => { s with parts := vmod s.parts q fun x => { x with pgain := vmod x.pgain b (Glide.set (ramp.getD x.pgRamp) val) } }) c
  | .gain stage ramp val =>
    modSnd (fun s =>
      let m := s.mix
      { s with mix :=
          if stage < 4 then { m with bus := vmod m.bus stage (Glide.set ramp val) }
          else if stage = 4 then { m with master := m.master.set ramp val }
          else if stage = 5 then { m with spkGain := m.spkGain.set ramp val }
          else { m with i2sGain := m.i2sGain.set ramp val } }) c

/-- Applies a change at a sample: late when its own sample has been mixed (R666); its command completes. -/
def applySndChange (now : Nat) (x : SndChange) (c : Chip) : Chip :=
  let c := x.writes.foldl (fun c w => applySnd x.part w c) c
  let c := if x.s = some now then c else
    c |> modSnd (fun s => { s with parts := vmod s.parts x.part fun q => { q with late := true } }) |> lintBlock 0x0D07 x.part 0
  match x.cmd with
  | some h => finish h .ok 0 0 c
  | none => c

/-- Applies every change that is due at a sample, in order of arrival. -/
def applyDue (now : Nat) (c : Chip) : Chip :=
  let due (x : SndChange) : Bool := match x.s with | some t => ascDue t now | none => false
  let l := c.snd.changes.filter due
  l.foldl (fun c x => applySndChange now x c) (modSnd (fun s => { s with changes := s.changes.filter fun x => !due x }) c)

/-- When a change applies (R665). -/
inductive SndAt where
  | now
  | frame
  | line (l : Nat)
  | sample (s : Nat)
deriving DecidableEq, Repr

/-- Samples from a frame start to a number of dots after it. -/
def dotsToSamples (dots pclk : Nat) : Nat := dots * 48000 / pclk

/-- The running frame gives no sample for the next: held, aborted, or no mode (R666). -/
def frameUnsure (c : Chip) : Bool := c.beam.hold || c.scan.abort.isSome || c.scan.h.due || c.beam.pclk == 0

/-- The sample and the frame that a time selects (R665, R666). -/
def atSample (a : SndAt) (c : Chip) : Option Nat × Bool × Nat :=
  match a with
  | .now => (some (mixIdx c.snd), false, 0)
  | .sample s => (some s, false, 0)
  | _ =>
    let l := match a with | .line l => l | _ => 0
    if frameUnsure c then (none, true, l)
    else (some ((c.snd.frameAsc + dotsToSamples ((c.beam.vtotal + l) * c.beam.htotal) c.beam.pclk) % 2 ^ 32), true, l)

/-- Posts a change. -/
def postSnd (p : Nat) (a : SndAt) (ws : List SndWrite) (cmd : Option (Option Long)) (c : Chip) : Chip :=
  let (s, next, l) := atSample a c
  modSnd (fun x => { x with changes := x.changes ++ [{ part := p, s := s, next := next, line := l, writes := ws, cmd := cmd }] }) c

/-- The frame in progress is aborted, or ends in a hold or for another mode: changes timed to the next wait for its start (R666). -/
def sndFrameUnsure (c : Chip) : Chip :=
  modSnd (fun s => { s with changes := s.changes.map fun x => if x.next then { x with s := none } else x }) c

/-- A frame start: FRAME_ASC is latched, waiting changes get their samples, and the figures of the frame begin anew (R639, R666). -/
def sndFrameStart (c : Chip) : Chip :=
  modSnd (fun s =>
    let asc := s.asc
    { s with
      frameAsc := asc,
      changes := s.changes.map fun x =>
        if x.next then { x with next := false, s := some (x.s.getD ((asc + dotsToSamples (x.line * c.beam.htotal) c.beam.pclk) % 2 ^ 32)) } else x,
      voices := s.voices.map fun v => { v with s := { v.s with marks := {} } },
      tones := s.tones.map fun v => { v with s := { v.s with marks := {} } },
      ins := s.ins.map fun v => { v with s := { v.s with marks := {} } },
      out := { s.out with peak := s.out.peakNow, peakNow := (0, 0), lim := s.out.limNow, limNow := false } }) c

/-- Changes of a partition are dropped (R185). -/
def dropSnd (p : Nat) (c : Chip) : Chip := modSnd (fun s => { s with changes := s.changes.filter (·.part != p) }) c

/-- Changes whose command has been completed RESTARTED are dropped (R256). -/
def dropSndCmds (c : Chip) : Chip := modSnd (fun s => { s with changes := s.changes.filter (·.cmd.isNone) }) c

/-! ### The mix (R657 to R664) -/

/-- The pair that a source adds to its bus (R657). -/
def panPair (s : SrcCommon) (pg : Nat) (x : Int × Int) : Int × Int :=
  let gl := min 64 (128 - s.pan)
  let gr := min 64 s.pan
  (amp (asr (amp x.1 s.vol.val * gl) 6) pg, amp (asr (amp x.2 s.vol.val * gr) 6) pg)

/-- Adds a pair into one of four buses. -/
def addBus (bus : Nat) (x : Int × Int) (b : Vector (Int × Int) 4) : Vector (Int × Int) 4 := vmod b bus fun y => (y.1 + x.1, y.2 + x.2)

/-- PGAIN in force for a partition and bus. -/
def pgainOf (c : Chip) (p bus : Nat) : Nat := (vget (vget c.snd.parts p).pgain bus).val

/-- One sample of every gain of the partitions, buses, master and outputs. -/
def stepGains (c : Chip) : Chip :=
  modSnd (fun s =>
    { s with
      parts := s.parts.map fun q => { q with pgain := q.pgain.map Glide.step },
      mix := { s.mix with bus := s.mix.bus.map Glide.step, master := s.mix.master.step, spkGain := s.mix.spkGain.step, i2sGain := s.mix.i2sGain.step } }) c

/-- T of a limiter (R662). -/
def Limiter.top (l : Limiter) : Nat := min l.thr l.cap * 128

/-- One sample of a limiter for the channels of its path (R662). -/
def Limiter.run (shift : Nat) (xs : Int × Int) (l : Limiter) : (Int × Int) × Limiter :=
  let p := max xs.1.natAbs xs.2.natAbs
  let g := min 32768 (l.g + max 1 ((32768 - l.g) / 2 ^ shift))
  let g := if l.top < p * g / 32768 then l.top * 32768 / p else g
  (both (fun x => asr (x * g) 15) xs, { l with g := g })

/-- The contributions of all sources, by bus (R657, R658). -/
def mixSources (lateV : BitVec 24) (lateS : BitVec 2) (c : Chip) : Vector (Int × Int) 4 × Chip :=
  let add (b : Vector (Int × Int) 4) (p : Nat) (s : SrcCommon) (x : Int × Int) (c : Chip) : Vector (Int × Int) 4 :=
    addBus s.bus (panPair s (pgainOf c p s.bus) x) b
  let r := (List.range 24).foldl (fun (a : Vector (Int × Int) 4 × Chip) v =>
    match voiceStep v (lateV.getLsbD v) a.2 with
    | (some (x, s), c) => (add a.1 (ownerOf c .voice v) s (x, x) c, c)
    | (none, c) => (a.1, c)) (Vector.replicate 4 (0, 0), c)
  let r := (List.range 8).foldl (fun a n =>
    match toneStep n a.2 with
    | (some (x, s), c) => (add a.1 (ownerOf c .tone n) s (x, x) c, c)
    | (none, c) => (a.1, c)) r
  let r := (List.range 2).foldl (fun a i =>
    match streamStep i (lateS.getLsbD i) a.2 with
    | (some (x, s), c) => (add a.1 (ownerOf c .input i) s x c, c)
    | (none, c) => (a.1, c)) r
  [2, 3, 4].foldl (fun a i =>
    match monStep i a.2 with
    | (some (x, s), c) => (add a.1 (ownerOf c .input i) s (x, x) c, c)
    | (none, c) => (a.1, c)) r

/-- The master pair of the buses (R658). -/
def masterPair (m : MixSet) (b : Vector (Int × Int) 4) : Int × Int :=
  let scaled := (List.range 4).map fun k => both (fun x => satW 32 (amp (satW 32 x) (vget m.bus k).val)) (vget b k)
  both (fun x => satW 32 (amp x m.master.val)) ((scaled.map (·.1)).sum, (scaled.map (·.2)).sum)

/-- The two paths after the master (R660, R662). -/
def mixPaths (m : MixSet) (x : Int × Int) : MixOut × MixSet :=
  let (a, h1) := m.hp.1.run 32 63843 (asr (x.1 + x.2) 1)
  let (b, h2) := m.hp.2.run 32 63843 a
  let spk := amp b m.spkGain.val
  let ((s, _), sl) := m.spkLim.run m.relShift (spk, spk)
  let (y, il) := m.i2sLim.run m.relShift (both (fun v => amp v m.i2sGain.val) x)
  ({ spk := clamp24 s, l := clamp24 y.1, r := clamp24 y.2, limited := decide (sl.g < 32768) || decide (il.g < 32768) },
   { m with hp := (h1, h2), spkLim := sl, i2sLim := il })

/-- One sample of the mix at its ASC (R640). -/
def mixOne (lateV : BitVec 24) (lateS : BitVec 2) (c : Chip) : MixOut × Chip :=
  let c := stepGains (applyDue (mixIdx c.snd) c)
  let (b, c) := mixSources lateV lateS c
  let (o, m) := mixPaths c.snd.mix (masterPair c.snd.mix b)
  (o, modSnd (fun s => { s with mix := m }) c)

/-- The mixer and the sample clock run (R113: not before boot, not in class 3). -/
def soundRuns (c : Chip) : Bool := c.snd.started && (c.pwr.phase == .run || c.pwr.phase == .recovery || c.pwr.phase == .resuming)

/-- MIX_SAMPLE (R640, R669): the mixer computes the next sample while the FIFO has room; it takes sources' data as late only with fewer
than 16 samples in the FIFO. -/
def mixSample (lateV : BitVec 24) (lateS : BitVec 2) (c : Chip) : Chip :=
  let n := c.snd.out.fifo.length
  if !soundRuns c || 256 ≤ n then c
  else
    let (lv, ls) := if n < 16 then (lateV, lateS) else (0, 0)
    let (o, c) := mixOne lv ls c
    modSnd (fun s => { s with out := { s.out with fifo := s.out.fifo ++ [o] } }) c

/-- MIX_SAMPLE. -/
def execMixSample (lateV : BitVec 24) (lateS : BitVec 2) (s : State) : Out := onChip (mixSample lateV lateS) s

/-! ### The output stage (R670 to R673) -/

/-- The sample that the output stage takes, with the ramp of R670; an empty FIFO skips its sample, and a relock sends zeros. -/
def takeOut (c : Chip) : MixOut × Chip :=
  let ramp (x : MixOut) (n : Nat) : MixOut := { x with spk := x.spk * n / 48, l := x.l * n / 48, r := x.r * n / 48 }
  match c.snd.out.fifo with
  | x :: rest =>
    let n := if c.snd.locked then min 48 (c.snd.out.level + 1) else 0
    (ramp x n, modSnd (fun s => { s with asc := (s.asc + 1) % 2 ^ 32, out := { s.out with fifo := rest, last := x, level := n } }) c)
  | [] =>
    let (_, c) := mixOne 0 0 c
    let n := if c.snd.locked then c.snd.out.level - 1 else 0
    let c := modSnd (fun s => { s with asc := (s.asc + 1) % 2 ^ 32, out := { s.out with level := n } }) c
    (ramp c.snd.out.last n, if c.snd.locked then lintBlock 0x0D04 0xFF 0 c else c)

/-- The speaker mute ramp is to rise: SPK_EN, no reduction (R95, R97), no trip (R678). -/
def spkUp (c : Chip) : Bool := c.snd.bridge.en && !c.pwr.reduced && c.snd.bridge.tripped.isNone && !c.snd.bridge.fault

/-- The ramp of the I2S output toward its new form (Table 13.3). -/
def I2sIf.step (g : I2sIf) : I2sIf :=
  match g.next with
  | some n => if g.ramp ≤ 1 then { g with cfg := n, next := none, ramp := 0, conv := {}, slots := [] } else { g with ramp := g.ramp - 1 }
  | none => { g with ramp := min 48 (g.ramp + 1) }

/-- AUDIO_SAMPLE_PERIOD (R637, R638): one sample leaves through the bridge and the I2S output. -/
def audioPeriod (c : Chip) : Chip :=
  if !soundRuns c then c
  else
    let (x, c) := takeOut c
    let c := i2sLostSample c
    let c := modSnd (fun s =>
      let n := if spkUp c then min 96 (s.bridge.n + 1) else s.bridge.n - 1
      let spk := clamp24 (x.spk * n / 96)
      let pk (a b : Nat) : Nat := max a (b / 128)
      { s with
        bridge := { s.bridge with n := n },
        out := { s.out with spk := spk,
                            peakNow := (pk s.out.peakNow.1 spk.natAbs, pk s.out.peakNow.2 (max x.l.natAbs x.r.natAbs)),
                            limNow := s.out.limNow || x.limited } }) c
    modSnd (fun s =>
      let g := s.i2s.step
      let g := if g.cfg.en && g.cfg.master then { g with slots := i2sFrame { c with snd := { c.snd with i2s := g } } (x.l, x.r) g.ramp }
        else { g with conv := { x0 := g.conv.x1, x1 := (x.l, x.r), r := g.conv.r - g.rate } }
      { s with i2s := g }) c

/-- AUDIO_SAMPLE_PERIOD. -/
def execAudioSamplePeriod (s : State) : Out := onChip audioPeriod s

/-- The modulation index of the bridge as a fraction of its denominator (R671). -/
def bridgeIndex (x : Int) (vref vsys : Nat) : Int × Nat :=
  let d := 8388607 * vsys
  (clampI (-(d : Nat)) d (x * vref), d)

/-- AUDIO_SYNTH_LOCK (R638, R71): the audio synthesiser locks; the first lock after a cold start starts ASC at 0. -/
def audioLock (c : Chip) : Chip :=
  if c.snd.locked then c
  else modSnd (fun s => { s with locked := true, started := true, asc := if s.started then s.asc else 0 }) c

/-- AUDIO_SYNTH_LOCK. -/
def execAudioSynthLock (s : State) : Out := onChip audioLock s

/-- BRIDGE_OVERCURRENT (R678). -/
def bridgeTrip (c : Chip) : Chip :=
  let b := c.snd.bridge
  if b.n = 0 ∨ b.tripped.isSome then c
  else
    let now := c.clk.qtime
    let ts := (now :: b.trips).filter fun t => now < t + 24000000
    c |> modSnd (fun s => { s with out := { s.out with spk := 0 },
                                   bridge := { b with n := 0, tripped := some now, trips := ts, fault := decide (3 ≤ ts.length) } })
      |> lintBlock 0x0D0A 0xFF 0

/-- BRIDGE_OVERCURRENT. -/
def execBridgeOvercurrent (s : State) : Out := onChip bridgeTrip s

/-- BRIDGE_RESTART (R678): 100 ms after a trip the bridge ramps in again. -/
def bridgeRestart (c : Chip) : Chip :=
  match c.snd.bridge.tripped, c.snd.bridge.fault with
  | some t, false => modSnd (fun s => { s with bridge := { s.bridge with tripped := none } }) (atTime (t + 2400000) c)
  | _, _ => c

/-- BRIDGE_RESTART. -/
def execBridgeRestart (s : State) : Out := onChip bridgeRestart s

/-! ### Levels (Table 07.2) -/

/-- VOICE: an owned voice or tone voice has its END flag set. -/
def voiceLevel (c : Chip) (p : Nat) : Bool :=
  (ownedUnits c p .voice).any (fun v => (voiceOf c v).endFlag) || (ownedUnits c p .tone).any (fun n => (toneOf c n).endFlag)

/-- STREAM: the fill of an owned running stream is at or below its watermark (R651). -/
def streamLevel (c : Chip) (p : Nat) : Bool :=
  (ownedUnits c p .input).any fun i =>
    let q := inOf c i
    decide (i < 2) && q.cfg.en && decide (narrow 32 ((q.ring.prod : Int) - q.ring.cons) ≤ q.cfg.wm + 1)

/-- AUDIO_IN: the fill of an owned running capture is at or above its watermark (R654). -/
def audioInLevel (c : Chip) (p : Nat) : Bool :=
  (ownedUnits c p .input).any fun i =>
    let q := inOf c i
    decide (2 ≤ i) && q.cfg.en && decide (q.cfg.wm ≤ narrow 32 ((q.ring.prod : Int) - q.ring.cons))

/-! ### Resets and releases (R680, R183, R185) -/

/-- The voice, input and partition values of Table 13.5 for a partition's units (R680); its streams write CONS no more. -/
def resetSoundOf (p : Nat) (c : Chip) : Chip :=
  dropSnd p (modSnd (fun s =>
    { s with voices := Vector.ofFn fun i => if ownerOf c .voice i.val = p then {} else s.voices[i],
             tones := Vector.ofFn fun i => if ownerOf c .tone i.val = p then {} else s.tones[i],
             ins := Vector.ofFn fun i => if ownerOf c .input i.val = p then {} else s.ins[i],
             parts := vset s.parts p {} }) c)

/-- A source begins its fade (R183). -/
def SrcCommon.fadeOut (s : SrcCommon) : SrcCommon := { s with fade := some (s.fade.getD 240) }

/-- Every source of a partition fades and its captures stop (R185, Table 13.3). -/
def fadeSoundOf (p : Nat) (c : Chip) : Chip :=
  dropSnd p (modSnd (fun s =>
    { s with voices := Vector.ofFn fun i => let v := s.voices[i]; if ownerOf c .voice i.val = p then { v with s := v.s.fadeOut } else v,
             tones := Vector.ofFn fun i => let v := s.tones[i]; if ownerOf c .tone i.val = p then { v with s := v.s.fadeOut } else v,
             ins := Vector.ofFn fun i => let v := s.ins[i]; if ownerOf c .input i.val = p then { v with s := v.s.fadeOut } else v }) c)

/-- One unit begins its fade (R183). -/
def fadeUnit (k : UnitKind) (i : Nat) (c : Chip) : Chip :=
  match k with
  | .voice => modVoice i (fun v => { v with s := v.s.fadeOut }) c
  | .tone => modTone i (fun v => { v with s := v.s.fadeOut }) c
  | .input => modIn i (fun v => { v with s := v.s.fadeOut }) c
  | _ => c

/-- One unit takes its reset values (R821). -/
def resetSoundUnit (k : UnitKind) (i : Nat) (c : Chip) : Chip :=
  match k with
  | .voice => modVoice i (fun _ => {}) c
  | .tone => modTone i (fun _ => {}) c
  | .input => modIn i (fun _ => {}) c
  | _ => c

end Sys2Proof.Machine
end

