-- ==== Sys2Proof/Machine/LinkNode.lean ====
section
/-! DEFINITION. Emgeva Link: training, authentication, control words, election, identities, system time, alignment and the beat (R725 to R754, R768). -/

namespace Sys2Proof.Machine

/-! ### Training (R725, R726) -/

/-- Changes a port's training. -/
def modTrain (q : Nat) (f : PortTrain → PortTrain) (c : Chip) : Chip := modLPort q (fun p => { p with tr := f p.tr }) c

/-- Sends TRAIN with the highest permitted rate and the mode, 16 times (R726). -/
def sendTrain (q : Nat) (c : Chip) : Chip :=
  (List.range 16).foldl (fun c _ => putLine q (.lcw 0x04 c.link.node.cfg.rateMax c.link.node.cfg.mode) c) c

/-- PORT_PRESENCE_DETECT: 64 consecutive valid IDLE sets take a port that is DOWN to TRAIN. -/
def presence (q : Nat) (c : Chip) : Chip :=
  let p := linkPort c q
  if portRuns c q && p.st == .down && p.tr.until_.isNone then
    sendTrain q (modLPort q (fun p => { p with st := .train, rate := 1, tr := { fails := p.tr.fails } }) c)
  else c

/-- PORT_PRESENCE_DETECT. -/
def execPortPresenceDetect (q : LinkPortId) (s : State) : Out := onLink (presence q.val) s

/-- Training fails: lint 0x0F03 and 100 ms DOWN. -/
def failTraining (q : Nat) (c : Chip) : Chip :=
  portDownAs .down q 0 (some (c.clk.qtime + 2400000)) (lint 0x0F03 (portUnit q) 0xFF 0 c)

/-- Grants every credit of a receiver that starts (R733). -/
def grantAll (q : Nat) (c : Chip) : Chip :=
  (List.range 4).foldl (fun c vc => putLine q (.lcw 0x03 vc (vcBuffers vc)) c) c

/-- Both sides are ready: HELLO, with the serial, the ID and whether this side requires authentication. -/
def enterHello (q : Nat) (c : Chip) : Chip :=
  let p := linkPort c q
  if p.st == .train && p.tr.ready && p.tr.peerReady then
    let c := modLPort q (fun p => { p with st := .hello, hop := {} }) c
    sendNbr q 1 6 (.hello c.fuses.serial c.link.node.id c.link.node.cfg.authReq) (grantAll q c)
  else c

/-- TRAIN_LCW: another mode is a mismatch; a rate is agreed on as the lower; 0xFF says the peer is ready. -/
def trainLcw (q a b : Nat) (c : Chip) : Chip :=
  let p := linkPort c q
  let mode := c.link.node.cfg.mode
  if p.st = .mismatch then
    if b = mode then modLPort q (fun p => { p with st := .down, tr := { fails := p.tr.fails } }) c
    else modTrain q (fun t => { t with peerMode := b }) c
  else if p.st ≠ .train then c
  else if b ≠ mode then
    modTrain q (fun t => { t with peerMode := b }) (portDownAs .mismatch q 0 none (lint 0x0F03 (portUnit q) 0xFF 1 c))
  else if a = 0xFF then enterHello q (modTrain q (fun t => { t with peerReady := true }) c)
  else if 1 ≤ a ∧ a ≤ 3 then
    modLPort q (fun p => { p with rate := min c.link.node.cfg.rateMax a,
                                  tr := { p.tr with agreed := true, ready := false, peerReady := false, peerMode := b } }) c
  else c

/-- TRAIN_LCW. -/
def execTrainLcw (q : LinkPortId) (a b : Byte) (s : State) : Out := onLink (trainLcw q.val a.toNat b.toNat) s

/-- TRAIN_SYMBOL_COUNT: 4,096 symbols without an error at the agreed rate make this side ready. -/
def trainClean (q : Nat) (c : Chip) : Chip :=
  let p := linkPort c q
  if p.st == .train && p.tr.agreed && !p.tr.ready then
    enterHello q (putLine q (.lcw 0x04 0xFF c.link.node.cfg.mode) (modTrain q (fun t => { t with ready := true }) c))
  else c

/-- TRAIN_SYMBOL_COUNT. -/
def execTrainSymbolCount (q : LinkPortId) (s : State) : Out := onLink (trainClean q.val) s

/-- TRAINING_HOLDOFF_END: the 100 ms after a failed training end. -/
def holdoffEnd (q : Nat) (c : Chip) : Chip :=
  let p := linkPort c q
  match p.st, p.tr.until_ with
  | .down, some t => modTrain q (fun t => { t with until_ := none }) (atTime t c)
  | _, _ => c

/-- TRAINING_HOLDOFF_END. -/
def execTrainingHoldoffEnd (q : LinkPortId) (s : State) : Out := onLink (holdoffEnd q.val) s

/-- SYMBOL_ERROR: counted and logged; in training it drops the rate one step, at 100 Mbit/s it fails the training; 256 within 1 ms
retrain (R724, R726, R773). -/
def symbolError (q : Nat) (c : Chip) : Chip :=
  let p := linkPort c q
  match p.st with
  | .down => c
  | .mismatch => c
  | .quarantined => c
  | .train =>
    let c := lintKind q 1 c
    if p.rate ≤ 1 then failTraining q c
    else modLPort q (fun p => { p with rate := p.rate - 1, tr := { p.tr with ready := false, peerReady := false } }) c
  | _ =>
    let now := c.clk.qtime
    let es := p.hop.symErrs.filter (now < · + 24000) ++ [now]
    let c := lintKind q 1 (modHop q (fun h => { h with symErrs := es }) c)
    if 256 ≤ es.length then portDrop q c else c

/-- SYMBOL_ERROR. -/
def execSymbolError (q : LinkPortId) (s : State) : Out := onLink (symbolError q.val) s

/-- PRESENCE_LOSS: no valid symbol for 10 µs (R728). -/
def presenceLoss (q : Nat) (c : Chip) : Chip := if (linkPort c q).st = .down then c else portDrop q c

/-- PRESENCE_LOSS. -/
def execPresenceLoss (q : LinkPortId) (s : State) : Out := onLink (presenceLoss q.val) s

/-- DEPART_LCW (R728, R770). -/
def departLcw (q cause : Nat) (c : Chip) : Chip := if (linkPort c q).st = .down then c else portDown q cause c

/-- DEPART_LCW. -/
def execDepartLcw (q : LinkPortId) (cause : Byte) (s : State) : Out := onLink (departLcw q.val cause.toNat) s

/-! ### HELLO and authentication (R725, R768) -/

/-- A port is joined (R728): lint 0x0F01 with its rate, LINK_PORT, and the offer of R737. -/
def joinPort (q : Nat) (authed : Bool) (c : Chip) : Chip :=
  let c := modLPort q (fun p => { p with st := .joined, authed := authed, tr := { peerMode := p.tr.peerMode, peerAuth := p.tr.peerAuth } }) c
  let c := linkEvent (lint 0x0F01 (portUnit q) 0xFF (linkPort c q).rate c)
  if c.link.node.cfg.mode = 3 ∧ c.link.node.enumerated then sendNbr q 1 5 (.gridOffer c.link.node.id) c else c

/-- Authentication fails (R768): QUARANTINED for 1 s, or 60 s after 8 failures in a row; lint 0x0F06 and LINK_PORT; kind 17. -/
def quarantine (q : Nat) (c : Chip) : Chip :=
  let n := (linkPort c q).tr.fails + 1
  let until_ := c.clk.qtime + (if 8 ≤ n then 60 * 24000000 else 24000000)
  let c := modLPort q (fun p => { st := .quarantined, tr := { fails := n, until_ := some until_, peerMode := p.tr.peerMode } }) c
  linkEvent (lint 0x0F06 (portUnit q) 0xFF 0 c)

/-- Sixteen bytes of a 128-bit operand, lowest first. -/
def bytes16 (x : BitVec 128) : List Byte := leBytes 16 x.toNat

/-- Sixteen bytes of entropy. -/
def entropy16 (c : Chip) : List Byte × Chip :=
  let (a, c) := freeNat c
  let (b, c) := freeNat c
  (leBytes 8 a ++ leBytes 8 b, c)

/-- The MAC of a role (R768): 0x52 the responder, 0x49 the initiator. -/
def hopMac (c : Chip) (serI serR : Nat) (nI nR : List Byte) (role : Byte) : Option (List Byte) :=
  linkMac c (ascii "EMGEVA-HOP" ++ leBytes 8 serI ++ leBytes 8 serR ++ nI ++ nR ++ [role])

/-- HELLO_RECEIVE: accepted, the port authenticates if either side requires it, and is joined otherwise. The lower serial is the initiator. -/
def helloReceive (q serial id : Nat) (auth : Bool) (c : Chip) : Chip :=
  let c := takeInbox 6 c
  if (linkPort c q).st ≠ .hello then c
  else
    let c := modLPort q (fun p => { p with nbr := some id, serial := some serial, tr := { p.tr with peerAuth := auth } }) c
    if !auth && !c.link.node.cfg.authReq then joinPort q false c
    else
      let init := decide (c.fuses.serial < serial)
      let c := modLPort q (fun p => { p with st := .auth, tr := { p.tr with init := init, since := c.clk.qtime } }) c
      if init then
        let (n, c) := entropy16 c
        sendNbr q 1 6 (.chal n c.fuses.serial) (modTrain q (fun t => { t with nI := n }) c)
      else c

/-- HELLO_RECEIVE. -/
def execHelloReceive (q : LinkPortId) (serial : BitVec 64) (id : Word) (auth : Bool) (s : State) : Out :=
  onLink (helloReceive q.val serial.toNat id.toNat auth) s

/-- AUTH_CHAL: the responder answers with its nonce and MAC; without a LINK key it fails. -/
def authChal (q : Nat) (nI : List Byte) (serI : Nat) (c : Chip) : Chip :=
  let c := takeInbox 6 c
  let p := linkPort c q
  if p.st ≠ .auth ∨ p.tr.init then c
  else
    let (nR, c) := entropy16 c
    match hopMac c serI c.fuses.serial nI nR 0x52 with
    | none => quarantine q c
    | some m =>
      sendNbr q 1 6 (.resp nR c.fuses.serial m)
        (modLPort q (fun p => { p with serial := some serI, tr := { p.tr with nI := nI, nR := nR, since := c.clk.qtime } }) c)

/-- AUTH_CHAL. -/
def execAuthChal (q : LinkPortId) (nonce : BitVec 128) (serial : BitVec 64) (s : State) : Out :=
  onLink (authChal q.val (bytes16 nonce) serial.toNat) s

/-- AUTH_RESP: the initiator checks the responder's MAC, sends its own and is joined. -/
def authResp (q : Nat) (nR : List Byte) (serR : Nat) (mac : List Byte) (c : Chip) : Chip :=
  let c := takeInbox 6 c
  let p := linkPort c q
  if p.st ≠ .auth ∨ !p.tr.init then c
  else match hopMac c c.fuses.serial serR p.tr.nI nR 0x52, hopMac c c.fuses.serial serR p.tr.nI nR 0x49 with
    | some m, some f => if m = mac then joinPort q true (sendNbr q 1 6 (.fin f) c) else quarantine q c
    | _, _ => quarantine q c

/-- AUTH_RESP. -/
def execAuthResp (q : LinkPortId) (nonce : BitVec 128) (serial : BitVec 64) (mac : BitVec 128) (s : State) : Out :=
  onLink (authResp q.val (bytes16 nonce) serial.toNat (bytes16 mac)) s

/-- AUTH_FIN: the responder checks the initiator's MAC and is joined. -/
def authFin (q : Nat) (mac : List Byte) (c : Chip) : Chip :=
  let c := takeInbox 6 c
  let p := linkPort c q
  if p.st ≠ .auth ∨ p.tr.init ∨ p.tr.nR = [] then c
  else match hopMac c (p.serial.getD 0) c.fuses.serial p.tr.nI p.tr.nR 0x49 with
    | some m => if m = mac then joinPort q true c else quarantine q c
    | none => quarantine q c

/-- AUTH_FIN. -/
def execAuthFin (q : LinkPortId) (mac : BitVec 128) (s : State) : Out := onLink (authFin q.val (bytes16 mac)) s

/-- AUTH_TIMEOUT: no answer within 10 ms. -/
def authTimeout (q : Nat) (c : Chip) : Chip :=
  let p := linkPort c q
  if p.st = .auth then quarantine q (atTime (p.tr.since + 240000) c) else c

/-- AUTH_TIMEOUT. -/
def execAuthTimeout (q : LinkPortId) (s : State) : Out := onLink (authTimeout q.val) s

/-- QUARANTINE_EXPIRY: the port returns to DOWN. -/
def quarantineExpiry (q : Nat) (c : Chip) : Chip :=
  let p := linkPort c q
  if p.st = .quarantined then
    modLPort q (fun p => { p with st := .down, tr := { fails := p.tr.fails } }) (atTime (p.tr.until_.getD 0) c)
  else c

/-- QUARANTINE_EXPIRY. -/
def execQuarantineExpiry (q : LinkPortId) (s : State) : Out := onLink (quarantineExpiry q.val) s

/-! ### Control words and timers of a hop (R731, R733, R772) -/

/-- ACK_LCW. -/
def execAckLcw (q : LinkPortId) (seq : Byte) (s : State) : Out := onLink (takeAck q.val seq.toNat) s

/-- NAK_LCW: the packets from the expected SEQ are sent again. -/
def nakLcw (q seq : Nat) (c : Chip) : Chip :=
  match (linkPort c q).hop.replay.findIdx? (·.seq == seq) with
  | some i => retransmit q i c
  | none => c

/-- NAK_LCW. -/
def execNakLcw (q : LinkPortId) (seq : Byte) (s : State) : Out := onLink (nakLcw q.val seq.toNat) s

/-- CREDIT_LCW: packets freed on a VC, or with `full` the receiver's whole state, taken as absolute (R733, R772). More than the buffers
of the VC is ignored and retrains. -/
def creditLcw (q vc n : Nat) (full : Bool) (c : Chip) : Chip :=
  let p := linkPort c q
  if !(p.st == .hello || p.st == .auth || p.st == .joined) then c
  else
    let v := if full then n else vget p.hop.credits vc + n
    if vcBuffers vc < v then portDrop q (lintKind q 5 c)
    else pump q (modHop q (fun h => { h with credits := vset h.credits vc v }) c)

/-- CREDIT_LCW. -/
def execCreditLcw (q : LinkPortId) (vc : Fin 4) (n : Byte) (full : Bool) (s : State) : Out :=
  onLink (creditLcw q.val vc.val n.toNat full) s

/-- RETRANSMIT_TIMEOUT: no ACK for 20 µs. -/
def execRetransmitTimeout (q : LinkPortId) (s : State) : Out := onLink (retransmit q.val 0) s

/-- ACK_DELAY_EXPIRY: 2 µs after a packet that has not been acknowledged. -/
def ackDelay (q : Nat) (c : Chip) : Chip := if (linkPort c q).hop.acks = 0 then c else sendAck q c

/-- ACK_DELAY_EXPIRY. -/
def execAckDelayExpiry (q : LinkPortId) (s : State) : Out := onLink (ackDelay q.val) s

/-- CREDIT_STATE_REPEAT: the free buffers of every VC, as absolute state (R772). -/
def creditRepeat (q : Nat) (c : Chip) : Chip :=
  let p := linkPort c q
  if p.st == .hello || p.st == .auth || p.st == .joined then
    (List.range 4).foldl (fun c vc => putLine q (.lcw 0x03 vc (vcBuffers vc - vget p.hop.used vc)) c) c
  else c

/-- CREDIT_STATE_REPEAT. -/
def execCreditStateRepeat (q : LinkPortId) (s : State) : Out := onLink (creditRepeat q.val) s

/-- LINK_PACKET_RECEIVE. -/
def execLinkPacketReceive (q : LinkPortId) (bytes : List Byte) (aborted : Bool) (s : State) : Out := onLink (receivePkt q.val bytes aborted) s

/-! ### Election and identities (R735 to R739) -/

/-- TOPO_ADVERTISEMENT: held and perhaps adopted; one beyond 511 hops is ignored with lint 0x0F0E. -/
def topoAdvert (q pri serial hops : Nat) (c : Chip) : Chip :=
  let c := takeInbox 5 c
  if !isJoined c q then c
  else if 511 < hops + 1 then lint 0x0F0E nodeUnit 0xFF 0 c
  else elect (modLPort q (fun p => { p with adv := some { pri := pri, serial := serial, hops := hops + 1, time := c.clk.qtime } }) c)

/-- TOPO_ADVERTISEMENT. -/
def execTopoAdvertisement (q : LinkPortId) (pri : Byte) (serial : BitVec 64) (hops : Word) (s : State) : Out :=
  onLink (topoAdvert q.val pri.toNat serial.toNat hops.toNat) s

/-- TOPO_ADVERTISE_TIMER: the best-known root goes out on every joined port. -/
def advertise (c : Chip) : Chip :=
  let n := c.link.node
  let b : LinkBody := match n.best with
    | some a => .topo a.pri a.serial a.hops
    | none => .topo n.cfg.rootPri c.fuses.serial 0
  (List.range 4).foldl (fun c q => if isJoined c q then sendNbr q 1 5 b c else c) c

/-- TOPO_ADVERTISE_TIMER. -/
def execTopoAdvertiseTimer (s : State) : Out := onLink advertise s

/-- ADVERTISEMENT_EXPIRY: an advertisement not refreshed for 30 ms is dropped, and election runs again. -/
def advertExpiry (q : Nat) (c : Chip) : Chip :=
  match (linkPort c q).adv with
  | none => c
  | some a => loseRoute (elect (modLPort q (fun p => { p with adv := none }) (atTime (a.time + 720000) c)))

/-- ADVERTISEMENT_EXPIRY. -/
def execAdvertisementExpiry (q : LinkPortId) (s : State) : Out := onLink (advertExpiry q.val) s

/-- ROOT_ELECTION_TIMEOUT: no better advertisement held for 50 ms. -/
def electionTimeout (c : Chip) : Chip :=
  let n := c.link.node
  if n.cfg.on && !n.root && n.best.isNone then becomeRoot (atTime (n.lastBetter + 1200000) c) else c

/-- ROOT_ELECTION_TIMEOUT. -/
def execRootElectionTimeout (s : State) : Out := onLink electionTimeout s

/-- The ID that a neighbour's ID gives a node that lies at one of its ports (R737). -/
def gridIdFrom (at_ id : Nat) : Nat :=
  let r := id / 256
  let k := id % 256
  match at_ with
  | 0 => (r + 255) % 256 * 256 + k
  | 1 => r * 256 + (k + 1) % 256
  | 2 => (r + 1) % 256 * 256 + k
  | _ => r * 256 + (k + 255) % 256

/-- GRID_ID_OFFER: the first sets the ID; a later one that disagrees is ignored with lint 0x0F0D. `at_` is the neighbour's port. -/
def gridOffer (q at_ id : Nat) (c : Chip) : Chip :=
  let c := takeInbox 5 c
  let n := c.link.node
  if !isJoined c q ∨ n.cfg.mode ≠ 3 then c
  else
    let mine := gridIdFrom at_ id
    let c := modLPort q (fun p => { p with nbr := some id }) c
    if n.enumerated then (if mine = n.id then c else lint 0x0F0D nodeUnit 0xFF id c)
    else offerId (modNode (fun n => { n with id := mine, enumerated := true }) c)

/-- GRID_ID_OFFER. -/
def execGridIdOffer (q at_ : LinkPortId) (id : Word) (s : State) : Out := onLink (gridOffer q.val at_.val id.toNat) s

/-- The ID that a root gives a serial (R738): its previous one, or the lowest free one from 0x0001; none beyond 4,096 entries. -/
def rootAssign (serial : Nat) (n : LinkNode) : Option Nat × LinkNode :=
  match sfind n.idTable serial with
  | some id => (some id, n)
  | none =>
    if 4096 ≤ n.idTable.length then (none, n)
    else match (List.range 4097).find? fun i => 0 < i && !n.idTable.any (·.2 == i) with
      | some id => (some id, { n with idTable := sins n.idTable serial id })
      | none => (none, n)

/-- ID_REQUEST: the root answers; another node passes the request on toward the root. -/
def idRequest (q serial : Nat) (c : Chip) : Chip :=
  let c := takeInbox 5 c
  let n := c.link.node
  if !isJoined c q ∨ n.cfg.mode = 3 then c
  else if n.root then
    let (id, n) := rootAssign serial n
    let c := modNode (fun _ => n) c
    let c := match id with | some i => learnRoute q i c | none => c
    sendNbr q 1 5 (.idRep serial id) c
  else match n.parent with
    | some up => sendNbr up 1 5 (.idReq serial) (modNode (fun n => { n with idAsks := sins n.idAsks serial q }) c)
    | none => c

/-- ID_REQUEST. -/
def execIdRequest (q : LinkPortId) (serial : BitVec 64) (s : State) : Out := onLink (idRequest q.val serial.toNat) s

/-- ID_REPLY: for this node it sets the ID, or refuses it with lint 0x0F0D; for another it goes back the way its request came. -/
def idReply (q serial : Nat) (id : Option Nat) (c : Chip) : Chip :=
  let c := takeInbox 5 c
  if !isJoined c q then c
  else if serial = c.fuses.serial then
    match id with
    | some i => modNode (fun n => { n with id := i, enumerated := true }) c
    | none => lint 0x0F0D nodeUnit 0xFF 0 c
  else match sfind c.link.node.idAsks serial with
    | some down =>
      let c := modNode (fun n => { n with idAsks := sdel n.idAsks serial }) c
      let c := match id with | some i => learnRoute down i c | none => c
      sendNbr down 1 5 (.idRep serial id) c
    | none => c

/-- ID_REPLY. -/
def execIdReply (q : LinkPortId) (serial : BitVec 64) (id : Option Word) (s : State) : Out :=
  onLink (idReply q.val serial.toNat (id.map (·.toNat))) s

/-! ### System time (R744, R745) -/

/-- Offset and rate term at a Quartz time, in units of 1/6,144 µs. -/
def LinkTime.offsetAt (t : LinkTime) (now : Nat) : Int := t.off + t.rate * ((now - t.origin : Nat) : Int) * 256 / 100000000

/-- System time in units of 1/6,144 µs; after the first lock it moves only forward. -/
def sysTime (c : Chip) : Nat :=
  let t := c.link.time
  if c.link.node.root ∧ t.off = 0 ∧ t.rate = 0 then c.clk.qtime * 256
  else max t.floor ((c.clk.qtime * 256 : Nat) + t.offsetAt c.clk.qtime).toNat

/-- TIME_EXCHANGE_TIMER: a node that is not the root asks its parent. -/
def timeAsk (c : Chip) : Chip :=
  let n := c.link.node
  match n.root, n.parent with
  | false, some q =>
    if n.enumerated then sendNbr q 0 2 .timeReq (modLink (fun l => { l with time := { l.time with asked := true } }) c) else c
  | _, _ => c

/-- TIME_EXCHANGE_TIMER. -/
def execTimeExchangeTimer (s : State) : Out := onLink timeAsk s

/-- TIME_REQUEST: the parent's reply carries t2 and t3; the neighbour is a child of the tree. -/
def timeRequest (q t2 t3 : Nat) (c : Chip) : Chip :=
  let c := takeInbox 2 c
  if isJoined c q then sendNbr q 0 2 (.timeRep t2 t3) (modLPort q (fun p => { p with child := true }) c) else c

/-- TIME_REQUEST, with the two times of the parent in sixteenths of the unit interval of 400 Mbit/s. -/
def execTimeRequest (q : LinkPortId) (t2 t3 : Nat) (s : State) : Out := onLink (timeRequest q.val t2 t3) s

/-- Puts a number in its place in a rising list. -/
def insertInt (x : Int) : List Int → List Int
  | [] => [x]
  | y :: t => if x ≤ y then x :: y :: t else y :: insertInt x t

/-- The median of a list: the middle of its elements in order, the lower of two. -/
def median (l : List Int) : Int := (l.foldr insertInt []).getD ((l.length - 1) / 2) 0

/-- Twice an offset in sixteenths of the 400 Mbit/s unit interval, as an offset in units of 1/6,144 µs, rounded to the nearest. -/
def thetaUnits (th2 : Int) : Int := (24 * th2 + 25) / 50

/-- The rate term, in 0.01 ppm, that a change of offset over 32 exchanges of 32 ms shows. -/
def rateOver32 (d : Int) : Int := d * 100000000 / 6291456000

/-- A kept exchange disciplines system time (R745): the median of the last 5 is applied, and the rate term follows its change over 32. -/
def discipline (th2 : Int) (c : Chip) : Chip :=
  let t := c.link.time
  let now := c.clk.qtime
  let thetas := (th2 :: t.thetas).take 5
  let off := t.offsetAt now + thetaUnits (median thetas)
  let meds := (off :: t.meds).take 33
  let rate := match meds[32]? with | some old => rateOver32 (off - old) | none => t.rate
  let locked := t.locked || thetas.length == 5
  let floor := if t.locked then sysTime c else t.floor
  modLink (fun l => { l with time := { off, rate, origin := now, thetas, meds, locked, asked := false, floor } }) c

/-- TIME_REPLY: an exchange with a delay below 0 or above 10 µs is discarded; the first time lock enters ACQUIRE (R745, R751). -/
def timeReply (t1 t2 t3 t4 : Nat) (c : Chip) : Chip :=
  let c := takeInbox 2 c
  match c.link.time.asked, c.link.node.parent with
  | true, some q =>
    let a : Int := (t2 : Int) - t1
    let b : Int := (t4 : Int) - t3
    if a + b < 0 ∨ 128000 < a + b then modLink (fun l => { l with time := { l.time with asked := false } }) (lintKind q 9 c)
    else
      let was := c.link.time.locked
      let c := discipline (a - b) c
      if !was && c.link.time.locked && c.link.align.st == .free then setAlign .acquire c else c
  | _, _ => c

/-- TIME_REPLY, with the four times in sixteenths of the unit interval of 400 Mbit/s. -/
def execTimeReply (t1 t2 t3 t4 : Nat) (s : State) : Out := onLink (timeReply t1 t2 t3 t4) s

/-! ### Alignment (R747 to R752) -/

/-- Units of system time in a second. -/
def unitsPerSec : Nat := 6144000000

/-- Where a frame start lies against the root's frames: the time since the root's last one scaled by its PCLK, the root's frame period in
the same scale, and the root frame it falls in. -/
def rootPlace (c : Chip) (b : Beat) : Int × Int :=
  let pp : Int := ((b.htotal * b.vtotal * unitsPerSec : Nat) : Int)
  (((sysTime c : Nat) - (b.time : Nat) : Int) * b.pclk, pp)

/-- The frame periods of the node's mode and the root's agree within 200 ppm (R747). -/
def periodsAgree (c : Chip) (b : Beat) : Bool :=
  let x : Int := ((c.beam.htotal * c.beam.vtotal * b.pclk : Nat) : Int)
  let y : Int := ((b.htotal * b.vtotal * c.beam.pclk : Nat) : Int)
  0 < y && (x - y).natAbs * 1000000 ≤ 200 * y.natAbs

/-- e of R747 in the scale of `rootPlace`, with the number of root frames since the beat to the nearest root frame start. -/
def alignError (c : Chip) (b : Beat) : Int × Int :=
  let (d, pp) := rootPlace c b
  let r := d % pp
  if pp < 2 * r then (r - pp, d / pp + 1) else (r, d / pp)

/-- e in ns. -/
def errorNs (e : Int) (b : Beat) : Int := e * 1000 / (b.pclk * 6144)

/-- |e| is above two line times of the node. -/
def beyondTwoLines (c : Chip) (b : Beat) (e : Int) : Bool :=
  decide (2 * c.beam.htotal * unitsPerSec * b.pclk < e.natAbs * c.beam.pclk)

/-- The lines of a phase jump (R747). -/
def jumpLines (c : Chip) (b : Beat) : Nat :=
  let (d, pp) := rootPlace c b
  ((d % pp).toNat * c.beam.pclk) / (b.pclk * c.beam.htotal * unitsPerSec)

/-- ASC takes another number for the same sample; every sample timed by it keeps its distance (R749). -/
def renumberAsc (v : Nat) (c : Chip) : Chip :=
  let d := (v + 2 ^ 32 - c.snd.asc) % 2 ^ 32
  modSnd (fun s => { s with asc := v % 2 ^ 32, frameAsc := (s.frameAsc + d) % 2 ^ 32,
                            changes := s.changes.map fun x => { x with s := x.s.map fun t => (t + d) % 2 ^ 32 } }) c

/-- The node becomes LOCKED after ACQUIRE: FRAME_DELTA and ASC follow the root (R749). -/
def becomeLocked (b : Beat) (n : Int) (c : Chip) : Chip :=
  let r := (((b.frame : Nat) : Int) + n) % (2 ^ 32 : Nat)
  let asc := (((b.asc : Nat) : Int) + n * ((b.htotal * b.vtotal * 48000 : Nat) : Int) / b.pclk) % (2 ^ 32 : Nat)
  c |> setAlign .locked
    |> modAlign (fun a => { a with frameDelta := (r.toNat + 2 ^ 32 - c.beam.frame) % 2 ^ 32 })
    |> renumberAsc asc.toNat

/-- One frame start in ACQUIRE or LOCKED (R747). -/
def alignStep (b : Beat) (c : Chip) : Chip :=
  let (e, n) := alignError c b
  let vs := (c.scan.mode.map (·.vsStart)).getD 0
  if c.link.align.st = .acquire ∧ beyondTwoLines c b e then
    modAlign (fun a => { a with run := 0, jump := some (min (jumpLines c b) (vs - 1)) }) c
  else
    let ns := errorNs e b
    let target := clampI (-20000) 20000 (c.link.time.rate + ns / 10)
    let run := if ns.natAbs ≤ 100 then c.link.align.run + 1 else 0
    let c := modAlign (fun a => { a with run := run, slew := a.slew + clampI (-2000) 2000 (target - a.slew) }) c
    if c.link.align.st = .acquire ∧ 8 ≤ run then becomeLocked b n c else c

/-- What alignment does at a frame start of the node (R747, R751). `released` says that a relock has just been released. -/
def alignFrame (released : Bool) (c : Chip) : Chip :=
  let c := modAlign (fun a => { a with jump := none }) c
  if c.link.node.root then c
  else
    let c := if released && c.link.time.locked && c.link.node.parent.isSome && c.link.align.st != .holdover then setAlign .acquire c else c
    match c.link.align.last with
    | none => if c.link.align.st = .free then modAlign (fun a => { a with slew := a.slew + clampI (-2000) 2000 (-a.slew) }) c else c
    | some b =>
      let c := if c.link.align.st = .holdover && c.link.node.parent.isSome && c.link.time.locked && 0 < b.pclk && periodsAgree c b then
          setAlign (if beyondTwoLines c b (alignError c b).1 then .acquire else .locked) c else c
      match c.link.align.st with
      | .free => modAlign (fun a => { a with slew := a.slew + clampI (-2000) 2000 (-a.slew) }) c
      | .holdover => c
      | _ => if 0 < b.pclk && 0 < c.beam.pclk && periodsAgree c b then alignStep b c else setAlign .free c

/-- HOLDOVER_EXPIRY: 10 s without a route make the node FREE (R751). -/
def holdoverExpiry (c : Chip) : Chip :=
  if c.link.align.st = .holdover ∧ c.link.node.parent.isNone then setAlign .free (atTime (c.link.align.since + 240000000) c) else c

/-- HOLDOVER_EXPIRY. -/
def execHoldoverExpiry (s : State) : Out := onLink holdoverExpiry s

/-! ### The beat (R746, R753, R754) -/

/-- A beat that this node may deliver is kept until it has passed. -/
def keepBeat (b : Beat) (c : Chip) : Chip := modAlign (fun a => { a with last := some b, beats := (b :: a.beats).take 16 }) c

/-- BEAT_RECEIVE: from the root, with a frame number one above its last, it is kept; any other is discarded (kind 8). -/
def beatReceive (q src : Nat) (b : Beat) (c : Chip) : Chip :=
  let c := takeInbox 1 c
  let n := c.link.node
  if n.root ∨ (n.rootId.isSome ∧ n.rootId ≠ some src) then lintKind q 8 c
  else
    let c := modNode (fun n => { n with rootId := some src }) c
    let next := match c.link.align.lastFrame with | none => true | some f => b.frame == (f + 1) % 2 ^ 32
    let c := modAlign (fun a => { a with lastFrame := some b.frame }) c
    if next then keepBeat b c else lintKind q 8 c

/-- BEAT_RECEIVE. -/
def execBeatReceive (q : LinkPortId) (src : Word) (frame : Long) (time : Nat) (asc : Long) (htotal vtotal : Word) (pclk : Long) (lag : Byte)
    (payload : List Byte) (s : State) : Out :=
  onLink (beatReceive q.val src.toNat
    { frame := frame.toNat, time := time, asc := asc.toNat, htotal := htotal.toNat, vtotal := vtotal.toNat, pclk := pclk.toNat,
      lag := lag.toNat, payload := payload.take 32 }) s

/-- The root's BEAT at its frame start, to group 0 on VC0 and to itself (R746). -/
def sendBeat (c : Chip) : Chip :=
  if !c.link.node.root then c
  else
    let b : Beat := { frame := c.beam.frame, time := sysTime c, asc := c.snd.asc, htotal := c.beam.htotal, vtotal := c.beam.vtotal,
                      pclk := c.beam.pclk, lag := c.link.node.cfg.beatLag, payload := c.link.align.tx }
    let k : LinkPkt := { vc := 0, kind := 1, dest := 0, src := c.link.node.id, typ := 1, first := true, last := true, body := .beat b }
    (spreadPkt k none (keepBeat b c)).2

/-- A beat record (Table 15.7). -/
def beatBytes (frame flags time asc : Nat) (payload : List Byte) : List Byte :=
  leBytes 4 frame ++ leBytes 2 flags ++ leBytes 2 payload.length ++ leBytes 8 time ++ leBytes 4 asc ++ List.replicate 12 0
    ++ payload ++ List.replicate (32 - payload.length) 0

/-- Delivers the beat record of a frame start to every partition that has asked for it (R754). The time and the FRAME_ASC of a BEAT that
has not come are free values. -/
def deliverBeats (c : Chip) : Chip :=
  if (c.link.align.dest.toList.all Option.isNone) then c
  else
    let lag := match c.link.align.last with | some b => b.lag | none => c.link.node.cfg.beatLag
    let delta := if c.link.node.root then 0 else c.link.align.frameDelta
    let r := (c.beam.frame + delta + 2 ^ 32 - lag) % 2 ^ 32
    let locked := c.link.align.st == .locked
    let found := c.link.align.beats.find? (·.frame == r)
    let missing := found.isNone || !locked
    let c := if missing then lint 0x0F0B nodeUnit 0xFF 0 c else c
    let (t, c) := match found with | some b => (b.time, c) | none => freeNat c
    let (a, c) := match found with | some b => (b.asc, c) | none => freeNat c
    let payload := match found with | some b => if missing then [] else b.payload | none => []
    let bs := beatBytes r (bitsToNat [missing, !locked]) (t % 2 ^ 64) (a % 2 ^ 32) payload
    (List.range 7).foldl (fun c p => match vget c.link.align.dest p with
      | some d => if kRangeOk c p .w d 64 then writeK p d (clean bs) c else c
      | none => c) c

end Sys2Proof.Machine
end

