-- ==== Sys2Proof/Machine/LinkChan.lean ====
section
/-! DEFINITION. Emgeva Link between partitions: channels, exports, block transfers, remote mailboxes, the link commands and the link window (R755 to R767, R774 to R777). -/

namespace Sys2Proof.Machine

/-! ### Channels (R755 to R762) -/

/-- The unit ID of a channel. -/
def chanUnit (ch : Nat) : Nat := 0x0A00 + ch

/-- Bytes of a slot. -/
def ChCfg.slotBytes (g : ChCfg) : Nat := 2 ^ (6 + g.slotCode)

/-- Slots of a ring. -/
def ChCfg.slots (g : ChCfg) : Nat := 2 ^ g.sizeLog2

/-- The configuration that EN checks (R755). -/
def ChCfg.ok (g : ChCfg) : Bool :=
  1 ≤ g.sizeLog2 && g.sizeLog2 ≤ 8 && g.slotCode ≤ 4 && g.rxBase % g.slotBytes == 0 && g.txBase % g.slotBytes == 0
    && (!g.mcast || g.node < 64)

/-- The address of slot i of a ring (R755). -/
def ChCfg.slotAt (g : ChCfg) (base i : Nat) : Nat := (base + g.slotBytes * (i % g.slots)) % 2 ^ 24

/-- Free slots of the RX ring. -/
def LChan.free (x : LChan) : Nat := x.cfg.slots - idxDiff x.rxProd x.rxCons

/-- CH_STATUS (Table 15.12). -/
def ChStat.word (s : ChStat) : Nat := bitsToNat [s.stalled, s.peerClosed, s.unreachable, s.mapErr, s.poisonRx, s.opened]

/-- A CTRL packet from a channel to its remote. -/
def ctrlPkt (c : Chip) (g : ChCfg) (b : LinkBody) : LinkPkt :=
  { vc := if g.bulk then 3 else 2, dest := g.node, src := c.link.node.id, chan := g.rchan, typ := 7, first := true, last := true, body := b }

/-- Sends a CTRL packet from a unicast channel to its remote. -/
def sendCtrl (g : ChCfg) (b : LinkBody) (c : Chip) : Chip := if g.mcast then c else sendPkt (ctrlPkt c g b) none c

/-- Messages of a channel on their way no longer count for its ring. -/
def forgetMsgs (ch : Nat) (c : Chip) : Chip :=
  let cut (k : LinkPkt) : LinkPkt := if k.done = .message ch then { k with done := .none } else k
  modLink (fun l => { l with ports := l.ports.map fun p =>
    { p with hop := { p.hop with replay := p.hop.replay.map cut, q := p.hop.q.map (·.map cut) } } }) c

/-- Writes EN 1 (R757): the check of R755, the indices, and OPEN with the free slots. A configuration that fails leaves EN 0. -/
def openChan (ch : Nat) (c : Chip) : Chip :=
  let x := linkChan c ch
  if x.cfg.en || !x.cfg.ok || isPegged c 0x0A ch then c
  else
    let known := !x.cfg.mcast && x.annFrom == some x.cfg.node
    let x' : LChan :=
      { cfg := { x.cfg with en := true }, st := { opened := known }, credits := if known then x.credits else 0, annFrom := x.annFrom,
        dropped := x.dropped }
    sendCtrl x'.cfg (.opens x'.cfg.slots) (modChan ch (fun _ => x') (forgetMsgs ch c))

/-- A packet of a channel's own data. -/
def ownData (c : Chip) (g : ChCfg) (k : LinkPkt) : Bool :=
  k.typ == 0 && k.src == c.link.node.id && k.dest == g.node && k.chan == g.rchan && (k.kind == 1) == g.mcast

/-- Takes a channel's data from a port's queues; EAB ends a message of which a part has gone out (R772). -/
def purgePort (g : ChCfg) (q : Nat) (c : Chip) : Chip :=
  let mine := (linkPort c q).hop.q.toList.flatten.filter (ownData c g)
  match mine with
  | [] => c
  | k :: _ =>
    let c := modHop q (fun h => { h with q := h.q.map (·.filter fun k => !ownData c g k) }) c
    if k.first then c else putLine q .eab c

/-- A channel is closed (R762): it stops sending, and its remote is told. -/
def closeChan (ch : Nat) (c : Chip) : Chip :=
  let x := linkChan c ch
  if !x.cfg.en then c
  else
    let c := (List.range 4).foldl (fun c q => purgePort x.cfg q c) c
    let c := modChan ch (fun x => { x with cfg := { x.cfg with en := false }, st := { x.st with opened := false }, wait := none }) (forgetMsgs ch c)
    sendCtrl x.cfg .close c

/-- A ring access refused by the map: MAP, lint 0x0F11, and the channel is closed. -/
def chanMapFault (ch : Nat) (c : Chip) : Chip :=
  closeChan ch (lint 0x0F11 (chanUnit ch) 0xFF 1 (modChSt ch (fun s => { s with mapErr := true }) c))

/-- Announces the free slots (R757). -/
def announce (ch : Nat) (c : Chip) : Chip :=
  let x := linkChan c ch
  sendCtrl x.cfg (.credit x.free) (modChan ch (fun x => { x with annCons := x.rxCons }) c)

/-- A write of RX_CONS: a quarter of the slots freed since the last announcement is announced (R757). -/
def writeRxCons (ch v : Nat) (c : Chip) : Chip :=
  let c := modChan ch (fun x => { x with rxCons := v % 65536 }) c
  let x := linkChan c ch
  if x.cfg.en && decide (max 1 (x.cfg.slots / 4) ≤ idxDiff x.rxCons x.annCons) then announce ch c else c

/-- CREDIT_ANNOUNCE_TIMER: at least every 1 ms while RX_CONS has advanced. -/
def announceTimer (ch : Nat) (c : Chip) : Chip :=
  let x := linkChan c ch
  if x.cfg.en && x.rxCons != x.annCons then announce ch c else c

/-- CREDIT_ANNOUNCE_TIMER. -/
def execCreditAnnounceTimer (ch : LinkChanId) (s : State) : Out := onLink (announceTimer ch.val) s

/-- Whether the head of the TX ring waits, and since when (R760, R762). -/
def noteWait (ch : Nat) (c : Chip) : Chip :=
  modChan ch (fun x =>
    let waits := x.cfg.en && !x.cfg.mcast && x.txNext != x.txProd && (x.credits == 0 || x.st.unreachable)
    { x with wait := if waits then some (x.wait.getD c.clk.qtime) else none }) c

/-- A write of TX_PROD, the doorbell. -/
def writeTxProd (ch v : Nat) (c : Chip) : Chip := noteWait ch (modChan ch (fun x => { x with txProd := v % 65536 }) c)

/-- Skips the message at the head (R761). -/
def skipMsg (ch : Nat) (c : Chip) : Chip :=
  c |> modChan ch (fun x => LChan.retire { x with txNext := (x.txNext + 1) % 65536, txOut := x.txOut ++ [true], dropped := satAdd 0xFFFF x.dropped 1 })
    |> lint 0x0F11 (chanUnit ch) 0xFF 0 |> noteWait ch

/-- The packets of a message (R758, R761). -/
def msgPkts (g : ChCfg) (own ch : Nat) (bs : List PByte) : List LinkPkt :=
  let ps := parts64 16 bs
  (List.range ps.length).map fun i =>
    let b := ps.getD i []
    let last := i + 1 == ps.length
    { vc := if g.bulk then 3 else 2, kind := b2n g.mcast, poison := anyPoison b, first := i == 0, last := last, dest := g.node, src := own,
      chan := g.rchan, typ := 0, body := .data (plain b), done := if last then .message ch else .none }

/-- Sends one packet of a channel, or all copies of a multicast one; a multicast packet reaches a member at its own node too (R743). -/
def sendData (g : ChCfg) (c : Chip) (k : LinkPkt) : Chip :=
  if !g.mcast then sendPkt k none c
  else
    let (went, c) := spreadPkt k none c
    let c := if went then c else acked k c
    if c.link.node.groups.getLsbD g.node then
      match k.body with
      | .data bs => takePart 4 k bs c
      | _ => c
    else c

/-- LINK_MESSAGE_SEND (R758, R759, R761): the message at the head of the TX ring is sent when a credit is held; a multicast channel
needs none. -/
def sendMessage (ch : Nat) (c : Chip) : Chip :=
  let x := linkChan c ch
  let g := x.cfg
  let p := ownerOf c .link ch
  let a := g.slotAt g.txBase x.txNext
  if !g.en ∨ x.txNext = x.txProd then c
  else if !g.mcast ∧ x.credits = 0 then noteWait ch c
  else if !g.mcast && (routeOf c g.node false none == .lost) then noteWait ch (modChSt ch (fun s => { s with unreachable := true }) c)
  else if !kRangeOk c p .r a 16 then chanMapFault ch c
  else
    let (hd, c) := readK p a 16 c
    let len := leNat (plain (hd.take 2))
    if anyPoison (hd.take 2) ∨ g.slotBytes - 16 < len then skipMsg ch c
    else if !kRangeOk c p .r ((a + 16) % 2 ^ 24) len then chanMapFault ch c
    else
      let (bs, c) := readK p ((a + 16) % 2 ^ 24) len c
      let c := modChan ch (fun x => { x with txNext := (x.txNext + 1) % 65536, txOut := x.txOut ++ [false], wait := none,
                                             credits := if g.mcast then x.credits else x.credits - 1 }) c
      noteWait ch ((msgPkts g c.link.node.id ch bs).foldl (sendData g) c)

/-- LINK_MESSAGE_SEND. -/
def execLinkMessageSend (ch : LinkChanId) (s : State) : Out := onLink (sendMessage ch.val) s

/-- CHANNEL_STALL_TIMEOUT (R760): 100 ms at the head without credits drop the whole TX ring. -/
def stallTimeout (ch : Nat) (c : Chip) : Chip :=
  match (linkChan c ch).wait with
  | none => c
  | some t =>
    let c := forgetMsgs ch (atTime (t + 2400000) c)
    let c := modChan ch (fun x => { x with dropped := satAdd 0xFFFF x.dropped (idxDiff x.txProd x.txCons), txCons := x.txProd, txNext := x.txProd,
                                           txOut := [], wait := none, st := { x.st with stalled := true } }) c
    sendCtrl (linkChan c ch).cfg (.nak .stalled) (lint 0x0F0C (chanUnit ch) 0xFF 0 c)

/-- CHANNEL_STALL_TIMEOUT. -/
def execChannelStallTimeout (ch : LinkChanId) (s : State) : Out := onLink (stallTimeout ch.val) s

/-- The header of an RX slot (R756). -/
def rxHeader (len src chan : Nat) (poison : Bool) (frame : Nat) : List Byte :=
  leBytes 2 len ++ leBytes 2 src ++ leBytes 1 chan ++ leBytes 1 (b2n poison) ++ leBytes 2 0 ++ leBytes 4 frame ++ leBytes 4 0

/-- Writes a slot of the RX ring and advances RX_PROD; a refused range closes the channel. -/
def putRx (ch : Nat) (hd : List Byte) (body : List PByte) (c : Chip) : Chip :=
  let x := linkChan c ch
  let p := ownerOf c .link ch
  let a := x.cfg.slotAt x.cfg.rxBase x.rxProd
  if !kRangeOk c p .w a (16 + body.length) then chanMapFault ch c
  else modChan ch (fun x => { x with rxProd := (x.rxProd + 1) % 65536 }) (writeK p a (clean hd ++ body) c)

/-- A message dropped for want of room is counted. -/
def countDrop (ch : Nat) (c : Chip) : Chip := modChan ch (fun x => { x with dropped := satAdd 0xFFFF x.dropped 1 }) c

/-- A NAK answers a message. -/
def nakMsg (m : RxMsg) (why : NakWhy) (c : Chip) : Chip :=
  sendPkt { vc := 2, dest := m.src, src := c.link.node.id, chan := m.chan, typ := 7, first := true, last := true, body := .nak why } none c

/-- The oldest whole message is written into its channel's RX ring (R758, R759, R761, R762; kinds 13 and 14 of Table 15.9). -/
def takeMessage (m : RxMsg) (c : Chip) : Chip :=
  let x := linkChan c m.chan
  let bad := anyPoison m.bytes
  match m.group with
  | none =>
    if !x.cfg.en ∨ x.cfg.mcast ∨ x.cfg.node ≠ m.src then nakMsg m .closed (lintKind m.port 13 c)
    else if x.free = 0 then nakMsg m .stalled (lintKind m.port 14 c)
    else if x.cfg.slotBytes - 16 < m.bytes.length then lintKind m.port 15 c
    else
      let c := if bad then modChSt m.chan (fun s => { s with poisonRx := true }) c else c
      putRx m.chan (rxHeader m.bytes.length m.src x.cfg.rchan bad c.beam.frame) m.bytes c
  | some g =>
    if !x.cfg.en ∨ !x.cfg.mcast ∨ x.cfg.node ≠ g then c
    else if x.free = 0 then
      let c := countDrop m.chan c
      match x.dropLog with
      | some t => if c.clk.qtime < t + 24000000 then c
        else lint 0x0F10 (chanUnit m.chan) 0xFF 0 (modChan m.chan (fun x => { x with dropLog := some c.clk.qtime }) c)
      | none => lint 0x0F10 (chanUnit m.chan) 0xFF 0 (modChan m.chan (fun x => { x with dropLog := some c.clk.qtime }) c)
    else if x.cfg.slotBytes - 16 < m.bytes.length then lintKind m.port 15 c
    else
      let c := if bad then modChSt m.chan (fun s => { s with poisonRx := true }) c else c
      putRx m.chan (rxHeader m.bytes.length m.src x.cfg.rchan bad c.beam.frame) m.bytes c

/-- DATA_RECEIVE. -/
def dataReceive (c : Chip) : Chip :=
  match c.link.msgs with
  | [] => c
  | m :: rest => takeMessage m (modLink (fun l => { l with msgs := rest }) c)

/-- DATA_RECEIVE. -/
def execDataReceive (s : State) : Out := onLink dataReceive s

/-- A channel of this node is bound to a node, or is closed: its announcements are kept for its next opening. -/
def hears (x : LChan) (node : Nat) : Bool := !x.cfg.en || (!x.cfg.mcast && x.cfg.node == node)

/-- CTRL_OPEN and CTRL_CREDIT (R757): the free slots of the remote are the channel's credits. -/
def ctrlCredits (node ch free : Nat) (c : Chip) : Chip :=
  let c := takeInbox 7 c
  let x := linkChan c ch
  if !hears x node then c
  else noteWait ch (modChan ch (fun x => { x with credits := free, annFrom := some node }) c)

/-- CTRL_OPEN. -/
def ctrlOpen (node ch free : Nat) (c : Chip) : Chip :=
  let c := ctrlCredits node ch free c
  let x := linkChan c ch
  if x.cfg.en ∧ !x.cfg.mcast ∧ x.cfg.node = node then modChSt ch (fun s => { s with opened := true }) c else c

/-- CTRL_OPEN. -/
def execCtrlOpen (node : Word) (ch : LinkChanId) (free : Fin 257) (s : State) : Out := onLink (ctrlOpen node.toNat ch.val free.val) s

/-- CTRL_CREDIT. -/
def execCtrlCredit (node : Word) (ch : LinkChanId) (free : Fin 257) (s : State) : Out := onLink (ctrlCredits node.toNat ch.val free.val) s

/-- CTRL_CLOSE (R762): PEER_CLOSED, and CREDITS 0. -/
def ctrlClose (node ch : Nat) (c : Chip) : Chip :=
  let c := takeInbox 7 c
  let x := linkChan c ch
  if !hears x node then c
  else
    noteWait ch (modChan ch (fun x =>
      { x with credits := 0, annFrom := none,
               st := if x.cfg.en then { x.st with peerClosed := true, opened := false } else x.st }) c)

/-- CTRL_CLOSE. -/
def execCtrlClose (node : Word) (ch : LinkChanId) (s : State) : Out := onLink (ctrlClose node.toNat ch.val) s

/-- What an operand of CTRL_NAK says, in the model's terms. -/
def nakOf : NakCause → NakWhy
  | .unreachable => .unreachable
  | .stalled => .stalled
  | .closed => .closed
  | .denied => .denied
  | .integrity => .integrity

/-- CTRL_NAK. -/
def ctrlNak (about : NakFor) (why : NakWhy) (c : Chip) : Chip :=
  let c := takeInbox 7 c
  match about with
  | .channel ch => noteWait ch.val (takeNak (.chan ch.val) why c)
  | .block node x => takeNak (.block node.toNat x.val) why c
  | .remote node => takeNak (.remote node.toNat) why c

/-- CTRL_NAK. -/
def execCtrlNak (about : NakFor) (why : NakCause) (s : State) : Out := onLink (ctrlNak about (nakOf why)) s

/-! ### Exports and block transfers (R763 to R765) -/

/-- Export x. -/
def exportOf (c : Chip) (x : Nat) : Option Export := c.link.exports.toList.getD x none

/-- An export lets a node, or a transfer to a group, write it (R763). -/
def Export.lets (e : Export) (node : Nat) (group : Option Nat) : Bool :=
  if 32768 ≤ e.allow then group == some (e.allow % 64) else group.isNone && e.allow == node

/-- An answer to a block transfer goes back to its source; a transfer to a group is not answered. -/
def answerBlockTx (node : Nat) (group : Option Nat) (x : Nat) (b : LinkBody) (c : Chip) : Chip :=
  if group.isSome then c
  else sendPkt { vc := 3, dest := node, src := c.link.node.id, chan := x, typ := 7, first := true, last := true, body := b } none c

/-- A transfer is refused (kind 16): NAK DENIED. -/
def refuseBlock (node : Nat) (group : Option Nat) (x : Nat) (c : Chip) : Chip :=
  let c := modLink (fun l => { l with rxBlocks := l.rxBlocks.filter fun r => ¬(r.node = node ∧ r.x = x) }) c
  answerBlockTx node group x (.nak .denied) (lint 0x0F05 nodeUnit 0xFF 16 c)

/-- The notice of a transfer, placed in the notified channel's RX ring (R764). -/
def putNotice (ch node x off len : Nat) (c : Chip) : Chip :=
  let h := linkChan c ch
  if !h.cfg.en then c
  else if h.free = 0 then countDrop ch c
  else putRx ch (leBytes 2 0 ++ leBytes 2 node ++ leBytes 1 x ++ leBytes 3 0 ++ leBytes 4 off ++ leBytes 4 len) [] c

/-- A transfer ends (R764): BLOCK_OK and the notice, or the whole range poisoned, NAK INTEGRITY and lint 0x0F0F. -/
def endTransfer (e : Export) (r : RxBlock) (group : Option Nat) (crc : Nat) (c : Chip) : Chip :=
  let c := modLink (fun l => { l with rxBlocks := l.rxBlocks.filter fun t => ¬(t.node = r.node ∧ t.x = r.x) }) c
  if r.got = r.len ∧ crc32 r.data = crc then
    let c := match e.notify with | some ch => putNotice ch r.node r.x r.off r.len c | none => c
    answerBlockTx r.node group r.x .blockOk c
  else
    let c := writeK e.part ((e.base + r.off) % 2 ^ 24) (List.replicate r.len (0, true)) c
    answerBlockTx r.node group r.x (.nak .integrity) (lint 0x0F0F nodeUnit 0xFF r.x c)

/-- BLOCK_RECEIVE (R763, R764): the first packet brings offset and length, the last the CRC-32. -/
def blockReceive (node : Nat) (group : Option Nat) (x : Nat) (first : Option (Nat × Nat)) (last : Option Nat) (data : List Byte) (poison : Bool)
    (c : Chip) : Chip :=
  let c := takeInbox 4 c
  let same (r : RxBlock) : Bool := r.node == node && r.x == x
  match exportOf c x with
  | none => refuseBlock node group x c
  | some e =>
    let begun : Option RxBlock := match first with
      | some (off, len) => some { node := node, x := x, off := off, len := len }
      | none => c.link.rxBlocks.find? same
    match begun with
    | none => c
    | some r =>
      let at' := (e.base + r.off + r.got) % 2 ^ 24
      if !e.lets node group ∨ e.len < r.off + r.len ∨ !kRangeOk c e.part .w ((e.base + r.off) % 2 ^ 24) r.len ∨ r.len < r.got + data.length then
        refuseBlock node group x c
      else
        let c := writeK e.part at' (data.map fun b => (b, poison)) c
        let r := { r with got := r.got + data.length, data := r.data ++ data, poison := r.poison || poison }
        match last with
        | some crc => endTransfer e r group crc c
        | none => modLink (fun l => { l with rxBlocks := l.rxBlocks.filter (fun t => !same t) ++ [r] }) c

/-- BLOCK_RECEIVE. -/
def execBlockReceive (node : Word) (group : Option (Fin 64)) (x : Fin 8) (first : Option (Long × Long)) (last : Option Long) (data : List Byte)
    (poison : Bool) (s : State) : Out :=
  onLink (blockReceive node.toNat (group.map (·.val)) x.val (first.map fun f => (f.1.toNat, f.2.toNat)) (last.map (·.toNat)) data poison) s

/-- BLOCK_OK_RECEIVE (R765). -/
def blockOk (node x : Nat) (c : Chip) : Chip := endBlock node x .ok (takeInbox 7 c)

/-- BLOCK_OK_RECEIVE. -/
def execBlockOkReceive (node : Word) (x : Fin 8) (s : State) : Out := onLink (blockOk node.toNat x.val) s

/-- BLOCK_TIMEOUT (R765): no answer within 1 s. -/
def blockTimeout (c : Chip) : Chip :=
  match c.link.blocks with
  | [] => c
  | b :: rest => finish b.handle .timeout 0 0 (modLink (fun l => { l with blocks := rest }) (atTime (b.since + 24000000) c))

/-- BLOCK_TIMEOUT. -/
def execBlockTimeout (s : State) : Out := onLink blockTimeout s

/-! ### Remote mailboxes (R245, R250, R766, R767) -/

/-- Opcodes whose origins need consent (R253). -/
def needsConsent (op : Nat) : Bool := match Config.opRow op with
  | some r => r.origin == .p0plus || r.origin == .p0plusGuest
  | none => false

/-- MGMT_RECEIVE: a command record joins those that wait on the link path (R245); kinds 11 and 12 of Table 15.9. `authentic` says
that every hop from the node was joined through authentication (R769). -/
def mgmtReceive (q node : Nat) (rec' : List Byte) (poison authentic : Bool) (c : Chip) : Chip :=
  let c := takeInbox 3 c
  if !isJoined c q then c
  else
    let auth := authentic && (linkPort c q).authed
    let c := modNode (fun n => { n with authNodes := if auth then (if n.authNodes.contains node then n.authNodes else node :: n.authNodes)
                                          else n.authNodes.filter (· != node) }) c
    let c := if !auth && needsConsent (pfield rec' 0 2) then lintKind q 11 c else c
    let c := if 8 ≤ inFlight c (.link node) + (c.linkRecs.filter (·.node == node)).length then lintKind q 12 c else c
    { c with linkRecs := c.linkRecs ++ [{ node := node, bytes := rec'.map fun b => (b, poison) }] }

/-- MGMT_RECEIVE. -/
def execMgmtReceive (q : LinkPortId) (node : Word) (record : BitVec 256) (poison authentic : Bool) (s : State) : Out :=
  onLink (mgmtReceive q.val node.toNat (leBytes 32 record.toNat) poison authentic) s

/-- LINK_DATA_CHUNK: 1 to 60 bytes for a command of the node (R250). -/
def linkChunk (node handle : Nat) (bs : List Byte) (poison : Bool) (c : Chip) : Chip :=
  let c := takeInbox 3 c
  if bs.isEmpty ∨ 60 < bs.length then lintBlock 0x040C 7 0 c
  else (takeChunk (.link node) handle (bs.map fun b => (b, poison)) c).2

/-- LINK_DATA_CHUNK. -/
def execLinkDataChunk (node : Word) (handle : Long) (data : List Byte) (poison : Bool) (s : State) : Out :=
  onLink (linkChunk node.toNat handle.toNat data poison) s

/-- The status that a code of Table 04.6 names; any other counts as HW_FAULT (R218). -/
def statusOf (n : Nat) : Status :=
  ([.ok, .partialDone, .cancelled, .cancelledBeforeStart, .restarted, .busy, .absent, .malformed, .unknownOp, .denied, .badParam, .badState,
    .stale, .inUse, .overBudget, .notFound, .notCancellable, .fenced, .poisoned, .integrity, .lost, .noMedia, .timeout, .unreachable, .stalled,
    .verifyFailed, .authFailed].find? fun st => Status.code st == n).getD .hwFault

/-- The data of a remote command in chunks of up to 60 bytes (R250). -/
def chunks60 : Nat → List PByte → List (List PByte)
  | 0, _ => []
  | n + 1, bs => if bs.isEmpty then [] else bs.take 60 :: chunks60 n (bs.drop 60)

/-- Changes the first LNK.REMOTE that equals one. -/
def setRemote (old new : RemoteOp) (c : Chip) : Chip :=
  modLink (fun l => { l with remotes := modFirst (· == old) (fun _ => new) l.remotes }) c

/-- The remote has accepted the record: the data follow, if there are any; a rejection ends the command (R766). -/
def remoteAccepted (r : RemoteOp) (word : Nat) (c : Chip) : Chip :=
  if word / 2 ^ 29 = 0 then
    finish r.handle (statusOf (word % 65536)) 0 word (modLink (fun l => { l with remotes := delFirst (· == r) l.remotes }) c)
  else
    let c := setRemote r { r with accepted := some word } c
    if r.dlen = 0 then c
    else
      let (bs, c) := readK r.part r.dsrc r.dlen c
      (chunks60 (r.dlen / 60 + 1) bs).foldl (fun c b =>
        sendPkt { mgmtPkt c r.node 31 (.chunk word (plain b)) with poison := anyPoison b } none c) c

/-- The remote has completed: its result block goes to DEST, then the command completes (R766). -/
def remoteDone (r : RemoteOp) (st info result : Nat) (c : Chip) : Chip :=
  let c := modLink (fun l => { l with remotes := delFirst (· == r) l.remotes }) c
  if r.block.isEmpty ∨ r.dest = 0 then finish r.handle (statusOf st) info result c
  else if !kRangeOk c r.part .w r.dest r.block.length then finish r.handle .denied 0 0 c
  else finish r.handle (statusOf st) info result (writeK r.part r.dest (clean r.block) c)

/-- REMOTE_ANSWER_RECEIVE (R766): an answer that belongs to no LNK.REMOTE is discarded. -/
def remoteAnswer (node : Nat) (a : RemoteAnswer) (c : Chip) : Chip :=
  let c := takeInbox 3 c
  let open' (h : Nat) : Option RemoteOp := c.link.remotes.find? fun r => r.node == node && r.accepted == some h
  match a with
  | .accepted w => match c.link.remotes.find? fun r => r.node == node && r.accepted.isNone with
    | some r => remoteAccepted r w.toNat c
    | none => c
  | .result h bs => match open' h.toNat with
    | some r => setRemote r { r with block := (r.block ++ bs).take 1024 } c
    | none => c
  | .completed h st info res => match open' h.toNat with
    | some r => remoteDone r st.toNat info.toNat res.toNat c
    | none => c

/-- REMOTE_ANSWER_RECEIVE. -/
def execRemoteAnswerReceive (node : Word) (answer : RemoteAnswer) (s : State) : Out := onLink (remoteAnswer node.toNat answer) s

/-- The LNK.REMOTE whose time ends first. -/
def firstRemote (l : List RemoteOp) : Option RemoteOp :=
  l.foldl (fun b r => match b with | some x => if r.ends < x.ends then some r else some x | none => some r) none

/-- REMOTE_TIMEOUT (R766). -/
def remoteTimeout (c : Chip) : Chip :=
  match firstRemote c.link.remotes with
  | none => c
  | some r => finish r.handle .timeout 0 0 (modLink (fun l => { l with remotes := delFirst (· == r) l.remotes }) (atTime r.ends c))

/-- REMOTE_TIMEOUT. -/
def execRemoteTimeout (s : State) : Out := onLink remoteTimeout s

/-- A LNK.REMOTE that is cancelled ends its local wait; the remote command runs on (R767). -/
def dropRemote (h : Long) (c : Chip) : Chip :=
  modLink (fun l => { l with remotes := l.remotes.filter fun r => r.handle != some h }) c

/-! ### The link commands (R776, Table 15.11) -/

/-- LNK.STATUS. -/
def lnkStatus (m : Cmd) (c : Chip) : Reply × Chip :=
  let n := c.link.node
  let q := m.b 8
  if q = 0xFF then
    let hops := match n.best with | some a => if n.root then 0 else a.hops | none => 0
    (.res (c.link.align.st.code + 4 * b2n n.root + 8 * b2n n.enumerated + 16 * hops) (n.id + 65536 * n.rootId.getD 0), c)
  else if 3 < q then (.fail .badParam, c)
  else
    let p := linkPort c q
    let retr := (p.hop.retrTimes.filter (c.clk.qtime < · + 24000000)).length
    (.res (min 65535 retr) (p.st.code + 16 * p.rate + 65536 * p.nbr.getD 0), c)

/-- LNK.STATUS. -/
def execLnkStatus (r : Req) (s : State) : Out := onChip (serve 0x0F01 r lnkStatus) s

/-- A joined or training port leaves by command (R770). -/
def leavePort (q : Nat) (c : Chip) : Chip :=
  if (linkPort c q).st = .down then c else portDown q 2 (putLine q (.lcw 0x05 2 0) c)

/-- A new configuration takes effect (R725, R734, R735, R737): another mode makes every port train anew and the node ask for its place
again; disabled ports leave; a mismatch ends when the modes become equal. -/
def applyLinkCfg (g : LinkCfg) (c : Chip) : Chip :=
  let old := c.link.node.cfg
  let c := if old.mode ≠ g.mode then (List.range 4).foldl (fun c q => if (linkPort c q).st = .mismatch then c else leavePort q c) c
    else (List.range 4).foldl (fun c q => if g.ports.getLsbD q then c else leavePort q c) c
  let c := (List.range 4).foldl (fun c q =>
    if (linkPort c q).st = .mismatch ∧ (linkPort c q).tr.peerMode = g.mode then modLPort q (fun p => { p with st := .down }) c else c) c
  let fresh := !old.on || old.mode != g.mode
  let c := modNode (fun n =>
    if fresh then { n with cfg := g, root := false, enumerated := false, best := none, parent := none, routes := [], rootId := none,
                           lastBetter := c.clk.qtime }
    else { n with cfg := g }) c
  if fresh then c
  else
    let c := elect c
    if c.link.node.root && g.mode == 3 && old.gridOrigin != g.gridOrigin then
      offerId (modNode (fun n => { n with id := g.gridOrigin, rootId := some g.gridOrigin }) c)
    else c

/-- The configuration that LNK.CONFIG names. -/
def Cmd.linkCfg (m : Cmd) : LinkCfg :=
  { on := true, mode := bits (m.b 8) 1 0, authReq := bit (m.b 8) 2, rateMax := m.b 9, rootPri := m.b 10, ports := BitVec.ofNat 4 (m.b 11),
    gridOrigin := m.f 12 2, beatLag := m.b 14 }

/-- LNK.CONFIG. -/
def lnkConfig (m : Cmd) (c : Chip) : Reply × Chip :=
  checked [chk (8 ≤ m.b 8 || m.b 9 == 0 || 3 < m.b 9 || 16 ≤ m.b 11 || m.b 14 == 0 || 8 < m.b 14) .badParam]
    (fun c => (.ok, applyLinkCfg m.linkCfg c)) c

/-- LNK.CONFIG. -/
def execLnkConfig (r : Req) (s : State) : Out := onLink (serve 0x0F10 r lnkConfig) s

/-- The partition of a partition's command. -/
def Cmd.pno (m : Cmd) : Nat := (m.org.partNo).getD 0

/-- The settings that LNK.CHANNEL names. -/
def Cmd.chanCfg (m : Cmd) : ChCfg :=
  { bulk := bit (m.b 9) 1, mcast := bit (m.b 9) 2, node := m.f 10 2, rchan := m.b 12, sizeLog2 := bits (m.b 13) 3 0,
    slotCode := bits (m.b 13) 7 4, rxBase := m.f 16 4, txBase := m.f 20 4 }

/-- LNK.CHANNEL: the settings of a channel, and EN. -/
def lnkChannel (m : Cmd) (c : Chip) : Reply × Chip :=
  let ctrl := m.b 9
  let g := m.chanCfg
  match windowUnit c m.pno .link (m.b 8) with
  | none => (.fail .badParam, c)
  | some ch =>
    checked [chk (8 ≤ ctrl || 32 ≤ m.b 12 || !m.z 14 2 || !g.ok || 2 ^ 24 ≤ g.rxBase || 2 ^ 24 ≤ g.txBase) .badParam,
             chk (isPegged c 0x0A ch) .fenced, chk (bit ctrl 0 && (linkChan c ch).cfg.en) .badState]
      (fun c =>
        let c := modChan ch (fun x => { x with cfg := g }) (closeChan ch c)
        (.ok, if bit ctrl 0 then openChan ch c else c)) c

/-- LNK.CHANNEL. -/
def execLnkChannel (r : Req) (s : State) : Out := onLink (serve 0x0F11 r lnkChannel) s

/-- LNK.GROUP: every node is a member of group 0. -/
def lnkGroup (m : Cmd) (c : Chip) : Reply × Chip := (.ok, modNode (fun n => { n with groups := BitVec.ofNat 64 (m.f 8 8) ||| 1 }) c)

/-- LNK.GROUP. -/
def execLnkGroup (r : Req) (s : State) : Out := onLink (serve 0x0F12 r lnkGroup) s

/-- LNK.REMOTE (R766). -/
def lnkRemote (m : Cmd) (c : Chip) : Reply × Chip :=
  let node := m.f 8 2
  let dsrc := m.f 48 4
  let dlen := m.f 52 4
  checked [chk (2 ^ 24 ≤ m.f 12 4 || m.f 10 2 == 0 || 2 ^ 24 ≤ dsrc || 458752 < dlen) .badParam,
           chk (0 < dlen && !kRangeOk c m.pno .r dsrc dlen) .denied,
           chk (routeOf c node false none == .lost) .unreachable]
    (fun c =>
      let r : RemoteOp := { handle := m.waitHandle, part := m.pno, node := node, dest := m.f 12 4, dsrc := dsrc, dlen := dlen,
                            ends := c.clk.qtime + m.f 10 2 * 240000 }
      let c := modLink (fun l => { l with remotes := l.remotes ++ [r] }) c
      (.wait, sendPkt (mgmtPkt c node 0 (.record (clean (pslice m.params 8 32)))) none c)) c

/-- LNK.REMOTE. -/
def execLnkRemote (r : Req) (s : State) : Out := onLink (serve 0x0F20 r lnkRemote) s

/-- LNK.EXPORT (R763). -/
def lnkExport (m : Cmd) (c : Chip) : Reply × Chip :=
  let x := m.b 8 % 8
  let notify := m.b 9
  let ch := windowUnit c m.pno .link (notify % 32)
  let remove := bit (m.b 8) 7
  let held := match exportOf c x with | some e => e.part != m.pno | none => false
  checked [chk (bits (m.b 8) 6 3 != 0 || (!remove && (bits notify 6 5 != 0 || (bit notify 7 && ch.isNone) || 2 ^ 24 ≤ m.f 12 4 || m.f 16 4 == 0
                  || 2 ^ 24 < m.f 16 4 || (bit (m.f 10 2) 15 && 32768 + 63 < m.f 10 2)))) .badParam,
           chk held .inUse]
    (fun c =>
      let e : Option Export := if remove then none
        else some { part := m.pno, allow := m.f 10 2, notify := if bit notify 7 then ch else none, base := m.f 12 4, len := m.f 16 4 }
      (.ok, modLink (fun l => { l with exports := vset l.exports x e }) c)) c

/-- LNK.EXPORT. -/
def execLnkExport (r : Req) (s : State) : Out := onLink (serve 0x0F21 r lnkExport) s

/-- The packets of a block transfer (R763): offset and length, the data, the CRC-32. -/
def blockPkts (own dest : Nat) (x off : Nat) (h : Option Long) (bs : List PByte) : List LinkPkt :=
  let group := bit dest 15
  let k : LinkPkt := { vc := 3, kind := b2n group, dest := if group then dest % 64 else dest, src := own, chan := x, typ := 4 }
  [{ k with first := true, body := .blockFirst off bs.length }]
    ++ (parts64 1024 bs).map (fun b => { k with poison := anyPoison b, body := .data (plain b) })
    ++ [{ k with last := true, body := .blockLast (crc32 (plain bs)), done := if group then .blockGroup h else .none }]

/-- LNK.BLOCK (R765). -/
def lnkBlock (m : Cmd) (c : Chip) : Reply × Chip :=
  let dest := m.f 8 2
  let group := bit dest 15
  let len := m.f 20 4
  checked [chk (8 ≤ m.b 10 || !m.z 11 1 || 2 ^ 24 ≤ m.f 12 4 || len == 0 || 65536 < len || (group && 32768 + 63 < dest)) .badParam,
           chk (!kRangeOk c m.pno .r (m.f 12 4) len) .denied,
           chk (!group && (routeOf c dest false none == .lost)) .unreachable]
    (fun c =>
      let (bs, c) := readK m.pno (m.f 12 4) len c
      let pk := blockPkts c.link.node.id dest (m.b 10) (m.f 16 4) m.waitHandle bs
      if group then
        if (treePorts c).isEmpty then (.ok, c) else (.wait, pk.foldl (fun c k => (spreadPkt k none c).2) c)
      else
        let c := modLink (fun l => { l with blocks := l.blocks ++ [{ handle := m.waitHandle, node := dest, x := m.b 10, since := c.clk.qtime }] }) c
        (.wait, pk.foldl (fun c k => sendPkt k none c) c)) c

/-- LNK.BLOCK. -/
def execLnkBlock (r : Req) (s : State) : Out := onLink (serve 0x0F22 r lnkBlock) s

/-- LNK.BEAT_TX (R753): at a node that is not root BAD_STATE. -/
def lnkBeatTx (m : Cmd) (c : Chip) : Reply × Chip :=
  checked [chk (32 < m.b 8 || !m.z 9 7) .badParam, chk (!c.link.node.root) .badState]
    (fun c => (.ok, modAlign (fun a => { a with tx := pslice m.params 8 (m.b 8) }) c)) c

/-- LNK.BEAT_TX. -/
def execLnkBeatTx (r : Req) (s : State) : Out := onLink (serve 0x0F23 r lnkBeatTx) s

/-- LNK.BEAT_RX (R754). -/
def lnkBeatRx (m : Cmd) (c : Chip) : Reply × Chip :=
  let d := m.f 8 4
  checked [chk (d != 0 && decide (d < 2 ^ 24) && !kRangeOk c m.pno .w d 64) .denied, chk (2 ^ 24 ≤ d || d % 64 != 0) .badParam]
    (fun c => (.ok, modAlign (fun a => { a with dest := vset a.dest m.pno (if d = 0 then none else some d) }) c)) c

/-- LNK.BEAT_RX. -/
def execLnkBeatRx (r : Req) (s : State) : Out := onLink (serve 0x0F24 r lnkBeatRx) s

/-! ### The link window (R777, Table 15.12) -/

/-- A register of a channel's block. -/
def LChan.read (x : LChan) (reg : Nat) : Nat :=
  let g := x.cfg
  match reg with
  | 0x00 => bitsToNat [g.en, g.bulk, g.mcast]
  | 0x02 => g.node
  | 0x04 => g.rchan
  | 0x06 => g.rxBase % 65536
  | 0x08 => g.rxBase / 65536
  | 0x0A => g.sizeLog2 + 16 * g.slotCode
  | 0x0C => x.rxProd
  | 0x0E => x.rxCons
  | 0x10 => g.txBase % 65536
  | 0x12 => g.txBase / 65536
  | 0x14 => x.txProd
  | 0x16 => x.txCons
  | 0x18 => x.st.word
  | 0x1A => x.credits
  | 0x1C => x.dropped
  | _ => 0

/-- A read of the link window at an offset from 0xA000. -/
def linkRead (p off : Nat) (c : Chip) : Nat × Chip :=
  let n := c.link.node
  let a := c.link.align
  if off < 0x800 then
    match windowUnit c p .link (off / 64) with
    | some ch => ((linkChan c ch).read (off % 64), c)
    | none => (0, c)
  else match off with
    | 0x800 => (n.id, c)
    | 0x802 => (n.rootId.getD 0, c)
    | 0x804 => (a.st.code + 4 * b2n n.root, setDet p 3 c)
    | 0x806 => (a.frameDelta % 65536, setDet p 3 c)
    | 0x808 => (a.frameDelta / 65536, setDet p 3 c)
    | 0x80A => (narrow 16 a.slew, setDet p 3 c)
    | _ => (0, c)

/-- A write of a binding or ring register, which is locked while EN is 1. -/
def ChCfg.write (g : ChCfg) (reg v : Nat) : ChCfg :=
  match reg with
  | 0x02 => { g with node := v }
  | 0x04 => { g with rchan := v % 32 }
  | 0x06 => { g with rxBase := setLo g.rxBase v }
  | 0x08 => { g with rxBase := setHi g.rxBase v }
  | 0x0A => { g with sizeLog2 := v % 16, slotCode := v / 16 % 16 }
  | 0x10 => { g with txBase := setLo g.txBase v }
  | 0x12 => { g with txBase := setHi g.txBase v }
  | _ => g

/-- A write of CH_CTRL (R757, R762). -/
def writeChCtrl (ch v : Nat) (c : Chip) : Chip :=
  let x := linkChan c ch
  if x.cfg.en then (if bit v 0 then c else closeChan ch c)
  else
    let c := modChan ch (fun x => { x with cfg := { x.cfg with bulk := bit v 1, mcast := bit v 2 } }) c
    if bit v 0 then openChan ch c else c

/-- A write of the link window by partition p. -/
def linkWrite (p off v : Nat) (c : Chip) : Chip :=
  if 0x800 ≤ off then c
  else match windowUnit c p .link (off / 64) with
    | none => c
    | some ch =>
      match off % 64 with
      | 0x00 => writeChCtrl ch v c
      | 0x0E => writeRxCons ch v c
      | 0x14 => writeTxProd ch v c
      | 0x18 => noteWait ch (modChSt ch (fun s =>
          { s with stalled := s.stalled && !bit v 0, peerClosed := s.peerClosed && !bit v 1, unreachable := s.unreachable && !bit v 2,
                   mapErr := s.mapErr && !bit v 3, poisonRx := s.poisonRx && !bit v 4 }) c)
      | reg => if (linkChan c ch).cfg.en then c else modChan ch (fun x => { x with cfg := x.cfg.write reg v }) c

/-- The LINK source of a channel is asserted (R758). -/
def linkLevel (c : Chip) (ch : Nat) : Bool := let x := linkChan c ch; x.rxProd != x.rxCons || x.st.word != 0

/-! ### Resets (R762, R774, R775, R820) -/

/-- A channel that is released, reset or unpegged: closed, its registers at their reset values. -/
def resetChan (ch : Nat) (c : Chip) : Chip := modChan ch (fun x => { annFrom := x.annFrom, credits := x.credits }) (closeChan ch c)

/-- A partition reset closes its channels, removes its exports and disables its beat record (R775). -/
def resetLinkOf (p : Nat) (c : Chip) : Chip :=
  let c := (ownedUnits c p .link).foldl (fun c ch => resetChan ch c) c
  c |> modLink (fun l => { l with exports := l.exports.map fun e => match e with | some x => if x.part = p then none else some x | none => none })
    |> modAlign (fun a => { a with dest := vset a.dest p none })

/-- A pegged link unit: a port is held DOWN, a channel is closed (Table 17.3). -/
def pegLinkUnit (kind i : Nat) (c : Chip) : Chip :=
  if kind = 5 then (if (linkPort c i).st = .down then c else portDrop i c) else if kind = 0x0A then closeChan i c else c

end Sys2Proof.Machine
end

