-- ==== Sys2Proof/Machine/Spool.lean ====
section
/-! DEFINITION. The Spool engine: descriptors, elements, stops, the channel window and its commands (chapter 09). -/

namespace Sys2Proof.Machine

/-- A channel. -/
def chOf (c : Chip) (i : Nat) : SpoolCh := c.spool.toList.getD i {}

/-- Changes a channel. -/
def modCh (i : Nat) (f : SpoolCh → SpoolCh) (c : Chip) : Chip := { c with spool := vset c.spool i (f (chOf c i)) }

/-- The stop causes of Table 09.4. -/
inductive Stop where
  | none | aborted | map | desc | descPoison | indexPoison | fenced
deriving DecidableEq, Repr

/-- The code of a stop cause (Table 09.4). -/
def Stop.code : Stop → Nat
  | .none => 0 | .aborted => 1 | .map => 2 | .desc => 3 | .descPoison => 4 | .indexPoison => 5 | .fenced => 6

/-! ### Descriptors (R477, R478) -/

/-- The operations of a descriptor. -/
inductive SpOp where
  | copy | fill | blit | gather | scatter
deriving DecidableEq, Repr

/-- A descriptor's fields (Table 09.2). -/
structure Desc where
  op : SpOp
  chain : Bool
  signal : Bool
  desc : Bool
  key : Bool
  /-- PSIZE, or ESIZE. -/
  size : Nat
  isize : Nat
  a : Nat
  b : Nat
  d : Nat
  len : Nat
  count : Nat
  width : Nat
  height : Nat
  srcStride : Int
  dstStride : Int
  pattern : List Byte
  keyMask : Nat
  keyVal : Nat
  next : Nat
deriving DecidableEq, Repr

/-- The operation codes. -/
def spOpOf : Nat → Option SpOp
  | 1 => some .copy
  | 2 => some .fill
  | 3 => some .blit
  | 4 => some .gather
  | 5 => some .scatter
  | _ => none

/-- The fields of 32 bytes under an operation. -/
def descFields (bs : List Byte) (o : SpOp) : Desc :=
  let fl := pbyte bs 1
  let pair := o == .gather || o == .scatter
  { op := o, chain := bit fl 0, signal := bit fl 1, desc := bit fl 2, key := bit fl 3,
    size := if pair then pbyte bs 2 % 16 else pbyte bs 2, isize := if pair then pbyte bs 2 / 16 else 0,
    a := pfield bs 4 4, b := pfield bs 8 4, d := pfield bs 12 4, len := pfield bs 16 4, count := pfield bs 16 2,
    width := pfield bs 16 2, height := pfield bs 18 2, srcStride := sext 16 (pfield bs 20 2), dstStride := sext 16 (pfield bs 22 2),
    pattern := pslice bs 20 8, keyMask := pfield bs 8 4, keyVal := pfield bs 24 4, next := pfield bs 28 4 }

/-- An address field: bits [31:24] are reserved. -/
def addrField (a : Nat) : Bool := decide (a < 2 ^ 24)

/-- Reserved fields and zero entries of Table 09.2 are zero. -/
def reservedOk (bs : List Byte) (x : Desc) : Bool :=
  pbyte bs 1 < 16 && pzero bs 3 1 && addrField x.next && (match x.op with
    | .copy => pzero bs 2 1 && addrField x.a && pzero bs 8 4 && addrField x.d && pzero bs 20 8
    | .fill => pzero bs 4 8 && addrField x.d
    | .blit => addrField x.a && addrField x.d
    | _ => addrField x.a && addrField x.b && addrField x.d && pzero bs 18 2 && pzero bs 20 8)

/-- Sizes, counts and alignment of Table 09.3. -/
def limitsOk (x : Desc) : Bool :=
  match x.op with
  | .copy => 1 ≤ x.len && x.len ≤ 16777216
  | .fill => [1, 2, 4, 8].contains x.size && 1 ≤ x.len && x.len ≤ 16777216 && x.d % x.size == 0 && x.len % x.size == 0
  | .blit => [1, 2, 4].contains x.size && 1 ≤ x.width && x.width ≤ 4096 && 1 ≤ x.height && x.height ≤ 4096
      && x.width * x.size ≤ 8192 && x.a % x.size == 0 && x.d % x.size == 0
      && x.srcStride % (x.size : Int) == 0 && x.dstStride % (x.size : Int) == 0
  | _ => [1, 2, 4, 8].contains x.size && (x.isize == 1 || x.isize == 2) && 1 ≤ x.count
      && x.a % x.isize == 0 && x.b % x.size == 0 && x.d % x.size == 0

/-- A valid descriptor at a chain index, or none (R478). A NEXT that is used and is no multiple of 32 makes its descriptor invalid. -/
def parseDesc (bs : List Byte) (idx : Nat) : Option Desc :=
  match spOpOf (pbyte bs 0) with
  | none => none
  | some o =>
    let x := descFields bs o
    if reservedOk bs x && limitsOk x && (!x.desc || o == .copy || o == .blit) && (!x.key || o == .blit)
        && !(x.chain && idx == 4095) && (!x.chain || x.next % 32 == 0) then some x
    else none

/-- The number of elements (R480 to R485). -/
def Desc.elements (x : Desc) : Nat :=
  match x.op with
  | .blit => x.height
  | .gather => x.count
  | .scatter => x.count
  | _ => (x.d % 64 + x.len + 63) / 64

/-! ### Elements -/

/-- What an element comes to: done, or a stop with the address its lint entry names. -/
inductive ElemRes where
  | ok (c : Chip)
  | stop (s : Stop) (addr : Nat) (c : Chip)

/-- The first address that some access of an element may not reach. -/
def refusedOf (c : Chip) (p : Nat) (as : List (Right × Nat × Nat)) : Option Nat :=
  as.findSome? fun a => firstRefused c p a.1 a.2.1 a.2.2

/-- A read of an element, charged to the guest class unless the chain is bulk (R503). -/
def spRead (bulk : Bool) (p ka n : Nat) (c : Chip) : List PByte × Chip := if bulk then readKFree p ka n c else readK p ka n c

/-- Writes bytes of an element line by line: a whole aligned line is written as one (R486). -/
def spWriteLines (p : Nat) : Nat → Nat → List PByte → Chip → Chip
  | 0, _, _, c => c
  | n + 1, ka, bs, c =>
    if bs.isEmpty then c
    else
      let room := 64 - ka % 64
      let seg := bs.take room
      let c := if seg.length = 64 then writeKLine p ka seg c else writeKFree p ka seg c
      spWriteLines p n ((ka + room) % 2 ^ 24) (bs.drop room) c

/-- A write of an element. -/
def spWrite (bulk : Bool) (p ka : Nat) (bs : List PByte) (c : Chip) : Chip :=
  spWriteLines p ((bs.length + 127) / 64) ka bs (if bulk then c else chargeRange p ka bs.length c)

/-- Address arithmetic modulo 2^24 (R474). -/
def kadd (a : Nat) (d : Int) : Nat := narrow 24 (a + d)

/-- What earlier units of the same element have written, latest first, and the destination words that a poisoned unit has poisoned. -/
structure Written where
  bytes : List (Nat × PByte) := []
  words : List Nat := []

/-- A source byte as the element finds it: written by an earlier unit, or as read; poison if its word has been poisoned (R479, R487). -/
def Written.read (o : Written) (addr : Nat) (orig : PByte) : PByte :=
  let b := ((o.bytes.find? (·.1 == addr)).map (·.2)).getD orig
  (b.1, b.2 || o.words.contains (addr / 8))

/-- Copies units of n bytes in the order given, by their number: source and destination addresses, source bytes as read, and a test
that keeps a unit from being written. The answer lists what each unit writes, by number. -/
def copyUnits (n src dst : Nat) (orig : List PByte) (keyed : List PByte → Bool) : List Nat → Written → List (Nat × List PByte)
  | [], _ => []
  | j :: js, o =>
    let bs := (List.range n).map fun i => o.read ((src + n * j + i) % 2 ^ 24) (orig.getD (n * j + i) (0, true))
    if keyed bs then copyUnits n src dst orig keyed js o
    else
      let at' (i : Nat) : Nat := (dst + n * j + i) % 2 ^ 24
      let o := { bytes := (List.range n).map (fun i => (at' i, bs.getD i (0, true))) ++ o.bytes,
                 words := if anyPoison bs then at' 0 / 8 :: o.words else o.words }
      (j, bs) :: copyUnits n src dst orig keyed js o

/-- The source and destination ranges overlap. -/
def overlaps (src dst n : Nat) : Bool := (dst + 2 ^ 24 - src) % 2 ^ 24 < n || (src + 2 ^ 24 - dst) % 2 ^ 24 < n

/-- Copies units whose ranges do not overlap: each is written as read, unless its test keeps it. -/
def plainUnits (n : Nat) (orig : List PByte) (keyed : List PByte → Bool) (js : List Nat) : List (Nat × List PByte) :=
  js.filterMap fun j =>
    let bs := (List.range n).map fun i => orig.getD (n * j + i) (0, true)
    if keyed bs then none else some (j, bs)

/-- Writes the units of an element in their order; ascending neighbours go together, so that a row without a key match that covers a
line writes it as one. -/
def writeUnits (bulk : Bool) (p n dst : Nat) (us : List (Nat × List PByte)) (total : Nat) (c : Chip) : Chip :=
  if us.length = total then
    let byNo (j : Nat) : List PByte := ((us.find? (·.1 == j)).map (·.2)).getD []
    let flat := match us with
      | (0, _) :: _ => us.flatMap (·.2)
      | _ => (List.range total).flatMap byNo
    spWrite bulk p dst flat c
  else us.foldl (fun c u => spWrite bulk p ((dst + n * u.1) % 2 ^ 24) u.2 c) c

/-- Copies total units of n bytes from one range to another, in descending or ascending order. -/
def copyRange (bulk : Bool) (p n total src dst : Nat) (desc : Bool) (keyed : List PByte → Bool) (c : Chip) : Chip :=
  let (orig, c) := spRead bulk p src (n * total) c
  let js := if desc then (List.range total).reverse else List.range total
  let us := if overlaps src dst (n * total) then copyUnits n src dst orig keyed js {} else plainUnits n orig keyed js
  writeUnits bulk p n dst us total c

/-- Piece k of a destination range divided at 64-byte boundaries: its offset in the range and its length (R480). -/
def piece (dst len k : Nat) : Nat × Nat :=
  let lo := if k = 0 then 0 else 64 * k - dst % 64
  let hi := min len (64 * (k + 1) - dst % 64)
  (lo, hi - lo)

/-- A copy or fill element. -/
def pieceElem (p : Nat) (bulk : Bool) (x : Desc) (k : Nat) (c : Chip) : ElemRes :=
  let k := if x.desc then x.elements - 1 - k else k
  let (off, n) := piece x.d x.len k
  let dst := (x.d + off) % 2 ^ 24
  if x.op = .fill then
    match refusedOf c p [(.w, dst, n)] with
    | some a => .stop .map a c
    | none => .ok (spWrite bulk p dst ((List.range n).map fun j => (x.pattern.getD ((off + j) % x.size) 0, false)) c)
  else
    let src := (x.a + off) % 2 ^ 24
    match refusedOf c p [(.r, src, n), (.w, dst, n)] with
    | some a => .stop .map a c
    | none => .ok (copyRange bulk p 1 n src dst x.desc (fun _ => false) c)

/-- A row of a 2D blit (R482, R483, R488): a poisoned pixel is written whatever the key decides. -/
def blitElem (p : Nat) (bulk : Bool) (x : Desc) (k : Nat) (c : Chip) : ElemRes :=
  let r := if x.desc then x.height - 1 - k else k
  let src := kadd x.a (r * x.srcStride)
  let dst := kadd x.d (r * x.dstStride)
  let n := x.width * x.size
  let m := 2 ^ (8 * x.size)
  let keyed (bs : List PByte) : Bool :=
    x.key && !anyPoison bs && (leNat (plain bs) &&& (x.keyMask % m)) == (x.keyVal % m &&& (x.keyMask % m))
  match refusedOf c p [(.r, src, n), (.w, dst, n)] with
  | some a => .stop .map a c
  | none => .ok (copyRange bulk p x.size x.width src dst x.desc keyed c)

/-- An element of a gather (R484, R489). -/
def gatherElem (p : Nat) (bulk : Bool) (x : Desc) (k : Nat) (c : Chip) : ElemRes :=
  let ia := (x.a + k * x.isize) % 2 ^ 24
  let dst := (x.d + k * x.size) % 2 ^ 24
  match refusedOf c p [(.r, ia, x.isize)] with
  | some a => .stop .map a c
  | none =>
    let (ib, c') := spRead bulk p ia x.isize c
    if anyPoison ib then
      match refusedOf c p [(.w, dst, x.size)] with
      | some a => .stop .map a c'
      | none => .ok (spWrite bulk p dst (List.replicate x.size (0, true)) c')
    else
      let ta := (x.b + leNat (plain ib) * x.size) % 2 ^ 24
      match refusedOf c p [(.r, ta, x.size), (.w, dst, x.size)] with
      | some a => .stop .map a c'
      | none =>
        let (v, c) := spRead bulk p ta x.size c'
        .ok (spWrite bulk p dst v c)

/-- An element of a scatter (R485, R489). -/
def scatterElem (p : Nat) (bulk : Bool) (x : Desc) (k : Nat) (c : Chip) : ElemRes :=
  let ia := (x.a + k * x.isize) % 2 ^ 24
  let va := (x.d + k * x.size) % 2 ^ 24
  match refusedOf c p [(.r, ia, x.isize)] with
  | some a => .stop .map a c
  | none =>
    let (ib, c') := spRead bulk p ia x.isize c
    if anyPoison ib then .stop .indexPoison ia c'
    else
      let ta := (x.b + leNat (plain ib) * x.size) % 2 ^ 24
      match refusedOf c p [(.r, va, x.size), (.w, ta, x.size)] with
      | some a => .stop .map a c'
      | none =>
        let (v, c) := spRead bulk p va x.size c'
        .ok (spWrite bulk p ta v c)

/-- One element of a descriptor. -/
def spElem (p : Nat) (bulk : Bool) (x : Desc) (k : Nat) (c : Chip) : ElemRes :=
  match x.op with
  | .copy => pieceElem p bulk x k c
  | .fill => pieceElem p bulk x k c
  | .blit => blitElem p bulk x k c
  | .gather => gatherElem p bulk x k c
  | .scatter => scatterElem p bulk x k c

/-! ### Chains: start, stop and end (R492 to R502) -/

/-- Fires the SPOOL source of a channel (R496). -/
def fireSpool (ch data : Nat) (c : Chip) : Chip := fire (ownerOf c .spool ch) (16 + localOf c .spool ch) data c

/-- The lint code of a stop (Table 09.7). -/
def Stop.lintCode : Stop → Option Nat
  | .map => some 0x0901
  | .desc => some 0x0902
  | .descPoison => some 0x0902
  | .indexPoison => some 0x0903
  | .fenced => some 0x0906
  | _ => Option.none

/-- Ends the chain that runs on a channel: its registers, its event, its completion, and the next state (R473, R492, R495, R496). -/
def endChain (ch : Nat) (st : Status) (cause : Stop) (addr : Nat) (c : Chip) : Chip :=
  let x := chOf c ch
  let bad := cause != .none
  let d := if bad then x.curIdx else 0
  let k := if bad then x.curElem else 0
  let parked := st == .partialDone
  let c := modCh ch (fun x => { x with
    st := if parked then .parked else .idle, queue := x.queue.drop 1, status := st.code, cause := cause.code, didx := d, elem := k,
    cur := if parked then x.cur else 0, loaded := none, chainsDone := (x.chainsDone + 1) % 65536 }) c
  let c := match cause.lintCode with | some l => lint l (0x0400 + ch) (ownerOf c .spool ch) addr c | none => c
  let c := if x.eventEn then fireSpool ch (st.code + 65536 * cause.code) c else c
  match x.queue with
  | run :: _ => if run.byCmd then finish run.handle st (cause.code + 16 * d) k c else c
  | [] => c

/-- Starts a chain at the front of a channel's queue (R494, R497). -/
def startFront (ch : Nat) (c : Chip) : Chip :=
  modCh ch (fun x => match x.queue with
    | run :: _ => { x with st := .running, cur := run.first, curIdx := 0, curElem := 0, loaded := none, lastProgress := c.clk.qtime }
    | [] => x) c

/-- A channel may start a chain: IDLE or PARKED (R473). -/
def SpoolCh.free (x : SpoolCh) : Bool := x.st == .idle || x.st == .parked

/-- Restarts the parked chain at its parked element (R493). -/
def resumeParked (ch : Nat) (byCmd : Bool) (handle : Option Long) (c : Chip) : Chip :=
  modCh ch (fun x => { x with
    st := .running, queue := [{ first := x.cur, byCmd := byCmd, handle := handle }], curIdx := x.didx, curElem := x.elem, loaded := none,
    lastProgress := c.clk.qtime }) c

/-- The end of an element: the next element, the next descriptor, or the end of the chain (R479, R496). -/
def elementDone (ch : Nat) (x : Desc) (c : Chip) : Chip :=
  let c := modCh ch (fun s => { s with curElem := s.curElem + 1, lastProgress := c.clk.qtime }) c
  let s := chOf c ch
  if s.curElem < x.elements then c
  else
    let c := if x.signal && s.eventEn then fireSpool ch (2 ^ 20) c else c
    if x.chain then modCh ch (fun s => { s with cur := x.next, curIdx := s.curIdx + 1, curElem := 0, loaded := none }) c
    else endChain ch .ok .none 0 c

/-- Reads and checks the descriptor of a channel (R478, R490), or performs its next element (R491). -/
def spoolElement (ch : Nat) (c : Chip) : Chip :=
  let s := chOf c ch
  let p := ownerOf c .spool ch
  if s.st ≠ .running ∧ s.st ≠ .stopping then c
  else
    let run := s.queue.head?.getD default
    let bulk := s.bulk || run.bulk
    if isPegged c 4 ch then endChain ch .fenced .fenced 0 c
    else if s.st = .stopping ∨ cancelWaits run.handle c then endChain ch .partialDone .aborted 0 c
    else
      let perform (bs : List Byte) (c : Chip) : Chip :=
        match parseDesc bs s.curIdx with
        | none => endChain ch .partialDone .desc s.cur (modCh ch (fun s => { s with curElem := 0 }) c)
        | some x => match spElem p bulk x s.curElem c with
          | .ok c => elementDone ch x c
          | .stop why a c => endChain ch .partialDone why a c
      match s.loaded with
      | some bs => perform bs c
      | none => match refusedOf c p [(.r, s.cur, 32)] with
        | some a => endChain ch .partialDone .map a c
        | none =>
          let (bs, c) := spRead bulk p s.cur 32 c
          if anyPoison bs then endChain ch .partialDone .descPoison s.cur c
          else perform (plain bs) (modCh ch (fun s => { s with loaded := some (plain bs) }) c)

/-- Pegging a channel completes every chain queued behind the running one FENCED at once. -/
def spoolPegged (ch : Nat) (c : Chip) : Chip :=
  let x := chOf c ch
  let busy := !x.free
  let gone := if busy then x.queue.drop 1 else x.queue
  let c := modCh ch (fun x => { x with queue := if busy then x.queue.take 1 else [] }) c
  let c := if gone.isEmpty then c else lint 0x0906 (0x0400 + ch) (ownerOf c .spool ch) 0 c
  gone.foldl (fun c q => if q.byCmd then finish q.handle .fenced Stop.fenced.code 0 c else c) c

/-- Removes the queued chain of a handle: the answer says whether it was queued and not running (R502). -/
def spoolUnqueue (h : Long) (c : Chip) : Option Chip :=
  (List.range 8).findSome? fun ch =>
    let x := chOf c ch
    let waiting := if x.free then x.queue else x.queue.drop 1
    if waiting.any fun q => q.handle == some h then
      some (modCh ch (fun x => { x with queue := delFirst (fun q => q.handle == some h) x.queue }) c)
    else none

/-! ### The window (R498 to R501, R509) -/

/-- Lint of a CH_CTRL write that is ignored. -/
def ctrlIgnored (ch : Nat) (c : Chip) : Chip := lint 0x0904 (0x0400 + ch) (ownerOf c .spool ch) 0 c

/-- A write of CH_CTRL (R498 to R501). -/
def spoolCtrl (ch v : Nat) (c : Chip) : Chip :=
  let x := chOf c ch
  let start := bit v 0
  let abort := bit v 1
  let resume := bit v 2
  let clear := bit v 3
  let cfg := modCh ch (fun x => { x with bulk := bit v 8, eventEn := bit v 9 })
  if !abort && 1 < b2n start + b2n resume + b2n clear then ctrlIgnored ch c
  else
    let c := cfg c
    if abort then
      if x.st = .running then modCh ch (fun x => { x with st := .stopping }) c
      else if x.free && (start || resume) then
        fireSpool ch Status.cancelledBeforeStart.code (modCh ch (fun x => { x with status := Status.cancelledBeforeStart.code }) c)
      else c
    else if start then
      if x.free && x.queue.isEmpty then startFront ch (modCh ch (fun x => { x with queue := [{ first := x.desc }] }) c)
      else ctrlIgnored ch c
    else if resume then
      if x.st == .parked && x.queue.isEmpty then resumeParked ch false none c else ctrlIgnored ch c
    else if clear && x.st == .parked then modCh ch (fun x => { x with st := .idle, cur := 0 }) c
    else c

/-- The value of CH_CTRL from its fields. -/
def ctrlValue (start abort resume clear bulk ev : Bool) : Nat := bitsToNat [start, abort, resume, clear, false, false, false, false, bulk, ev]

/-- The registers of a channel. -/
def spoolChRead (c : Chip) (ch reg : Nat) : Nat :=
  let x := chOf c ch
  match reg with
  | 0x00 => 256 * b2n x.bulk + 512 * b2n x.eventEn
  | 0x02 => x.desc % 65536
  | 0x04 => x.desc / 65536
  | 0x06 => x.st.code + 4 * x.queue.length + 256 * b2n (isPegged c 4 ch)
  | 0x08 => x.status
  | 0x0A => x.cause
  | 0x0C => x.didx
  | 0x0E => x.elem % 65536
  | 0x10 => x.elem / 65536
  | 0x12 => x.cur % 65536
  | 0x14 => x.cur / 65536
  | 0x16 => x.chainsDone
  | _ => 0

/-- Reads the Spool window at an offset from 0x2000. -/
def spoolRead (p off : Nat) (c : Chip) : Nat :=
  if off < 0x100 then
    match windowUnit c p .spool (off / 0x20) with
    | some ch => spoolChRead c ch (off % 0x20)
    | none => 0
  else if off = 0x100 then (ownedUnits c p .spool).length
  else 0

/-- Writes the Spool window at an offset from 0x2000. -/
def spoolWrite (p off v : Nat) (c : Chip) : Chip :=
  if off < 0x100 then
    match windowUnit c p .spool (off / 0x20) with
    | some ch => match off % 0x20 with
      | 0x00 => spoolCtrl ch v c
      | 0x02 => modCh ch (fun x => { x with desc := x.desc / 65536 * 65536 + v / 32 * 32 }) c
      | 0x04 => modCh ch (fun x => { x with desc := v % 256 * 65536 + x.desc % 65536 }) c
      | _ => c
    | none => c
  else c

/-! ### Commands (R508) -/

/-- The channel that a command names. -/
def spoolTarget (m : Cmd) (c : Chip) : Option Nat := unitOfLocal c (m.org.partNo.getD 0) .spool (m.b 8)

/-- SPL.STATUS. -/
def splStatus (m : Cmd) : Chip → Reply × Chip := fun c =>
  match spoolTarget m c with
  | none => (.fail .badParam, c)
  | some ch =>
    let x := chOf c ch
    if isPegged c 4 ch then (.fail .fenced, c)
    else (.res (min x.elem 0xFFFF) (x.st.code + 4 * x.queue.length + 256 * x.cause + 65536 * x.didx), c)

/-- SPL.SUBMIT: the chain goes to the back of the queue, and starts if it is at the front of a free channel (R497). -/
def splSubmit (m : Cmd) : Chip → Reply × Chip := fun c =>
  match spoolTarget m c with
  | none => (.fail .badParam, c)
  | some ch =>
    let x := chOf c ch
    checked
      [chk (1 < m.b 9 || !m.z 10 2 || 2 ^ 24 ≤ m.f 12 4 || m.f 12 4 % 32 != 0) .badParam, chk (isPegged c 4 ch) .fenced,
       chk (4 ≤ x.queue.length) .inUse]
      (fun c =>
        let q : Chain := { first := m.f 12 4, byCmd := true, handle := if m.org = .part 0 then none else some m.handle, bulk := bit (m.b 9) 0 }
        let c := modCh ch (fun x => { x with queue := x.queue ++ [q] }) c
        (.wait, if x.free && x.queue.isEmpty then startFront ch c else c)) c

/-- SPL.RESUME (R493). -/
def splResume (m : Cmd) : Chip → Reply × Chip := fun c =>
  match spoolTarget m c with
  | none => (.fail .badParam, c)
  | some ch =>
    let x := chOf c ch
    checked [chk (isPegged c 4 ch) .fenced, chk (x.st != .parked || !x.queue.isEmpty) .badState]
      (fun c => (.wait, resumeParked ch true (if m.org = .part 0 then none else some m.handle) c)) c

/-- SPL.STATUS. -/
def execSplStatus (r : Req) (s : State) : Out := onChip (serve 0x0901 r splStatus) s
/-- SPL.SUBMIT. -/
def execSplSubmit (r : Req) (s : State) : Out := onChip (serve 0x0910 r splSubmit) s
/-- SPL.RESUME. -/
def execSplResume (r : Req) (s : State) : Out := onChip (serve 0x0911 r splResume) s

/-! ### Events -/

/-- A queued chain at the front of an IDLE or PARKED channel starts (R497). -/
def execSpoolChainStart (ch : Fin 8) (s : State) : Out :=
  onRun (fun c => if (chOf c ch).free && !(chOf c ch).queue.isEmpty then startFront ch c else c) s

/-- One element. -/
def execSpoolElement (ch : Fin 8) (s : State) : Out := onRun (spoolElement ch) s

/-- A RUNNING channel that has completed no element for 100 ms logs lint 0x0905 (R506). -/
def spoolStall (ch : Nat) (c : Chip) : Chip :=
  let x := chOf c ch
  if x.st = .running then
    let c := atTime (x.lastProgress + 2400000) c
    lint 0x0905 (0x0400 + ch) (ownerOf c .spool ch) 0 (modCh ch (fun x => { x with lastProgress := c.clk.qtime }) c)
  else c

/-- A stall. -/
def execSpoolStall (ch : Fin 8) (s : State) : Out := onChip (spoolStall ch) s

end Sys2Proof.Machine
end

