-- ==== Sys2Proof/Machine/Peg.lean ====
section
/-! DEFINITION. Pegging: what the hardware of a pegged unit does at once (R818 to R820, Table 17.3). -/

namespace Sys2Proof.Machine

/-- A flash program or erase on a pegged chip select completes FENCED. -/
def fenceFlash (cs : Nat) (c : Chip) : Chip :=
  match c.mem.flashOp with
  | some o => if o.cs = cs then finish o.handle .fenced 0 0 (modMem (fun m => { m with flashOp := none }) c) else c
  | none => c

/-- A pegged external device is held in erasure; a resilver of it stops. -/
def fenceDevice (k : Nat) (c : Chip) : Chip :=
  let c := modMem (fun m => { m with erased := vset m.erased k true }) c
  match c.mem.resilver with
  | some r => if r.dev = k ∧ !r.aborted then lint 0x0807 (0x0300 + k) 0xFF 1 (modMem (fun m => { m with resilver := some { r with aborted := true } }) c) else c
  | none => c

/-- What a unit's hardware does when it is pegged (Table 17.3). The units not named look at their register themselves. -/
def pegHooks (u : UnitId) (c : Chip) : Chip :=
  match u.kind with
  | 1 => if u.index < 6 then modCore u.index (fun x => { x with run := .stopped, wait := none }) c else c
  | 3 => fenceDevice u.index c
  | 4 => spoolPegged u.index c
  | 5 => pegLinkUnit 5 u.index c
  | 10 => pegLinkUnit 10 u.index c
  | 11 => fenceFlash u.index c
  | _ => c

/-- Pegs a unit in any state but ABSENT and RETIRED, with what its hardware does (R819). -/
def pegAny (u : UnitId) (c : Chip) : Chip :=
  match unitState c u with
  | .absent => c
  | .retired => c
  | .pegged => c
  | _ => pegHooks u (pegUnit u c)

/-- A request of a unit without ADMIT reaches the fabric: it is refused, and the unit is pegged (R818). -/
def fabricPeg (u : UnitId) (addr : Nat) (c : Chip) : Chip :=
  let was := unitState c u
  let c := pegTraffic u addr c
  if was = .pegged then c else pegHooks u c

/-! ### Unit reset (R821) -/

/-- A unit is back in service: STATE ACTIVE and then ADMIT 1, with one GEN step whatever its state was (R815, R821). -/
def unitBack (u : UnitId) (c : Chip) : Chip :=
  match unitReg? c u with
  | none => c
  | some r =>
    let c := setUnitReg u { st := .active, gen := (r.gen + 1) % 256, admitBit := true } c
    if r.st = .active then c else lint 0x1101 u.code 0xFF r.st.code c

/-- A chip select returns to its reset state; one whose operation has just ended does so with the reset that waits for it. -/
def resetFlash (cs : Nat) (c : Chip) : Chip :=
  if cs = 1 then modMem (fun m => { m with cart := if m.cart = .absent then .absent else .inserted, cache := [] }) c else c

/-- Unit resets of a chip select that waited for the device to end its operation complete. -/
def drainResets (c : Chip) : Chip :=
  if c.mem.flashOp.isSome then c
  else
    c.svc.resets.foldl (fun c r => finish r.2 .ok 0 0 (unitBack (unitOfCode r.1) (resetFlash (r.1 % 256) c))) { c with svc := { c.svc with resets := [] } }

end Sys2Proof.Machine
end

