-- ==== Sys2Proof/Machine/BootDir.lean ====
section
/-! DEFINITION. The boot directory in system flash (R121 to R126, Table 02.6). -/

namespace Sys2Proof.Machine

/-- Physical address of system flash. -/
def flashBase : Nat := 0x20000000

/-- A boot slot as the directory describes it. -/
structure BootSlot where
  offset : Nat
  length : Nat
  version : Nat
  attempts : Nat
  confirmed : Bool
  revoked : Bool
deriving DecidableEq, Repr, Inhabited

/-- The directory passes its CRC-32 (R121, R122). -/
def dirGood (bs : List Byte) : Bool := pfield bs 0 4 == 0x44424B53 && crc32 (bs.take 0x4C) == pfield bs 0x4C 4

/-- The directory in force: its first bytes, and whether they are the copy's (R121). -/
def bootDir (c : Chip) : Option (List Byte × Bool) :=
  let a := c.mem.bytes flashBase 0x60
  let b := c.mem.bytes (flashBase + 0x1000) 0x60
  if dirGood a then some (a, false) else if dirGood b then some (b, true) else none

/-- The ATTEMPTS mark; a value not listed counts as 0. -/
def attemptsOf (b : Nat) : Nat := if b = 0x07 ∨ b = 0x03 ∨ b = 0x01 then b else 0

/-- Slot i of a directory: 0 A, 1 B (Table 02.6). -/
def dirSlot (bs : List Byte) (i : Nat) : BootSlot :=
  { offset := pfield bs (8 + 12 * i) 4, length := pfield bs (12 + 12 * i) 4, version := pfield bs (16 + 12 * i) 4,
    attempts := attemptsOf (pbyte bs (0x50 + 8 * i)), confirmed := pbyte bs (0x51 + 8 * i) != 0xFF, revoked := pbyte bs (0x52 + 8 * i) != 0xFF }

/-- The slot lists no image. -/
def BootSlot.empty (s : BootSlot) : Bool := s.length == 0 || s.offset == 0xFFFFFFFF

/-- The slot may be tried (R123). -/
def BootSlot.eligible (s : BootSlot) : Bool := !s.empty && !s.revoked && (s.confirmed || 0 < s.attempts)

/-- A slot of the directory in force. -/
def bootSlot (c : Chip) (i : Nat) : Option BootSlot := (bootDir c).map fun d => dirSlot d.1 i

/-- The running slot is confirmed (R126). -/
def slotConfirmed (c : Chip) : Bool := ((bootSlot c c.pwr.slot).map (·.confirmed)).getD false

/-- The version that the directory gives the image at an offset of system flash. -/
def dirVersionAt (c : Chip) (offset : Nat) : Option Nat :=
  (List.range 2).findSome? fun i => match bootSlot c i with
    | some s => if !s.empty && s.offset == offset then some s.version else none
    | none => none

/-- Clears bits of a byte of system flash, which programming can only clear (R455). -/
def flashAnd (off mask : Nat) (c : Chip) : Chip :=
  modMem (fun m => m.setByte (flashBase + off) (m.byte (flashBase + off) &&& BitVec.ofNat 8 mask)) c

/-- Changes a mark byte of the directory in force. -/
def setMark (i which mask : Nat) (c : Chip) : Chip :=
  match bootDir c with
  | some (_, copy) => flashAnd ((if copy then 0x1000 else 0) + 0x50 + 8 * i + which) mask c
  | none => c

end Sys2Proof.Machine
end

