-- ==== Sys2Proof/Machine/Vault.lean ====
section
/-! DEFINITION. The vault commands and the ends of nonce and SERVICE (R783 to R797, R801, R807 to R812). -/

namespace Sys2Proof.Machine

/-- Changes the volatile state of the vault. -/
def modVlt (f : Vault → Vault) (c : Chip) : Chip := { c with vlt := f c.vlt }

/-- The outstanding nonce, if it has not expired (R795). -/
def nonceOf (c : Chip) : Option (List Byte) :=
  match c.vlt.nonce with
  | some (n, t) => if c.clk.qtime < t then some n else none
  | none => none

/-- The nonce is consumed. -/
def useNonce (c : Chip) : Chip := modVlt (fun v => { v with nonce := none }) c

/-- The VAULT event (source 59, P0). -/
def vaultEvent (kind x : Nat) (c : Chip) : Chip := fire 0 59 (kind + 256 * x) c

/-- A transition: its fuse is blown, lint 0x1001 holds the old and the new state, and VAULT is raised (R784). -/
def transition (b : Burn) (c : Chip) : Chip :=
  let old := (lifeOf c).code
  let c := burnNow b c
  let new := (lifeOf c).code
  vaultEvent 1 new (lintBlock 0x1001 0xFF (old + 256 * new) c)

/-- Destroys a slot; `good` says that its bits read back as ones (R787, R788). -/
def destroySlot (good : Bool) (i : Nat) (c : Chip) : Chip :=
  let old := (slotOf c i).st
  if old = .destroyed ∨ old = .unusable then c
  else
    let c := burnNow (.destroy i good) c
    if good then vaultEvent 2 i (lintBlock 0x1002 0xFF i c) else vaultEvent 3 i (lintBlock 0x1003 0xFF i c)

/-- The mask of the slots in a state. -/
def slotMask (c : Chip) (st : SlotSt) : Nat := bitsToNat ((List.range 16).map fun i => (slotOf c i).st == st)

/-- A DEST field: bits [31:24] zero, and 0 for an external origin. -/
def dest24 (m : Cmd) (dest : Nat) : Bool := decide (dest < 2 ^ 24) && (!m.org.external || dest == 0)

/-- A destination that the issuer's map refuses: the address is bits 23:0, and the bits above it are reserved. -/
def destDenied (m : Cmd) (c : Chip) (dest n : Nat) : Bool :=
  match m.org with
  | .part p => !kRangeOk c p .w (dest % 2 ^ 24) n
  | _ => false

/-- The supply allows a fuse to be blown (R783). -/
def noBlow (c : Chip) : Bool := c.pwr.cls != 1

/-- VLT.STATUS. -/
def vltStatus (_m : Cmd) (c : Chip) : Reply × Chip :=
  (.res (slotMask c .loaded) ((lifeOf c).code + 2 ^ 8 * c.fuses.entries + 2 ^ 12 * c.fuses.floor), c)

/-- VLT.STATUS. -/
def execVltStatus (r : Req) (s : State) : Out := onChip (serve 0x1001 r vltStatus) s

/-- A record of VLT.SLOT_INFO. -/
def slotRecord (c : Chip) (i : Nat) : List Byte :=
  let s := slotOf c i
  leBytes 1 s.cls ++ leBytes 1 s.st.code ++ leBytes 1 s.usage ++ leBytes 1 s.partMask ++ leBytes 2 s.keyId ++ leBytes 2 0 ++ leBytes 4 (kcv c i)
    ++ leBytes 4 0

/-- VLT.SLOT_INFO. -/
def vltSlotInfo (m : Cmd) (c : Chip) : Reply × Chip :=
  checked [chk (destDenied m c (m.f 8 4) 256) .denied, chk (!dest24 m (m.f 8 4)) .badParam]
    (fun c => answerBlock m (m.f 8 4) 0 0 ((List.range 16).flatMap (slotRecord c)) c) c

/-- VLT.SLOT_INFO. -/
def execVltSlotInfo (r : Req) (s : State) : Out := onChip (serve 0x1002 r vltSlotInfo) s

/-- VLT.NONCE (R795): 16 bytes of entropy, free values, outstanding for 60 s. -/
def vltNonce (m : Cmd) (c : Chip) : Reply × Chip :=
  checked [chk (destDenied m c (m.f 8 4) 16) .denied, chk (!dest24 m (m.f 8 4)) .badParam]
    (fun c =>
      let (n, c) := entropy16 c
      answerBlock m (m.f 8 4) 0 0 n (modVlt (fun v => { v with nonce := some (n, c.clk.qtime + 60 * 24000000) }) c)) c

/-- VLT.NONCE. -/
def execVltNonce (r : Req) (s : State) : Out := onChip (serve 0x1003 r vltNonce) s

/-- NONCE_EXPIRY: 60 s after issue. -/
def nonceExpiry (c : Chip) : Chip :=
  match c.vlt.nonce with
  | some (_, t) => useNonce (atTime t c)
  | none => c

/-- NONCE_EXPIRY. -/
def execNonceExpiry (s : State) : Out := onChip nonceExpiry s

/-- The five bytes that a wrapped load binds: SLOT, CLASS, USAGE, PART_MASK, KEY_ID. -/
def loadFields (m : Cmd) : List Byte := pslice m.params 0 6

/-- The key that a wrapped load brings, if its MAC is right (R794). -/
def unwrapKey (m : Cmd) (nonce : List Byte) (c : Chip) : Option (List Byte) :=
  match (slotsFor c 2 6).head? with
  | none => none
  | some d =>
    let okm := hkdf (keyOf c d) nonce (ascii "SUKEN-WRAP" ++ loadFields m) 64
    let wrapped := pslice m.params 8 32
    let mac := hmac16 (okm.drop 32) (ascii "SUKEN-LOAD" ++ serialBytes c ++ nonce ++ loadFields m ++ wrapped)
    if mac = pslice m.params 40 16 then some (List.zipWith (· ^^^ ·) wrapped (okm.take 32)) else none

/-- The slot that a VLT.LOAD fills. -/
def loadedSlot (m : Cmd) (key : List Byte) : Slot :=
  { st := .loaded, cls := m.b 9, usage := m.b 10, partMask := m.b 11, keyId := m.f 12 2, key := .bytes key }

/-- A wrapped load or a service token is refused: lint 0x1004. -/
def authFail (m : Cmd) (c : Chip) : Reply × Chip := (.fail .authFailed, lintBlock 0x1004 m.org.lintCode 0 c)

/-- The classes that VLT.LOAD may place in a state (Table 16.2, R794). -/
def loadable (l : Life) : List Nat := match l with
  | .maker => [3, 4, 5, 6]
  | _ => [3, 4, 6]

/-- VLT.LOAD (R793, R794). -/
def vltLoad (m : Cmd) (c : Chip) : Reply × Chip :=
  let i := m.b 8
  let l := lifeOf c
  let plainForm := l == .maker
  checked [chk (i == 0 || i == 15) .denied,
           chk (15 < i || !(loadable l).contains (m.b 9) || (m.b 10 &&& usagePermitted (m.b 9)) != m.b 10 || (m.b 11 &&& 0x81) != 0
                 || !m.z 14 2 || (plainForm && !m.z 48 16)) .badParam,
           chk (!(plainForm || l == .field || l == .service) || noBlow c) .badState,
           chk ((slotOf c i).st != .empty) .inUse]
    (fun c =>
      if plainForm then (.ok, burnNow (.load i (loadedSlot m (pslice m.params 8 32))) c)
      else match nonceOf c with
        | none => authFail m c
        | some n => match unwrapKey m n c with
          | none => authFail m (useNonce c)
          | some k => (.ok, burnNow (.load i (loadedSlot m k)) (useNonce c))) c

/-- VLT.LOAD. -/
def execVltLoad (r : Req) (s : State) : Out := onChip (serve 0x1010 r vltLoad) s

/-- VLT.DERIVE (R792, Table 16.6). -/
def vltDerive (m : Cmd) (c : Chip) : Reply × Chip :=
  let i := m.b 8
  let src := m.b 9
  let ctx := m.b 10
  let l := lifeOf c
  let cls := if ctx = 1 then 2 else 6
  let ctxOk := if ctx = 1 then l == .maker else l == .maker || l == .field || l == .service
  checked [chk (i == 0 || i == 15 || !((slotOf c src).cls == 1 && (slotOf c src).allows 1 l) || !ctxOk) .denied,
           chk (15 < i || ctx == 0 || 2 < ctx || (m.b 11 &&& usagePermitted cls) != m.b 11 || !m.z 14 2 || (ctx == 1 && !m.z 16 16)) .badParam,
           chk (noBlow c) .badState,
           chk ((slotOf c i).st != .empty) .inUse]
    (fun c =>
      let key := if ctx = 1 then hkdf (keyOf c src) (serialBytes c) (ascii "SUKEN-DEVICE") 32
        else hkdf (keyOf c src) (pslice m.params 8 16) (ascii "SUKEN-LINK") 32
      (.ok, burnNow (.load i { st := .loaded, cls := cls, usage := m.b 11, keyId := m.f 12 2, key := .bytes key }) c)) c

/-- VLT.DERIVE. -/
def execVltDerive (r : Req) (s : State) : Out := onChip (serve 0x1011 r vltDerive) s

/-- VLT.DESTROY (R787 to R789); `bad` names the slots whose bits do not all blow. -/
def vltDestroy (bad : BitVec 16) (m : Cmd) (c : Chip) : Reply × Chip :=
  let mask := m.f 8 2
  checked [chk (bit mask 0 || bit mask 15) .denied, chk (noBlow c) .badState]
    (fun c =>
      let l := (List.range 16).filter fun i => bit mask i && (slotOf c i).st == .loaded
      let c := l.foldl (fun c i => destroySlot (!bad.getLsbD i) i c) c
      if l.any fun i => bad.getLsbD i then (.fail .hwFault, c) else (.res (slotMask c .destroyed) 0, c)) c

/-- VLT.DESTROY. -/
def execVltDestroy (r : Req) (bad : BitVec 16) (s : State) : Out := onChip (serve 0x1012 r (vltDestroy bad)) s

/-- The PROVE message (Table 16.7). -/
def proveMsg (c : Chip) (challenge : List Byte) : List Byte :=
  ascii "SUKEN-PROVE" ++ serialBytes c ++ challenge ++ [BitVec.ofNat 8 (lifeOf c).code]

/-- VLT.PROVE (R796). -/
def vltProve (m : Cmd) (c : Chip) : Reply × Chip :=
  let slot := (slotsFor c 2 0).head?
  checked [chk (destDenied m c (m.f 8 4) 16) .denied, chk (!dest24 m (m.f 8 4)) .badParam, chk slot.isNone .badState]
    (fun c => answerBlock m (m.f 8 4) 0 0 (hmac16 (keyOf c (slot.getD 0)) (proveMsg c (pslice m.params 4 16))) c) c

/-- VLT.PROVE. -/
def execVltProve (r : Req) (s : State) : Out := onChip (serve 0x1020 r vltProve) s

/-- VLT.VERIFY (R798, R799). -/
def vltVerify (m : Cmd) (c : Chip) : Reply × Chip :=
  let cs := m.b 8
  let kind := m.b 9
  let off := m.f 12 4
  let len := m.f 16 4
  checked [chk (1 < cs || kind == 0 || 2 < kind || !m.z 10 2 || len < 256 || 2 ^ 28 < len || 2 ^ 28 < off + len) .badParam,
           chk (isPegged c 0x0B cs) .fenced, chk (cs == 1 && c.mem.cart == .absent) .noMedia]
    (fun c =>
      let img := c.mem.bytes (flashBase + 0x10000000 * cs + off) len
      let version := if kind = 1 then (if cs = 0 then dirVersionAt c off else none) else some 0
      let title := if kind = 2 then pfield img 0x10 8 else 0
      match version.map fun v => verifyImage c kind v title img with
      | some (.good keyId rollback _) => (.res keyId rollback, c)
      | _ => (.fail .verifyFailed, lintImage c)) c

/-- VLT.VERIFY. -/
def execVltVerify (r : Req) (s : State) : Out := onChip (serve 0x1021 r vltVerify) s

/-- The scrap receipt (Table 16.5). -/
def receipt (c : Chip) (key : Option (List Byte)) : List Byte :=
  let masks := leBytes 2 (slotMask c .destroyed) ++ leBytes 2 (slotMask c .unusable)
  let mac := match key with
    | some k => hmac16 k (ascii "SUKEN-SCRAP" ++ serialBytes c ++ masks)
    | none => List.replicate 16 0
  mac ++ masks ++ leBytes 4 0

/-- SCRAP (R790): the fuse, every slot, the receipt, and a cold start 1 ms later. -/
def scrap (bad : BitVec 16) (m : Cmd) (c : Chip) : Reply × Chip :=
  let key := ((List.range 16).find? fun i => (slotOf c i).st == .loaded && (slotOf c i).cls == 2 && bit (slotOf c i).usage 0).map (keyOf c)
  let c := transition .scrap c
  let c := (List.range 16).foldl (fun c i => destroySlot (!bad.getLsbD i) i c) c
  let rec' := receipt c key
  let worn := slotMask c .unusable != 0
  let c := modVlt (fun v => { v with scrapped := true, svcEnd := none }) c
  let c := { c with pwr := { c.pwr with deferred := some .coldStart, deferAt := c.clk.qtime + 24000 } }
  match answerBlock m (m.f 12 4) 0 0 rec' c with
  | (.done _ i x b, c) => (.done (if worn then .hwFault else .ok) i x b, c)
  | a => a

/-- VLT.LIFECYCLE (R784, Table 16.4). -/
def vltLifecycle (bad : BitVec 16) (m : Cmd) (c : Chip) : Reply × Chip :=
  let target := m.b 8
  let toScrap := target == 4
  let l := lifeOf c
  let ready := l == .maker && !(slotsFor c 2 0).isEmpty && !(slotsFor c 3 2).isEmpty && c.pwr.imgOwner
  checked [chk (toScrap && destDenied m c (m.f 12 4) 24) .denied,
           chk ((target != 2 && target != 4) || m.b 9 != (if toScrap then 0xA5 else 0) || !m.z 10 2 || !dest24 m (m.f 12 4)) .badParam,
           chk (noBlow c || (if toScrap then l == .scrap else !ready)) .badState]
    (fun c => if toScrap then scrap bad m c else (.ok, transition .field c)) c

/-- VLT.LIFECYCLE. -/
def execVltLifecycle (r : Req) (bad : BitVec 16) (s : State) : Out := onChip (serve 0x1030 r (vltLifecycle bad)) s

/-- The token of R807 under a key. -/
def serviceToken (c : Chip) (key nonce : List Byte) (minutes : Nat) : List Byte :=
  hmac16 key (ascii "SUKEN-SERVICE" ++ serialBytes c ++ nonce ++ leBytes 1 (c.fuses.entries + 1) ++ leBytes 2 minutes)

/-- SERVICE ends (R808). -/
def leaveService (c : Chip) : Chip := modVlt (fun v => { v with svcEnd := none }) (transition .exit c)

/-- VLT.SERVICE (R785, R807, R808). -/
def vltService (m : Cmd) (c : Chip) : Reply × Chip :=
  let enter := m.b 8 == 1
  let minutes := m.f 10 2
  let l := lifeOf c
  let tokenBytes := pslice m.params 4 16
  let spent := enter && c.fuses.entries == 8
  if spent && 1 ≤ minutes && minutes ≤ 1440 && m.z 9 1 then (.fail .badState, lintBlock 0x1007 0xFF 0 c)
  else
    checked [chk ((m.b 8 != 1 && m.b 8 != 2) || !m.z 9 1 || (if enter then minutes == 0 || 1440 < minutes else minutes != 0 || !m.z 12 16)) .badParam,
             chk (noBlow c || (if enter then l != .field else l != .service)) .badState]
      (fun c =>
        if !enter then (.ok, leaveService c)
        else match nonceOf c with
          | none => authFail m c
          | some n =>
            let good := (slotsFor c 5 5).any fun i => serviceToken c (keyOf c i) n minutes == tokenBytes
            let c := useNonce c
            if good then
              (.ok, modVlt (fun v => { v with svcEnd := some (c.clk.qtime + minutes * 60 * 24000000) }) (transition .entry c))
            else authFail m c) c

/-- VLT.SERVICE. -/
def execVltService (r : Req) (s : State) : Out := onChip (serve 0x1031 r vltService) s

/-- SERVICE_DURATION_END: the token's minutes have passed in Quartz time (R808); the exit fuse waits for class 1 (R783). -/
def serviceEnd (c : Chip) : Chip :=
  match c.vlt.svcEnd with
  | some t => if lifeOf c = .service ∧ c.pwr.cls = 1 then leaveService (atTime t c) else c
  | none => c

/-- SERVICE_DURATION_END. -/
def execServiceDurationEnd (s : State) : Out := onChip serviceEnd s

/-- VLT.FLOOR (R801). -/
def vltFloor (m : Cmd) (c : Chip) : Reply × Chip :=
  let n := m.b 8
  checked [chk (n == 0 || 64 < n) .badParam, chk (noBlow c || n ≤ c.fuses.floor || c.pwr.imgRollback < n || !slotConfirmed c) .badState]
    (fun c => (.ok, lintBlock 0x1006 0xFF n (burnNow (.floor n) c))) c

/-- VLT.FLOOR. -/
def execVltFloor (r : Req) (s : State) : Out := onChip (serve 0x1032 r vltFloor) s

/-- The boot ROM's part: an unfinished destruction is finished (R791), and a SERVICE that a cold start ends (R786). -/
def vaultStart (c : Chip) : Chip :=
  let c := useNonce (modVlt (fun v => { v with svcEnd := none, scrapped := false }) c)
  match lifeOf c with
  | .scrap =>
    let l := (List.range 16).filter fun i => (slotOf c i).st == .empty || (slotOf c i).st == .loaded
    if l.isEmpty then c
    else l.foldl (fun c i => destroySlot true i c) (lintAs true 0x1009 (blockUnit 0x1009) 0xFF (bitsToNat ((List.range 16).map l.contains)) c)
  | .service => transition .exit c
  | _ => c

end Sys2Proof.Machine
end

