-- ==== Sys2Proof/Machine/Flash.lean ====
section
/-! DEFINITION. The flash port: program, erase and staging, the cartridge and its mount (R445 to R455, R469 to R471, R805, R841). -/

namespace Sys2Proof.Machine

/-! ### The array (R455) -/

/-- Erases the 4 KiB sector at a physical address. -/
def eraseSector (pa : Nat) (c : Chip) : Chip := modMem (fun m => { m with cells := sclear m.cells pa (pa + 4096) }) c

/-- Programs bytes from a physical address: programming clears bits and sets none. -/
def programAt (pa : Nat) (bs : List Byte) (c : Chip) : Chip :=
  modMem (fun m => m.setBytes pa (List.zipWith (· &&& ·) (m.bytes pa bs.length) bs)) c

/-- A page or sector whose operation did not end: what its bytes hold is stated nowhere, and they are free values. -/
def spoilFlash (pa n : Nat) (c : Chip) : Chip :=
  { c with mem := c.mem.setBytes pa ((List.range n).map fun i => (Config.freeValue (c.freeCnt + i)).truncate 8), freeCnt := c.freeCnt + n }

/-- Physical address of a byte of a chip select. -/
def csBase (cs : Nat) : Nat := flashBase + 0x10000000 * cs

/-- Drops cached cartridge pages that a flash operation has changed. -/
def uncache (cs off n : Nat) (c : Chip) : Chip :=
  if cs = 1 then modMem (fun m => { m with cache := m.cache.filter fun p => p.page * 4096 + 4096 ≤ off || off + n ≤ p.page * 4096 }) c else c

/-! ### The boot directory (R121, R122, R841) -/

/-- The offset of a slot: the directory's, or where the directory names none, 0x1_0000 for A and 0x9_0000 for B. -/
def slotOffset (c : Chip) (i : Nat) : Nat :=
  match bootSlot c i with
  | some s => if s.offset = 0xFFFFFFFF ∨ s.offset = 0 then (if i = 0 then 0x10000 else 0x90000) else s.offset
  | none => if i = 0 then 0x10000 else 0x90000

/-- A directory that lists nothing. -/
def blankDir : List Byte :=
  leBytes 4 0x44424B53 ++ leBytes 4 1 ++ leBytes 4 0xFFFFFFFF ++ leBytes 8 0 ++ leBytes 4 0xFFFFFFFF ++ leBytes 8 0 ++ List.replicate 64 0xFF

/-- The directory with a new entry for a slot: ATTEMPTS 0x07, CONFIRMED 0xFF, REVOKED 0xFF, and its CRC (R841). -/
def dirWith (c : Chip) (i offset length version : Nat) : List Byte :=
  let old := match bootDir c with | some d => d.1 | none => blankDir
  let d := putAt old (8 + 12 * i) (leBytes 4 offset ++ leBytes 4 length ++ leBytes 4 version)
  let d := putAt d 0x4C (leBytes 4 (crc32 (d.take 0x4C)))
  putAt d (0x50 + 8 * i) [0x07, 0xFF, 0xFF]

/-- Erases a copy of the directory and writes it. -/
def writeDir (copy : Bool) (d : List Byte) (c : Chip) : Chip :=
  let pa := flashBase + (if copy then 0x1000 else 0)
  programAt pa d (eraseSector pa c)

/-- Whether the image at a slot's place verifies (R124, R799). -/
def imageGood (c : Chip) (offset length version : Nat) : Option (Nat × Bool) :=
  match verifyImage c 1 version 0 (c.mem.bytes (flashBase + offset) length) with
  | .good _ rollback owner => some (rollback, owner)
  | .bad => none

/-- Writes the new entry into the copy and then into the primary (R841 steps 3 and 4, R130). -/
def listSlot (i offset length version : Nat) (c : Chip) : Chip :=
  let d := dirWith c i offset length version
  writeDir false d (writeDir true d c)

/-! ### Operations under way (R99, R455) -/

/-- Bytes that one step of an operation takes: a page, or a sector. -/
def FlashKind.unit : FlashKind → Nat
  | .program => 256
  | _ => 4096

/-- Ends the operation under way. -/
def endFlash (o : FlashOp) (st : Status) (result : Nat) (c : Chip) : Chip :=
  drainResets (finish o.handle st 0 result (modMem (fun m => { m with flashOp := none }) c))

/-- Pages or sectors done. -/
def FlashOp.done (o : FlashOp) : Nat := o.total - o.left

/-- The port starts the next page or sector only in class 1 (R99). -/
def nextFlash (o : FlashOp) (c : Chip) : Chip :=
  modMem (fun m => { m with flashOp := some { o with busy := c.pwr.cls == 1 } }) c

/-- The image is staged: it is verified, and the directory is rewritten (R841 steps 2 to 4). -/
def stageDone (o : FlashOp) (slot version : Nat) (c : Chip) : Chip :=
  let offset := slotOffset c slot
  match imageGood c offset o.data.length version with
  | some _ => endFlash o .ok 0 (listSlot slot offset o.data.length version c)
  | none => endFlash o .verifyFailed 0 (lintImage c)

/-- FLASH_OP_COMPLETE: the device reports the page or sector done. -/
def flashComplete (c : Chip) : Chip :=
  match c.mem.flashOp with
  | none => c
  | some o =>
    if !(o.busy || c.pwr.cls == 1) || !(c.pwr.phase == .run || c.pwr.phase == .recovery) then c
    else
      let pa := csBase o.cs + o.offset
      let n := o.kind.unit
      let c := match o.kind with
        | .program => programAt pa ((o.data.drop (256 * o.done)).take 256) c
        | .erase => eraseSector pa c
        | .stage _ _ => programAt pa ((o.data.drop (4096 * o.done)).take 4096) (eraseSector pa c)
      let c := uncache o.cs o.offset n c
      let o' : FlashOp := { o with offset := o.offset + n, left := o.left - 1 }
      match o.kind with
      | .program => if o'.left = 0 then endFlash o' .ok 0 c else nextFlash o' c
      | .erase =>
        if o'.left = 0 then endFlash o' .ok 0 c
        else if cancelWaits o.handle c then endFlash o' .partialDone o'.done c
        else nextFlash o' c
      | .stage slot version =>
        if o'.left = 0 then stageDone o' slot version c
        else if cancelWaits o.handle c then endFlash o' .partialDone o'.done c
        else nextFlash o' c

/-- FLASH_OP_COMPLETE. -/
def execFlashOpComplete (s : State) : Out := onChip flashComplete s

/-- FLASH_OP_TIMEOUT: a program has taken 5 ms, or an erase 500 ms. -/
def flashTimeout (c : Chip) : Chip :=
  match c.mem.flashOp with
  | none => c
  | some o =>
    if o.busy then
      c |> spoilFlash (csBase o.cs + o.offset) o.kind.unit |> uncache o.cs o.offset o.kind.unit |> lint 0x0810 (0x0B00 + o.cs) 0xFF o.offset
        |> endFlash o .timeout o.done
    else c

/-- FLASH_OP_TIMEOUT. -/
def execFlashOpTimeout (s : State) : Out := onChip flashTimeout s

/-- Starts the operation of a command, which has all its data. -/
def startFlash (m : Cmd) (o : FlashOp) (c : Chip) : Reply × Chip :=
  (.wait, modMem (fun x => { x with flashOp := some o }) (modCmd m.handle (fun x => { x with dataSince := none }) c))

/-- The port can start an operation now (R99). -/
def flashFree (c : Chip) : Bool := c.mem.flashOp.isNone && c.pwr.cls == 1

/-- Every 64 KiB frame of a range of a chip select is mapped by a partition with R. -/
def mapsFlash (c : Chip) (p cs off n : Nat) : Bool :=
  (List.range ((off % 65536 + n + 65535) / 65536)).all fun i =>
    (partOf c p).map.any fun e => e.2.v && !e.2.window && e.2.r && e.2.frame == 0x2000 + 0x1000 * cs + off / 65536 + i

/-- The origin may not program or erase a range (R469, R471): outside the device, or for a guest outside the save region it maps. -/
def flashDenied (m : Cmd) (c : Chip) (cs off n : Nat) : Bool :=
  decide (2 ^ 28 < off + n) ||
  match m.org with
  | .part 0 => false
  | .part p =>
    let h := c.mem.cartHdr
    !(cs == 1 && c.mem.cart == .mounted && bit h.flags 2 && h.saveOffset ≤ off && off + n ≤ h.saveOffset + h.saveLen && mapsFlash c p cs off n)
  | _ => false

/-- The data of a command: read through the issuer's map, or brought by its chunks; none if a byte is poisoned. -/
def sourceData (m : Cmd) (src n : Nat) (c : Chip) : Option (List Byte) × Chip :=
  match m.org with
  | .part p =>
    let (bs, c) := readK p src n c
    (if anyPoison bs then none else some (plain bs), c)
  | _ => (if m.dataPoison then none else some (m.data.take n), c)

/-- The source range of a partition's command is readable. -/
def srcDenied (m : Cmd) (c : Chip) (src n : Nat) : Bool :=
  match m.org with
  | .part p => !kRangeOk c p .r src n
  | _ => false

/-- MEM.FLASH_PROGRAM (R455, R470, R471). -/
def memFlashProgram (m : Cmd) (c : Chip) : Reply × Chip :=
  let cs := m.b 8
  let len := m.f 10 2
  let off := m.f 12 4
  let src := m.f 16 4
  checked [chk (srcDenied m c src len || flashDenied m c cs off len) .denied,
           chk (1 < cs || len < 256 || 4096 < len || len % 256 != 0 || off % 256 != 0 || 2 ^ 24 ≤ src || (m.org.external && src != 0) || !m.z 9 1) .badParam,
           chk (isPegged c 0x0B cs) .fenced, chk (cs == 1 && c.mem.cart == .absent) .noMedia]
    (fun c =>
      if m.org.external && !dataReady m then waitData m c
      else match sourceData m src len c with
        | (none, c) => (.fail .poisoned, c)
        | (some bs, c) => startFlash m { handle := m.waitHandle, kind := .program, cs := cs, offset := off, left := len / 256, total := len / 256, data := bs } c) c

/-- MEM.FLASH_PROGRAM. In class 2, or while another operation runs, it is not started. -/
def execMemFlashProgram (r : Req) (s : State) : Out := onChip (fun c => if flashFree c then serve 0x0812 r memFlashProgram c else c) s

/-- MEM.FLASH_ERASE (R455, R471). -/
def memFlashErase (m : Cmd) (c : Chip) : Reply × Chip :=
  let cs := m.b 8
  let n := m.b 9
  let off := m.f 12 4
  checked [chk (flashDenied m c cs off (4096 * n)) .denied,
           chk (1 < cs || n == 0 || off % 4096 != 0 || !m.z 10 2) .badParam,
           chk (isPegged c 0x0B cs) .fenced, chk (cs == 1 && c.mem.cart == .absent) .noMedia]
    (fun c => startFlash m { handle := m.waitHandle, kind := .erase, cs := cs, offset := off, left := n, total := n } c) c

/-- MEM.FLASH_ERASE. In class 2, or while another operation runs, it is not started. -/
def execMemFlashErase (r : Req) (s : State) : Out := onChip (fun c => if flashFree c then serve 0x0813 r memFlashErase c else c) s

/-! ### The cartridge (R448 to R454, R805) -/

/-- The header fields of Table 08.6. -/
def headerOf (bs : List Byte) : CartHeader :=
  { flags := pfield bs 6 2, imageLen := pfield bs 8 4, crcTable := pfield bs 12 4, titleId := pfield bs 16 8, saveOffset := pfield bs 24 4, saveLen := pfield bs 28 4 }

/-- A mount is refused: FAILED, with its status and lint 0x080C. -/
def mountFail (st : Status) (c : Chip) : Reply × Chip :=
  (.fail st, lint 0x080C 0x0B01 0xFF 0 (modMem (fun m => { m with cart := .failed, cache := [] }) c))

/-- MEM.CART_MOUNT (R454, R805). -/
def memCartMount (_m : Cmd) (c : Chip) : Reply × Chip :=
  checked [chk (isPegged c 0x0B 1) .fenced, chk (c.mem.cart == .absent) .noMedia]
    (fun c =>
      let hd := c.mem.bytes (csBase 1) 64
      let h := headerOf hd
      let table := c.mem.bytes (csBase 1 + h.crcTable) 4096
      let img := c.mem.bytes (csBase 1) h.imageLen
      if pfield hd 0 4 != 0x54434B53 || pfield hd 4 2 != 1 || crc32 (hd.take 0x3C) != pfield hd 0x3C 4 then mountFail .integrity c
      else if crc32 (table.take 4092) != leNat (table.drop 4092) then mountFail .integrity c
      else if bit h.flags 1 && (match verifyImage c 2 0 h.titleId img with | .good _ _ _ => false | .bad => true) then mountFail .verifyFailed (lintImage c)
      else if bit h.flags 0 && !((contentSlot c h.titleId).isSome && (lifeOf c == .maker || lifeOf c == .field)) then
        mountFail .verifyFailed (lint 0x1008 0x0B01 0xFF 0 c)
      else (.res h.flags h.imageLen, modMem (fun m => { m with cart := .mounted, cartHdr := h, cache := [] }) c)) c

/-- MEM.CART_MOUNT. -/
def execMemCartMount (r : Req) (s : State) : Out := onChip (serve 0x0810 r memCartMount) s

/-- MEM.CART_UNMOUNT: INSERTED; a socket without a cartridge has none to unmount. -/
def memCartUnmount (_m : Cmd) (c : Chip) : Reply × Chip :=
  checked [chk (isPegged c 0x0B 1) .fenced, chk (c.mem.cart == .absent) .noMedia]
    (fun c => (.ok, modMem (fun m => { m with cart := .inserted, cache := [] }) c)) c

/-- MEM.CART_UNMOUNT. -/
def execMemCartUnmount (r : Req) (s : State) : Out := onChip (serve 0x0811 r memCartUnmount) s

/-- The port takes a removal (R452): the cache, the state, the CART event, lint, and operations in flight are lost. -/
def pullCart (c : Chip) : Chip :=
  let c := c |> modMem (fun m => { m with cart := .absent, cache := [] }) |> fireRunning 9 0 |> lint 0x0809 0x0B01 0xFF 0
  match c.mem.flashOp with
  | some o =>
    if o.cs = 1 then
      let c := if o.busy then spoilFlash (csBase 1 + o.offset) o.kind.unit c else c
      endFlash o .lost o.done (lint 0x080B 0x0B01 0xFF o.offset c)
    else c
  | none => c

/-- CART_REMOVAL. -/
def cartRemoval (c : Chip) : Chip := if c.mem.cart = .absent then c else pullCart c

/-- CART_REMOVAL. -/
def execCartRemoval (s : State) : Out := onChip cartRemoval s

/-- CART_INSERTION (R453): the cartridge that was pulled, or one that holds an image. -/
def cartInsertion (image : Option (List Byte)) (c : Chip) : Chip :=
  if c.mem.cart ≠ .absent then c
  else
    let c := match image with
      | none => c
      | some bs => modMem (fun m => { m with cells := sclear m.cells (csBase 1) (csBase 2) }.setBytes (csBase 1) (bs.take (2 ^ 28))) c
    fireRunning 9 1 (modMem (fun m => { m with cart := .inserted }) c)

/-- CART_INSERTION. -/
def execCartInsertion (image : Option (List Byte)) (s : State) : Out := onChip (cartInsertion image) s

/-- CART_PAGE_FILL: a page that is not in the cache is filled (R447). -/
def cartPageFill (page : Nat) (c : Chip) : Chip :=
  if c.mem.cart ≠ .mounted ∨ isPegged c 0x0B 1 ∨ c.mem.cache.any (·.page == page) then c else (cartFill page c).2

/-- CART_PAGE_FILL. -/
def execCartPageFill (page : Word) (s : State) : Out := onChip (cartPageFill page.toNat) s

end Sys2Proof.Machine
end

