-- ==== Sys2Proof/Machine/Input.lean ====
section
/-! DEFINITION. Touch, keys, the home key, the snapshot and the small ports (chapter 14). -/

namespace Sys2Proof.Machine

/-- Changes the input block. -/
def modInp (f : Input → Input) (c : Chip) : Chip := { c with inp := f c.inp }
/-- Changes touch. -/
def modTouch (f : TouchSt → TouchSt) (c : Chip) : Chip := modInp (fun s => { s with touch := f s.touch }) c
/-- Changes keys and GPIO. -/
def modKeys (f : Keys → Keys) (c : Chip) : Chip := modInp (fun s => { s with keys := f s.keys }) c
/-- Changes the input window of a partition. -/
def modSnapPart (p : Nat) (f : SnapPart → SnapPart) (c : Chip) : Chip := modInp (fun s => { s with parts := vmod s.parts p f }) c
/-- Changes an I2C controller. -/
def modI2c (b : Nat) (f : I2cBus → I2cBus) (c : Chip) : Chip := modInp (fun s => { s with i2c := vmod s.i2c b f }) c
/-- Changes the UART. -/
def modUart (f : Uart → Uart) (c : Chip) : Chip := modInp (fun s => { s with uart := f s.uart }) c

/-- The always-running input block samples: the chip is up (Table 14.5: not in class 3). -/
def inputRuns (c : Chip) : Bool := c.pwr.phase == .run || c.pwr.phase == .recovery || c.pwr.phase == .resuming

/-! ### Touch (R684 to R688) -/

/-- The median of three. -/
def median3 (a b d : Nat) : Nat := max (min a b) (min (max a b) d)

/-- R_T of a sample (R685). -/
def touchRt (plate x z1 z2 : Nat) : Nat := plate * x * (z2 - z1) / (4096 * z1)

/-- A sample has contact (R685). -/
def touchContact (g : TouchCfg) (pen : Bool) (x z1 z2 : Nat) : Bool :=
  pen && decide (0 < z1) && decide (z1 ≤ z2) && decide (touchRt g.plate x z1 z2 ≤ g.thresh)

/-- One screen coordinate (R687). -/
def touchPos (a b k : Int) (x y size : Nat) : Nat := (clampI 0 ((size : Int) - 1) ((a * x + b * y + k) / 65536)).toNat

/-- TOUCH_SAMPLE (R684): the pen detect, three X, three Y, Z1 and Z2. -/
def touchSample (pen : Bool) (x1 x2 x3 y1 y2 y3 z1 z2 : Nat) (c : Chip) : Chip :=
  let g := c.inp.touchCfg
  let x := median3 x1 x2 x3
  let y := median3 y1 y2 y3
  if !inputRuns c || !g.en then c
  else if pen && (x == 0 || x == 4095 || y == 0 || y == 4095) then
    lintBlock 0x0E02 0xFF 0 (modTouch (fun t => { t with fault := true }) c)
  else
    let k := touchContact g pen x z1 z2
    let a (i : Nat) : Int := vget g.cal i
    modTouch (fun t =>
      let now := if k = t.last then k else t.contact
      { t with x := x, y := y, z1 := z1, z2 := z2, last := k, contact := now, tapped := t.tapped || (now && !t.contact),
               press := if k then min 0xFFFF (touchRt g.plate x z1 z2) else 0,
               posX := if k then touchPos (a 0) (a 1) (a 2) x y c.beam.hactive else t.posX,
               posY := if k then touchPos (a 3) (a 4) (a 5) x y c.beam.vactive else t.posY }) c

/-- TOUCH_SAMPLE. -/
def execTouchSample (pen : Bool) (x1 x2 x3 y1 y2 y3 z1 z2 : Fin 4096) (s : State) : Out :=
  onChip (touchSample pen x1.val x2.val x3.val y1.val y2.val y3.val z1.val z2.val) s

/-! ### Keys (R689 to R692) -/

/-- The raw levels of one scan by KEYS bit: 1 is pressed or low; outputs read 0. -/
def scanRaw (k : Keys) (keys : BitVec 36) (pins : BitVec 24) : BitVec 48 :=
  let ins := ~~~pins &&& ~~~k.dir
  if k.gpioMode then ins.setWidth 48 else keys.setWidth 48 ||| ((ins.setWidth 48 >>> 12) <<< 36)

/-- The corners of the rectangles of a 6 × 6 matrix in which three or more keys are pressed (R692). -/
def ghostMask (raw : BitVec 48) : BitVec 48 :=
  (List.range 6).foldl (fun m r1 => (List.range r1).foldl (fun m r2 => (List.range 6).foldl (fun m c1 => (List.range c1).foldl (fun m c2 =>
    let ks := [6 * r1 + c1, 6 * r1 + c2, 6 * r2 + c1, 6 * r2 + c2]
    if 3 ≤ (ks.filter fun k => raw.getLsbD k).length then ks.foldl (fun m k => m ||| (1#48 <<< k)) m else m) m) m) m) 0

/-- One bit's debounce (R691): the state and its count of consecutive samples that differ. -/
def debounce (deb raw held : Bool) (n debMs : Nat) : Bool × Nat :=
  if held || raw == deb then (deb, 0) else if debMs ≤ n + 1 then (raw, 0) else (deb, n + 1)

/-- One 1 ms scan of keys and GPIO inputs. -/
def Keys.scan (keys : BitVec 36) (pins : BitVec 24) (k : Keys) : Keys :=
  let raw := scanRaw k keys pins
  let held := if k.gpioMode || k.diodes then 0 else ghostMask raw
  let one (i : Nat) : Bool × Nat := debounce (k.deb.getLsbD i) (raw.getLsbD i) (held.getLsbD i) (vget k.cnt i) k.debMs
  let deb : BitVec 48 := BitVec.ofNat 48 (bitsToNat ((List.range 48).map fun i => (one i).1))
  { k with deb := deb, cnt := Vector.ofFn fun i => (one i.val).2, down := k.down ||| (deb &&& ~~~k.deb), ghost := held != 0, pins := pins }

/-- KEY_SCAN (R690): the keys of the matrix that read pressed, and the levels of GP0 to GP23. -/
def keyScan (keys : BitVec 36) (pins : BitVec 24) (c : Chip) : Chip :=
  if !inputRuns c then c
  else
    let old := c.inp.keys.ghost
    let c := modKeys (Keys.scan keys pins) c
    if c.inp.keys.ghost && !old then lintBlock 0x0E01 0xFF 0 c else c

/-- KEY_SCAN. -/
def execKeyScan (keys : BitVec 36) (pins : BitVec 24) (s : State) : Out := onChip (keyScan keys pins) s

/-! ### Home key (R693) -/

/-- A debounced change of the home key, with its HOME event in P0. -/
def homeEdge (down : Bool) (c : Chip) : Chip :=
  if !inputRuns c || c.inp.homeDown == down then c
  else fire 0 54 (if down then 1 else 2) (modInp (fun s => { s with homeDown := down }) c)

/-- HOME_KEY_PRESS. -/
def execHomeKeyPress (s : State) : Out := onChip (homeEdge true) s

/-- HOME_KEY_RELEASE. -/
def execHomeKeyRelease (s : State) : Out := onChip (homeEdge false) s

/-- The home key has been held for 2 s. -/
def homeHold (c : Chip) : Chip := if inputRuns c && c.inp.homeDown then fire 0 54 3 c else c

/-- HOME_KEY_HOLD. -/
def execHomeKeyHold (s : State) : Out := onChip homeHold s

/-! ### The snapshot (R694 to R698) -/

/-- LATCH_LINE (R694). -/
def latchLine (c : Chip) : Nat :=
  c.beam.vtotal - (8 * c.beam.pclk + 1000000 * c.beam.htotal - 1) / (1000000 * c.beam.htotal)

/-- The sampling point: what has gathered since the previous one goes into the snapshot, with a snapshot that no frame start took. -/
def latchSnapshot (c : Chip) : Chip :=
  let k := c.inp.keys
  let t := c.inp.touch
  let old : Snap := c.inp.latched.getD {}
  let s : Snap :=
    { keys := k.deb, down := k.down ||| old.down, x := t.posX, y := t.posY, press := t.press, contact := t.contact,
      tapped := t.tapped || old.tapped, ghost := k.ghost, fault := t.fault || old.fault }
  c |> modInp (fun i => { i with latched := some s }) |> modKeys (fun k => { k with down := 0 })
    |> modTouch (fun t => { t with tapped := false, fault := false })

/-- The 32 bytes of a snapshot (Table 14.2). -/
def Snap.bytes (frame : Nat) (released : Bool) (s : Snap) : List Byte :=
  leBytes 4 frame ++ leBytes 8 s.keys.toNat ++ leBytes 8 s.down.toNat ++ leBytes 2 s.x ++ leBytes 2 s.y ++ leBytes 2 s.press
    ++ leBytes 2 (bitsToNat [s.contact, s.tapped, s.ghost, released, s.fault]) ++ leBytes 4 0

/-- KEYS and CONTACT of a snapshot's bytes. -/
def snapState (bs : List Byte) : List Byte × Bool := ((bs.drop 4).take 8, bit (pbyte bs 26) 0)

/-- The snapshot of a partition at a frame start: window, destination, INPUT event (R695 to R698). -/
def deliverSnap (p : Nat) (s : Snap) (c : Chip) : Chip :=
  let focus := c.focus == p
  let s := if !focus then {} else if c.inp.seen = some p then s else { s with down := 0, tapped := false }
  let bs := s.bytes c.beam.frame (!focus)
  let q := vget c.inp.parts p
  let changed := snapState q.bytes != snapState bs || s.down != 0
  let c := modSnapPart p (fun q => { q with bytes := bs, focus := focus }) c
  let c := if !q.en then c else
    match firstRefused c p .w q.dest 32 with
    | some a => lintBlock 0x0E0A p a (modSnapPart p (fun q => { q with en := false, mapFault := true }) c)
    | none => writeKFree p q.dest (clean bs) c
  if q.en || hasExpert c p then fire p 7 (b2n focus + 2 * b2n changed) c else c

/-- The partitions that exist. -/
def livePartitions (c : Chip) : List Nat := (List.range 7).filter fun p => p == 0 || (partOf c p).st != .empty

/-- Delivers the snapshot at a frame start. -/
def deliverSnapshot (c : Chip) : Chip :=
  let c := if c.inp.latched.isNone then latchSnapshot c else c
  let s := c.inp.latched.getD {}
  let c := (livePartitions c).foldl (fun c p => deliverSnap p s c) c
  modInp (fun i => { i with latched := none, seen := some c.focus }) c

/-- INP.SNAPSHOT. -/
def inpSnapshot (m : Cmd) (c : Chip) : Reply × Chip :=
  let d := m.f 8 4
  checked [chk (d != 0 && d < 2 ^ 24 && !kRangeOk c m.part .w d 32) .denied, chk (2 ^ 24 ≤ d || d % 32 != 0) .badParam]
    (fun c => (.ok, modSnapPart m.part (fun q => { q with en := d != 0, dest := d }) c)) c

/-- INP.SNAPSHOT. -/
def execInpSnapshot (r : Req) (s : State) : Out := onChip (serve 0x0E10 r inpSnapshot) s

/-- INP.CONFIG: a change of key mode starts the debounced states anew. -/
def inpConfig (m : Cmd) (c : Chip) : Reply × Chip :=
  let rate := m.f 12 2
  checked [chk (3 < m.b 8 || m.b 9 < 1 || 31 < m.b 9 || m.b 10 < 4 || 63 < m.b 10 || 1 < m.b 11 || rate < 60 || 960 < rate || m.b 14 < 1
             || !m.z 15 1 || m.f 16 2 < 50 || 5000 < m.f 16 2 || m.f 18 2 < 100 || 20000 < m.f 18 2) .badParam]
    (fun c =>
      let mode := bit (m.b 8) 0
      (.ok, c |> modKeys (fun k =>
          let k := if k.gpioMode = mode then k else { k with deb := 0, cnt := Vector.replicate 48 0, down := 0, ghost := false }
          { k with gpioMode := mode, diodes := bit (m.b 8) 1, debMs := m.b 9, rowUs := m.b 10 })
        |> modInp (fun i => { i with touchCfg := { i.touchCfg with en := bit (m.b 11) 0, rate := rate, settle := m.b 14, plate := m.f 16 2, thresh := m.f 18 2 } }))) c

/-- INP.CONFIG. -/
def execInpConfig (r : Req) (s : State) : Out := onChip (serve 0x0E11 r inpConfig) s

/-- INP.TOUCH_CAL. -/
def inpTouchCal (m : Cmd) (c : Chip) : Reply × Chip :=
  (.ok, modInp (fun i => { i with touchCfg := { i.touchCfg with cal := Vector.ofFn fun k => sext 32 (m.f (8 + 4 * k.val) 4) } }) c)

/-- INP.TOUCH_CAL. -/
def execInpTouchCal (r : Req) (s : State) : Out := onChip (serve 0x0E12 r inpTouchCal) s

/-! ### GPIO -/

/-- Live pin levels: outputs as driven, inputs as last sampled. -/
def Keys.live (k : Keys) : BitVec 24 := (k.out &&& k.dir) ||| (k.pins &&& ~~~k.dir)

/-- Pins that the matrix uses. -/
def Keys.matrixPins (k : Keys) : BitVec 24 := if k.gpioMode then 0 else 0xFFF

/-- IO.GPIO. -/
def ioGpio (m : Cmd) (c : Chip) : Reply × Chip :=
  let mask := BitVec.ofNat 24 (m.f 8 4)
  checked [chk (2 ^ 24 ≤ m.f 8 4 || 2 ^ 24 ≤ m.f 12 4 || 2 ^ 24 ≤ m.f 16 4) .badParam, chk (mask &&& c.inp.keys.matrixPins != 0) .inUse]
    (fun c =>
      let put (old : BitVec 24) (v : Nat) : BitVec 24 := (old &&& ~~~mask) ||| (BitVec.ofNat 24 v &&& mask)
      let c := modKeys (fun k => { k with dir := put k.dir (m.f 12 4), out := put k.out (m.f 16 4) }) c
      (.res 0 c.inp.keys.live.toNat, c)) c

/-- IO.GPIO. -/
def execIoGpio (r : Req) (s : State) : Out := onChip (serve 0x0E20 r ioGpio) s

/-! ### PWM and rumble (R699 to R701) -/

/-- The duty of a channel at a time. -/
def Pwm.now (t : Nat) (w : Pwm) : Nat :=
  let n := w.rampMs * 24000
  if w.start + n ≤ t then w.to_ else ((w.from_ : Int) + ((w.to_ : Int) - w.from_) * (t - w.start : Nat) / n).toNat

/-- A channel moves to a new duty. -/
def setDuty (ch duty : Nat) (c : Chip) : Chip :=
  let t := c.clk.qtime
  modInp (fun i => { i with pwm := vmod i.pwm ch fun w => if w.to_ = duty then w else { w with from_ := w.now t, to_ := duty, start := t } }) c

/-- The backlight duty that class 2 and R97 leave. -/
def backlightTarget (c : Chip) : Nat := let d := (vget c.inp.pwm 0).set; if c.pwr.reduced then d / 4 else d

/-- The rumble duty in force: the request up to RUMBLE_MAX, none while reduced. -/
def rumbleTarget (c : Chip) : Nat :=
  match c.inp.rumble.req with
  | some (_, d, _) => if c.pwr.reduced then 0 else min d c.inp.rumble.max
  | none => 0

/-- Brings both channels to the duties in force. -/
def applyDuties (c : Chip) : Chip :=
  let d := rumbleTarget c
  let c := setDuty 1 d (setDuty 0 (backlightTarget c) c)
  modInp (fun i => { i with rumble := { i.rumble with since := if d = 0 then none else some (i.rumble.since.getD c.clk.qtime) } }) c

/-- The rumble request ends. -/
def endRumble (c : Chip) : Chip := applyDuties (modInp (fun i => { i with rumble := { i.rumble with req := none } }) c)

/-- IO.PWM. -/
def ioPwm (m : Cmd) (c : Chip) : Reply × Chip :=
  let ch := m.b 8
  let f := m.f 12 4
  checked [chk (1 < ch || 1000 < m.f 10 2 || f < 100 || 100000 < f || (ch == 1 && (m.f 16 2 < 100 || 10000 < m.f 16 2))) .badParam]
    (fun c =>
      let c := modInp (fun i => { i with pwm := vmod i.pwm ch fun w => { w with freq := f, rampMs := m.b 9, set := if ch = 0 then m.f 10 2 else w.set } }) c
      let c := if ch = 1 then modInp (fun i => { i with rumble := { i.rumble with max := m.f 10 2, ms := m.f 16 2 } }) c else c
      (.ok, applyDuties c)) c

/-- IO.PWM. -/
def execIoPwm (r : Req) (s : State) : Out := onChip (serve 0x0E24 r ioPwm) s

/-- IO.RUMBLE: P0, or the partition with focus (Table 14.1). -/
def ioRumble (m : Cmd) (c : Chip) : Reply × Chip :=
  checked [chk (1000 < m.f 8 2 || 10000 < m.f 10 2) .badParam, chk (m.part != 0 && c.focus != m.part) .badState]
    (fun c => (.ok, applyDuties (modInp (fun i => { i with rumble := { i.rumble with
      req := some (m.part, m.f 8 2, c.clk.qtime + 24000 * m.f 10 2) } }) c))) c

/-- IO.RUMBLE. -/
def execIoRumble (r : Req) (s : State) : Out := onChip (serve 0x0E25 r ioRumble) s

/-- The requested duration ends. -/
def rumbleEnd (c : Chip) : Chip :=
  match c.inp.rumble.req with
  | some (_, _, t) => endRumble (atTime t c)
  | none => c

/-- RUMBLE_DURATION_END. -/
def execRumbleDurationEnd (s : State) : Out := onChip rumbleEnd s

/-- RUMBLE_MS of continuous nonzero duty have passed. -/
def rumbleTimeout (c : Chip) : Chip :=
  match c.inp.rumble.since with
  | some t => lintBlock 0x0E09 0xFF 0 (endRumble (atTime (t + 24000 * c.inp.rumble.ms) c))
  | none => c

/-- RUMBLE_TIMEOUT. -/
def execRumbleTimeout (s : State) : Out := onChip rumbleTimeout s

/-- A partition's rumble ends with its focus or its reset. -/
def dropRumble (p : Nat) (c : Chip) : Chip :=
  match c.inp.rumble.req with
  | some (q, _, _) => if q = p then endRumble c else c
  | none => c

/-! ### Auxiliary ADC (R702) -/

/-- AUX_CONVERSION. -/
def auxConversion (ch code : Nat) (c : Chip) : Chip :=
  if inputRuns c then modInp (fun i => { i with adc := vset i.adc ch code }) c else c

/-- AUX_CONVERSION. -/
def execAuxConversion (ch : Fin 4) (code : Fin 4096) (s : State) : Out := onChip (auxConversion ch.val code.val) s

/-- IO.ADC. -/
def ioAdc (m : Cmd) (c : Chip) : Reply × Chip :=
  let k := vget c.inp.adc (m.b 8)
  checked [chk (3 < m.b 8) .badParam] (fun c => (.res 0 (k + 65536 * ((k * 1800 + 2048) / 4096)), c)) c

/-- IO.ADC. -/
def execIoAdc (r : Req) (s : State) : Out := onChip (serve 0x0E26 r ioAdc) s

/-! ### I2C (R703 to R706) -/

/-- A transfer ends: its command completes, and the port needs service. -/
def i2cDone (b : Nat) (o : I2cOp) (st : Status) (cause n result : Nat) (c : Chip) : Chip :=
  finish o.handle st (min 255 n + 256 * cause) result (modI2c b (fun x => { x with op := none, svc := true }) c)

/-- The bus stays stuck after recovery (R706). -/
def i2cStuck (b : Nat) (c : Chip) : Chip := lintBlock 0x0E04 0xFF b (modI2c b (fun x => { x with stuck := true }) c)

/-- IO.I2C. The lines of the idle bus are observed: high, low but recovered, or stuck. An external origin acts through P0's map. -/
def ioI2c (lines : BusLines) (m : Cmd) (c : Chip) : Reply × Chip :=
  let b := m.b 8 % 2
  let wlen := m.b 10
  let rlen := m.b 11
  let dest := m.f 12 4
  checked
    [chk (dest != 0 && dest < 2 ^ 24 && !kRangeOk c 0 .w dest rlen) .denied,
     chk (3 < m.b 8 || 127 < m.b 9 || 12 < wlen || 2 ^ 24 ≤ dest || (dest == 0 && 4 < rlen)) .badParam,
     chk (vget c.inp.i2c b).op.isSome .inUse]
    (fun c =>
      let c := modI2c b (fun x => { x with fast := bit (m.b 8) 1, svc := false }) c
      match lines with
      | .stuck => (.done .timeout 0x400 0 [], modI2c b (fun x => { x with svc := true }) (i2cStuck b c))
      | _ => (.wait, modI2c b (fun x => { x with
          stuck := x.stuck && lines != .recovered,
          op := some { handle := m.waitHandle, addr := m.b 9, wdata := pslice m.params 8 wlen, rlen := rlen, dest := dest } }) c)) c

/-- IO.I2C. -/
def execIoI2c (r : Req) (lines : BusLines) (s : State) : Out := onChip (serve 0x0E21 r (ioI2c lines)) s

/-- Bytes on the bus of a whole transfer, address bytes included. -/
def I2cOp.total (o : I2cOp) : Nat :=
  (if o.wdata.isEmpty && o.rlen != 0 then 0 else 1 + o.wdata.length) + (if o.rlen = 0 then 0 else 1 + o.rlen)

/-- I2C_TRANSFER_END (R703, R704). -/
def i2cEnd (b : Nat) (e : I2cEnd) (c : Chip) : Chip :=
  match (vget c.inp.i2c b).op with
  | none => c
  | some o =>
    match e with
    | .nackAddress n => i2cDone b o .partialDone 1 n.toNat 0 c
    | .nackData n => i2cDone b o .partialDone 2 n.toNat 0 c
    | .done data =>
      let bs := pslice data 0 o.rlen
      let c := if o.dest = 0 then c else writeK 0 o.dest (clean bs) c
      i2cDone b o .ok 0 o.total (if o.dest = 0 then leNat bs else 0) c

/-- I2C_TRANSFER_END. -/
def execI2cTransferEnd (b : Fin 2) (e : I2cEnd) (s : State) : Out := onChip (i2cEnd b.val e) s

/-- I2C_STRETCH_TIMEOUT (R705): the target has held SCL low for STRETCH_MS; the bus recovers or is marked stuck (R706). -/
def i2cStretch (b : Nat) (n : Nat) (recovers : Bool) (c : Chip) : Chip :=
  match (vget c.inp.i2c b).op with
  | none => c
  | some o =>
    let c := lintBlock 0x0E03 0xFF o.addr c
    if recovers then i2cDone b o .timeout 3 n 0 c else i2cDone b o .timeout 4 n 0 (i2cStuck b c)

/-- I2C_STRETCH_TIMEOUT. -/
def execI2cStretchTimeout (b : Fin 2) (n : Byte) (recovers : Bool) (s : State) : Out := onChip (i2cStretch b.val n.toNat recovers) s

/-! ### SPI controller (R709) -/

/-- IO.SPI. An external origin acts through P0's map. -/
def ioSpi (m : Cmd) (c : Chip) : Reply × Chip :=
  let len := m.f 10 2
  let src := m.f 12 4
  let dest := m.f 16 4
  let f := m.f 20 4
  let okLen := 1 ≤ len && len ≤ 4096
  if okLen && src < 2 ^ 24 && dest < 2 ^ 24 && (!kRangeOk c 0 .r src len || (dest != 0 && !kRangeOk c 0 .w dest len)) then (.fail .denied, c)
  else if 1 < m.b 8 || 7 < m.b 9 || !okLen || 2 ^ 24 ≤ src || 2 ^ 24 ≤ dest || f < 100000 || 24000000 < f then (.fail .badParam, c)
  else if c.inp.spi.op.isSome then (.fail .inUse, c)
  else
    let (bs, c) := readK 0 src len c
    if anyPoison bs then (.fail .poisoned, c)
    else (.wait, modInp (fun i => { i with spi := { svc := false, op := some {
      handle := m.waitHandle, cs := m.b 8, mode := m.b 9, div := (24000000 + f - 1) / f, out := plain bs, dest := dest } } }) c)

/-- IO.SPI. -/
def execIoSpi (r : Req) (s : State) : Out := onChip (serve 0x0E22 r ioSpi) s

/-- SPI_TRANSFER_END (R709): the bytes that came in. -/
def spiEnd (data : List Byte) (c : Chip) : Chip :=
  match c.inp.spi.op with
  | none => c
  | some o =>
    let bs := pslice data 0 o.out.length
    let c := if o.dest = 0 then c else writeK 0 o.dest (clean bs) c
    finish o.handle .ok 0 0 (modInp (fun i => { i with spi := { op := none, svc := true } }) c)

/-- SPI_TRANSFER_END. -/
def execSpiTransferEnd (data : List Byte) (s : State) : Out := onChip (spiEnd data) s

/-! ### UART (R707, R708) -/

/-- The UART is enabled. -/
def Uart.on (u : Uart) : Bool := bit u.format 4

/-- UART_RTS is asserted. -/
def Uart.rts (u : Uart) : Bool := !bit u.format 3 || decide (u.rx.length < 56)

/-- IO.UART. -/
def ioUart (m : Cmd) (c : Chip) : Reply × Chip :=
  checked [chk (m.f 8 4 < 300 || 3000000 < m.f 8 4 || 32 ≤ m.b 12 || m.b 12 % 4 == 3) .badParam]
    (fun c => (.ok, modUart (fun u => { u with baud := m.f 8 4, format := m.b 12 }) c)) c

/-- IO.UART. -/
def execIoUart (r : Req) (s : State) : Out := onChip (serve 0x0E23 r ioUart) s

/-- A kind of error is flagged, and logged once per second. -/
def uartError (k : Nat) (c : Chip) : Chip :=
  let now := c.clk.qtime
  let quiet := match vget c.inp.uart.logged k with | some t => decide (now < t + 24000000) | none => false
  let c := modUart (fun u => { u with flags := u.flags ||| (1#4 <<< k), logged := if quiet then u.logged else vset u.logged k (some now) }) c
  if quiet then c else lintBlock 0x0E05 0xFF k c

/-- UART_RX_BYTE (R708). -/
def uartRx (b : Byte) (framing parity brk : Bool) (c : Chip) : Chip :=
  let u := c.inp.uart
  if !inputRuns c || !u.on then c
  else
    let c := if u.rx.length < 64 then modUart (fun u => { u with rx := u.rx ++ [b] }) c else uartError 2 c
    let c := if framing then uartError 0 c else c
    let c := if parity && u.format % 4 != 0 then uartError 1 c else c
    if brk then uartError 3 c else c

/-- UART_RX_BYTE. -/
def execUartRxByte (b : Byte) (framing parity brk : Bool) (s : State) : Out := onChip (uartRx b framing parity brk) s

/-- UART_TX_BYTE (R707): a byte starts only while UART_CTS is asserted, where RTS/CTS is selected. -/
def uartTx (cts : Bool) (c : Chip) : Chip :=
  let u := c.inp.uart
  match u.tx with
  | b :: rest => if inputRuns c && u.on && (cts || !bit u.format 3) then modUart (fun u => { u with tx := rest, sent := some b }) c else c
  | [] => c

/-- UART_TX_BYTE. -/
def execUartTxByte (cts : Bool) (s : State) : Out := onChip (uartTx cts) s

/-! ### Service sources (R717) -/

/-- The level of source 48 to 53. -/
def portLevel (c : Chip) (src : Nat) : Bool :=
  match src with
  | 48 => (vget c.inp.i2c 0).svc
  | 49 => (vget c.inp.i2c 1).svc
  | 50 => let u := c.inp.uart; decide (32 ≤ u.rx.length) || (u.txEn && decide (u.tx.length < 16)) || u.flags != 0
  | 51 => c.inp.spi.svc
  | 52 => c.host.cmdProd != c.host.cmdCons || c.inp.hostBad
  | _ => !c.usb.waiting.isEmpty

/-! ### The window (R721) -/

/-- A read of the input window by partition p. -/
def inputRead (p off : Nat) (c : Chip) : Nat × Chip :=
  let o := off - 0x9000
  let q := vget c.inp.parts p
  let k := c.inp.keys
  let u := c.inp.uart
  if o < 0x20 then (pfield q.bytes o 2, c)
  else if 0x100 ≤ o ∧ p ≠ 0 then (0, c)
  else match o with
    | 0x20 => (b2n q.en, c)
    | 0x22 => (q.dest % 65536, c)
    | 0x24 => (q.dest / 65536, c)
    | 0x26 => (b2n q.focus + 2 * b2n q.mapFault, c)
    | 0x100 => (k.live.toNat % 65536, c)
    | 0x102 => (k.live.toNat / 65536, c)
    | 0x104 => (k.out.toNat % 65536, c)
    | 0x106 => (k.out.toNat / 65536, c)
    | 0x108 => (k.dir.toNat % 65536, c)
    | 0x10A => (k.dir.toNat / 65536, c)
    | 0x110 => ((u.rx.headD 0).toNat, modUart (fun u => { u with rx := u.rx.drop 1 }) c)
    | 0x112 => (u.rx.length + 256 * u.flags.toNat, c)
    | 0x114 => (u.tx.length + 256 * b2n u.txEn, c)
    | 0x120 => (c.inp.touch.x, c)
    | 0x122 => (c.inp.touch.y, c)
    | 0x124 => (c.inp.touch.z1, c)
    | 0x126 => (c.inp.touch.z2, c)
    | 0x130 => (bitsToNat ((List.range 6).map fun i => portLevel c (48 + i)), c)
    | _ => (0, c)

/-- Half of a 24-bit register written. -/
def half24 (hi : Bool) (old : BitVec 24) (v : Nat) : BitVec 24 := BitVec.ofNat 24 (if hi then setHi old.toNat v else setLo old.toNat v)

/-- A write of the input window by partition p. -/
def inputWrite (p off v : Nat) (c : Chip) : Chip :=
  let o := off - 0x9000
  if 0x100 ≤ o ∧ p ≠ 0 then c
  else match o with
    | 0x20 => modSnapPart p (fun q => { q with en := bit v 0 }) c
    | 0x22 => modSnapPart p (fun q => { q with dest := setLo q.dest (v / 32 * 32) }) c
    | 0x24 => modSnapPart p (fun q => { q with dest := setHi q.dest v }) c
    | 0x26 => modSnapPart p (fun q => { q with mapFault := q.mapFault && !bit v 1 }) c
    | 0x104 => modKeys (fun k => { k with out := half24 false k.out v }) c
    | 0x106 => modKeys (fun k => { k with out := half24 true k.out v }) c
    | 0x108 => modKeys (fun k => { k with dir := half24 false k.dir v &&& ~~~k.matrixPins ||| k.dir &&& k.matrixPins }) c
    | 0x10A => modKeys (fun k => { k with dir := half24 true k.dir v }) c
    | 0x110 => modUart (fun u => if u.tx.length < 64 then { u with tx := u.tx ++ [BitVec.ofNat 8 v] } else u) c
    | 0x112 => modUart (fun u => { u with flags := u.flags &&& ~~~BitVec.ofNat 4 (v / 256) }) c
    | 0x114 => modUart (fun u => { u with txEn := bit v 8 }) c
    | _ => c

/-- The input window of a partition at its reset (R719). -/
def resetInputOf (p : Nat) (c : Chip) : Chip := dropRumble p (modSnapPart p (fun q => { q with en := false, dest := 0 }) c)

end Sys2Proof.Machine
end

