-- ==== Sys2Proof/Machine/Restart.lean ====
section
/-! DEFINITION. Boot slots, recovery mode's image commands and the steward's warm restart (R123 to R127, R256, R257, R822, R837 to R842). -/

namespace Sys2Proof.Machine

/-- Changes the service block. -/
def modSvc (f : Service → Service) (c : Chip) : Chip := { c with svc := f c.svc }
/-- Changes power and boot. -/
def modPwr (f : Power → Power) (c : Chip) : Chip := { c with pwr := f c.pwr }

/-! ### Slots (R123 to R125) -/

/-- A slot is eligible. -/
def slotEligible (c : Chip) (i : Nat) : Bool := ((bootSlot c i).map BootSlot.eligible).getD false

/-- The eligible slots in the order in which they are tried: the higher version first, slot A first of equals (R123). -/
def tryOrder (c : Chip) : List Nat :=
  let v (i : Nat) : Nat := ((bootSlot c i).map (·.version)).getD 0
  (if v 0 < v 1 then [1, 0] else [0, 1]).filter (slotEligible c)

/-- ATTEMPTS with its highest set bit cleared. -/
def fewerAttempts (a : Nat) : Nat := if a = 7 then 3 else if a = 3 then 1 else 0

/-- Clears the highest set bit of ATTEMPTS of an unconfirmed slot (R125). -/
def useAttempt (i : Nat) (c : Chip) : Chip :=
  match bootSlot c i with
  | some s => if s.confirmed then c else setMark i 0 (fewerAttempts s.attempts) c
  | none => c

/-- The image of a slot, as the directory places it, verifies. -/
def slotGood (c : Chip) (i : Nat) : Option (Nat × Bool) :=
  match bootSlot c i with
  | some s => imageGood c s.offset s.length s.version
  | none => none

/-- A slot runs: its number, its version and what its signature block says. -/
def runSlot (i rollback : Nat) (owner : Bool) (c : Chip) : Chip :=
  modPwr (fun p => { p with slot := i, imgOwner := owner, imgRollback := rollback, confirmDue := true, recoveryFlag := false }) c

/-- The boot ROM's entry for a slot that failed (R124, R799). -/
def slotFailed (i : Nat) (c : Chip) : Chip :=
  let (d, c) := freeNat c
  lintAs true 0x0107 (blockUnit 0x0107) 0xFF i (lintAs true 0x1005 (blockUnit 0x1005) 0xFF (d % 2 ^ 32) c)

/-- Tries slots in turn; the first that passes runs (R124, R125). -/
def bootTry : List Nat → Chip → Bool × Chip
  | [], c => (false, c)
  | i :: rest, c => match slotGood c i with
    | some (rb, own) => (true, runSlot i rb own (useAttempt i c))
    | none => bootTry rest (modPwr (fun p => { p with fallback := true }) (slotFailed i c))

/-! ### Warm restart (R256, R837) -/

/-- A command that a warm restart completes RESTARTED: firmware-owned, and not the one that restarts. -/
def restartKills (keep : Option Long) (m : Cmd) : Bool :=
  !((Config.opRow m.op).any (·.hw)) && keep != some m.handle

/-- Firmware-owned commands outstanding complete RESTARTED, and what they left waiting is dropped (R256). -/
def endFirmware (keep : Option Long) (c : Chip) : Chip :=
  let dead := c.cmds.filter (restartKills keep)
  let c := dead.foldl (fun c m => complete m .restarted 0 0 [] c) c
  let gone (h : Long) : Bool := dead.any (·.handle == h)
  let c := dropSndCmds (dropChanges gone c)
  let c := dead.foldl (fun c m => dropRemote m.handle c) c
  { c with
    focusPending := [],
    ownRamp := c.ownRamp,
    scan := { c.scan with modeQ := [], dcs := { c.scan.dcs with waiting := [], read := none } },
    inp := { c.inp with i2c := c.inp.i2c.map (fun b => { b with op := none }), spi := { c.inp.spi with op := none } },
    mem := { c.mem with flashOp := none } }

/-- Steps 1 and 2 of R837; step 3 and 4 are BOROUX_START. -/
def startRestart (slot : Nat) (swap : Bool) (cmd : Option Cmd) (c : Chip) : Chip :=
  let c := endFirmware (cmd.map (·.handle)) { c with stewDown := true, svc := { c.svc with restart := some { slot := slot, swap := swap, cmd := cmd }, table := c.units } }
  drainResets (modCore 6 (fun _ => {}) c)

/-- The units of Table 17.1. -/
def allUnits : List UnitId :=
  [(1, 6), (2, 34), (3, 6), (4, 8), (5, 4), (6, 8), (7, 24), (8, 8), (9, 5), (10, 32), (11, 2)].flatMap fun k =>
    (List.range k.2).map fun i => ⟨k.1, i⟩

/-- A unit that the retained table shows RETIRED or PEGGED and its register ACTIVE is pegged (R822). -/
def mergeUnit (u : UnitId) (c : Chip) : Chip :=
  match unitState { c with units := c.svc.table } u, unitState c u with
  | .retired, .active => pegAny u c
  | .pegged, .active => pegAny u c
  | _, _ => c

/-- Step 4 of R837: Boroux starts with a slot, rebuilds its table and serves again (R257, R822). -/
def borouxServes (r : Restart) (i rollback : Nat) (owner : Bool) (st : Status) (c : Chip) : Chip :=
  let img := match bootSlot c i with | some s => c.mem.bytes (flashBase + s.offset) s.length | none => []
  let c := runSlot i rollback owner c
  let c := modMem (fun m => { m.setStewBytes 0 img with stewSyn := sclear m.stewSyn 0 ((img.length + 7) / 8) }) c
  let c := { c with stewDown := false, svc := { c.svc with restart := none }, cores := vset c.cores 6 { run := .running } }
  let c := allUnits.foldl (fun c u => mergeUnit u c) c
  let c := { c with mbx := c.mbx.map fun m => { m with restarted := true }, host := c.host.setStatus 3 }
  let c := lintBlock 0x1108 0xFF i (modSvc (fun s => { s with table := c.units }) c)
  match r.cmd with
  | some m => finish m.waitHandle st 0 0 c
  | none => c

/-- BOROUX_START: the image of the chosen slot verifies and starts. A swapped slot that fails falls back to the running one (R839); where
that fails too, the other eligible slots are tried, and with none left the chip cold-starts into recovery mode. -/
def borouxStart (c : Chip) : Chip :=
  match c.svc.restart with
  | none => c
  | some r =>
    if c.pwr.phase ≠ .run then c
    else match slotGood c r.slot with
      | some (rb, own) => borouxServes r r.slot rb own .ok c
      | none =>
        let c := slotFailed r.slot c
        let c := if r.swap then lintBlock 0x1109 0xFF r.slot c else c
        let st : Status := if r.swap then .verifyFailed else .ok
        let rest := (if r.swap then [c.pwr.slot] else []) ++ (tryOrder c).filter (fun i => i != r.slot && i != c.pwr.slot)
        match rest.find? fun i => (slotGood c i).isSome with
        | some i => match slotGood c i with
          | some (rb, own) => borouxServes r i rb own st c
          | none => c
        | none => modSvc (fun s => { s with restart := none }) (modPwr (fun p => { p with deferred := some .recoveryStart, deferAt := c.clk.qtime }) c)

/-- BOROUX_START. -/
def execBorouxStart (s : State) : Out := onChip borouxStart s

/-! ### SVC.SWAP, SVC.RESTART and SVC.STAGE (R839, R841, R842) -/

/-- The units of the repair record are retired again, and the patch table is rebuilt (R852). -/
def applyRepair (c : Chip) : Chip :=
  let patch := c.svc.repairPatch
  let c := modMem (fun m => { m with patch := patch }) c
  let c := [32, 33].foldl (fun c k => if patch.toList.contains k then setUnitState ⟨2, k⟩ .active c else c) c
  c.svc.repair.foldl (fun c u => setUnitState (unitOfCode u) .retired c) c

/-- Recovery mode ends with a slot that passes: Boroux starts with its image, and the record is written again (R842). -/
def leaveRecovery (c : Chip) : Chip :=
  let img := match bootSlot c c.pwr.slot with | some s => c.mem.bytes (flashBase + s.offset) s.length | none => []
  let c := modMem (fun m => { m.setStewBytes 0 img with stewSyn := sclear m.stewSyn 0 ((img.length + 7) / 8) }) c
  let c := applyRepair { c with cores := vset c.cores 6 { run := .running } }
  modSvc (fun s => { s with table := c.units })
    (modPwr (fun p => { p with phase := .run, record := { p.record with slot := p.slot, bootFlags := p.record.bootFlags &&& 3 } }) c)

/-- Recovery mode tries slots on command. -/
def recoveryTry (l : List Nat) (c : Chip) : Reply × Chip :=
  match bootTry l c with
  | (true, c) => (.ok, leaveRecovery c)
  | (false, c) => (.fail .verifyFailed, c)

/-- SVC.RESTART. -/
def svcRestart (m : Cmd) (c : Chip) : Reply × Chip :=
  if c.pwr.phase = .recovery then recoveryTry (tryOrder c) c
  else (.wait, startRestart c.pwr.slot false (some m) c)

/-- SVC.RESTART. -/
def execSvcRestart (r : Req) (s : State) : Out := onChip (serve 0x1122 r svcRestart) s

/-- SVC.SWAP. -/
def svcSwap (m : Cmd) (c : Chip) : Reply × Chip :=
  let i := m.b 8
  checked [chk (1 < i) .badParam, chk (!slotEligible c i || (c.pwr.phase != .recovery && i == c.pwr.slot)) .badState]
    (fun c =>
      if c.pwr.phase = .recovery then recoveryTry [i] c
      else (.wait, startRestart i true (some m) (useAttempt i c))) c

/-- SVC.SWAP. -/
def execSvcSwap (r : Req) (s : State) : Out := onChip (serve 0x1121 r svcSwap) s

/-- SVC.STAGE (R841): the sectors follow as FLASH_OP_COMPLETE. -/
def svcStage (m : Cmd) (c : Chip) : Reply × Chip :=
  let i := m.b 8
  let src := m.f 12 4
  let len := m.f 16 4
  checked [chk (srcDenied m c src len) .denied,
           chk (1 < i || !m.z 9 3 || 2 ^ 24 ≤ src || (m.org.external && src != 0) || len < 256 || 458752 < len) .badParam,
           chk (isPegged c 0x0B 0) .fenced,
           chk (c.pwr.phase != .recovery && i == c.pwr.slot) .inUse]
    (fun c =>
      if m.org.external && !dataReady m then waitData m c
      else match sourceData m src len c with
        | (none, c) => (.fail .poisoned, c)
        | (some bs, c) =>
          let n := (len + 4095) / 4096
          startFlash m { handle := m.waitHandle, kind := .stage i (m.f 20 4), cs := 0, offset := slotOffset c i, left := n, total := n, data := bs } c) c

/-- SVC.STAGE. In class 2, or while another operation runs, it is not started. -/
def execSvcStage (r : Req) (s : State) : Out := onChip (fun c => if flashFree c then serve 0x1120 r svcStage c else c) s

end Sys2Proof.Machine
end

