-- ==== Sys2Proof/Machine/Accept.lean ====
section
/-! DEFINITION. Acceptance of command records, and the mailbox commands (R199 to R211, R226 to R230, R259, R263). -/

namespace Sys2Proof.Machine

/-- The record names a unit that the package or the board lacks (R6, check 4 of Table 04.3): what scan-out lacks, ports N and S of
SK40-Q176, and any unit whose register is ABSENT. -/
def absentUnit (c : Chip) (op : Nat) (ps : List Byte) : Bool :=
  let unit (n : Nat) : Bool := match unitReg? c (unitOfCode n) with | some r => r.st == .absent | none => false
  scanAbsent c.board.q176 op ps ||
  match op with
  | 0x0F01 => c.board.q176 && (pbyte ps 0 == 0 || pbyte ps 0 == 2)
  | 0x0F10 => c.board.q176 && (bit (pbyte ps 3) 0 || bit (pbyte ps 3) 2)
  | 0x1101 => unit (pfield ps 0 2)
  | 0x1110 => unit (pfield ps 0 2)
  | 0x1111 => unit (pfield ps 0 2)
  | 0x1116 => unit (pfield ps 0 2)
  | 0x1114 => unit (0x0300 + pbyte ps 0)
  | _ => false

/-- The ORIGIN field of a handle (Table 04.4). -/
def Origin.code : Origin → Nat
  | .part p => p
  | _ => 7

/-- The SLOT field of a handle: the ring slot, or the path and its slot. -/
def Origin.slotField (o : Origin) (slot : Nat) : Nat :=
  match o with
  | .part _ => slot % 256
  | .host => slot % 16
  | .usb => 64 + slot % 16
  | .link _ => 128 + slot % 64

/-- The handle of the next acceptance (R209, R210). -/
def nextHandle (c : Chip) (o : Origin) (slot : Nat) : Nat := o.code * 2 ^ 29 + c.seq % 2 ^ 21 * 256 + o.slotField slot

/-- A rejection's acceptance word (R205, R206). -/
def rejectWord (hint : Nat) (st : Status) : Nat := hint * 65536 + st.code

/-- The parameters of a record: in it, or read at its pointer through the origin's map (R200, R201). -/
def recordParams (o : Origin) (rec' : List PByte) (c : Chip) : List PByte × Bool × Chip :=
  let plen := pbyte (plain rec') 3
  if !bit (pbyte (plain rec') 2) 2 then ((rec'.drop 8).take plen, false, c)
  else
    let a := pfield (plain rec') 8 3
    match o with
    | .part p =>
      if kRangeOk c p .r a plen then
        let (bs, c) := readK p a plen c
        (bs, false, c)
      else ([], true, c)
    | _ => ([], true, c)

/-- The checks that come before a record is taken as a command (Table 04.3, checks 1 to 3). -/
def formCheck (o : Origin) (rec' : List PByte) : Option Status :=
  let w := plain rec'
  let flags := pbyte w 2
  let plen := pbyte w 3
  let ptr := bit flags 2
  let op := pfield w 0 2
  if anyPoison (rec'.take 4) || 8 ≤ flags || (if ptr then plen == 0 else 24 < plen) || (ptr && o.external) then some .malformed
  else match Config.opRow op with
    | none => some .unknownOp
    | some r => if r.plen = plen then none else some .malformed

/-- Reads one record: the acceptance word, and the command outstanding if it is accepted (R203 to R211). -/
def acceptRecord (o : Origin) (slot : Nat) (rec' : List PByte) (c : Chip) : Nat × Chip :=
  let w := plain rec'
  let op := pfield w 0 2
  let flags := pbyte w 2
  match formCheck o rec' with
  | some .unknownOp => (rejectWord 0 .unknownOp, lintBlock 0x0402 o.lintCode 0 c)
  | some st => (rejectWord 0 st, lintBlock 0x0401 o.lintCode 0 c)
  | none =>
    if !creditFree c o && !absentUnit c op (plain ((rec'.drop 8).take 24)) then
      let (x, c) := freeNat c
      (rejectWord (10 + x % 8182) .busy, lintBlock 0x0403 o.lintCode 0 c)
    else
      let (ps, denied, c) := recordParams o rec' c
      if absentUnit c op (plain ps) then (rejectWord 0 .absent, c)
      else
        let h := nextHandle c o slot
        let m : Cmd := { handle := BitVec.ofNat 32 h, org := o, op := op, ordered := bit flags 0, quiet := bit flags 1, tag := pfield w 4 4,
                         tagPoison := anyPoison ((rec'.drop 4).take 4), params := plain ps, paramPoison := anyPoison ps, ptrDenied := denied }
        let (m, c) := if op = 0x0B12 && !denied then readTone m c else (m, c)
        let c := if denied then lintBlock 0x0408 o.lintCode 0 c else c
        let c := if m.tagPoison || m.paramPoison then lintBlock 0x0407 o.lintCode 0 c else c
        (h, { c with seq := (c.seq + 1) % 2 ^ 21, cmds := c.cmds ++ [m] })

/-- The status of a rejection; none for a handle. -/
def wordStatus (w : Nat) : Option Nat := if w < 2 ^ 29 then some (w % 65536) else none

/-- The steward reads the next slot of a guest's ring (R208, R233); a slot that cannot be read and written faults the mailbox. -/
def acceptGuest (p : Nat) (c : Chip) : Chip :=
  let m := mbxOf c p
  if p = 0 ∨ c.pwr.phase ≠ .run ∨ !m.enable ∨ m.noRead ∨ m.cmdProd = m.cmdCons then c
  else
    let i := m.cmdCons % 2 ^ m.cmdLog2
    let a := m.cmdBase + 32 * i
    if !(kRangeOk c p .r a 32 && kRangeOk c p .w a 4) then modMbx p (fun m => { m with noRead := true }) (faultMbx p .map 0x0406 c)
    else
      let (bs, c) := readK p a 32 c
      let (w, c) := acceptRecord (.part p) i bs c
      let c := writeK p a (clean (leBytes 4 w)) c
      modMbx p (fun m => { m with cmdCons := (m.cmdCons + 1) % 65536, lastReject := (wordStatus w).getD m.lastReject }) c

/-- Bytes of the host mailbox from a window offset. -/
def HostMbx.get (h : HostMbx) (off n : Nat) : List Byte := (List.range n).map fun i => sget 0 h.bytes (off + i)

/-- The steward reads the next slot of the host mailbox. -/
def acceptHost (c : Chip) : Chip :=
  let h := c.host
  if h.prodFault ∨ h.cmdProd = h.cmdCons then c
  else
    let i := h.cmdCons % 16
    let (w, c) := acceptRecord .host i (clean (h.get (0x40 + 32 * i) 32)) c
    modHost (fun h => { h.put (0x40 + 32 * i) (leBytes 4 w) with cmdCons := (h.cmdCons + 1) % 65536 }) c

/-- The steward takes the next record of bulk OUT; ACCEPT goes out on bulk IN (R243). -/
def acceptUsb (c : Chip) : Chip :=
  match c.usb.waiting with
  | [] => c
  | (slot, bs) :: rest =>
    let (w, c) := acceptRecord .usb slot (clean bs) { c with usb := { c.usb with waiting := rest } }
    { c with usb := { c.usb with items := c.usb.items ++ [usbItem 1 (leBytes 4 w) false c.clk.qtime] } }

/-- The steward takes the next record of the link path; the acceptance word goes back to its node (R245). -/
def acceptLink (c : Chip) : Chip :=
  match c.linkRecs with
  | [] => c
  | r :: rest =>
    if c.pwr.phase ≠ .run then c
    else
      let (w, c) := acceptRecord (.link r.node) c.linkSlot r.bytes { c with linkRecs := rest }
      sendPkt (mgmtPkt c r.node 0 (.accept w)) none { c with linkSlot := (c.linkSlot + 1) % 64 }

/-- RECORD_ACCEPTANCE: one record of an origin, while the steward serves (R208, R257, Table 04.10). -/
def recordAcceptance (f : AcceptFrom) (c : Chip) : Chip :=
  if !serving c then c
  else match f with
    | .guest p => acceptGuest p.val c
    | .host => acceptHost c
    | .usb => acceptUsb c
    | .link => acceptLink c

/-- RECORD_ACCEPTANCE. -/
def execRecordAcceptance (f : AcceptFrom) (s : State) : Out := onLink (recordAcceptance f) s

/-! ### The mailbox commands (R226 to R230, Table 04.13) -/

/-- The path bits of an external handle. -/
def Origin.path : Origin → Nat
  | .host => 0
  | .usb => 1
  | _ => 2

/-- A handle belongs to another origin than the one that would cancel it, which is not P0 (R228, Table 04.7). -/
def foreignHandle (c : Chip) (o : Origin) (h : Nat) : Bool :=
  match o with
  | .part 0 => false
  | .part p => h / 2 ^ 29 != p
  | _ => h / 2 ^ 29 != 7 || bits h 7 6 != o.path || (match findCmd c (BitVec.ofNat 32 h) with | some t => t.org != o | none => false)

/-- MBX.CANCEL (Table 04.7). -/
def mbxCancel (m : Cmd) (c : Chip) : Reply × Chip :=
  let h := m.f 8 4
  if foreignHandle c m.org h then (.fail .denied, c)
  else match findCmd c (BitVec.ofNat 32 h) with
    | none => (.fail .notFound, c)
    | some t =>
      if t.op = 0x0401 then (.fail .notCancellable, c)
      else if !t.started then (.ok, complete t .cancelled 0 0 [] c)
      else match spoolUnqueue t.handle c with
        | some c => (.ok, complete t .cancelled 0 0 [] c)
        | none =>
          if t.op = 0x0F20 then (.res 1 0, complete t .cancelled 0 0 [] (dropRemote t.handle c))
          else if !(Config.opRow t.op).any (·.cancel) || t.cancelBy.isSome then (.fail .notCancellable, c)
          else if t.dataSince.isSome then (.res 1 0, complete t .partialDone 0 0 [] c)
          else (.wait, modCmd t.handle (fun x => { x with cancelBy := some m.handle }) c)

/-- MBX.CANCEL. -/
def execMbxCancel (r : Req) (s : State) : Out := onChip (serve 0x0401 r mbxCancel) s

/-- Completions held for an origin, and its FAULT and RESTARTED flags. -/
def mbxFlags (c : Chip) : Origin → Nat × Bool × Bool
  | .part p => ((mbxOf c p).held.length, (mbxOf c p).fault, (mbxOf c p).restarted)
  | .host => (c.host.held.length, c.host.status.getLsbD 2, c.host.status.getLsbD 3)
  | .usb => ((c.usb.items.filter (·.completion)).length, false, false)
  | .link n => ((c.linkCpls.filter (·.node == n)).length, false, false)

/-- MBX.STATUS. -/
def mbxStatus (m : Cmd) (c : Chip) : Reply × Chip :=
  let (held, fault, restarted) := mbxFlags c m.org
  let (v, c') := freeNat c
  let (top, free, c) := if m.org = .part 0 then (v % 256, v / 256 % 256, c')
    else (creditMax c m.org, creditMax c m.org - inFlight c m.org, c)
  (.res (bitsToNat [fault, restarted]) (top + 2 ^ 8 * free + 2 ^ 16 * min 255 held), c)

/-- MBX.STATUS. -/
def execMbxStatus (r : Req) (s : State) : Out := onChip (serve 0x0402 r mbxStatus) s

/-- MBX.CONSENT. -/
def mbxConsent (m : Cmd) (c : Chip) : Reply × Chip :=
  checked [chk (2 < m.b 8 || 1 < m.b 9) .badParam] (fun c => (.ok, { c with consent := vset c.consent (m.b 8) (bit (m.b 9) 0) })) c

/-- MBX.CONSENT. -/
def execMbxConsent (r : Req) (s : State) : Out := onChip (serve 0x0403 r mbxConsent) s

/-- MBX.SYNC. -/
def mbxSync (_m : Cmd) (c : Chip) : Reply × Chip := (.ok, c)

/-- MBX.SYNC. -/
def execMbxSync (r : Req) (s : State) : Out := onChip (serve 0x0404 r mbxSync) s

/-- POSTPONED_COMPLETION_WRITE: one completion that waits, where its transport takes it now (R235, R240). -/
def postponedWrite (f : AcceptFrom) (c : Chip) : Chip :=
  match f with
  | .guest p => drainGuest p.val 1 c
  | .host => drainHost 1 c
  | .usb => c
  | .link => c

/-- POSTPONED_COMPLETION_WRITE; what waits for the link goes with every link command. -/
def execPostponedCompletionWrite (f : AcceptFrom) (s : State) : Out := onLink (fun c => if serving c then postponedWrite f c else c) s

/-- DATA_CHUNK_TIMEOUT: no chunk for 1 s (R251). -/
def chunkTimeout (h : Long) (c : Chip) : Chip :=
  match findCmd c h with
  | some m => match m.dataSince with
    | some t => if dataReady m then c else complete m .timeout 0 0 [] (atTime (t + 24000000) c)
    | none => c
  | none => c

/-- DATA_CHUNK_TIMEOUT. -/
def execDataChunkTimeout (h : Long) (s : State) : Out := onChip (chunkTimeout h) s

end Sys2Proof.Machine
end

