-- ==== Sys2Proof/Machine/Diag.lean ====
section
/-! DEFINITION. The memory diagnostics window and darning (R460 to R463, Table 08.11). -/

namespace Sys2Proof.Machine

/-- The diagnostics window of a partition. -/
def diagOf (c : Chip) (p : Nat) : Diag := c.diag.toList.getD p {}

/-- Changes the diagnostics window of a partition. -/
def modDiag (p : Nat) (f : Diag → Diag) (c : Chip) : Chip := { c with diag := vset c.diag p (f (diagOf c p)) }

/-- A darning operation. -/
inductive DarnOp where
  | readRaw | writeRaw | writeCheck
deriving DecidableEq, Repr

/-- R462: the operation is refused. -/
def darnRefused (c : Chip) (p : Nat) (op : DarnOp) : Bool :=
  let d := diagOf c p
  let e := mapEntry c p (d.addr / 65536)
  let pa := kPhys c p d.addr
  let r := c.mem.region pa
  !d.darnEn || !e.v || e.window || !(e.grants (if op = .readRaw then .r else .w)) || !(r == .sram || r == .xmem)
    || (op != .readRaw && r == .sram && isPegged c 2 (c.mem.physMacro pa))

/-- The stored check byte of a user SRAM word. -/
def Mem.storedCheck (m : Mem) (pa : Nat) : Nat :=
  sramCheck (addrFold pa) (leNat (m.bytes pa 8)) ^^^ (sget 0 m.syn (pa / 8)).toNat

/-- Stores the data and the check byte of a user SRAM word as given. -/
def Mem.setRaw (pa : Nat) (data : List Byte) (chk : Nat) (m : Mem) : Mem :=
  { m.setBytes pa data with syn := sput 0 m.syn (pa / 8) (BitVec.ofNat 8 (sramCheck (addrFold pa) (leNat data) ^^^ chk)) }

/-- The symbols of a codeword as the devices answer: those of a lost device read 0. -/
def Mem.rawSymbols (m : Mem) (cw : Nat) : List Nat :=
  let er := m.erasedFor (cw / 16)
  (List.range 6).map fun k => if er.contains k then 0 else (m.symbols cw).getD k 0

/-- The class of an external word, and its located position plus 1 (Table 08.11). -/
def xClass (m : Mem) (pa : Nat) : Nat × Nat :=
  let line := (pa - 0x10000000) / 64
  let i := pa / 8 % 8
  if m.zeroPtr ≤ line then (if (unpassedWord m pa).poison then 3 else 0, 0)
  else
    let (ds, pos) := decodeLine m line
    let fixed (n : Nat) : Bool := m.xmem == .full && (m.erasedFor line).isEmpty
      && (match decodeFull [] (m.symbols (16 * line + 2 * i + n)) with | .corrected _ _ => true | _ => false)
    if lineWordBad ds i then (4, 0)
    else if (lineWord ds i).poison then (3, 0)
    else if fixed 0 || fixed 1 then (1, (pos.map (· + 1)).getD 0)
    else (0, 0)

/-- READ_RAW of a user SRAM word. -/
def readRawSram (p pa : Nat) (c : Chip) : Chip :=
  let syn := (sget 0 c.mem.syn (pa / 8)).toNat
  modDiag p (fun d => { d with data := leNat (c.mem.bytes pa 8), chk0 := c.mem.storedCheck pa, cls := (synClass syn).code, syndrome := syn }) c

/-- READ_RAW of an external word. -/
def readRawXmem (p pa : Nat) (c : Chip) : Chip :=
  let a := c.mem.rawSymbols (cwIndex pa)
  let b := c.mem.rawSymbols (cwIndex pa + 1)
  let (cls, pos) := xClass c.mem pa
  modDiag p (fun d => { d with data := leNat ((a.take 4 ++ b.take 4).map (BitVec.ofNat 8)), chk0 := a.getD 4 0 + 256 * a.getD 5 0,
                               chk1 := b.getD 4 0 + 256 * b.getD 5 0, cls := cls, syndrome := pos }) c

/-- Stores an external word's symbols as given; beyond the code's losses nothing is written (R441). -/
def writeRawXmem (pa data chk0 chk1 : Nat) (c : Chip) : Chip :=
  if c.mem.xDead then c
  else
    let bs := (leBytes 8 data).map (·.toNat)
    let cw := cwIndex pa
    c |> modMem (fun m => (m.setSymbols cw (bs.take 4 ++ [chk0 % 256, chk0 / 256])).setSymbols (cw + 1) (bs.drop 4 ++ [chk1 % 256, chk1 / 256]))
      |> modMem (fun m => { m with xVoid := m.xVoid.map fun l => if l.contains (pa / 8) then l else (pa / 8) :: l })

/-- A darning operation of a partition (R461): the word's merge buffer entry is evicted first. -/
def darn (p : Nat) (op : DarnOp) (c : Chip) : Chip :=
  if darnRefused c p op then modDiag p (fun d => { d with refused := true }) c
  else
    let pa := kPhys c p (diagOf c p).addr / 8 * 8
    let r := c.mem.region pa
    let c := modDiag p (fun d => { d with refused := false }) (evictLine r (pa / 64) c)
    let d := diagOf c p
    match op with
    | .readRaw => if r = .sram then readRawSram p pa c else readRawXmem p pa c
    | .writeRaw => if r = .sram then modMem (Mem.setRaw pa (leBytes 8 d.data) (d.chk0 % 256)) c else writeRawXmem pa d.data d.chk0 d.chk1 c
    | .writeCheck => if r = .sram then modMem (Mem.setRaw pa (c.mem.bytes pa 8) (d.chk0 % 256)) c
        else writeRawXmem pa (leNat (c.mem.bytes pa 8)) d.chk0 d.chk1 c

/-- Reads the diagnostics window of a partition at an offset from 0xB000. -/
def diagRead (p off : Nat) (c : Chip) : Nat :=
  let d := diagOf c p
  match off with
  | 0x00 => b2n d.darnEn
  | 0x02 => d.addr % 65536
  | 0x04 => d.addr / 65536
  | 0x06 => d.data % 65536
  | 0x08 => bits d.data 31 16
  | 0x0A => bits d.data 47 32
  | 0x0C => bits d.data 63 48
  | 0x0E => d.chk0
  | 0x10 => d.chk1
  | 0x14 => d.cls + 8 * b2n d.refused + 256 * d.syndrome
  | 0x16 => d.errAddr % 65536
  | 0x18 => d.errAddr / 65536
  | 0x1A => d.ceCount
  | 0x1C => d.ueCount
  | _ => 0

/-- Replaces 16 bits of a number from bit 16i. -/
def setWord16 (x i v : Nat) : Nat := x - bits x (16 * i + 15) (16 * i) * 2 ^ (16 * i) + v % 65536 * 2 ^ (16 * i)

/-- Writes the diagnostics window of a partition at an offset from 0xB000. -/
def diagWrite (p off v : Nat) (c : Chip) : Chip :=
  match off with
  | 0x00 => modDiag p (fun d => { d with darnEn := bit v 0 }) c
  | 0x02 => modDiag p (fun d => { d with addr := d.addr / 65536 * 65536 + v / 8 * 8 }) c
  | 0x04 => modDiag p (fun d => { d with addr := v % 256 * 65536 + d.addr % 65536 }) c
  | 0x06 => modDiag p (fun d => { d with data := setWord16 d.data 0 v }) c
  | 0x08 => modDiag p (fun d => { d with data := setWord16 d.data 1 v }) c
  | 0x0A => modDiag p (fun d => { d with data := setWord16 d.data 2 v }) c
  | 0x0C => modDiag p (fun d => { d with data := setWord16 d.data 3 v }) c
  | 0x0E => modDiag p (fun d => { d with chk0 := v }) c
  | 0x10 => modDiag p (fun d => { d with chk1 := v }) c
  | 0x12 =>
    match v % 4 with
    | 1 => darn p .readRaw c
    | 2 => darn p .writeRaw c
    | 3 => darn p .writeCheck c
    | _ => c
  | _ => c

end Sys2Proof.Machine
end

