-- ==== Sys2Proof/Machine/SoundCtl.lean ====
section
/-! DEFINITION. The sound commands and the sound window (R682, R683, Tables 13.6 and 13.7). -/

namespace Sys2Proof.Machine

/-! ### Commands (R682) -/

/-- SND.STATUS. -/
def sndStatus (_m : Cmd) (c : Chip) : Reply × Chip :=
  let s := c.snd
  let valid := s.i2s.cfg.en && !s.i2s.clockLost
  (.res (bitsToNat [s.bridge.en, s.bridge.fault, valid, s.out.lim]) (min 65535 s.out.peak.1 + 65536 * min 65535 s.out.peak.2), c)

/-- SND.STATUS. -/
def execSndStatus (r : Req) (s : State) : Out := onChip (serve 0x0D01 r sndStatus) s

/-- The time that WHEN and AT_LINE name. -/
def whenOf (w line : Nat) : SndAt := match w with | 0 => .now | 1 => .frame | _ => .line line

/-- A change posted by a command, which completes when it applies. -/
def postCmd (m : Cmd) (a : SndAt) (ws : List SndWrite) (c : Chip) : Reply × Chip :=
  (.wait, postSnd m.part a ws (some (if m.handle = 0 then none else some m.handle)) c)

/-- BUS SYS belongs to P0 (R659). -/
def busBad (m : Cmd) (bus : Nat) : Bool := bus == 3 && m.part != 0

/-- The fields of a sample voice within the ranges of R641. -/
def voiceFieldsOk (fmt addr end_ loopStart pitch vol pan : Nat) : Bool :=
  decide (fmt < 3) && decide (addr < 2 ^ 24) && (fmt != 1 || addr % 2 == 0) && (fmt != 2 || addr % 32 == 0)
    && decide (1 ≤ end_) && decide (end_ < 2 ^ 24) && decide (loopStart < end_) && (fmt != 2 || loopStart % 56 == 0)
    && decide (1 ≤ pitch) && decide (vol ≤ 8192) && decide (pan ≤ 128)

/-- SND.VOICE. -/
def sndVoice (m : Cmd) (c : Chip) : Reply × Chip :=
  let ctrl := m.b 9
  match windowUnit c m.part .voice (m.b 8) with
  | none => (.fail .badParam, c)
  | some v =>
    let w (reg val : Nat) : SndWrite := .voice v reg val
    checked [chk (bit ctrl 7 || busBad m (bits ctrl 6 5) || 2 < m.b 10 || !m.z 29 1
               || !voiceFieldsOk (bits ctrl 4 3) (m.f 12 4) (m.f 16 4) (m.f 20 4) (m.f 24 2) (m.f 26 2) (m.b 28)) .badParam,
             chk (isPegged c 7 v) .fenced]
      (postCmd m (whenOf (m.b 10) (m.f 30 2))
        [w 0x02 (m.f 12 2), w 0x04 (m.f 14 2), w 0x06 (m.f 16 2), w 0x08 (m.f 18 2), w 0x0A (m.f 20 2), w 0x0C (m.f 22 2),
         w 0x0E (m.f 24 2), w 0x12 (m.b 28 + 256 * m.b 11), w 0x10 (m.f 26 2), w 0x00 (ctrl % 128)]) c

/-- SND.VOICE. -/
def execSndVoice (r : Req) (s : State) : Out := onChip (serve 0x0D10 r sndVoice) s

/-- SND.ENV. -/
def sndEnv (m : Cmd) (c : Chip) : Reply × Chip :=
  let tone := m.b 9 == 1
  match windowUnit c m.part (if tone then .tone else .voice) (m.b 8) with
  | none => (.fail .badParam, c)
  | some v =>
    let w (k val : Nat) : SndWrite := if tone then .tone v (0x0C + 2 * k) val else .voice v (0x14 + 2 * k) val
    checked [chk (1 < m.b 9 || 2 ^ 23 < m.f 16 4) .badParam, chk (isPegged c (if tone then 8 else 7) v) .fenced]
      (postCmd m .now [w 0 (m.f 10 2), w 1 (m.f 12 2), w 2 (m.f 14 2), w 3 (m.f 16 2), w 4 (m.f 18 2)]) c

/-- SND.ENV. -/
def execSndEnv (r : Req) (s : State) : Out := onChip (serve 0x0D11 r sndEnv) s

/-- SND.TONE. -/
def sndTone (m : Cmd) (c : Chip) : Reply × Chip :=
  let ctrl := m.b 9
  match windowUnit c m.part .tone (m.b 8) with
  | none => (.fail .badParam, c)
  | some n =>
    let w (reg val : Nat) : SndWrite := .tone n reg val
    checked [chk (64 ≤ ctrl || busBad m (bits ctrl 5 4) || 2 < m.b 10 || 2 ^ 24 ≤ m.f 12 4 || 128 < m.b 17 || 8192 < m.f 18 2) .badParam,
             chk (isPegged c 8 n) .fenced]
      (postCmd m (whenOf (m.b 10) (m.f 20 2))
        [w 0x02 (m.f 12 2), w 0x04 (m.f 14 2), w 0x06 (m.b 16), w 0x0A (m.b 17 + 256 * m.b 11), w 0x08 (m.f 18 2),
         w 0x00 (ctrl % 16 + 32 * bits ctrl 5 4)]) c

/-- SND.TONE. -/
def execSndTone (r : Req) (s : State) : Out := onChip (serve 0x0D12 r sndTone) s

/-- The ring fields of a stream or a capture (R648). -/
def ringFieldsOk (base size : Nat) : Bool := decide (base < 2 ^ 24) && base % 16 == 0 && decide (8 ≤ size) && decide (size ≤ 16)

/-- SND.STREAM. -/
def sndStream (m : Cmd) (c : Chip) : Reply × Chip :=
  let ctrl := m.b 9
  match windowUnit c m.part .input (m.b 8) with
  | none => (.fail .badParam, c)
  | some i =>
    let w (reg val : Nat) : SndWrite := .input i reg val
    checked [chk (2 ≤ i || bit ctrl 3 || 64 ≤ ctrl || busBad m (bits ctrl 5 4) || m.f 12 4 < 4000 || 48000 < m.f 12 4
               || !ringFieldsOk (m.f 16 4) (m.b 20) || 128 < m.b 21 || 8192 < m.f 22 2) .badParam, chk (isPegged c 9 i) .fenced]
      (postCmd m .now
        [w 0x02 (m.f 16 2), w 0x04 (m.f 18 2), w 0x06 (m.b 20), w 0x08 (m.f 10 2), w 0x0A (m.f 12 2), w 0x0C (m.f 14 2),
         w 0x10 (m.b 21), w 0x0E (m.f 22 2), w 0x00 (ctrl % 8 + 16 * bits ctrl 5 4)]) c

/-- SND.STREAM. -/
def execSndStream (r : Req) (s : State) : Out := onChip (serve 0x0D13 r sndStream) s

/-- SND.CAPTURE. -/
def sndCapture (m : Cmd) (c : Chip) : Reply × Chip :=
  let ctrl := m.b 9
  match windowUnit c m.part .input (m.b 8) with
  | none => (.fail .badParam, c)
  | some i =>
    let w (reg val : Nat) : SndWrite := .input i reg val
    checked [chk (i < 2 || bit ctrl 3 || 64 ≤ ctrl || busBad m (bits ctrl 5 4) || !ringFieldsOk (m.f 12 4) (m.b 16) || 7 < m.b 17
               || 8192 < m.f 18 2 || 128 < m.b 20) .badParam, chk (isPegged c 9 i) .fenced]
      (postCmd m .now
        [w 0x02 (m.f 12 2), w 0x04 (m.f 14 2), w 0x06 (m.b 16), w 0x08 (m.f 10 2), w 0x0A (m.b 17), w 0x10 (m.b 20), w 0x0E (m.f 18 2),
         w 0x00 (ctrl % 4 + 8 * bits ctrl 2 2 + 16 * bits ctrl 5 4)]) c

/-- SND.CAPTURE. -/
def execSndCapture (r : Req) (s : State) : Out := onChip (serve 0x0D14 r sndCapture) s

/-- The stages of SND.GAIN that exist, and whether only P0 and consented origins may set them. -/
def gainStage (n : Nat) : Option Bool :=
  if n < 3 then some false
  else if n = 3 ∨ (0x10 ≤ n ∧ n ≤ 0x13) ∨ (0x20 ≤ n ∧ n ≤ 0x22) then some true else none

/-- The write of a stage of SND.GAIN. -/
def gainWrite (p stage ramp v : Nat) : SndWrite :=
  if stage < 4 then .pgain p stage (some ramp) v
  else if stage < 0x20 then .gain (stage - 0x10) ramp v
  else .gain (4 + (stage - 0x20)) ramp v

/-- SND.GAIN: an external origin needs the steward's consent, and a stage of P0 refuses the guests. -/
def sndGain (m : Cmd) (c : Chip) : Reply × Chip :=
  let st := m.b 8
  checked [chk (!consentOf c m.org || ((gainStage st == some true) && !m.org.external && m.part != 0)) .denied,
           chk ((gainStage st).isNone || 2 < m.b 10 || !m.z 11 1 || 8192 < m.f 12 2) .badParam]
    (postCmd m (whenOf (m.b 10) (m.f 14 2)) [gainWrite m.part st (m.b 9) (m.f 12 2)]) c

/-- SND.GAIN. -/
def execSndGain (r : Req) (s : State) : Out := onChip (serve 0x0D15 r sndGain) s

/-- SND.CAP (R664): a request to raise a cap by another origin than P0 is refused with its lint. -/
def sndCap (m : Cmd) (c : Chip) : Reply × Chip :=
  let now := if m.b 8 = 0 then c.snd.mix.spkLim.cap else c.snd.mix.i2sLim.cap
  let v := m.f 10 2
  if m.b 8 ≤ 1 ∧ m.org ≠ .part 0 ∧ now < v then (.fail .denied, lintBlock 0x0D0C m.org.lintCode 0 c)
  else
    checked [chk (1 < m.b 8 || !m.z 9 1) .badParam]
      (fun c => (.ok, modSnd (fun s =>
        { s with mix := if m.b 8 = 0 then { s.mix with spkLim := { s.mix.spkLim with cap := v } }
                        else { s.mix with i2sLim := { s.mix.i2sLim with cap := v } } }) c)) c

/-- SND.CAP. -/
def execSndCap (r : Req) (s : State) : Out := onChip (serve 0x0D16 r sndCap) s

/-- The I2S form of SND.OUTPUT. -/
def i2sOf (m : Cmd) : I2sCfg :=
  let g := m.f 16 4
  { en := bit g 0, fmt := bits g 2 1, master := bit g 3, slots := bits g 6 4 + 1, width := bits g 8 7, mclk := bit g 9, bclkInv := bit g 10,
    map := m.f 20 4, inSlots := m.b 24 }

/-- SND.OUTPUT. -/
def sndOutput (m : Cmd) (c : Chip) : Reply × Chip :=
  let g := i2sOf m
  checked [chk (1 < m.b 8 || m.b 9 < 4 || 14 < m.b 9 || m.f 14 2 < 2000 || 5000 < m.f 14 2 || 2 ^ 11 ≤ m.f 16 4 || g.fmt = 3 || g.width = 3
             || (List.range 8).any (fun k => decide (5 < bits (m.f 20 4) (4 * k + 3) (4 * k))) || bit (m.b 24) 3 || bit (m.b 24) 7 || 2 < m.b 25) .badParam]
    (fun c => (.ok, modSnd (fun s =>
      let running := s.i2s.cfg.en
      { s with
        bridge := { s.bridge with en := bit (m.b 8) 0, vref := m.f 14 2, tripped := if s.bridge.fault then none else s.bridge.tripped,
                                  trips := if s.bridge.fault then [] else s.bridge.trips, fault := false },
        mix := { s.mix with relShift := m.b 9, spkLim := { s.mix.spkLim with thr := m.f 10 2 }, i2sLim := { s.mix.i2sLim with thr := m.f 12 2 },
                            fmic := m.b 25 },
        i2s := if g = s.i2s.cfg then { s.i2s with next := none }
               else if running then { s.i2s with next := some g }
               else { s.i2s with cfg := g, next := none, ramp := 0, conv := {}, slots := [], clockLost := false } }) c)) c

/-- SND.OUTPUT. -/
def execSndOutput (r : Req) (s : State) : Out := onChip (serve 0x0D17 r sndOutput) s

/-! ### The window (R683) -/

/-- A place in the sound window. -/
inductive SndReg where
  | voice (v reg : Nat)
  | tone (n reg : Nat)
  | input (i reg : Nat)
  | misc (off : Nat)
  | none

/-- The register at an offset of a partition's view, its units by local number. -/
def sndReg (c : Chip) (p off : Nat) : SndReg :=
  if off < 0x7300 then match windowUnit c p .voice ((off - 0x7000) / 32) with | some v => .voice v (off % 32) | _ => .none
  else if 0x7400 ≤ off ∧ off < 0x7500 then
    match windowUnit c p .tone ((off - 0x7400) / 32) with | some v => if off % 32 ≤ 0x16 then .tone v (off % 32) else .none | _ => .none
  else if 0x7600 ≤ off ∧ off < 0x76A0 then
    match windowUnit c p .input ((off - 0x7600) / 32) with | some v => if off % 32 ≤ 0x12 then .input v (off % 32) else .none | _ => .none
  else if 0x7700 ≤ off ∧ off ≤ 0x771A then .misc (off - 0x7700)
  else .none

/-- A read of the sound window by core k of partition p. -/
def soundRead (k p off : Nat) (c : Chip) : Nat × Chip :=
  let q := vget c.snd.parts p
  match sndReg c p off with
  | .voice v r => ((voiceOf c v).read r, c)
  | .tone n r => ((toneOf c n).read r, c)
  | .input i r => ((inOf c i).read r, c)
  | .none => (0, c)
  | .misc r =>
    match r with
    | 0x08 => (q.pgRamp, c)
    | 0x0A => (b2n q.hold + 2 * q.at_ + 256 * b2n (c.snd.changes.any fun x => x.part == p && x.cmd.isNone) + 512 * b2n q.late, c)
    | 0x0C => (q.atLine, c)
    | 0x0E => (q.atAsc % 65536, c)
    | 0x10 => (q.atAsc / 65536, c)
    | 0x12 => (c.snd.asc % 65536, setDet p 0 (modCore k (fun x => { x with ascSnap := c.snd.asc }) c))
    | 0x14 => ((coreOf c k).ascSnap / 65536, c)
    | 0x16 => (c.snd.frameAsc % 65536, c)
    | 0x18 => (c.snd.frameAsc / 65536, c)
    | 0x1A => ((ownedUnits c p .voice).length + 32 * (ownedUnits c p .tone).length + 512 * (ownedUnits c p .input).length, c)
    | _ => (if r < 8 then (vget q.pgain (r / 2)).g1 else 0, c)

/-- A value that a window write may not give its register (R679). -/
def sndWriteBad (p : Nat) (g : SndReg) (v : Nat) : Bool :=
  let sus (reg base : Nat) : Bool := reg == base + 8 && decide (0x80 < v % 256)
  match g with
  | .voice _ 0x00 => bits v 4 3 == 3 || (bits v 6 5 == 3 && p != 0)
  | .voice _ 0x0E => v == 0
  | .voice _ 0x10 => decide (8192 < v)
  | .voice _ 0x12 => decide (128 < v % 256)
  | .voice _ r => sus r 0x14
  | .tone _ 0x00 => bits v 6 5 == 3 && p != 0
  | .tone _ 0x08 => decide (8192 < v)
  | .tone _ 0x0A => decide (128 < v % 256)
  | .tone _ r => sus r 0x0C
  | .input _ 0x00 => bits v 5 4 == 3 && p != 0
  | .input _ 0x02 => v % 16 != 0
  | .input _ 0x06 => decide (v % 16 < 8)
  | .input i 0x0A => if i < 2 then decide (v < 4000) || decide (48000 < v) else decide (7 < v)
  | .input _ 0x0C => v != 0
  | .input _ 0x0E => decide (8192 < v)
  | .input _ 0x10 => decide (128 < v % 256)
  | .misc r => decide (r < 8) && (decide (8192 < v) || (r == 6 && p != 0))
  | _ => false

/-- The change that a window write makes; none for a register that takes none or is not staged. -/
def sndWriteOf (p : Nat) (g : SndReg) (v : Nat) : Option SndWrite :=
  match g with
  | .voice u r => if r = 0x1E then none else some (.voice u r v)
  | .tone u r => if r = 0x16 then none else some (.tone u r v)
  | .input u r => if r = 0x12 then none else some (.input u r (if r = 0x06 then v % 16 else v))
  | .misc r => if r < 8 then some (.pgain p (r / 2) none v) else none
  | .none => none

/-- The time that AT selects. -/
def SndPart.time (q : SndPart) : SndAt := match q.at_ with | 0 => .now | 1 => .frame | 2 => .line q.atLine | _ => .sample q.atAsc

/-- A write of SND_HOLD: LATE clears by 1, and HOLD's fall releases what is staged (R683). -/
def writeSndHold (p v : Nat) (c : Chip) : Chip :=
  let old := vget c.snd.parts p
  let q := { old with hold := bit v 0, at_ := bits v 2 1, late := old.late && !bit v 9 }
  if old.hold && !bit v 0 && !old.staged.isEmpty then
    postSnd p q.time old.staged none (modSnd (fun s => { s with parts := vset s.parts p { q with staged := [] } }) c)
  else modSnd (fun s => { s with parts := vset s.parts p q }) c

/-- A write of a register of a partition that is never staged. -/
def writeSndMisc (p r v : Nat) (c : Chip) : Chip :=
  let set (f : SndPart → SndPart) : Chip := modSnd (fun s => { s with parts := vmod s.parts p f }) c
  match r with
  | 0x08 => set fun q => { q with pgRamp := v % 256 }
  | 0x0A => writeSndHold p v c
  | 0x0C => set fun q => { q with atLine := v }
  | 0x0E => set fun q => { q with atAsc := setLo q.atAsc v }
  | 0x10 => set fun q => { q with atAsc := v * 65536 + q.atAsc % 65536 }
  | _ => c

/-- A write of the sound window by partition p. -/
def soundWrite (p off v : Nat) (c : Chip) : Chip :=
  let g := sndReg c p off
  if sndWriteBad p g v then lintBlock 0x0D0B p off c
  else match sndWriteOf p g v with
    | some w =>
      if (vget c.snd.parts p).hold then modSnd (fun s => { s with parts := vmod s.parts p fun q => { q with staged := q.staged ++ [w] } }) c
      else postSnd p .now [w] none c
    | none => match g with
      | .voice u 0x1E => modVoice u (Voice.write 0x1E v) c
      | .tone u 0x16 => modTone u (Tone.write 0x16 v) c
      | .misc r => writeSndMisc p r v c
      | _ => c

end Sys2Proof.Machine
end

