-- ==== Sys2Proof/Machine/WinCore.lean ====
section
/-! DEFINITION. The Hamper, core control and mailbox windows of bank 0xFF, and the levels of the Hamper's level sources (Tables 07.2, 07.8, 06.9 and 04.14). -/

namespace Sys2Proof.Machine

/-! ### The level sources (Table 07.2) -/

/-- The level input of a source of a partition: VOICE, STREAM, AUDIO_IN, its link channels by local number, and the ports for P0. -/
def levelOf (c : Chip) (p s : Nat) : Bool :=
  if s = 10 then voiceLevel c p
  else if s = 11 then streamLevel c p
  else if s = 12 then audioInLevel c p
  else if 24 ≤ s ∧ s ≤ 39 then
    match (ownedUnits c p .link)[s - 24]? with
    | some ch => linkLevel c ch
    | none => false
  else if 48 ≤ s ∧ s ≤ 53 then p == 0 && portLevel c s
  else false

/-- A 16-bit slice of a row of 96 bits. -/
def word96 (b : BitVec 96) (i : Nat) : Nat := bits b.toNat (16 * i + 15) (16 * i)

/-- Replaces a 16-bit slice of a row of 96 bits. -/
def setWord96 (b : BitVec 96) (i v : Nat) : BitVec 96 :=
  BitVec.ofNat 96 (b.toNat - word96 b i * 2 ^ (16 * i) + v % 65536 * 2 ^ (16 * i))

/-- The levels of sources 16i to 16i + 15 as a word. -/
def levelWord (c : Chip) (p i : Nat) : Nat := bitsToNat ((List.range 16).map fun j => isLevelSrc (16 * i + j) && levelOf c p (16 * i + j))

/-! ### The Hamper window (Table 07.8) -/

/-- Postponed records of a ring. -/
def Hmp.postCount (h : Hmp) (q : Nat) : Nat := (h.posts.filter (·.ring == q)).length

/-- Reads a ring register. -/
def ringRead (h : Hmp) (q reg : Nat) : Nat :=
  let g := h.ring q
  match reg with
  | 0x0 => b2n g.enable + 2 * b2n g.routeEn + 4 * g.route + 4096 * g.sizeLog2
  | 0x2 => g.base % 65536
  | 0x4 => g.base / 65536
  | 0x6 => g.prod
  | 0x8 => g.cons
  | 0xA => min 65535 g.overflow
  | 0xC => b2n g.fault + 2 * g.cause.code + 256 * (h.postCount q % 256)
  | _ => 0

/-- Reads the Hamper window at an offset from 0x0000, for core k of partition p. -/
def hmpRead (k p off : Nat) (c : Chip) : Nat :=
  let h := hmpOf c p
  if off = 0 then b2n h.expert
  else if off = 2 then bitsToNat ((List.range 4).map fun q => (h.ring q).fault) + 16 * bitsToNat ((List.range 4).map h.waiting)
  else if off = 8 then
    match (coreOf c k).prio with
    | [] => 0xF
    | t :: r => t + 16 * (r.length + 1)
  else if 0x20 ≤ off ∧ off < 0x60 then ringRead h ((off - 0x20) / 16) (off % 16)
  else if 0x100 ≤ off ∧ off < 0x10C then word96 h.srcEn ((off - 0x100) / 2)
  else if 0x110 ≤ off ∧ off < 0x11C then word96 h.pend ((off - 0x110) / 2)
  else if 0x120 ≤ off ∧ off < 0x12C then levelWord c p ((off - 0x120) / 2)
  else if 0x130 ≤ off ∧ off < 0x148 then
    bitsToNat ((List.range 8).flatMap fun j => let l := sget 0 h.pri (8 * ((off - 0x130) / 2) + j); [bit l 0, bit l 1])
  else if 0x200 ≤ off ∧ off < 0x2C0 then
    let s := (off - 0x200) / 2
    sget 0 h.counts s + 256 * bitsToNat [h.pend.getLsbD s, h.posted s, isLevelSrc s]
  else 0

/-- A locked field of a ring is written: it keeps its value while the ring is enabled (R406). -/
def ringConfig (p q : Nat) (f : Ring → Ring) (c : Chip) : Chip :=
  if ((hmpOf c p).ring q).enable then lintBlock 0x0706 p q c else modRing p q f c

/-- A write of Qq_CTRL: SIZE_LOG2, then the route, then ENABLE; Q1 to Q3 stay disabled in basic mode (R387, R388, R393, R406). -/
def writeRingCtrl (p q v : Nat) (c : Chip) : Chip :=
  let g := (hmpOf c p).ring q
  let size := bits v 15 12
  let c := if size = g.sizeLog2 then c else ringConfig p q (fun g => { g with sizeLog2 := size }) c
  let c := modRing p q (fun g => { g with routeEn := bit v 1, route := bits v 4 2 }) c
  if bit v 0 && !g.enable then (if q = 0 || (hmpOf c p).expert then enableRing levelOf p q c else c)
  else if !bit v 0 && g.enable then disableRing p q c
  else c

/-- A write of SRC_PRI: the levels of eight sources, which basic mode holds and ignores (R393, R395). -/
def writePri (p i v : Nat) (c : Chip) : Chip :=
  (List.range 8).foldl (fun c j => modHmp p (fun h => { h with pri := sput 0 h.pri (8 * i + j) (v / 4 ^ j % 4) }) c) c

/-- Writes the Hamper window at an offset from 0x0000, by core k of partition p. -/
def hmpWrite (k p off v : Nat) (c : Chip) : Chip :=
  if off = 0 then writeMode p v c
  else if off = 4 then writeEoi levelOf p k (v % 128) c
  else if off = 6 then fire p (64 + v % 32) (coreOf c k).localNo c
  else if off = 0xA then writePriRaise p k (v % 4) c
  else if 0x20 ≤ off ∧ off < 0x60 then
    let q := (off - 0x20) / 16
    match off % 16 with
    | 0x0 => writeRingCtrl p q v c
    | 0x2 => ringConfig p q (fun g => { g with base := setLo g.base v }) c
    | 0x4 => ringConfig p q (fun g => { g with base := setHi g.base v }) c
    | 0x8 => writeCons levelOf p q v c
    | _ => c
  else if 0x100 ≤ off ∧ off < 0x10C then modHmp p (fun h => { h with srcEn := setWord96 h.srcEn ((off - 0x100) / 2) v }) c
  else if 0x130 ≤ off ∧ off < 0x148 then writePri p ((off - 0x130) / 2) v c
  else c

/-! ### The core control window (Table 06.9) -/

/-- A region's configuration word. -/
def GuardRegion.cfg (g : GuardRegion) : Nat := g.sizeLog2 + 32 * bitsToNat [g.r, g.w, g.x, g.en]

/-- Reads the control window of core k at an offset from 0x1000. -/
def ctlRead (k off : Nat) (c : Chip) : Nat :=
  let x := coreOf c k
  if 0x10 ≤ off ∧ off < 0x50 then
    let g := vget x.guard.regions ((off - 0x10) / 8)
    match off % 8 with
    | 0 => g.base % 65536
    | 2 => g.base / 65536
    | 4 => g.cfg
    | _ => g.srd.toNat
  else match off with
    | 0x0 => x.localNo
    | 0x2 => bitsToNat [x.guard.en, x.guard.background] + 256 * b2n x.guard.cfgErr
    | 0x4 => x.hostSp.toNat
    | 0x6 => x.hostSb.toNat
    | 0x8 => x.vecBase.toNat
    | 0xA => x.vecBank.toNat
    | 0xC => x.wTag.toNat + 256 * bitsToNat [x.spTag, x.ctTag, x.flTag]
    | 0xE => x.faultCount
    | _ => 0

/-- A write of GUARD_CTRL (R356, R358): enabling checks every enabled region. -/
def writeGuardCtrl (k v : Nat) (c : Chip) : Chip :=
  let g := (coreOf c k).guard
  let bad := bit v 0 && !g.en && g.regions.toList.any fun r => r.en && !r.configOk
  let c := modCore k (fun x => { x with guard := { g with
    en := bit v 0 && !bad, background := bit v 1, cfgErr := bad || (g.cfgErr && !bit v 8) } }) c
  if bad then lint 0x0603 0x0E06 (corePart c k) k c else c

/-- A write of a region's register. -/
def GuardRegion.write (reg v : Nat) (g : GuardRegion) : GuardRegion :=
  match reg with
  | 0 => { g with base := setLo g.base v }
  | 2 => { g with base := setHi g.base v }
  | 4 => { g with sizeLog2 := v % 32, r := bit v 5, w := bit v 6, x := bit v 7, en := bit v 8 }
  | _ => { g with srd := BitVec.ofNat 8 v }

/-- Writes the control window of core k at an offset from 0x1000; region registers keep their values while the guard is enabled (R357). -/
def ctlWrite (k off v : Nat) (c : Chip) : Chip :=
  if 0x10 ≤ off ∧ off < 0x50 then
    if (coreOf c k).guard.en then c
    else modCore k (fun x => { x with guard := { x.guard with regions := vmod x.guard.regions ((off - 0x10) / 8) (GuardRegion.write (off % 8) v) } }) c
  else match off with
    | 0x2 => writeGuardCtrl k v c
    | 0x4 => modCore k (fun x => { x with hostSp := BitVec.ofNat 16 v }) c
    | 0x6 => modCore k (fun x => { x with hostSb := BitVec.ofNat 8 v }) c
    | 0x8 => modCore k (fun x => { x with vecBase := BitVec.ofNat 16 (v / 2 * 2) }) c
    | 0xA => modCore k (fun x => { x with vecBank := BitVec.ofNat 8 v }) c
    | _ => c

/-! ### The mailbox window (R231 to R237, Table 04.14) -/

/-- Free credits of a partition. -/
def creditsFree (c : Chip) (o : Origin) : Nat := creditMax c o - inFlight c o

/-- Reads the mailbox window of a partition at an offset from 0x3000. -/
def mbxRead (p off : Nat) (c : Chip) : Nat :=
  let m := mbxOf c p
  match off with
  | 0x00 => bitsToNat [m.enable, m.cplEvent]
  | 0x02 => b2n m.fault + 2 * m.cause.code + 16 * b2n m.restarted
  | 0x04 => m.cmdBase % 65536
  | 0x06 => m.cmdBase / 65536
  | 0x08 => m.cmdLog2
  | 0x0A => m.cplBase % 65536
  | 0x0C => m.cplBase / 65536
  | 0x0E => m.cplLog2
  | 0x10 => m.cmdProd
  | 0x12 => m.cmdCons
  | 0x14 => m.cplProd
  | 0x16 => m.cplCons
  | 0x18 => (partOf c p).credits
  | 0x1A => creditsFree c (.part p)
  | 0x1C => m.lastReject
  | _ => 0

/-- Both rings meet R231: sizes in range, bases aligned to their record size, each ring wholly within one bank. -/
def GMbx.ringsOk (m : GMbx) : Bool :=
  4 ≤ m.cmdLog2 && m.cmdLog2 ≤ 8 && 4 ≤ m.cplLog2 && m.cplLog2 ≤ 10 && m.cmdBase % 32 == 0 && m.cplBase % 16 == 0
    && decide (m.cmdBase % 65536 + 32 * 2 ^ m.cmdLog2 ≤ 65536) && decide (m.cplBase % 65536 + 16 * 2 ^ m.cplLog2 ≤ 65536)

/-- Writes held completions of a partition as far as its ring takes them. -/
def drainMbx (p : Nat) (c : Chip) : Chip := drainGuest p (mbxOf c p).held.length c

/-- A write of MB_CTRL (R236, R237). -/
def writeMbCtrl (p v : Nat) (c : Chip) : Chip :=
  let m := mbxOf c p
  if bit v 0 && !m.enable then
    if !m.ringsOk then modMbx p (fun m => { m with cause := .badcfg }) c
    else drainMbx p (modMbx p (fun m => { m with
      enable := true, cplEvent := bit v 1, fault := false, cause := .none, noRead := false, noCpl := false,
      cmdProd := 0, cmdCons := 0, cplProd := 0, cplCons := 0 }) c)
  else modMbx p (fun m => { m with enable := bit v 0, cplEvent := bit v 1 }) c

/-- A locked ring register is written (Table 04.11). -/
def mbxConfig (p : Nat) (f : GMbx → GMbx) (c : Chip) : Chip :=
  if (mbxOf c p).enable then lintBlock 0x0409 p 0 c else modMbx p f c

/-- A write of CMD_PROD: one that moves backwards or beyond CMD_CONS plus the ring size is a violation (Table 04.11). -/
def writeCmdProd (p v : Nat) (c : Chip) : Chip :=
  let m := mbxOf c p
  if idxDiff m.cmdProd m.cmdCons + idxDiff v m.cmdProd ≤ 2 ^ m.cmdLog2 then modMbx p (fun m => { m with cmdProd := v % 65536 }) c
  else faultMbx p .prod 0x0404 c

/-- A write of CPL_CONS: beyond CPL_PROD it is a violation; else credits return and postponed completions are written (R223, R235). -/
def writeCplCons (p v : Nat) (c : Chip) : Chip :=
  let m := mbxOf c p
  if idxDiff m.cplProd m.cplCons < idxDiff v m.cplCons then faultMbx p .cons 0x0405 c
  else drainMbx p (modMbx p (fun m => { m with cplCons := v % 65536 }) c)

/-- Writes the mailbox window of a partition at an offset from 0x3000. -/
def mbxWrite (p off v : Nat) (c : Chip) : Chip :=
  match off with
  | 0x00 => writeMbCtrl p v c
  | 0x02 => if bit v 4 then modMbx p (fun m => { m with restarted := false }) c else c
  | 0x04 => mbxConfig p (fun m => { m with cmdBase := setLo m.cmdBase v }) c
  | 0x06 => mbxConfig p (fun m => { m with cmdBase := setHi m.cmdBase v }) c
  | 0x08 => mbxConfig p (fun m => { m with cmdLog2 := v % 16 }) c
  | 0x0A => mbxConfig p (fun m => { m with cplBase := setLo m.cplBase v }) c
  | 0x0C => mbxConfig p (fun m => { m with cplBase := setHi m.cplBase v }) c
  | 0x0E => mbxConfig p (fun m => { m with cplLog2 := v % 16 }) c
  | 0x10 => writeCmdProd p v c
  | 0x16 => writeCplCons p v c
  | _ => c

end Sys2Proof.Machine
end

