-- ==== Sys2Proof/Machine/Windows.lean ====
section
/-! DEFINITION. The device windows of bank 0xFF: what a word read answers and what a word write does (R864, Tables 18.5 and 18.6). -/

namespace Sys2Proof.Machine

/-- The window at an offset is open to a partition (R162, R163, Table 18.5). -/
def winOpen (c : Chip) (p off : Nat) : Bool :=
  match off / 4096 with
  | 0x0 => true
  | 0x1 => true
  | 0x3 => true
  | 0xB => hasRight c p 1
  | 0xC => true
  | n => decide (n < 0xB) && hasExpert c p

/-- A word read at an even window offset by core k of partition p. -/
def winRead (k p off : Nat) (c : Chip) : Nat × Chip :=
  if !winOpen c p off then (0, c)
  else match off / 4096 with
    | 0x0 => (hmpRead k p off c, c)
    | 0x1 => (ctlRead k (off - 0x1000) c, c)
    | 0x2 => (spoolRead p (off - 0x2000) c, c)
    | 0x3 => (mbxRead p (off - 0x3000) c, c)
    | 0x4 => (lyrRead p (off - 0x4000) c, c)
    | 0x5 => (lyrRead p (off - 0x4000) c, c)
    | 0x6 => (stitchRead p (off - 0x6000) c, c)
    | 0x7 => soundRead k p off c
    | 0x8 => (0, c)
    | 0x9 => inputRead p off c
    | 0xA => linkRead p (off - 0xA000) c
    | 0xB => (diagRead p (off - 0xB000) c, c)
    | 0xC => beamRead k p (off - 0xC000) c
    | _ => (0, c)

/-- A word write at an even window offset by core k of partition p. -/
def winWrite (k p off v : Nat) (c : Chip) : Chip :=
  if !winOpen c p off then c
  else match off / 4096 with
    | 0x0 => hmpWrite k p off v c
    | 0x1 => ctlWrite k (off - 0x1000) v c
    | 0x2 => spoolWrite p (off - 0x2000) v c
    | 0x3 => mbxWrite p (off - 0x3000) v c
    | 0x4 => lyrWrite p (off - 0x4000) v c
    | 0x5 => lyrWrite p (off - 0x4000) v c
    | 0x6 => stitchWrite p (off - 0x6000) v c
    | 0x7 => soundWrite p off v c
    | 0x9 => inputWrite p off v c
    | 0xA => linkWrite p (off - 0xA000) v c
    | 0xB => diagWrite p (off - 0xB000) v c
    | _ => c

end Sys2Proof.Machine
end

