-- ==== Sys2Proof/Machine/KuvalStep.lean ====
section
/-! DEFINITION. How a Kuval core steps: memory and window accesses, entry to handlers, faults, and the load delay (chapters 05 and 06). -/

namespace Sys2Proof.Machine

/-! ### Accesses of a core -/

/-- Reads 1, 2 or 4 bytes for a core, from memory or from its windows (R273, R865). The answer is the value, and whether it is poison. -/
def coreLoad (k a size : Nat) (c : Chip) : (Nat × Bool) × Chip :=
  let p := corePart c k
  if inWindow c p a then
    let off := a % 65536
    match size with
    | 1 =>
      let (v, c) := winRead k p (off / 2 * 2) c
      ((v / 256 ^ (off % 2) % 256, false), c)
    | 4 =>
      let (lo, c) := winRead k p off c
      let (hi, c) := winRead k p (off + 2) c
      ((lo + 65536 * hi, false), c)
    | _ =>
      let (v, c) := winRead k p off c
      ((v, false), c)
  else
    let (bs, c) := readK p a size c
    if anyPoison bs then ((0, true), c) else ((leNat (plain bs), false), c)

/-- Writes 1, 2 or 4 bytes for a core, to memory or to its windows (R865). Poison that a block copy carries into a window leaves the value
written open: it is a free value. -/
def coreStore (k a size v : Nat) (poison : Bool) (c : Chip) : Chip :=
  let p := corePart c k
  if inWindow c p a then
    let (f, c') := freeNat c
    let v := if poison then f else v
    let c := if poison then c' else c
    let off := a % 65536
    match size with
    | 1 => winWrite k p (off / 2 * 2) (v % 256 * 256 ^ (off % 2)) c
    | 4 => winWrite k p (off + 2) (v / 65536 % 65536) (winWrite k p off (v % 65536) c)
    | _ => winWrite k p off (v % 65536) c
  else writeK p a ((leBytes size v).map fun b => (b, poison)) c

/-! ### Entry (R331) and double faults (R338, R339) -/

/-- The frame words in the order they are pushed: SB, SP, FL, CB, PC, ADDR_HI, ADDR_LO, CAUSE (Table 06.2). -/
def frameWords (x : Core) (cause addr pc : Nat) : List Nat :=
  [x.sb.toNat, x.sp.toNat, x.fl.toWord.toNat + 128 * b2n x.flTag + 256 * b2n x.spTag, x.cb.toNat, pc,
   addr / 65536 % 256, addr % 65536, cause]

/-- A push or a vector read of entry is refused: odd offset, or the map (R338). -/
def entryRefused (c : Chip) (k : Nat) (right : Right) (a : Nat) : Bool :=
  a % 2 != 0 || (mapFault c (corePart c k) right a).isSome

/-- Pushes words below an offset of a bank; the answer says how far it came (R290, R338). -/
def pushWords (k : Nat) (bank : Byte) : List Nat → Nat → Chip → Bool × Nat × Chip
  | [], sp, c => (true, sp, c)
  | w :: ws, sp, c =>
    let sp := off16 sp 65534
    if entryRefused c k .w (kaddr bank sp) then (false, sp, c)
    else pushWords k bank ws sp (coreStore k (kaddr bank sp) 2 w false c)

/-- A double fault: the core halts with the registers it had before the entry, CORE_HALT is raised and lint 0x0508 is logged (R339). -/
def doubleFault (k : Nat) (x : Core) (c : Chip) : Chip :=
  let p := corePart c k
  c |> modCore k (fun _ => { x with halted := true }) |> fire p 4 x.localNo |> lint 0x0508 (coreUnit k) p 0

/-- Enters the handler of a cause (R331). The answer says whether the entry was made or ended in a double fault. -/
def enter (k cause addr pc : Nat) (c : Chip) : Bool × Chip :=
  let x := coreOf c k
  let (bank, sp) := if x.fl.h then (x.sb, x.sp.toNat) else (x.hostSb, x.hostSp.toNat)
  if x.fl.h && x.spTag then (false, doubleFault k x c)
  else
    match pushWords k bank (frameWords x cause addr pc) sp c with
    | (false, _, c) => (false, doubleFault k x c)
    | (true, sp, c) =>
      let va := kaddr x.vecBank (off16 x.vecBase.toNat (2 * (cause % 256)))
      if entryRefused c k .r va then (false, doubleFault k x c)
      else
        let ((v, bad), c) := coreLoad k va 2 c
        if bad || v % 2 != 0 then (false, doubleFault k x c)
        else
          (true, modCore k (fun y => { y with
            sb := bank, sp := BitVec.ofNat 16 sp, spTag := if x.fl.h then x.spTag else false,
            fl := { x.fl with h := true, i := false, rf := false }, flTag := false,
            cb := x.vecBank, pc := BitVec.ofNat 16 v, wait := none }) c)

/-! ### Faults of an instruction -/

/-- The DETAIL of a fault's lint entry (Tables 05.14 and 06.8): the PC, the address, the consumption point, or region and address. -/
def Flt.lintDetail (f : Flt) (pc : Nat) : Nat :=
  match f.lint with
  | 0x0504 => f.addr
  | 0x0506 => f.addr
  | 0x0505 => f.detail
  | 0x0601 => f.addr + 2 ^ 24 * f.detail
  | 0x0602 => f.addr
  | 0x0507 => 0
  | _ => pc

/-- The UNIT of a fault's lint entry: the core, or the guard unit (Table 06.8). -/
def Flt.lintUnit (f : Flt) (k : Nat) : Nat := if f.cause = 5 then 0x0E06 else coreUnit k

/-- Undoes the load that waits to land, with its base update (R299): the fault is reported at the load. -/
def undoLoad (x : Core) : Core :=
  match x.pend with
  | none => x
  | some l =>
    let x := match l.base with | some (r, v, t) => x.setReg r v.toNat t | none => x
    let x := match l.sp with | some (v, t) => { x with sp := v, spTag := t } | none => x
    { x with pend := none, pc := l.pc, fl := { x.fl with rf := l.rf } }

/-- Raises a precise fault on a core: the load before it is undone, the fault is counted and logged, and its handler is entered
(R299, R331 to R335). -/
def raiseFault (k : Nat) (f : Flt) (c : Chip) : Chip :=
  let c := modCore k (fun x => let y := undoLoad x; { y with faultCount := satAdd 0xFFFF y.faultCount 1 }) c
  let x := coreOf c k
  let c := lint f.lint (f.lintUnit k) (corePart c k) (f.lintDetail x.pc.toNat) c
  (enter k f.word f.addr x.pc.toNat c).2

/-! ### One instruction -/

/-- What the body of an instruction comes to: done, a fault that leaves the state as it was, or a fault in a repeat with the state
after its whole iterations (R307); `faultAt` also keeps what a memory read found before it faulted. -/
inductive Res where
  | ok (c : Chip)
  | fault (f : Flt)
  | faultAt (f : Flt) (c : Chip)

/-- A core executes instructions now (R322): it is admitted, running, not halted and not waiting. -/
def canRun (c : Chip) (k : Nat) : Bool :=
  let x := coreOf c k
  c.pwr.phase == .run && x.run == .running && !x.halted && x.wait.isNone
    && (if k = 6 then !c.stewDown else x.acting || unitState c ⟨1, k⟩ == .active)

/-- The load that waits lands: its value replaces what the destination holds (R294, R295, R342). -/
def Core.land (l : PendLoad) (x : Core) : Core :=
  if l.long then x.setPair (l.reg / 2) l.value.toNat l.tag else x.setReg l.reg l.value.toNat l.tag

/-- The landing writes a register. -/
def PendLoad.writes (l : PendLoad) (r : Nat) : Bool := l.reg == r || (l.long && l.reg + 1 == r)

/-- Lands the waiting load before an instruction that R297 names. -/
def landNow (k : Nat) (c : Chip) : Chip :=
  modCore k (fun x => match x.pend with | some l => { x.land l with pend := none } | none => x) c

/-- Lands the load that waited before this instruction; a load this instruction made whose base the landing wrote has no base update
left to reverse. -/
def landOld (old : Option PendLoad) (x : Core) : Core :=
  match old with
  | none => x
  | some l =>
    let y := x.land l
    { y with pend := y.pend.map fun n => match n.base with
        | some (r, _, _) => if l.writes r then { n with base := none } else n
        | none => n }

/-- Runs one instruction on a core (R300, Table 06.4): the fetch checks, its body, the landing of the load before it, and RF cleared
unless `keepRf`. A fault of an instruction that lands the load first undoes that load all the same (R297, R299). -/
def runInstr (k words : Nat) (landFirst keepRf : Bool) (body : Chip → Res) (c : Chip) : Chip :=
  if !canRun c k then c
  else
    let landed := if landFirst then landNow k c else c
    let old := (coreOf landed k).pend
    match fetchFault landed k words with
    | some f => raiseFault k f c
    | none =>
      match body (modCore k (fun x => { x with pend := none }) landed) with
      | .fault f => raiseFault k f c
      | .faultAt f c => raiseFault k f (modCore k (fun x => { x with pend := old }) c)
      | .ok c => modCore k (fun x =>
          let y := landOld old x
          if keepRf then y else { y with fl := { y.fl with rf := false } }) c

/-- A register-only instruction: changes the core and goes on to the next instruction. -/
def regInstr (k words : Nat) (f : Core → Core) : Chip → Chip :=
  runInstr k words false false fun c => .ok (modCore k (fun x => { f x with pc := x.next words }) c)

/-- An ILLEGAL instruction of one word (R275). -/
def illegalInstr (k code : Nat) : Chip → Chip := runInstr k 1 false false fun _ => .fault (.illegal code)

/-! ### Pushes and pops (R290) -/

/-- The access of a push. -/
def pushAcc (x : Core) (depth : Nat) (poison : Bool) : Acc :=
  { right := .w, addr := kaddr x.sb (off16 x.sp.toNat (65536 - 2 * depth)), size := 2, tagged := x.spTag, poisonStore := poison }

/-- The access of a pop. -/
def popAcc (x : Core) (depth : Nat) : Acc :=
  { right := .r, addr := kaddr x.sb (off16 x.sp.toNat (2 * depth)), size := 2, tagged := x.spTag }

/-- Reads n words upward from the stack pointer. -/
def popWords (k : Nat) (x : Core) : Nat → Nat → Chip → List (Nat × Bool) × Chip
  | 0, _, c => ([], c)
  | n + 1, d, c =>
    let (w, c) := coreLoad k (popAcc x d).addr 2 c
    let (ws, c) := popWords k x n (d + 1) c
    (w :: ws, c)

/-- Some of popped words is poison. -/
def somePoison (ws : List (Nat × Bool)) : Bool := ws.any (·.2)

/-- ALIGN of a jump, call or return to an odd target (R271). -/
def oddTarget (bank : Byte) (t : Nat) : Option Flt := if t % 2 ≠ 0 then some (.align 3 (kaddr bank t)) else none

/-! ### Waits (R53 to R58, R315) -/

/-- WAITF completes on a core (R53, R55). -/
def Core.doneWaitf (frame : Nat) (x : Core) : Core :=
  { x with latch := false, frameNo := frame, waitfDone := true, refFrame := frame, wait := none, pc := x.next 1,
           fl := { x.fl with rf := false } }

/-- WAITB or WAITI completes on a core. -/
def Core.doneWait (words : Nat) (x : Core) : Core :=
  { x with wait := none, pc := x.next words, fl := { x.fl with rf := false } }

/-- The beam is at or after L:0 of the reference frame (R28, R56). -/
def beamReached (c : Chip) (ref l : Nat) : Bool :=
  let d := (c.beam.frame + 2 ^ 32 - ref) % 2 ^ 32
  if d = 0 then !c.beam.hold && decide (l ≤ c.beam.line) else decide (d < 2 ^ 31)

/-- A mode is in force (R58). -/
def modeInForce (c : Chip) : Bool := decide (0 < c.beam.vtotal)

/-- A WAITB that began before the first mode is tested against that mode's VTOTAL at the first frame start; its reference frame is then
the frame that starts, if the core has completed no WAITF (R58). -/
def earlyWait (k l words : Nat) (c : Chip) : Chip :=
  if c.beam.vtotal ≤ l then raiseFault k (.illegal 0x0501) (modCore k (fun x => { x with wait := none }) c)
  else
    let c := modCore k (fun x => { x with wait := some (.line l words false), refFrame := if x.waitfDone then x.refFrame else c.beam.frame }) c
    if beamReached c (coreOf c k).refFrame l then modCore k (Core.doneWait words) c else c

/-- WAITF and WAITB are answered for every waiting core as the beam moves; `first` marks the first frame start after the output was held,
at which every wait for the beam completes (R54, R56, R58, Table 01.6). -/
def completeWaits (frameStart first : Bool) (c : Chip) : Chip :=
  (List.range 7).foldl (fun c k =>
    let x := coreOf c k
    if x.run != .running then c
    else match x.wait with
      | some .frame => if frameStart then modCore k (Core.doneWaitf c.beam.frame) c else c
      | some (.line l words early) =>
        if first && early then earlyWait k l words c
        else if !early && (first || beamReached c x.refFrame l) then modCore k (Core.doneWait words) c
        else c
      | _ => c) c

end Sys2Proof.Machine
end

