-- ==== Sys2Proof/Machine/MemoryRows.lean ====
section
/-! DEFINITION. The memory block at work: requests at the targets, evictions, walks, the Rinse and the commands that report them (R165 to R171, R427, R428,
R442 to R444, R456 to R459, R469). -/

namespace Sys2Proof.Machine

/-! ### Device loss, the resilver walk and the macro copy (R437, R442 to R444, R823, R824, R828) -/

/-- A device is fitted. -/
def fitted (c : Chip) (k : Nat) : Bool :=
  match c.mem.xmem with
  | .none => false
  | .lean => k < 5
  | .full => k < 6

/-- EXTERNAL_DEVICE_LOST. -/
def execExternalDeviceLost (d : Fin 6) (s : State) : Out := onChip (fun c => if fitted c d.val then loseDevice d.val c else c) s

/-- Lines of external memory. -/
def Mem.xLines (m : Mem) : Nat := m.xCapacity / 64

/-- The resilver has rewritten every line (R442 step 5, R828). -/
def resilverEnd (r : Resilver) (c : Chip) : Chip :=
  c |> modMem (fun m => { m with erased := vset m.erased r.dev false, resilver := none }) |> lint 0x0807 (0x0300 + r.dev) 0xFF 0
    |> fireMemoryDevice 3 |> setUnitState ⟨3, r.dev⟩ .active |> finish r.handle .ok 0 0

/-- RESILVER_LINE: one line is read with the device erased and written back whole; a walk that has stopped ends its command. -/
def resilverLine (c : Chip) : Chip :=
  match c.mem.resilver with
  | none => c
  | some r =>
    let failed (r : Resilver) (c : Chip) : Chip := finish r.handle .hwFault 0 0 (modMem (fun m => { m with resilver := none }) c)
    if r.aborted then failed r c
    else
      let c := evictLine .xmem (0x400000 + r.ptr) c
      let (ws, c) := readLine r.ptr c
      match c.mem.resilver with
      | none => c
      | some r =>
        if r.aborted then failed r c
        else
          let c := (List.range 8).foldl (fun c i => writeXmem (0x10000000 + 64 * r.ptr + 8 * i) (ws.getD i .bad) c) c
          let r' : Resilver := { r with ptr := r.ptr + 1 }
          if c.mem.xLines ≤ r'.ptr then resilverEnd r' c else modMem (fun m => { m with resilver := some r' }) c

/-- RESILVER_LINE. -/
def execResilverLine (s : State) : Out := onChip resilverLine s

/-- The copy has moved its last row (R444 step 4, R823). -/
def copyEnd (k : MacroCopy) (c : Chip) : Chip :=
  let old := vget c.mem.patch k.logical
  c |> modMem (fun m => { m with patch := vset m.patch k.logical k.spare, copy := none }) |> lint 0x080F (0x0200 + old) 0xFF k.spare
    |> setUnitState ⟨2, k.spare⟩ .active |> setUnitState ⟨2, old⟩ .retired |> finish k.handle .ok 0 0 |> fireService (0x0200 + k.spare) 3 0

/-- The row of a macro is read word by word with correction and stands on the spare; a word that cannot be corrected stays poisoned. -/
def copyRow (k : MacroCopy) (c : Chip) : Chip :=
  let pa := 2048 * k.row + 64 * k.logical
  (List.range 8).foldl (fun c i =>
    let (w, c) := readSram (pa + 8 * i) c
    if w.poison then modMem (fun m => { m.setBytes (pa + 8 * i) (List.replicate 8 0) with syn := sins m.syn (pa / 8 + i) 0x7F }) c else c)
    (evictLine .sram (pa / 64) c)

/-- MACRO_COPY_ROW: one row is read with correction and written to the spare; `bad` is an uncorrectable read-back of the row written. -/
def macroCopyRow (bad : Bool) (c : Chip) : Chip :=
  match c.mem.copy with
  | none => c
  | some k =>
    let c := copyRow k c
    if bad || unitState c ⟨2, k.spare⟩ != .copying then
      let c := modMem (fun m => { m with copy := none }) c
      finish k.handle .hwFault 0 0 (if unitState c ⟨2, k.spare⟩ = .copying then setUnitState ⟨2, k.spare⟩ .retired c else c)
    else if k.row < 2047 then modMem (fun m => { m with copy := some { k with row := k.row + 1 } }) c
    else copyEnd k c

/-- MACRO_COPY_ROW. -/
def execMacroCopyRow (bad : Bool) (s : State) : Out := onChip (macroCopyRow bad) s

/-- MERGE_ENTRY_EVICT: the entry of a line is written to its target (R427, R428). -/
def execMergeEntryEvict (xmem : Bool) (line : Long) (s : State) : Out :=
  onChip (evictLine (if xmem then .xmem else .sram) line.toNat) s

/-! ### The Rinse (R456 to R459) -/

/-- A loop reaches its next place; past its last place a new pass begins, and what this pass corrected is kept (R459). -/
def RinseLoop.advance (size now : Nat) (l : RinseLoop) : RinseLoop :=
  if l.pos + 1 < size then { l with pos := l.pos + 1 }
  else { pos := 0, passStart := now, lastWords := l.words }

/-- Reads the eight words of a user SRAM line, each with correction and write-back. -/
def rinseSramLine (line : Nat) (c : Chip) : Chip :=
  if line < 65536 then (List.range 8).foldl (fun c i => (readSram (64 * line + 8 * i) c).2) c
  else (List.range 8).foldl (fun c i => (readStew (64 * (line - 65536) + 8 * i) c).2) c

/-- Pages that the cartridge's image, its table and its save region take up. -/
def CartHeader.pages (h : CartHeader) : Nat :=
  max (h.imageLen / 4096) (max (h.crcTable / 4096 + h.tablePages) ((h.saveOffset + h.saveLen) / 4096))

/-- RINSE_VISIT (R457, R467). -/
def rinseVisit (l : RinseId) (c : Chip) : Chip :=
  if !c.mem.rinseOn || c.pwr.phase != .run then c
  else match l with
    | .sram =>
      let c := rinseSramLine c.mem.rinseS.pos c
      modMem (fun m => { m with rinseS := m.rinseS.advance 73728 c.clk.qtime, sinceRinse := vset m.sinceRinse 0 0 }) c
    | .xmem =>
      if c.mem.xmem = .none then c
      else
        let line := c.mem.rinseX.pos
        let c := if c.mem.zeroPtr ≤ line then modMem (fun m => { m with zeroPtr := line + 1 }) c else (readLine line c).2
        modMem (fun m => { m with rinseX := m.rinseX.advance m.xLines c.clk.qtime, sinceRinse := vset m.sinceRinse 1 0 }) c
    | .cart =>
      if c.mem.cart ≠ .mounted ∨ isPegged c 0x0B 1 then c
      else
        let p := c.mem.rinsePage
        let c := if cartPageGood c.mem p then c else c |> lint 0x080A 0x0B01 0xFF p |> fireMemory (csBase 1 + 4096 * p) 4
        modMem (fun m => { m with rinsePage := if p + 1 < m.cartHdr.pages then p + 1 else 0, sinceRinse := vset m.sinceRinse 2 0 }) c

/-- RINSE_VISIT. -/
def execRinseVisit (l : RinseId) (s : State) : Out := onChip (rinseVisit l) s

/-- RINSE_PASS_LATE: the pass has taken more than twice its period (R458). The cartridge's loop has no period. -/
def rinseLate (l : RinseId) (c : Chip) : Chip :=
  let late (p : RinseLoop) (period : Nat) (mark : Mem → Mem) : Chip :=
    if !c.mem.rinseOn || p.late then c
    else lintBlock 0x080D 0xFF 0 (modMem mark (atTime (p.passStart + 2 * period * 24000000 + 1) c))
  match l with
  | .sram => late c.mem.rinseS c.mem.rinseSram fun m => { m with rinseS := { m.rinseS with late := true } }
  | .xmem => if c.mem.xmem = .none then c else late c.mem.rinseX c.mem.rinseXmem fun m => { m with rinseX := { m.rinseX with late := true } }
  | .cart => c

/-- RINSE_PASS_LATE. -/
def execRinsePassLate (l : RinseId) (s : State) : Out := onChip (rinseLate l) s

/-! ### Requests at the targets (R165 to R171, R818) -/

/-- The classes of Table 03.4. -/
inductive BusClass where
  | beam | audio | steward | link | guest | bulk
deriving DecidableEq, Repr

/-- Who makes a request: partition, class and whether the fabric admits it; a spare in a failed core's place is admitted (R834). -/
def requester (c : Chip) (u : UnitId) : Option (Nat × BusClass × Bool) :=
  let adm : Bool := ((unitReg? c u).map (·.admitBit)).getD false
  let there : Bool := unitState c u != .absent
  if u.kind = 0x0E ∧ u.index = 3 then some (0, .steward, true)
  else if !there then none
  else
    let owned (k : UnitKind) (cls : Nat → BusClass) : Option (Nat × BusClass × Bool) :=
      let p := ownerOf c k u.index
      some (p, if p = 0 then .steward else cls p, adm)
    match u.kind with
    | 1 => (owned .core fun _ => .guest).map fun x => (x.1, x.2.1, x.2.2 || (coreOf c u.index).acting)
    | 4 => (owned .spool fun _ => .guest).map fun x => (x.1, (if (c.spool.toList.getD u.index {}).bulk then .bulk else x.2.1), x.2.2)
    | 6 => some (ownerOf c .layer u.index, .beam, adm)
    | 7 => some (ownerOf c .voice u.index, .audio, adm)
    | 9 => some (ownerOf c .input u.index, .audio, adm)
    | 10 => (owned .link fun _ => .guest).map fun x => (x.1, (if (linkChan c u.index).cfg.bulk then .bulk else x.2.1), x.2.2)
    | _ => none

/-- The loop of the Rinse that has work at a target. -/
def rinseAt (c : Chip) (t : Nat) : Option RinseId :=
  if !c.mem.rinseOn then none
  else match t with
    | 0 => some .sram
    | 1 => if c.mem.xmem = .none then none else some .xmem
    | _ => if c.mem.cart = .mounted then some .cart else none

/-- The grant before a request: the Rinse's, when 99 grants have gone by at the target without one, but not ahead of beam or audio
fetch (R166). -/
def rinseFloor (cls : BusClass) (t : Nat) (c : Chip) : Chip :=
  match rinseAt c t with
  | some l => if 99 ≤ vget c.mem.sinceRinse t ∧ cls ≠ .beam ∧ cls ≠ .audio then rinseVisit l c else c
  | none => c

/-- Counts a grant at a target. -/
def countGrant (t : Nat) (c : Chip) : Chip := modMem (fun m => { m with sinceRinse := vmod m.sinceRinse t (· + 1) }) c

/-- A read delivers its bytes to the requester. -/
def replyRead (bs : List PByte) (c : Chip) : Chip := { c with memReply := { bytes := bs } }

/-- A request is granted, or refused by ADMIT or by the map (R156, R818). -/
def memRequest (u : UnitId) (a n : Nat) (data : Option (List Byte)) (c : Chip) : Chip :=
  let refused (c : Chip) : Chip := { c with memReply := { refused := true } }
  if c.pwr.phase ≠ .run ∨ n = 0 ∨ 64 < n then c
  else match requester c u with
    | none => c
    | some (p, cls, admitted) =>
      if !admitted then refused (fabricPeg u a c)
      else if !kRangeOk c p (if data.isSome then .w else .r) a n then refused c
      else
        let t := targetOf (kPhys c p a)
        let c := countGrant t (rinseFloor cls t c)
        match data with
        | none =>
          let (bs, c) := if cls = .guest then readK p a n c else readKFree p a n c
          replyRead bs c
        | some bs =>
          let c := if cls = .guest then chargeRange p a n c else c
          replyRead [] (if a % 64 = 0 ∧ n = 64 then writeKLine p a (clean bs) c else writeKFree p a (clean bs) c)

/-- MEMORY_REQUEST. -/
def execMemoryRequest (q : MemReq) (s : State) : Out :=
  match q with
  | .read unit a n => onChip (memRequest (unitOfCode unit.toNat) a.toNat n.val none) s
  | .write unit a bytes => onChip (memRequest (unitOfCode unit.toNat) a.toNat bytes.length (some bytes)) s

/-! ### Commands (R469) -/

/-- MEM.STATUS. -/
def memStatus (_m : Cmd) (c : Chip) : Reply × Chip :=
  (.res c.mem.ceCount (c.mem.xmem.code + 2 ^ 8 * bitsToNat c.mem.erased.toList + 2 ^ 14 * b2n c.mem.resilver.isSome + 2 ^ 24 * c.mem.cart.code), c)

/-- MEM.STATUS. -/
def execMemStatus (r : Req) (s : State) : Out := onChip (serve 0x0801 r memStatus) s

/-- MEM.RINSE. -/
def memRinse (m : Cmd) (c : Chip) : Reply × Chip :=
  checked [chk (m.b 8 == 0 || m.f 10 2 < 16 || 4096 < m.f 10 2 || !m.z 9 1) .badParam]
    (fun c => (.ok, modMem (fun x => { x with rinseSram := m.b 8, rinseXmem := m.f 10 2 }) c)) c

/-- MEM.RINSE. -/
def execMemRinse (r : Req) (s : State) : Out := onChip (serve 0x0820 r memRinse) s

end Sys2Proof.Machine
end

