-- ==== Sys2Proof/Machine/Service.lean ====
section
/-! DEFINITION. The service block: unit registers by command, sparing, the shadow check, migration, the lint log and the slack trend (chapter 17). -/

namespace Sys2Proof.Machine

/-! ### Naming units and generations (R816, R820) -/

/-- A command's checks with the generation's place in the order: those before it, the pegged unit, GEN, those after it (Table 18.4). -/
def withGen (m : Cmd) (u : UnitId) (gen : Nat) (before after : List (Bool × Reply)) (eff : Chip → Reply × Chip) (c : Chip) : Reply × Chip :=
  match firstFail before with
  | some r => (r, c)
  | none => match unitReg? c u with
    | none => (.fail .badParam, c)
    | some r =>
      if r.gen ≠ gen then (.done .stale r.gen r.st.code [], lint 0x1102 u.code m.org.lintCode 0 c)
      else checked after eff c

/-- The owner that SVC.UNIT_STATUS reports: 0xFF for what no partition owns. -/
def unitOwner (c : Chip) (u : UnitId) : Nat :=
  match u.kind with
  | 1 => ownerOf c .core u.index
  | 4 => ownerOf c .spool u.index
  | 6 => ownerOf c .layer u.index
  | 7 => ownerOf c .voice u.index
  | 8 => ownerOf c .tone u.index
  | 9 => ownerOf c .input u.index
  | 10 => ownerOf c .link u.index
  | _ => 0xFF

/-- The faults that the log holds for a unit, saturating. -/
def faultCount (c : Chip) (u : UnitId) : Nat := min 0xFFFF (((c.lint.entries.filter (·.unit == u.code)).map (·.count)).sum)

/-- SVC.UNIT_STATUS. A guest that names a unit other than its own is refused by its origin, before the range is looked at. -/
def svcUnitStatus (m : Cmd) (c : Chip) : Reply × Chip :=
  let u := unitOfCode (m.f 8 2)
  let other := match m.org with
    | .part p => decide (p ≠ 0 ∧ unitOwner c u ≠ p)
    | _ => false
  if other then (.fail .denied, c)
  else match unitReg? c u with
    | none => (.fail .badParam, c)
    | some r => (.res (faultCount c u) (r.st.code + 2 ^ 8 * r.gen + 2 ^ 16 * unitOwner c u + 2 ^ 24 * b2n r.admitBit), c)

/-- SVC.UNIT_STATUS. -/
def execSvcUnitStatus (r : Req) (s : State) : Out := onChip (serve 0x1101 r svcUnitStatus) s

/-! ### Pegging and unit reset (R819, R821) -/

/-- SVC.PEG; a unit pegged already stays as it is. -/
def svcPeg (m : Cmd) (c : Chip) : Reply × Chip :=
  let u := unitOfCode (m.f 8 2)
  let st := unitState c u
  withGen m u (m.b 10) [] [chk (st == .absent || st == .retired) .badState]
    (fun c => if st = .pegged then (.ok, c) else (.ok, lint 0x1103 u.code m.org.lintCode 0 (pegAny u c))) c

/-- SVC.PEG. -/
def execSvcPeg (r : Req) (s : State) : Out := onChip (serve 0x1111 r svcPeg) s

/-- The reset state of a unit, given in its own chapter. A core is held, and keeps its local number. -/
def resetUnit (u : UnitId) (c : Chip) : Chip :=
  match u.kind with
  | 1 => modCore u.index (fun x => { localNo := x.localNo, fresh := false }) c
  | 3 => modMem (fun m => { m with erased := vset m.erased u.index false }) c
  | 4 => modCh u.index (fun _ => {}) (spoolPegged u.index c)
  | 5 => pegLinkUnit 5 u.index c
  | 6 => resetLayer u.index c
  | 7 => resetSoundUnit .voice u.index c
  | 8 => resetSoundUnit .tone u.index c
  | 9 => resetSoundUnit .input u.index c
  | 10 => resetChan u.index c
  | 11 => resetFlash u.index c
  | _ => c

/-- The chain that runs on a channel under unit reset ends with it. -/
def resetRunning (u : UnitId) (c : Chip) : Chip :=
  if u.kind = 4 ∧ !(chOf c u.index).free then endChain u.index .fenced .fenced 0 c else c

/-- SVC.UNIT_RESET. A chip select whose device is at work reaches its reset state when the device is done. -/
def svcUnitReset (m : Cmd) (c : Chip) : Reply × Chip :=
  let u := unitOfCode (m.f 8 2)
  let st := unitState c u
  withGen m u (m.b 10) [] [chk (st != .pegged && st != .active) .badState]
    (fun c =>
      if u.kind = 11 && (c.mem.flashOp.any fun o => o.cs == u.index) then
        (.wait, modSvc (fun s => { s with resets := s.resets ++ [(u.code, m.waitHandle)] }) c)
      else (.ok, unitBack u (resetUnit u (resetRunning u c)))) c

/-- SVC.UNIT_RESET. -/
def execSvcUnitReset (r : Req) (s : State) : Out := onChip (serve 0x1110 r svcUnitReset) s

/-- UNIT_RESET_TIMEOUT: the unit is or stays PEGGED. -/
def unitResetTimeout (n : Nat) (c : Chip) : Chip :=
  match c.svc.resets.find? (·.1 == n) with
  | none => c
  | some r =>
    let c := modSvc (fun s => { s with resets := delFirst (· == r) s.resets }) c
    finish r.2 .hwFault 0 0 (lint 0x110B n 0xFF 0 (pegAny (unitOfCode n) c))

/-- UNIT_RESET_TIMEOUT. -/
def execUnitResetTimeout (unit : Word) (s : State) : Out := onChip (unitResetTimeout unit.toNat) s

/-! ### Macro sparing (R823 to R825) -/

/-- The spare macro that is picked: the lower-numbered of M32 and M33 in SPARE. -/
def spareMacro (c : Chip) : Option Nat := [32, 33].find? fun i => unitState c ⟨2, i⟩ == .spare

/-- SVC.SPARE_MACRO. -/
def svcSpareMacro (m : Cmd) (c : Chip) : Reply × Chip :=
  let n := m.b 8
  let old := vget c.mem.patch n
  withGen m ⟨2, old⟩ (m.b 9) [chk (31 < n) .badParam, chk (isPegged c 2 old) .fenced] []
    (fun c => match spareMacro c with
      | none => (.fail .badState, lintBlock 0x1107 0xFF 0 c)
      | some k =>
        if c.mem.copy.isSome then (.fail .inUse, c)
        else (.wait, setUnitState ⟨2, k⟩ .copying (modMem (fun x => { x with copy := some { logical := n, spare := k, handle := m.waitHandle } }) c))) c

/-- SVC.SPARE_MACRO. -/
def execSvcSpareMacro (r : Req) (s : State) : Out := onChip (serve 0x1112 r svcSpareMacro) s

/-! ### External devices (R826 to R828) -/

/-- Devices in erasure. -/
def erasedCount (c : Chip) : Nat := (c.mem.erased.toList.filter id).length

/-- Retiring a device would leave the channel no check. -/
def lastCheck (c : Chip) : Bool := c.mem.xmem == .lean || 1 ≤ erasedCount c

/-- A device is retired by command. -/
def retireDevice (k : Nat) (c : Chip) : Chip :=
  let c := fenceDevice k c
  let c := match c.mem.resilver with
    | some r => if r.aborted then c else
        lint 0x0807 (0x0300 + r.dev) 0xFF 1 (setUnitState ⟨3, r.dev⟩ .retired (modMem (fun m => { m with resilver := some { r with aborted := true } }) c))
    | none => c
  let c := lint 0x0805 (0x0300 + k) 0xFF 0 (setUnitState ⟨3, k⟩ .retired c)
  if c.mem.xmem = .full ∧ erasedCount c = 2 ∨ c.mem.xmem = .lean ∧ erasedCount c = 1 then lintBlock 0x0806 0xFF 0 c else c

/-- The resilver of a device begins: its density, which the device itself tells and nothing else does, is a free value. -/
def startResilver (m : Cmd) (k : Nat) (c : Chip) : Reply × Chip :=
  let (d, c) := freeNat c
  let c := setUnitState ⟨3, k⟩ .copying c
  if bit d 0 then (.wait, modMem (fun x => { x with resilver := some { dev := k, handle := m.waitHandle } }) c)
  else (.fail .hwFault, lintBlock 0x0808 0xFF k (setUnitState ⟨3, k⟩ .retired c))

/-- SVC.XMEM. -/
def svcXmem (m : Cmd) (c : Chip) : Reply × Chip :=
  let k := m.b 8
  let act := m.b 10
  let st := unitState c ⟨3, k⟩
  withGen m ⟨3, k⟩ (m.b 9) [chk (5 < k || act == 0 || 2 < act || 1 < m.b 11) .badParam, chk (isPegged c 3 k) .fenced]
    [chk (if act = 1 then st != .active || (lastCheck c && !bit (m.b 11) 0) else st != .retired) .badState, chk (act == 2 && c.mem.resilver.isSome) .inUse]
    (fun c => if act = 1 then (.ok, retireDevice k c) else startResilver m k c) c

/-- SVC.XMEM. -/
def execSvcXmem (r : Req) (s : State) : Out := onChip (serve 0x1114 r svcXmem) s

/-! ### The shadow check and migration (R829 to R836) -/

/-- The core held as spare. -/
def spareCoreOf (c : Chip) : Option Nat := (List.range 6).find? fun k => unitState c ⟨1, k⟩ == .spare && !(coreOf c k).acting

/-- With no spare core the shadow check stops (R836). -/
def noSpareCheck (c : Chip) : Chip :=
  if (List.range 6).any fun k => unitState c ⟨1, k⟩ == .spare then c
  else fireService 0x0E11 4 0 (lintBlock 0x1107 0xFF 0 (modSvc (fun s => { s with shadow := none }) c))

/-- A core can be shadowed: a running play core (R829). -/
def shadowable (c : Chip) (k : Nat) : Bool :=
  unitState c ⟨1, k⟩ == .active && (coreOf c k).run == .running && !(coreOf c k).halted

/-- SHADOW_ROTATE: the spare begins shadowing the next core in ascending order. -/
def shadowRotate (c : Chip) : Chip :=
  if !c.svc.shadowEn || (spareCoreOf c).isNone || c.pwr.phase != .run then modSvc (fun s => { s with shadow := none }) c
  else
    let l := (List.range 6).filter (shadowable c)
    match c.svc.shadow with
    | none => modSvc (fun s => { s with shadow := l.head?.map fun k => (k, c.clk.qtime) }) c
    | some (cur, t) =>
      let c := atTime (t + 24000 * c.svc.shadowMs) c
      let next := match l.find? (cur < ·) with | some k => some k | none => l.head?
      modSvc (fun s => { s with shadow := next.map fun k => (k, c.clk.qtime) }) c

/-- SHADOW_ROTATE. -/
def execShadowRotate (s : State) : Out := onChip shadowRotate s

/-- A core's whole state, its owner and its place move to another core (R321, R834). -/
def moveCore (src dst : Nat) (c : Chip) : Chip :=
  let p := ownerOf c .core src
  { c with cores := vset (vset c.cores dst (coreOf c src)) src {}, own := { c.own with cores := vset (vset c.own.cores dst p) src 0 } }

/-- Migrations of a core that waits for its frame start complete BAD_STATE: the core has been retired (Table 17.7). -/
def dropMigrations (k : Nat) (c : Chip) : Chip :=
  let l := c.svc.migrations.filter fun g => g.byCmd && g.src == k
  l.foldl (fun c g => finish g.handle .badState 0 0 c) (modSvc (fun s => { s with migrations := s.migrations.filter fun g => !(g.byCmd && g.src == k) }) c)

/-- The spare fails its self-test: it is retired, and nothing shadows. -/
def spareFails (k : Nat) (c : Chip) : Chip :=
  noSpareCheck (modSvc (fun s => { s with shadow := none }) (setUnitState ⟨1, k⟩ .retired c))

/-- The shadowed core fails: the spare goes on in its place at once, and the unit registers follow at the frame start (R834). -/
def coreFails (k spare : Nat) (c : Chip) : Chip :=
  let c := modCore spare (fun x => { x with acting := true }) (moveCore k spare (dropMigrations k c))
  modSvc (fun s => { s with shadow := none, migrations := s.migrations ++ [{ src := k, spare := spare, retire := true, acting := true }] }) c

/-- A mismatch between a core and the spare that shadows it (R833, Table 17.4). -/
def shadowMismatch (k spare : Nat) (coreOk spareOk : Bool) (c : Chip) : Chip :=
  let now := c.clk.qtime
  let again := c.svc.passes.any fun p => p.1 == k && now < p.2 + 24 * 3600 * 24000000
  let outcome : Nat := match coreOk, spareOk with
    | false, true => 1
    | true, false => 2
    | true, true => if again then 1 else 3
    | false, false => 4
  let c := fireService (0x0100 + k) 5 outcome (lint 0x1105 (0x0100 + k) 0xFF outcome c)
  match outcome with
  | 1 => coreFails k spare c
  | 3 => modSvc (fun s => { s with passes := (s.passes.filter fun p => p.1 != k) ++ [(k, now)] }) c
  | _ => spareFails spare c

/-- SELF_TEST_COMPLETE: of a unit that SVC.REINSTATE names, of a core that a migration has left, or of both cores of a mismatch. -/
def selfTest (coreOk spareOk : Bool) (c : Chip) : Chip :=
  match c.svc.test with
  | some (.reinstate n h) =>
    let c := modSvc (fun s => { s with test := none }) c
    if coreOk then finish h .ok 0 0 (setUnitState (unitOfCode n) .spare c) else finish h .hwFault 0 0 c
  | some (.source k) =>
    let c := setUnitState ⟨1, k⟩ (if coreOk then .spare else .retired) (modSvc (fun s => { s with test := none }) c)
    if coreOk then c else noSpareCheck c
  | none => match c.svc.shadow, spareCoreOf c with
    | some (k, _), some spare => shadowMismatch k spare coreOk spareOk c
    | _, _ => c

/-- SELF_TEST_COMPLETE. -/
def execSelfTestComplete (coreOk spareOk : Bool) (s : State) : Out := onChip (selfTest coreOk spareOk) s

/-- One migration at the frame start (R834, R835). -/
def commitMigration (g : Migration) (c : Chip) : Chip :=
  let done (c : Chip) : Chip := lint 0x1106 (0x0100 + g.src) 0xFF g.spare c
  if g.acting then
    c |> setUnitState ⟨1, g.src⟩ .retired |> setUnitState ⟨1, g.spare⟩ .active |> modCore g.spare (fun x => { x with acting := false }) |> done |> noSpareCheck
  else if unitState c ⟨1, g.spare⟩ = .spare ∧ unitState c ⟨1, g.src⟩ = .active then
    let c := modSvc (fun s => { s with shadow := none }) (moveCore g.src g.spare c)
    let c := setUnitState ⟨1, g.spare⟩ .active c
    let c := if g.retire then setUnitState ⟨1, g.src⟩ .retired c else modSvc (fun s => { s with test := some (.source g.src) }) c
    finish g.handle .ok 0 0 (noSpareCheck (done c))
  else finish g.handle .badState 0 0 c

/-- The migrations that wait for a frame start. -/
def commitMigrations (c : Chip) : Chip :=
  c.svc.migrations.foldl (fun c g => commitMigration g c) (modSvc (fun s => { s with migrations := [] }) c)

/-- SVC.MIGRATE (R835). -/
def svcMigrate (m : Cmd) (c : Chip) : Reply × Chip :=
  let k := m.b 8
  withGen m ⟨1, k⟩ (m.b 9) [chk (5 < k || 1 < m.b 10) .badParam, chk (isPegged c 1 k) .fenced]
    [chk (unitState c ⟨1, k⟩ != .active || (coreOf c k).run == .held || (spareCoreOf c).isNone) .badState, chk (!c.svc.migrations.isEmpty || c.svc.test.isSome) .inUse]
    (fun c => (.wait, modSvc (fun s => { s with migrations :=
        [{ src := k, spare := (spareCoreOf c).getD 5, retire := bit (m.b 10) 0, handle := m.waitHandle, byCmd := true }] }) c)) c

/-- SVC.MIGRATE. -/
def execSvcMigrate (r : Req) (s : State) : Out := onChip (serve 0x1113 r svcMigrate) s

/-- SVC.SHADOW. -/
def svcShadow (m : Cmd) (c : Chip) : Reply × Chip :=
  let ms := m.f 10 2
  checked [chk (1 < m.b 8 || !m.z 9 1 || ms < 100 || 60000 < ms) .badParam, chk (m.b 8 == 0 && lifeOf c != .service) .badState]
    (fun c => (.ok, modSvc (fun s => { s with shadowEn := bit (m.b 8) 0, shadowMs := ms, shadow := if m.b 8 = 0 then none else s.shadow }) c)) c

/-- SVC.SHADOW. -/
def execSvcShadow (r : Req) (s : State) : Out := onChip (serve 0x1115 r svcShadow) s

/-- SVC.REINSTATE. -/
def svcReinstate (m : Cmd) (c : Chip) : Reply × Chip :=
  let u := unitOfCode (m.f 8 2)
  withGen m u (m.b 10) [chk ((u.kind != 1 && u.kind != 2) || (unitReg? c u).isNone) .badParam, chk (unitState c u == .pegged) .fenced]
    [chk (lifeOf c != .service || unitState c u != .retired) .badState, chk c.svc.test.isSome .inUse]
    (fun c => (.wait, modSvc (fun s => { s with test := some (.reinstate u.code m.waitHandle) }) c)) c

/-- SVC.REINSTATE. -/
def execSvcReinstate (r : Req) (s : State) : Out := onChip (serve 0x1116 r svcReinstate) s

/-! ### The lint log by command (R843 to R847) -/

/-- The 32 bytes of an entry (Table 17.5). -/
def LintEntry.bytes (e : LintEntry) : List Byte :=
  leBytes 2 e.code ++ leBytes 2 e.unit ++ leBytes 2 e.count ++ leBytes 1 e.origin ++ leBytes 1 (bitsToNat [e.boot, e.saturated])
    ++ leBytes 8 e.first ++ leBytes 8 e.last ++ leBytes 4 e.frame ++ leBytes 4 e.detail

/-- The header. -/
def LintLog.header (l : LintLog) : List Byte :=
  leBytes 2 l.next ++ leBytes 2 l.entries.length ++ leBytes 4 l.overwritten ++ List.replicate 24 0

/-- Ring place i; a place that holds no data reads zero. -/
def LintLog.place (l : LintLog) (i : Nat) : List Byte :=
  match l.entries[i % 256]? with
  | some e => e.bytes
  | none => List.replicate 32 0

/-- SVC.LINT_READ. -/
def svcLintRead (m : Cmd) (c : Chip) : Reply × Chip :=
  let first := m.f 8 2
  let n := m.f 10 2
  let dest := m.f 12 4
  checked [chk (destDenied m c dest (32 + 32 * n)) .denied,
           chk (255 < first || n == 0 || (if m.org.external then 31 < n else 256 < n) || !dest24 m dest) .badParam]
    (fun c => answerBlock m dest 0 0 (c.lint.header ++ (List.range n).flatMap fun i => c.lint.place (first + i)) c) c

/-- SVC.LINT_READ. -/
def execSvcLintRead (r : Req) (s : State) : Out := onChip (serve 0x1130 r svcLintRead) s

/-- SVC.LINT_COUNTS. -/
def svcLintCounts (m : Cmd) (c : Chip) : Reply × Chip :=
  let b := m.b 8
  let dest := m.f 12 4
  checked [chk (destDenied m c dest 124) .denied, chk (0x11 < b || !m.z 9 3 || !dest24 m dest) .badParam]
    (fun c => answerBlock m dest 0 0 ((List.range 31).flatMap fun i => leBytes 4 (sget 0 c.lint.counters (256 * b + i + 1))) c) c

/-- SVC.LINT_COUNTS. -/
def execSvcLintCounts (r : Req) (s : State) : Out := onChip (serve 0x1131 r svcLintCounts) s

/-- SVC.LINT_CLEAR. -/
def svcLintClear (_m : Cmd) (c : Chip) : Reply × Chip :=
  checked [chk (lifeOf c != .service) .badState] (fun c => (.ok, { c with lint := {} })) c

/-- SVC.LINT_CLEAR. -/
def execSvcLintClear (r : Req) (s : State) : Out := onChip (serve 0x1132 r svcLintClear) s

/-! ### The slack trend (R848, R849) -/

/-- The 16 bytes of an hourly record (Table 17.6). -/
def HourRec.bytes (h : HourRec) : List Byte :=
  leBytes 4 h.hour ++ leBytes 2 h.vcore ++ leBytes 1 (narrow 8 h.tj) ++ leBytes 1 h.slack ++ leBytes 2 h.panics ++ leBytes 2 h.overruns ++ leBytes 4 0

/-- The 16 bytes of a monthly record (Table 17.6). -/
def MonthRec.bytes (r : MonthRec) : List Byte :=
  leBytes 4 r.month ++ leBytes 2 r.band ++ leBytes 2 r.hours ++ leBytes 2 r.maxVcore ++ leBytes 2 r.panics ++ leBytes 4 0

/-- The last n of a list. -/
def lastN (n : Nat) (l : List α) : List α := l.drop (l.length - n)

/-- An hour of Quartz time in ticks. -/
def hourTicks : Nat := 3600 * 24000000

/-- TREND_HOURLY: the hour ends; the means and the minimum of the hour are as they were measured. -/
def trendHourly (vcore : Nat) (tj : Int) (slack : Nat) (c : Chip) : Chip :=
  let h := c.clk.qtime / hourTicks
  let c := atTime ((h + 1) * hourTicks) c
  let r : HourRec := { hour := h, vcore := vcore, tj := tj, slack := slack, panics := min 0xFFFF c.gov.panics, overruns := min 0xFFFF c.svc.overruns }
  modGov (fun g => { g with panics := 0 }) (modSvc (fun s => { s with hours := lastN 720 (s.hours ++ [r]), overruns := 0 }) c)

/-- TREND_HOURLY. -/
def execTrendHourly (vcore : Word) (tj : Int) (slack : Byte) (s : State) : Out := onChip (trendHourly vcore.toNat tj slack.toNat) s

/-- The monthly record of the hours kept. -/
def monthOf (s : Service) : MonthRec :=
  let band := s.hours.filter fun h => 45 ≤ h.tj && h.tj ≤ 55
  { month := match s.months.getLast? with | some m => m.month + 1 | none => 0,
    band := if band.isEmpty then 0 else (band.map (·.vcore)).sum / band.length,
    hours := band.length,
    maxVcore := (s.hours.map (·.vcore)).foldl max 0,
    panics := min 0xFFFF ((s.hours.map (·.panics)).sum) }

/-- TREND_MONTHLY: the record is kept, without a trend region the last twelve, and tested against the baseline. -/
def trendMonthly (c : Chip) : Chip :=
  let r := monthOf c.svc
  let c := modSvc (fun s => { s with months := lastN 12 (s.months ++ [r]) }) c
  if r.hours < 100 then c
  else if c.svc.baseline.length < 3 then modSvc (fun s => { s with baseline := s.baseline ++ [r.band] }) c
  else if c.svc.baseline.sum + 150 < 3 * r.band then
    fireService 0x0E11 6 0 (lintBlock 0x110A 0xFF (r.band - c.svc.baseline.sum / 3) c)
  else c

/-- TREND_MONTHLY. -/
def execTrendMonthly (s : State) : Out := onChip trendMonthly s

/-- SVC.TREND: the newest COUNT records that there are, oldest first. -/
def svcTrend (m : Cmd) (c : Chip) : Reply × Chip :=
  let k := m.b 8
  let n := m.f 10 2
  let dest := m.f 12 4
  let block := if k = 0 then (lastN n c.svc.hours).flatMap HourRec.bytes else (lastN n c.svc.months).flatMap MonthRec.bytes
  checked [chk (destDenied m c dest block.length) .denied,
           chk (1 < k || !m.z 9 1 || n == 0 || (if m.org.external then 64 < n else 720 < n) || !dest24 m dest) .badParam]
    (fun c => answerBlock m dest 0 0 block c) c

/-- SVC.TREND. -/
def execSvcTrend (r : Req) (s : State) : Out := onChip (serve 0x1133 r svcTrend) s

end Sys2Proof.Machine
end

