-- ==== Sys2Proof/Machine/Partition.lean ====
section
/-! DEFINITION. Partitions: states, ownership, maps, shares, rights, focus and partition reset (chapter 03). -/

namespace Sys2Proof.Machine

/-! ### Names, ranges and ownership (R147 to R152, R183, R184) -/

/-- A guest's number. -/
def isGuest (p : Nat) : Bool := 1 ≤ p && p ≤ 6

/-- The unit kind that KIND names (Table 03.10). -/
def kindOfCode : Nat → Option UnitKind
  | 1 => some .core | 2 => some .layer | 3 => some .sprite | 4 => some .voice | 5 => some .tone | 6 => some .input | 7 => some .spool
  | 8 => some .link | _ => none

/-- The unit-register kind of a unit kind (Table 17.1); a sprite run has no register. -/
def UnitKind.reg : UnitKind → Option Nat
  | .core => some 1 | .layer => some 6 | .sprite => none | .voice => some 7 | .tone => some 8 | .input => some 9 | .spool => some 4
  | .link => some 10

/-- A unit is pegged. -/
def kindPegged (c : Chip) (k : UnitKind) (i : Nat) : Bool := match k.reg with | some r => isPegged c r i | none => false

/-- The owner that every accepted change will leave, where `v` is the chip after the changes of the display (R183). -/
def futureOwner (v : Chip) (k : UnitKind) (i : Nat) : Nat := if v.ownRamp.any fun o => o.kind == k && o.index == i then 0 else ownerOf v k i

/-- A core is the spare, or runs in a retired core's place (R148, R834). -/
def isSpareCore (c : Chip) (k : Nat) : Bool := unitState c ⟨1, k⟩ == .spare || (coreOf c k).acting

/-- Cores take their local numbers from their ranks (R149, R184). -/
def renumberCores (c : Chip) : Chip := (List.range 6).foldl (fun c k => modCore k (fun x => { x with localNo := localOf c .core k }) c) c

/-- A unit changes hands at once: it belongs to its new owner, in its reset state. -/
def setOwner (k : UnitKind) (i dest : Nat) (c : Chip) : Chip :=
  match k with
  | .core => renumberCores { c with cores := vset c.cores i {}, own := { c.own with cores := vset c.own.cores i dest } }
  | .layer => applyOwn { kind := k, index := i, dest := dest } c
  | .sprite => applyOwn { kind := k, index := i, dest := dest } c
  | .voice => resetSoundUnit k i { c with own := { c.own with voices := vset c.own.voices i dest } }
  | .tone => resetSoundUnit k i { c with own := { c.own with tones := vset c.own.tones i dest } }
  | .input => resetSoundUnit k i { c with own := { c.own with inputs := vset c.own.inputs i dest } }
  | .spool => modCh i (fun _ => {}) { c with own := { c.own with spool := vset c.own.spool i dest } }
  | .link =>
    let c := resetChan i c
    { c with own := { c.own with links := vset c.own.links i dest } }

/-- A sound unit is to return to P0 after its ramp (R183). -/
def rampOut (k : UnitKind) (i : Nat) (handle : Option Long) (last : Bool) (c : Chip) : Chip :=
  fadeUnit k i { c with ownRamp := c.ownRamp ++ [{ kind := k, index := i, since := c.clk.qtime, handle := handle, last := last }] }

/-! ### Reports (R195, R197) -/

/-- The trailer of the map copy (Table 03.10), with the three bytes that P0 has no value for. -/
def partTrailer (c : Chip) (p share credits gen : Nat) : List Byte :=
  let q := partOf c p
  leBytes 2 q.budget ++ leBytes 2 (min 0xFFFF (loadOf c p)) ++ leBytes 2 (min 0xFFFF (admitCap c)) ++ leBytes 2 q.rights.toNat
    ++ leBytes 1 share ++ leBytes 1 credits ++ leBytes 1 gen ++ leBytes 1 q.st.code ++ leBytes 4 0

/-- The 1,040 bytes of the map copy. -/
def mapCopy (c : Chip) (p share credits gen : Nat) : List Byte :=
  ((List.range 256).flatMap fun b => leBytes 4 (mapEntry c p b).word) ++ partTrailer c p share credits gen

/-- SHARE, CREDITS and GEN of a partition. P0 has none of them: what is reported for it is a free value. -/
def partFigures (p : Nat) (c : Chip) : (Nat × Nat × Nat) × Chip :=
  if p = 0 then
    let (v, c) := freeNat c
    ((v % 256, v / 256 % 256, v / 65536 % 256), c)
  else (((partOf c p).share, (partOf c p).credits, (partOf c p).gen), c)

/-- The partition that PART.STATUS names: PID 0 is the issuer's own, and P0 for an external origin. -/
def statusPid (m : Cmd) : Nat := if m.b 8 = 0 then m.guest else m.b 8

/-- PART.STATUS. -/
def partStatus (m : Cmd) (c : Chip) : Reply × Chip :=
  let p := statusPid m
  let view := m.b 10
  let dest := m.f 12 4
  checked
    [chk ((!m.org.external && m.guest != 0 && p != m.guest) || (dest % 2 ^ 24 != 0 && destDenied m c dest 1040)) .denied,
     chk (6 < p || 1 < view || m.b 11 != 0 || !destOk m dest) .badParam]
    (fun c =>
      let ((share, credits, gen), c) := partFigures p c
      let load := min 0xFFFF (loadOf c p)
      let res := if view = 0 then (partOf c p).st.code + 2 ^ 8 * gen + 2 ^ 16 * share + 2 ^ 24 * credits
        else (partOf c p).budget + 2 ^ 16 * min 0xFFFF (admitCap c)
      if dest = 0 then (.res load res, c) else answerBlock m dest load res (mapCopy c p share credits gen) c) c

/-- PART.STATUS. -/
def execPartStatus (r : Req) (s : State) : Out := onChip (serve 0x0301 r partStatus) s

/-! ### Shares, budgets and the generation (R144, R167, R174) -/

/-- The shares of all guests but one. -/
def otherShares (c : Chip) (p : Nat) : Nat :=
  ((List.range 7).map fun q => if isGuest q && q != p && (partOf c q).st != .empty then (partOf c q).share else 0).sum

/-- Budgets that a partition's new budget would bring above the ceiling of the mode in force. -/
def overCeiling (c : Chip) (p budget : Nat) : Bool := c.scan.mode.isSome && decide (admitCap c < budgetSum c - (partOf c p).budget + budget)

/-- Checks that begin with ranges and pegged units, then the generation, then the rest (Table 18.4). -/
def partChecked (m : Cmd) (before after : List (Bool × Reply)) (eff : Chip → Reply × Chip) (c : Chip) : Reply × Chip :=
  let p := m.b 8
  checked (before ++ [(decide (m.b 9 ≠ (partOf c p).gen), staleReply c p)] ++ after) eff c

/-- The partition is in one of the states that a command asks for. -/
def badSt (c : Chip) (p : Nat) (ok : List PartState) : Bool × Reply := chk (!ok.contains (partOf c p).st) .badState

/-- The cores of a mask. -/
def coresOf (mask : Nat) : List Nat := (List.range 6).filter fun k => bit mask k

/-- PART.CREATE. -/
def partCreate (m : Cmd) (c : Chip) : Reply × Chip :=
  let p := m.b 8
  let ks := coresOf (m.b 9)
  let share := m.b 10
  let credits := m.b 11
  let rights := m.f 12 2
  let budget := m.f 14 2
  checked
    [chk (!isGuest p || 63 < m.b 9 || share < 1 || 64 < share || credits < 1 || 64 < credits || 127 < rights
        || (c.scan.mode.isSome && admitCap c < budget)) .badParam,
     chk (ks.any fun k => isPegged c 1 k) .fenced,
     chk ((partOf c p).st != .empty || ks.any fun k => unitState c ⟨1, k⟩ == .retired) .badState,
     chk (ks.any fun k => ownerOf c .core k != 0 || isSpareCore c k) .inUse,
     chk (64 < otherShares c p + share || overCeiling c p budget) .overBudget]
    (fun c =>
      let c := modPart p (fun q => { st := .stopped, gen := (q.gen + 1) % 256, map := [(0xFF, MapEntry.ownWindow)], rights := BitVec.ofNat 7 rights,
                                     share := share, budget := budget, credits := credits, tokens := Vector.replicate 3 (4 * share) }) c
      let c := resetHamper p (modMbx p (fun _ => {}) c)
      (.ok, ks.foldl (fun c k => setOwner .core k p c) { c with snd := { c.snd with parts := vset c.snd.parts p {} }, diag := vset c.diag p {} })) c

/-- PART.CREATE. -/
def execPartCreate (r : Req) (s : State) : Out := onChip (serve 0x0310 r partCreate) s

/-! ### Ending a partition's work (R185 steps 1 to 5, R190) -/

/-- Step 1: the cores are held in reset, and a migration of one is abandoned. -/
def stopCores (p : Nat) (c : Chip) : Chip :=
  (ownedUnits c p .core).foldl (fun c k => modCore k (fun x => { localNo := x.localNo, acting := x.acting }) (dropMigrations k c)) c

/-- Step 1: the partition's commands die with their handles, and with what they have left waiting. -/
def dropCommands (p : Nat) (c : Chip) : Chip :=
  let dead := c.cmds.filter fun m => m.org == .part p
  let gone (h : Long) : Bool := dead.any (·.handle == h)
  let goneO (h : Option Long) : Bool := match h with | some h => gone h | none => false
  let c := dropChanges gone { c with cmds := c.cmds.filter fun m => m.org != .part p }
  let c := dead.foldl (fun c m => dropRemote m.handle c) c
  let c := { c with
    inp := { c.inp with
      i2c := c.inp.i2c.map fun b => if b.op.any fun o => goneO o.handle then { b with op := none } else b,
      spi := if c.inp.spi.op.any fun o => goneO o.handle then { c.inp.spi with op := none } else c.inp.spi } }
  modMbx p (fun _ => {}) c

/-- Steps 1 to 5 of a partition reset. -/
def teardown (p : Nat) (c : Chip) : Chip :=
  let c := dropCommands p (stopCores p c)
  let c := fadeSoundOf p (modLp p (fun l => { l with hidden := true }) c)
  let c := (ownedUnits c p .spool).foldl (fun c ch => modCh ch (fun _ => {}) c) c
  resetInputOf p (resetHamper p (resetLinkOf p c))

/-- Focus passes to P0 at the next frame start, and so does a focus not yet given. -/
def loseFocus (p : Nat) (c : Chip) : Chip :=
  let pend := c.focusPending.map fun e => if e.2 = p then (e.1, 0) else e
  { c with focusPending := if c.focus = p ∧ pend.isEmpty then [(none, 0)] else pend }

/-- What PART.DESTROY makes of the chip: the units return to P0, sound after its ramp, and the map is cleared. -/
def destroyPart (p : Nat) (c : Chip) : Chip :=
  let v := afterChanges c
  let late := [UnitKind.layer, UnitKind.sprite].flatMap fun k => (ownedUnits v p k).map fun i => (k, i)
  let c := loseFocus p (teardown p c)
  let c := [UnitKind.voice, UnitKind.tone, UnitKind.input].foldl (fun c k => (ownedUnits c p k).foldl (fun c i =>
    if futureOwner c k i = p then rampOut k i none false c else c) c) c
  let c := [UnitKind.core, UnitKind.layer, UnitKind.sprite, UnitKind.spool, UnitKind.link].foldl (fun c k =>
    (ownedUnits c p k).foldl (fun c i => setOwner k i 0 c) c) c
  let c := resetLayersOf p (applyChange (.grant p 0 0 0) c)
  let own := ownCmd 0x0311 []
  let c := late.foldl (fun c u => if ownerOf c u.1 u.2 = 0 ∧ (c.frameQ.any fun q => q.ch == .own { kind := u.1, index := u.2, dest := p }) then
    enqueueChange own false (.own { kind := u.1, index := u.2, dest := 0 }) c else c) c
  let c := if c.frameQ.isEmpty && c.cmpTaken.isEmpty then c else enqueueChange own false (.grant p 0 0 0) c
  modPart p (fun q => { gen := q.gen }) { c with diag := vset c.diag p {} }

/-- PART.DESTROY. -/
def partDestroy (m : Cmd) (c : Chip) : Reply × Chip :=
  let p := m.b 8
  partChecked m [chk (!isGuest p) .badParam] [badSt c p [.stopped]] (fun c => (.ok, destroyPart p c)) c

/-- PART.DESTROY. -/
def execPartDestroy (r : Req) (s : State) : Out := onChip (serve 0x0311 r partDestroy) s

/-! ### The partition map (R153, R157 to R160) -/

/-- A frame of user SRAM or of the external memory that is fitted. -/
def ramFrame (c : Chip) (f : Nat) : Bool := f < 0x40 || (0x1000 ≤ f && f < 0x1000 + c.mem.xCapacity / 65536)

/-- A frame that PART.MAP takes with rights to write or not. -/
def frameOk (c : Chip) (f : Nat) (w : Bool) : Bool := ramFrame c f || (0x2000 ≤ f && f < 0x4000 && !w)

/-- The partitions other than p that map a frame. -/
def mappers (c : Chip) (p f : Nat) : List Nat :=
  (List.range 7).filter fun q => q != p && (partOf c q).map.any fun e => e.2.v && !e.2.window && e.2.frame == f

/-- SHARED of every entry follows from the maps (Table 03.2). -/
def markShared (c : Chip) : Chip :=
  let old := c
  (List.range 7).foldl (fun c p => modPart p (fun q => { q with map := q.map.map fun e =>
    (e.1, { e.2 with shared := e.2.v && !e.2.window && !(mappers old p e.2.frame).isEmpty }) }) c) c

/-- PART.MAP. -/
def partMap (m : Cmd) (c : Chip) : Reply × Chip :=
  let p := m.b 8
  let bank := m.b 10
  let n := m.b 11
  let f := m.f 12 2
  let fl := m.b 14
  let v := bit fl 0
  let fs := (List.range n).map (f + ·)
  let clash := if v && isGuest p then fs.filter fun x => ramFrame c x && !(mappers c p x).isEmpty else []
  let noRight := clash.any fun x => !hasRight c p 3 || (mappers c p x).any fun q => !hasRight c q 3
  partChecked m
    [chk noRight .denied,
     chk (!isGuest p || n < 1 || 0xFF < bank + n || 31 < fl || m.b 15 != 0 || (v && fs.any fun x => !frameOk c x (bit fl 2))) .badParam]
    [badSt c p [.stopped, .running], chk (!clash.isEmpty && !bit fl 4) .inUse]
    (fun c =>
      let entry (i : Nat) : MapEntry := if v then { frame := f + i, v := true, r := bit fl 1, w := bit fl 2, x := bit fl 3 } else {}
      (.ok, markShared (modPart p (fun q => { q with map := (List.range n).foldl (fun l i => sput {} l (bank + i) (entry i)) q.map }) c))) c

/-- PART.MAP. -/
def execPartMap (r : Req) (s : State) : Out := onChip (serve 0x0312 r partMap) s

/-! ### PART.ASSIGN and PART.RELEASE (R182, R183, R196) -/

/-- The units of a range that PART.ASSIGN or PART.RELEASE names. -/
def rangeOf (m : Cmd) : List Nat := (List.range (m.b 12)).map (m.b 11 + ·)

/-- The range lies outside the kind, or KIND names none. -/
def badRange (c : Chip) (m : Cmd) : Bool :=
  match kindOfCode (m.b 10) with
  | none => true
  | some k => m.b 12 == 0 || decide ((ownVec c k).length < m.b 11 + m.b 12)

/-- A right that the range asks for is not held (R152). -/
def lacksUnitRight (c : Chip) (p : Nat) (k : UnitKind) (l : List Nat) : Bool :=
  match k with
  | .input => (l.contains 2 || l.contains 3) && !hasRight c p 4
  | .link => !hasRight c p 5
  | _ => false

/-- A layer or sprite change waits, the last one with the command. -/
def enqueueOwn (m : Cmd) (k : UnitKind) (dest : Nat) : List Nat → Chip → Chip
  | [], c => c
  | i :: rest, c => enqueueOwn m k dest rest (enqueueChange m rest.isEmpty (.own { kind := k, index := i, dest := dest }) c)

/-- PART.ASSIGN. -/
def partAssign (m : Cmd) (c : Chip) : Reply × Chip :=
  let p := m.b 8
  let k := (kindOfCode (m.b 10)).getD .core
  let l := rangeOf m
  let v := afterChanges c
  partChecked m
    [chk (isGuest p && !badRange c m && lacksUnitRight c p k l) .denied,
     chk (!isGuest p || badRange c m) .badParam, chk (l.any fun i => kindPegged c k i) .fenced]
    [badSt c p (if k = .core then [.stopped] else [.stopped, .running]),
     chk (k == .core && l.any fun i => unitState c ⟨1, i⟩ == .retired) .badState,
     chk (l.any fun i => futureOwner v k i != 0 || ownerOf c k i != 0 && k != .layer && k != .sprite || k == .core && isSpareCore c i) .inUse]
    (fun c => match k with
      | .layer => (.wait, enqueueOwn m k p l c)
      | .sprite => (.wait, enqueueOwn m k p l c)
      | _ => (.ok, l.foldl (fun c i => setOwner k i p c) c)) c

/-- PART.ASSIGN. -/
def execPartAssign (r : Req) (s : State) : Out := onChip (serve 0x0313 r partAssign) s

/-- A channel is at work: a Spool channel that is not IDLE or has a chain queued, a link channel with messages on their way. -/
def channelBusy (c : Chip) (k : UnitKind) (i : Nat) : Bool :=
  match k with
  | .spool => (chOf c i).st != .idle || !(chOf c i).queue.isEmpty
  | .link => (linkChan c i).cfg.en && (linkChan c i).txProd != (linkChan c i).txCons
  | _ => false

/-- Sound units ramp out, the last one with the command. -/
def rampRange (m : Cmd) (k : UnitKind) : List Nat → Chip → Chip
  | [], c => c
  | i :: rest, c => rampRange m k rest (rampOut k i m.waitHandle rest.isEmpty c)

/-- PART.RELEASE. -/
def partRelease (m : Cmd) (c : Chip) : Reply × Chip :=
  let p := m.b 8
  let k := (kindOfCode (m.b 10)).getD .core
  let l := rangeOf m
  let v := afterChanges c
  partChecked m
    [chk (!isGuest p || badRange c m) .badParam, chk (l.any fun i => kindPegged c k i) .fenced]
    [badSt c p (if k = .core then [.stopped] else [.stopped, .running]),
     chk (k == .core && l.any fun i => unitState c ⟨1, i⟩ == .retired) .badState,
     chk (l.any fun i => futureOwner v k i != p || channelBusy c k i || k == .core && isSpareCore c i) .inUse]
    (fun c => match k with
      | .layer => (.wait, enqueueOwn m k 0 l c)
      | .sprite => (.wait, enqueueOwn m k 0 l c)
      | .voice => (.wait, rampRange m k l c)
      | .tone => (.wait, rampRange m k l c)
      | .input => (.wait, rampRange m k l c)
      | _ => (.ok, l.foldl (fun c i => setOwner k i 0 c) c)) c

/-- PART.RELEASE. -/
def execPartRelease (r : Req) (s : State) : Out := onChip (serve 0x0314 r partRelease) s

/-- UNIT_RELEASE_RAMP_END: the ramp of 5 ms is over and the unit returns to P0. -/
def rampEnd (n : Nat) (c : Chip) : Chip :=
  match c.ownRamp.find? fun o => o.kind.reg == some (n / 256) && o.index == n % 256 with
  | none => c
  | some o =>
    let c := setOwner o.kind o.index 0 { atTime (o.since + 120000) c with ownRamp := delFirst (· == o) c.ownRamp }
    if o.last then finish o.handle .ok 0 0 c else c

/-- UNIT_RELEASE_RAMP_END. -/
def execUnitReleaseRampEnd (unit : Word) (s : State) : Out := onChip (rampEnd unit.toNat) s

/-! ### PART.START and PART.STOP (R145, R146) -/

/-- A core runs from its reset state at an entry address. -/
def coreAt (entry : Nat) (x : Core) : Core :=
  { localNo := x.localNo, acting := x.acting, run := .running, fresh := false, cb := BitVec.ofNat 8 (entry / 65536), pc := BitVec.ofNat 16 entry }

/-- What PART.START makes of a core: from the entry if it has no state to go on from, halted as it was, or where PART.STOP left it. -/
def startCore (entry : Nat) (hasRun : Bool) (x : Core) : Core :=
  if x.halted then x
  else if !hasRun || x.fresh then coreAt entry x
  else if x.run = .stopped then { x with run := .running }
  else x

/-- The partition starts. A core out of service stays as it is. -/
def startPart (p entry : Nat) (c : Chip) : Chip :=
  let ran := (partOf c p).hasRun
  let c := (ownedUnits c p .core).foldl (fun c k =>
    if unitState c ⟨1, k⟩ = .active ∨ (coreOf c k).acting then modCore k (startCore entry ran) c else c) c
  modPart p (fun q => { q with st := .running, hasRun := true, entry := entry }) c

/-- PART.START. -/
def partStart (m : Cmd) (c : Chip) : Reply × Chip :=
  let p := m.b 8
  partChecked m [chk (!isGuest p || !m.z 10 2 || 2 ^ 24 ≤ m.f 12 4) .badParam] [badSt c p [.stopped]]
    (fun c => (.ok, startPart p (m.f 12 4) c)) c

/-- PART.START. -/
def execPartStart (r : Req) (s : State) : Out := onChip (serve 0x0315 r partStart) s

/-- PART.STOP. -/
def partStop (m : Cmd) (c : Chip) : Reply × Chip :=
  let p := m.b 8
  partChecked m [chk (!isGuest p) .badParam] [badSt c p [.running]]
    (fun c =>
      let c := (ownedUnits c p .core).foldl (fun c k => modCore k (fun x => if x.run = .running then { x with run := .stopped } else x) c) c
      (.ok, modPart p (fun q => { q with st := .stopped }) c)) c

/-- PART.STOP. -/
def execPartStop (r : Req) (s : State) : Out := onChip (serve 0x0316 r partStop) s

/-! ### Partition reset (R185 to R191) -/

/-- PART.RESET. A guest's reset of itself completes when it starts, and its steps begin 1 ms later. -/
def partReset (m : Cmd) (c : Chip) : Reply × Chip :=
  let p := m.b 8
  let self := m.org == .part p
  partChecked m [chk (!m.org.external && m.guest != 0 && !self) .denied, chk (!isGuest p || 3 < m.b 10) .badParam]
    [badSt c p [.stopped, .running]]
    (fun c =>
      let job : ResetJob := { handle := if self then none else m.waitHandle, issuer := m.org.lintCode, since := c.clk.qtime, scrub := bit (m.b 10) 0,
                              restart := bit (m.b 10) 1, selfDelay := self }
      let c := modPart p (fun q => { q with st := .resetting, reset := some job }) c
      if self then (.ok, c) else (.wait, loseFocus p (teardown p c))) c

/-- PART.RESET. -/
def execPartReset (r : Req) (s : State) : Out := onChip (serve 0x0317 r partReset) s

/-- SELF_RESET_DELAY: 1 ms after a self-reset started, its steps begin. -/
def selfResetDelay (p : Nat) (c : Chip) : Chip :=
  match (partOf c p).reset with
  | some j =>
    if j.selfDelay then
      let c := atTime (j.since + 24000) c
      loseFocus p (teardown p (modPart p (fun q => { q with reset := some { j with selfDelay := false } }) c))
    else c
  | none => c

/-- SELF_RESET_DELAY. -/
def execSelfResetDelay (p : Fin 7) (s : State) : Out := onChip (selfResetDelay p.val) s

/-- SCRUB of a frame: every word reads zero with valid check bits. A macro out of service keeps what it holds (Table 17.3). -/
def scrubFrame (f : Nat) (c : Chip) : Chip :=
  let lo := f * 65536
  let hi := lo + 65536
  let keep (pa : Nat) : Bool := pa < 0x10000000 && macroFenced c pa
  let inLine (l : Nat) : Bool := lo / 64 ≤ l && l < hi / 64 && !keep (64 * l)
  modMem (fun m => { m with
    cells := m.cells.filter fun e => e.1 < lo || hi ≤ e.1 || keep e.1,
    syn := m.syn.filter fun e => 8 * e.1 < lo || hi ≤ 8 * e.1 || keep (8 * e.1),
    xchk := if lo < 0x10000000 then m.xchk else sclear m.xchk ((lo - 0x10000000) / 4) ((hi - 0x10000000) / 4),
    bufSram := m.bufSram.filter fun e => !inLine e.line,
    bufXmem := m.bufXmem.filter fun e => !inLine e.line,
    xVoid := if lo < 0x10000000 then m.xVoid else m.xVoid.map fun l => (l.filter fun w => w < lo / 8 || hi / 8 ≤ w) ++ (List.range 8192).map (lo / 8 + ·) }) c

/-- The frames that SCRUB writes: mapped to the partition alone, with W. -/
def scrubFrames (c : Chip) (p : Nat) : List Nat :=
  ((partOf c p).map.filter fun e => e.2.v && !e.2.window && e.2.w && !e.2.shared && ramFrame c e.2.frame).map (·.2.frame)

/-- Steps 6 and 7. -/
def resetEnds (p : Nat) (j : ResetJob) (c : Chip) : Chip :=
  let c := if j.scrub then (scrubFrames c p).foldl (fun c f => scrubFrame f c) c else c
  let c := resetSoundOf p (resetLayersOf p c)
  let c := modPart p (fun q => { q with st := .stopped, gen := (q.gen + 1) % 256, hasRun := false, reset := none, det := 0, vote := false,
                                        lineMatch := 0xFFFF }) { c with diag := vset c.diag p {} }
  let c := if j.restart then startPart p (partOf c p).entry c else c
  let c := lintBlock 0x0301 j.issuer (p + 256 * b2n j.scrub) c
  finish j.handle .ok (b2n j.pegged) 0 c

/-- PARTITION_RESET_COMPLETE. -/
def partitionResetComplete (p : Nat) (c : Chip) : Chip :=
  match (partOf c p).reset with
  | some j => if j.selfDelay || c.pwr.phase != .run then c else resetEnds p j c
  | none => c

/-- PARTITION_RESET_COMPLETE. -/
def execPartitionResetComplete (p : Fin 7) (s : State) : Out := onChip (partitionResetComplete p.val) s

/-- The unit kind of a unit-register kind that a partition owns. -/
def kindOfReg : Nat → Option UnitKind
  | 1 => some .core | 4 => some .spool | 6 => some .layer | 7 => some .voice | 8 => some .tone | 9 => some .input | 10 => some .link | _ => none

/-- PARTITION_RESET_OVERRUN (R187, R188): 6 ms after acceptance a unit of the partition has not stopped and is pegged. -/
def resetOverrun (p n : Nat) (c : Chip) : Chip :=
  let u := unitOfCode n
  match (partOf c p).reset, kindOfReg u.kind with
  | some j, some k =>
    if j.selfDelay || (unitReg? c u).isNone || ownerOf c k u.index != p || isPegged c u.kind u.index then c
    else
      let c := atTime (j.since + 144000 + 1) c
      lint 0x0305 n p 0 (pegAny u (modPart p (fun q => { q with reset := some { j with pegged := true } }) c))
  | _, _ => c

/-- PARTITION_RESET_OVERRUN. -/
def execPartitionResetOverrun (p : Fin 7) (unit : Word) (s : State) : Out := onChip (resetOverrun p.val unit.toNat) s

/-! ### PART.QUOTA, PART.RIGHTS and PART.FOCUS (R164, R167, R174, R177, R181) -/

/-- PART.QUOTA. -/
def partQuota (m : Cmd) (c : Chip) : Reply × Chip :=
  let p := m.b 8
  let share := m.b 10
  let credits := m.b 11
  let budget := m.f 12 2
  partChecked m [chk (!isGuest p || share < 1 || 64 < share || credits < 1 || 64 < credits) .badParam]
    [badSt c p [.stopped, .running], chk (64 < otherShares c p + share || overCeiling c p budget) .overBudget]
    (fun c =>
      let c := modPart p (fun q => { q with share := share, credits := credits, budget := budget, tokens := q.tokens.map fun t => min t (4 * share) }) c
      (.ok, markOver p c)) c

/-- PART.QUOTA. -/
def execPartQuota (r : Req) (s : State) : Out := onChip (serve 0x0318 r partQuota) s

/-- PART.RIGHTS: a right that is removed takes with it what it granted (R164). -/
def partRights (m : Cmd) (c : Chip) : Reply × Chip :=
  let p := m.b 8
  let r := m.f 10 2
  partChecked m [chk (!isGuest p || 127 < r) .badParam] [badSt c p [.stopped, .running]]
    (fun c =>
      let lost (k : Nat) : Bool := hasRight c p k && !bit r k
      let (beam, mic, link) := (lost 2, lost 4, lost 5)
      let c := modPart p (fun q => { q with rights := BitVec.ofNat 7 r }) c
      let c := if beam then dropOverbook p c else c
      let c := if mic then [2, 3].foldl (fun c i => if futureOwner c .input i = p then rampOut .input i none false c else c) c else c
      (.ok, if link then (ownedUnits c p .link).foldl (fun c i => setOwner .link i 0 c) c else c)) c

/-- PART.RIGHTS. -/
def execPartRights (r : Req) (s : State) : Out := onChip (serve 0x0319 r partRights) s

/-- PART.FOCUS: it waits for the frame start. -/
def partFocus (m : Cmd) (c : Chip) : Reply × Chip :=
  let p := m.b 8
  checked [chk (6 < p) .badParam, chk (isGuest p && ((partOf c p).st == .empty || (partOf c p).st == .resetting)) .badState]
    (fun c => (.wait, { c with focusPending := c.focusPending ++ [(m.waitHandle, p)] })) c

/-- PART.FOCUS. -/
def execPartFocus (r : Req) (s : State) : Out := onChip (serve 0x031A r partFocus) s

/-- GUEST_STALL_TIMEOUT (R179): a guest's request has stalled at a target for more than 1 ms. -/
def guestStall (p target : Nat) (c : Chip) : Chip :=
  if isGuest p && (partOf c p).st != .empty then lintBlock 0x0304 p target c else c

/-- GUEST_STALL_TIMEOUT. -/
def execGuestStallTimeout (p : Fin 7) (target : Fin 3) (s : State) : Out := onChip (guestStall p.val target.val) s

end Sys2Proof.Machine
end

