-- ==== Sys2Proof/Machine/Frame.lean ====
section
/-! DEFINITION. The moving beam: line and frame starts, jumps, switches of reference, and the tick that passes with no command (R25 to R27, R53 to R71, R106, R617, R748). -/

namespace Sys2Proof.Machine

/-! ### The beam and Quartz time (R25, R30, R590, R612, R613) -/

/-- The pixel rate in Hz, with the slew of link alignment in units of 0.01 ppm. -/
def beamRate (c : Chip) : Nat :=
  max 1 (((c.beam.pclk : Nat) : Int) + ((c.beam.pclk : Nat) : Int) * clampI (-20000) 20000 c.link.align.slew / 100000000).toNat

/-- Quartz time reaches the end of the present line, and the beam stands before dot 0 of the next. -/
def reachLineEnd (c : Chip) : Chip :=
  let b := c.beam
  let t := b.sub + ((b.htotal - b.dot) * 24000000 - b.frac)
  let r := beamRate c
  let c := advanceTime (t / r) c
  { c with beam := { c.beam with dot := 0, frac := 0, sub := t % r } }

/-- The chip's clocks run. -/
def clocksRun (c : Chip) : Bool := !asleep c

/-- The beam moves. -/
def beamMoves (c : Chip) : Bool := clocksRun c && !c.beam.hold && 0 < c.beam.htotal && 0 < c.beam.vtotal && c.scan.mode.isSome

/-- Line VSYNC_START of the mode in force. -/
def vsLine (c : Chip) : Nat := (c.scan.mode.map (·.vsStart)).getD 0

/-- An abort that moves the generator at the end of the present line (R617). -/
def abortJumpDue (c : Chip) : Bool :=
  beamMoves c && (c.scan.abort.any fun a => !a.deferred) && (c.scan.mode.any fun m => m.iface != 2) && c.beam.line < vsLine c

/-- A phase jump that is due at the end of the present line, and its lines (R748); the jump of an abort goes before it. -/
def phaseJumpDue (c : Chip) : Option Nat :=
  match c.link.align.jump with
  | some k =>
    if beamMoves c && !abortJumpDue c && 0 < k && c.beam.line + 1 + k == vsLine c && (!c.beam.interlaced || c.beam.field) then some k else none
  | none => none

/-- The partitions that exist and are not being reset. -/
def eventParts (c : Chip) : List Nat := (List.range 7).filter fun p => (partOf c p).st == .running || (partOf c p).st == .stopped

/-! ### Lines -/

/-- The beam reaches a line: its scan-out, the sampling point of input, and the fetch window that opens (R34, R39, R515, R694). -/
def lineWork (n : Nat) (c : Chip) : Chip :=
  let aborted := c.scan.abort
  let c := scanLine n c
  let c := if c.scan.abort != aborted then sndFrameUnsure c else c
  let c := if n = latchLine c then latchSnapshot c else c
  match opensAt c n with
  | some l => openLine l c
  | none => c

/-- LINE_MATCH of a line (R75). -/
def lineMatches (n : Nat) (c : Chip) : Chip :=
  (eventParts c).foldl (fun c p => if (partOf c p).lineMatch = n then fire p 2 n c else c) c

/-- The subcarrier goes on over a line (R603). -/
def carrierLine (c : Chip) : Chip :=
  match c.scan.mode with
  | some m => if m.iface = 2 then modScan (nextSubcarrier m c.beam.htotal) c else c
  | none => c

/-- The beam reaches n:0 within a frame; at a jump LINE_MATCH is raised for the line reached alone. -/
def enterLine (n : Nat) (c : Chip) : Chip :=
  let c := carrierLine { c with beam := { c.beam with line := n } }
  lineWork n (lineMatches n (completeWaits false false c))

/-- LINE_START: the beam reaches dot 0 of the next line of its frame. -/
def lineStart (c : Chip) : Chip :=
  if !beamMoves c || c.scan.h.due || c.beam.vtotal ≤ c.beam.line + 1 || abortJumpDue c || (phaseJumpDue c).isSome then c
  else
    let c := reachLineEnd c
    enterLine (c.beam.line + 1) c

/-- LINE_START. -/
def execLineStart (s : State) : Out := onChip lineStart s

/-- The generator goes to line VSYNC_START; lines passed over count as passed and are not scanned out. -/
def jumpToVs (c : Chip) : Chip :=
  let c := reachLineEnd c
  enterLine (vsLine c) (sndFrameUnsure (modScan (fun s => { s with lines := s.lines.filter fun t => t.frame != c.beam.frame }) c))

/-- ABORT_RASTER_JUMP (R617). -/
def abortRasterJump (c : Chip) : Chip := if abortJumpDue c && !c.scan.h.due then jumpToVs c else c

/-- ABORT_RASTER_JUMP. -/
def execAbortRasterJump (s : State) : Out := onChip abortRasterJump s

/-- PHASE_JUMP (R748). -/
def phaseJump (c : Chip) : Chip :=
  match phaseJumpDue c with
  | some k => if c.scan.h.due then c else jumpToVs (lint 0x0F0A nodeUnit 0xFF k (modAlign (fun a => { a with jump := none }) c))
  | none => c

/-- PHASE_JUMP. -/
def execPhaseJump (s : State) : Out := onChip phaseJump s

/-! ### Frame starts (R26, R53, R62 to R64, R68) -/

/-- A frame start counts an overrun for a core. -/
def overruns (c : Chip) (k : Nat) : Bool :=
  let x := coreOf c k
  x.latch && x.waitfDone && x.run == .running && !x.halted

/-- The overrun of a core: its count, FRAME_OVERRUN, DET_STATUS and lint. -/
def countOverrun (k : Nat) (c : Chip) : Chip :=
  let p := if k < 6 then ownerOf c .core k else 0
  let x := coreOf c k
  c |> modCore k (fun x => { x with overrun := satAdd 0xFFFF x.overrun 1 }) |> fire p 3 x.localNo |> setDet p 2
    |> lint 0x0204 (coreUnit k) p 0 |> modSvc (fun s => { s with overruns := s.overruns + 1 })

/-- Counts the overruns of a frame start; the answer is the speed vote of R44. -/
def frameOverruns (c : Chip) : Bool × Chip :=
  let ks := (List.range 7).filter (overruns c)
  (ks.any fun k => (partOf c (if k < 6 then ownerOf c .core k else 0)).vote, ks.foldl (fun c k => countOverrun k c) c)

/-- Every frame latch is set. -/
def setLatches (c : Chip) : Chip := (List.range 7).foldl (fun c k => modCore k (fun x => { x with latch := true }) c) c

/-- The beam stands at F:0:0 of the next frame, or of the next field. -/
def beamFrame (c : Chip) : Chip :=
  let f := c.beam.interlaced && !c.beam.field
  let c := { c with beam := { c.beam with frame := (c.beam.frame + 1) % 2 ^ 32, line := 0, dot := 0, field := f } }
  match c.scan.mode with
  | some m => beamMode m f c
  | none => c

/-- Changes of focus take effect (R181, R190). -/
def changeFocus (c : Chip) : Chip :=
  let l := c.focusPending
  let c := { c with focusPending := [] }
  let new := (l.getLast?.map (·.2)).getD c.focus
  let old := c.focus
  let c := if new = old then c else fire new 6 1 (fire old 6 0 (dropRumble old { c with focus := new }))
  l.foldl (fun c e => finish e.1 .ok 0 0 c) c

/-- Boroux confirms its running slot at the first frame start at which every guest there is has started (R126, R840). -/
def confirmSlot (c : Chip) : Chip :=
  let started := (List.range 7).all fun p => (partOf c p).st == .empty || p == 0 || (partOf c p).hasRun
  if !c.pwr.confirmDue || !started || c.pwr.phase != .run || c.stewDown || c.pwr.cls != 1 || c.mem.flashOp.isSome then c
  else
    let c := if (bootSlot c c.pwr.slot).isSome then setMark c.pwr.slot 1 0 c else c
    modPwr (fun p => { p with confirmDue := false }) c

/-- The Rinse begins at the first frame start (R456, R458). -/
def startRinse (c : Chip) : Chip :=
  if c.mem.rinseOn then c
  else modMem (fun m => { m with rinseOn := true, rinseS := { m.rinseS with passStart := c.clk.qtime }, rinseX := { m.rinseX with passStart := c.clk.qtime } }) c

/-- The reference returns to the crystal (R70, R71). -/
def clockReturns (c : Chip) : Chip :=
  if c.clk.returnDue then
    relockAgain (modSnd (fun s => { s with locked := false }) { c with clk := { c.clk with rcFallback := false, returnDue := false } })
  else c

/-- A frame start. `count` is false at the one that ends a resume, which counts no overrun (Table 01.6). -/
def frameStart (o : FrameObs) (count : Bool) (c : Chip) : Chip :=
  let fresh := c.scan.h.fresh
  let c := latchSelenite (fun i => o.pin.getLsbD i.val) o.stuck.toNat o.loadOpen o.loadShort (endFrame c)
  let c := frameChanges (carrierLine (beamFrame c))
  let c := beginDeferred (modSel (fun s => { s with spoilt := false }) c)
  let c := modHold (fun h => { h with fresh := false }) c
  let (vote, c) := if count then frameOverruns c else (false, c)
  let c := completeWaits true fresh (setLatches c)
  let c := govFrame vote c.snd.out.fifo.length (liftCap c)
  let c := (eventParts c).foldl (fun c p => fire p 1 0 c) c
  let c := deliverBeats (sendBeat (alignFrame fresh c))
  let c := deliverSnapshot (changeFocus c)
  let c := startRinse (confirmSlot (commitMigrations c))
  let c := if fresh then sndFrameUnsure c else c
  let c := lineMatches 0 (sndFrameStart c)
  clockReturns (nextMode (lineWork 0 c))

/-- FRAME_START: the beam reaches the end of the last line. -/
def frameStartRow (o : FrameObs) (c : Chip) : Chip :=
  if !beamMoves c || c.scan.h.due || c.beam.line + 1 != c.beam.vtotal || c.pwr.phase == .resuming then c else frameStart o true (reachLineEnd c)

/-- FRAME_START. -/
def execFrameStart (o : FrameObs) (s : State) : Out := onChip (frameStartRow o) s

/-! ### The frame start of a resume (R106) -/

/-- DATA of SUPPLY: class and WARN. -/
def supplyData (c : Chip) : Nat := c.pwr.cls + 4 * b2n c.pwr.warn

/-- What continues with step 4 of R106. -/
def resumed (c : Chip) : Chip :=
  let c := modPwr (fun p => { p with phase := .run, reduced := false }) c
  let c := lintBlock 0x0103 0xFF 0 (applyDuties c)
  (eventParts c).foldl (fun c p => fire p 5 (supplyData c) c) c

/-- RESUME_RELEASE: at the frame start that follows the release of the output everything continues. An output that was held by START_HELD,
VIDEO_OFF or cuts stays held, and the rest continues without a frame start. -/
def resumeRelease (c : Chip) : Chip :=
  if c.pwr.phase ≠ .resuming ∨ c.scan.relock.isSome then c
  else if c.beam.hold then resumed c
  else if c.beam.line + 1 = c.beam.vtotal && c.beam.htotal != 0 && c.scan.mode.isSome then frameStart {} false (resumed (reachLineEnd c))
  else c

/-! ### The clock reference (R69 to R71) -/

/-- CLOCK_REFERENCE_FALLBACK: the island switches to the internal oscillator. -/
def clockFallback (c : Chip) : Chip :=
  if c.clk.rcFallback then { c with clk := { c.clk with xtalOk := false, returnDue := false } }
  else
    let c := lintBlock 0x0205 0xFF 0 { c with clk := { c.clk with xtalOk := false, rcFallback := true, returnDue := false } }
    relockAgain (modSnd (fun s => { s with locked := false }) (linkLoseClock c))

/-- CLOCK_REFERENCE_FALLBACK. -/
def execClockReferenceFallback (s : State) : Out := onChip clockFallback s

/-- CLOCK_REFERENCE_RETURN: the crystal has been within ±100 ppm for 1 s; the island returns at the next frame start. -/
def clockReturn (c : Chip) : Chip := if c.clk.rcFallback then { c with clk := { c.clk with xtalOk := true, returnDue := true } } else c

/-- CLOCK_REFERENCE_RETURN. -/
def execClockReferenceReturn (s : State) : Out := onChip clockReturn s

/-! ### A tick of Quartz time with no command -/

/-- The end of the present line, with whatever follows it: a hold that waits, a jump, a frame start or the next line. -/
def lineEnds (c : Chip) : Chip :=
  if c.scan.h.due then sndFrameUnsure (holdNow c)
  else if abortJumpDue c then abortRasterJump c
  else if (phaseJumpDue c).isSome then phaseJump c
  else if c.beam.line + 1 = c.beam.vtotal then (if c.pwr.phase = .resuming then resumeRelease c else frameStartRow {} c)
  else lineStart c

/-- The beam moves by the rest of a tick. A line holds many ticks, so at most one line ends in it. -/
def beamTick (c : Chip) : Chip :=
  let b := c.beam
  let move := beamRate c - b.sub
  let pos := b.dot * 24000000 + b.frac + move
  if pos < b.htotal * 24000000 then
    advanceTime 1 { c with beam := { b with dot := pos / 24000000, frac := pos % 24000000, sub := 0 } }
  else
    let c := lineEnds c
    let b := c.beam
    if b.hold then advanceTime 1 c
    else
      let pos := beamRate c - b.sub
      advanceTime 1 { c with beam := { b with dot := b.dot + pos / 24000000, frac := pos % 24000000, sub := 0 } }

/-- One tick of Quartz time with an empty queue: time, the VCORE output and the beam move on, and completions for remote nodes leave. -/
def tick (c : Chip) : Chip :=
  if !clocksRun c then c
  else
    let c := linkFlush c
    if beamMoves c then beamTick c else advanceTime 1 c

end Sys2Proof.Machine
end

