-- ==== Sys2Proof/Machine/HostPorts.lean ====
section
/-! DEFINITION. The host SPI window, the USB device port and DFU (R238 to R249, R130, R131, R710 to R716). -/

namespace Sys2Proof.Machine

/-! ### The host mailbox (Tables 04.8, 04.9) -/

/-- READY of the status byte (R711). -/
def hostReady (c : Chip) : Bool := serving c

/-- The value of a register. -/
def hostReg (c : Chip) (r : Nat) : Nat :=
  let h := c.host
  match r with
  | 0x00 => 0x4B53424D
  | 0x04 => h.cmdProd
  | 0x08 => h.cmdCons
  | 0x0C => h.cplProd
  | 0x10 => h.cplCons
  | 0x14 => creditMax c .host - inFlight c .host
  | 0x18 => vget h.resHandle 0
  | 0x1C => vget h.resLen 0
  | 0x20 => vget h.resHandle 1
  | 0x24 => vget h.resLen 1
  | 0x2C => h.status.toNat
  | 0x30 => h.irqEn.toNat
  | 0x34 => h.dataHandle
  | 0x38 => h.dataLen
  | _ => 0

/-- The byte at an offset of the window. -/
def hostByte (c : Chip) (a : Nat) : Byte :=
  let a := a % 4096
  if a < 0x40 then BitVec.ofNat 8 (hostReg c (a / 4 * 4) / 256 ^ (a % 4)) else sget 0 c.host.bytes a

/-- A protocol violation of the host (Table 04.11). -/
def hostFault (code : Nat) (c : Chip) : Chip := lintBlock code 7 0 (modHost (HostMbx.setStatus 2) c)

/-- The host hands over a chunk of data: it is taken, or discarded with FAULT, and the buffer is free (R248, R251). -/
def hostChunk (n : Nat) (c : Chip) : Chip :=
  if n = 0 ∨ 1024 < n then c
  else
    let (taken, c) := takeChunk .host c.host.dataHandle (clean (c.host.get 0x400 n)) c
    let c := modHost (fun h => { h with dataLen := 0 }.setStatus 4) c
    if taken then c else modHost (HostMbx.setStatus 2) c

/-- A write of a whole register (Table 04.9). -/
def hostRegWrite (r v : Nat) (c : Chip) : Chip :=
  let h := c.host
  match r with
  | 0x04 =>
    if idxDiff h.cmdProd h.cmdCons + idxDiff v h.cmdProd ≤ 16 then modHost (fun h => { h with cmdProd := v % 65536 }) c
    else hostFault 0x0404 (modHost (fun h => { h with prodFault := true }) c)
  | 0x10 =>
    if idxDiff h.cplProd h.cplCons < idxDiff v h.cplCons then hostFault 0x0405 (modHost (fun h => { h with consFault := true }) c)
    else drainHost h.held.length (modHost (fun h => { h with cplCons := v % 65536 }) c)
  | 0x28 =>
    let free (n : Nat) (h : HostMbx) : HostMbx := if bit v n then { h with resLen := vset h.resLen n 0 } else h
    drainHost h.held.length (modHost (fun h => free 1 (free 0 h)) c)
  | 0x2C => modHost (fun h => { h with status := h.status &&& ~~~(BitVec.ofNat 5 v) }) c
  | 0x30 => modHost (fun h => { h with irqEn := BitVec.ofNat 5 v }) c
  | 0x34 => modHost (fun h => { h with dataHandle := v }) c
  | 0x38 => hostChunk (v % 2048) c
  | _ => c

/-- The bytes of a write in order: registers take effect at their fourth byte, everything else byte by byte (R712). `got` holds the bytes
of the present register so far. -/
def hostStore : Nat → List Byte → List Byte → Chip → Chip
  | a, [], got, c => if a % 4096 ≤ 0x40 ∧ !got.isEmpty then lintBlock 0x0E06 0xFF (a % 4096) c else c
  | a, b :: bs, got, c =>
    let a := a % 4096
    if 0x40 ≤ a then hostStore (a + 1) bs [] (modHost (HostMbx.put a [b]) c)
    else
      let got := if a % 4 = 0 then [b] else if got.isEmpty then [] else got ++ [b]
      if a % 4 ≠ 3 then
        if got.isEmpty then hostStore (a + 1) bs got (if bs.isEmpty then lintBlock 0x0E06 0xFF a c else c)
        else hostStore (a + 1) bs got c
      else if got.length = 4 then hostStore (a + 1) bs [] (hostRegWrite (a / 4 * 4) (leNat got) c)
      else hostStore (a + 1) bs [] (lintBlock 0x0E06 0xFF a c)

/-- A transaction with an unknown command byte, or with address bits [15:12] not 0, is ignored (R713). -/
def hostBad (c : Chip) : Chip := lintBlock 0x0E06 0xFF 0 c

/-- What the host reads. -/
def hostReply (bs : List Byte) (c : Chip) : Chip := { c with memReply := { bytes := clean bs } }

/-- A read transaction (R710, R711). -/
def hostRead (a n : Nat) (c : Chip) : Chip :=
  if !hostReady c then hostReply (List.replicate n 0xFF) c
  else if 4096 ≤ a then hostReply (List.replicate n 0xFF) (hostBad c)
  else hostReply ((List.range n).map fun i => hostByte c (a + i)) c

/-- A write transaction. -/
def hostWrite (a : Nat) (data : List Byte) (c : Chip) : Chip :=
  if !hostReady c then c
  else if 4096 ≤ a then hostBad c
  else hostStore a data [] c

/-- HOST_READ. -/
def execHostRead (a : Word) (n : Nat) (s : State) : Out := onAlways (hostRead a.toNat n) s

/-- HOST_WRITE. -/
def execHostWrite (a : Word) (data : List Byte) (s : State) : Out := onAlways (hostWrite a.toNat data) s

/-- HOST_QUAD_READ: the same transaction on four data lines (Table 14.3). -/
def execHostQuadRead (a : Word) (n : Nat) (s : State) : Out := onAlways (fun c => hostRead a.toNat n c) s

/-- HOST_QUAD_WRITE: the same transaction on four data lines. -/
def execHostQuadWrite (a : Word) (data : List Byte) (s : State) : Out := onAlways (fun c => hostWrite a.toNat data c) s

/-- Handles of an origin that are outstanding. -/
def outstanding (c : Chip) (o : Origin) : List Long := (c.cmds.filter fun m => m.org == o).map (·.handle)

/-- Completions that a transport held when it was reset are discarded (Table 04.10). -/
def discardHeld (n path : Nat) (c : Chip) : Chip := (List.range n).foldl (fun c _ => lintBlock 0x040A 7 path c) c

/-- HOST_PORT_RESET (R713): the registers take their reset values; the bytes of slots and buffers stay. -/
def hostPortReset (c : Chip) : Chip :=
  let h := c.host
  discardHeld h.held.length 0 { c with host := { bytes := h.bytes, discard := h.discard ++ (outstanding c .host).filter fun x => !h.discard.contains x } }

/-- HOST_PORT_RESET. -/
def execHostPortReset (s : State) : Out := onAlways (fun c => if hostReady c then hostPortReset c else c) s

/-- HOST_BAD_TRANSACTION. -/
def execHostBadTransaction (s : State) : Out := onChip hostBad s

/-- RESULT_BUFFER_TIMEOUT: the host has held a result buffer for 1 s (Table 04.11). -/
def resultTimeout (n : Nat) (c : Chip) : Chip :=
  if vget c.host.resLen n = 0 then c
  else hostFault 0x040B (atTime (vget c.host.resSince n + 24000000) c)

/-- RESULT_BUFFER_TIMEOUT. -/
def execResultBufferTimeout (n : Fin 2) (s : State) : Out := onChip (resultTimeout n.val) s

/-! ### The USB device port (R241 to R244, R249, R714, R716) -/

/-- Changes the USB port. -/
def modUsb (f : UsbPath → UsbPath) (c : Chip) : Chip := { c with usb := f c.usb }

/-- The bulk endpoints work: configured and not suspended. -/
def usbOn (c : Chip) : Bool := c.usb.attached && c.usb.config == 1 && !c.usb.suspended

/-- A request that is not supported is stalled; which request it was is told nowhere else, and DETAIL is a free value (R716). -/
def usbStall (c : Chip) : Chip :=
  let (d, c) := freeNat c
  lintBlock 0x0E08 0xFF (d % 2 ^ 32) { c with memReply := { refused := true } }

/-- USB_COMMAND_RECORD: a record takes the next slot (R242). -/
def usbRecord (bs : List Byte) (c : Chip) : Chip :=
  if usbOn c && bs.length == 32 && pfield bs 0 2 != 0xFFFF && !c.usb.halted.contains 0x01 then
    modUsb (fun u => { u with waiting := u.waiting ++ [(u.slot, bs)], slot := (u.slot + 1) % 16 }) c
  else c

/-- USB_COMMAND_RECORD. -/
def execUsbCommandRecord (bytes : List Byte) (s : State) : Out := onChip (usbRecord bytes) s

/-- USB_DATA_ITEM (R249). -/
def usbData (h : Long) (bs : List Byte) (c : Chip) : Chip :=
  if usbOn c && !bs.isEmpty && bs.length ≤ 1024 && !c.usb.halted.contains 0x01 then (takeChunk .usb h.toNat (clean bs) c).2 else c

/-- USB_DATA_ITEM. -/
def execUsbDataItem (h : Long) (data : List Byte) (s : State) : Out := onChip (usbData h data) s

/-- USB_TRANSFER_END: what was received of a record or an item is discarded (R244): nothing has been taken from it. -/
def usbTransferEnd (_rest : List Byte) (c : Chip) : Chip := c

/-- USB_TRANSFER_END. -/
def execUsbTransferEnd (rest : List Byte) (s : State) : Out := onChip (usbTransferEnd rest) s

/-- USB_IN_PACKET_ACK: the item at the front of bulk IN has been read; a completion's credit returns (R223). -/
def usbInAck (c : Chip) : Chip :=
  if usbOn c && !c.usb.halted.contains 0x81 then modUsb (fun u => { u with items := u.items.drop 1 }) c else c

/-- USB_IN_PACKET_ACK. -/
def execUsbInPacketAck (s : State) : Out := onChip usbInAck s

/-- The port is reset: commands in flight continue and their completions are discarded (Table 04.10). -/
def usbReset (c : Chip) : Chip :=
  let u := c.usb
  let n := (u.items.filter (·.completion)).length
  discardHeld n 1 { c with usb := { attached := u.attached, dfu := u.dfu, dfuSlot := u.dfuSlot, dfuErr := u.dfuErr,
                                    discard := u.discard ++ (outstanding c .usb).filter fun x => !u.discard.contains x } }

/-- USB_BUS_RESET. -/
def execUsbBusReset (s : State) : Out := onChip (fun c => if c.usb.attached then usbReset c else c) s

/-- USB_VBUS_CHANGE: the pull-up follows VBUS while the port is served (R714). -/
def usbVbus (present : Bool) (c : Chip) : Chip :=
  if present then (if c.pwr.phase = .run ∨ c.pwr.phase = .recovery then modUsb (fun u => { u with attached := true }) c else c)
  else if c.usb.attached then modUsb (fun u => { u with attached := false }) (usbReset c) else c

/-- USB_VBUS_CHANGE. -/
def execUsbVbusChange (present : Bool) (s : State) : Out := onChip (usbVbus present) s

/-- USB_UNSUPPORTED_REQUEST. -/
def execUsbUnsupportedRequest (s : State) : Out := onChip (fun c => if c.usb.attached then usbStall c else c) s

/-- USB_SUSPEND: the bus has been idle for 3 ms. -/
def execUsbSuspend (s : State) : Out := onChip (fun c => if c.usb.attached then modUsb (fun u => { u with suspended := true }) c else c) s

/-- USB_RESUME. -/
def execUsbResume (s : State) : Out := onChip (modUsb fun u => { u with suspended := false }) s

/-- USB_IN_UNREAD: an item has waited 1 s on bulk IN. -/
def usbUnread (c : Chip) : Chip :=
  match c.usb.items with
  | [] => c
  | i :: _ => lintBlock 0x0E07 0xFF 0 (atTime (i.since + 24000000) c)

/-- USB_IN_UNREAD. -/
def execUsbInUnread (s : State) : Out := onChip usbUnread s

/-! ### EP0 (Table 14.4) -/

/-- n free bytes: what the product configuration sets and no other rule states. -/
def freeBytes (n : Nat) (c : Chip) : List Byte × Chip :=
  let (x, c) := freeNat c
  (leBytes n x, c)

/-- The device descriptor: vendor, product and string indices are the product configuration's. -/
def deviceDesc (c : Chip) : List Byte × Chip :=
  let (ids, c) := freeBytes 4 c
  let (strs, c) := freeBytes 3 c
  ([18, 1] ++ leBytes 2 0x0200 ++ [0, 0, 0, 64] ++ ids ++ leBytes 2 0x0302 ++ strs ++ [1], c)

/-- An interface descriptor without its string index. -/
def ifaceDesc (n alt eps cls sub proto : Nat) : List Byte := [9, 4] ++ leBytes 1 n ++ leBytes 1 alt ++ leBytes 1 eps ++ leBytes 1 cls ++ leBytes 1 sub ++ leBytes 1 proto ++ [0]

/-- A bulk endpoint descriptor. -/
def bulkDesc (addr : Nat) : List Byte := [7, 5] ++ leBytes 1 addr ++ [2] ++ leBytes 2 64 ++ [0]

/-- The DFU functional descriptor. -/
def dfuDesc : List Byte := [9, 0x21, 0x09] ++ leBytes 2 1000 ++ leBytes 2 4096 ++ leBytes 2 0x0110

/-- The configuration descriptor: bmAttributes is the product configuration's, without remote wakeup. -/
def configDesc (c : Chip) : List Byte × Chip :=
  let (att, c) := freeNat c
  let dfu := if c.pwr.phase = .recovery then ifaceDesc 1 0 0 0xFE 1 2 ++ ifaceDesc 1 1 0 0xFE 1 2 else ifaceDesc 1 0 0 0xFE 1 1
  let body := ifaceDesc 0 0 2 0xFF 0x53 1 ++ bulkDesc 0x01 ++ bulkDesc 0x81 ++ dfu ++ dfuDesc
  ([9, 2] ++ leBytes 2 (9 + body.length) ++ [2, 1, 0] ++ leBytes 1 (0x80 + 64 * (att % 2)) ++ [50] ++ body, c)

/-- USB_STANDARD_REQUEST. -/
def usbRequest (q : UsbRequest) (c : Chip) : Chip :=
  if !c.usb.attached then c
  else match q with
    | .getDescriptor kind _ =>
      match kind.toNat with
      | 1 => let (bs, c) := deviceDesc c; hostReply bs c
      | 2 => let (bs, c) := configDesc c; hostReply bs c
      | 0x21 => hostReply dfuDesc c
      | 3 => let (bs, c) := freeBytes 8 c; hostReply bs c
      | _ => usbStall c
    | .setAddress a => modUsb (fun u => { u with address := a.val }) c
    | .setConfiguration n => if n.toNat ≤ 1 then modUsb (fun u => { u with config := n.toNat, slot := 0, alt := Vector.replicate 2 0, halted := [] }) c else usbStall c
    | .getConfiguration => hostReply (leBytes 1 c.usb.config) c
    | .getStatus => let (x, c) := freeNat c; hostReply (leBytes 2 (x % 2)) c
    | .clearHalt ep => if ep = 0x01 ∨ ep = 0x81 then modUsb (fun u => { u with halted := u.halted.filter (· != ep.toNat) }) c else usbStall c
    | .setHalt ep =>
      if ep = 0x01 ∨ ep = 0x81 then modUsb (fun u => { u with halted := if u.halted.contains ep.toNat then u.halted else ep.toNat :: u.halted }) c else usbStall c
    | .getInterface n => if n.toNat < 2 then hostReply (leBytes 1 (vget c.usb.alt n.toNat)) c else usbStall c
    | .setInterface n alt =>
      if (n = 0 ∧ alt = 0) ∨ (n = 1 ∧ (alt = 0 ∨ (alt = 1 ∧ c.pwr.phase = .recovery))) then modUsb (fun u => { u with alt := vset u.alt n.toNat alt.toNat }) c
      else usbStall c

/-- USB_STANDARD_REQUEST. -/
def execUsbStandardRequest (q : UsbRequest) (s : State) : Out := onChip (usbRequest q) s

/-! ### DFU (R130, R131, R715) -/

/-- DFU_DETACH: a cold start into recovery mode within 1,000 ms, with consent; else it is stalled. -/
def dfuDetach (c : Chip) : Chip :=
  if !c.usb.attached then c
  else if c.pwr.phase = .run ∧ consentOf c .usb then { c with pwr := { c.pwr with deferred := some .recoveryStart, deferAt := c.clk.qtime + 24000000 } }
  else usbStall c

/-- DFU_DETACH. -/
def execDfuDetach (s : State) : Out := onChip dfuDetach s

/-- DFU download is taken: recovery mode, and not in SCRAP (R130, R791). -/
def dfuOpen (c : Chip) : Bool := c.usb.attached && c.pwr.phase == .recovery && lifeOf c != .scrap

/-- DFU_DOWNLOAD: the next block of up to 4,096 bytes goes to the slot of the alternate setting, its sectors erased as they are reached. -/
def dfuDownload (alt : Nat) (data : List Byte) (c : Chip) : Chip :=
  if !c.usb.attached then c
  else if !dfuOpen c || 4096 < data.length || isPegged c 0x0B 0 then usbStall c
  else
    let old := if c.usb.dfuSlot = alt ∧ !c.usb.dfuErr then c.usb.dfu else []
    if 458752 < old.length + data.length then usbStall c
    else
      let base := flashBase + slotOffset c alt
      let from' := (old.length + 4095) / 4096
      let upto := (old.length + data.length + 4095) / 4096
      let c := (List.range (upto - from')).foldl (fun c i => eraseSector (base + 4096 * (from' + i)) c) c
      modUsb (fun u => { u with dfu := old ++ data, dfuSlot := alt, dfuErr := false }) (programAt (base + old.length) data c)

/-- DFU_DOWNLOAD. -/
def execDfuDownload (alt : Fin 2) (data : List Byte) (s : State) : Out := onChip (dfuDownload alt.val data) s

/-- DFU_MANIFEST: the image verifies and its slot is listed, with the version of its signature block; else errVERIFY. -/
def dfuManifest (c : Chip) : Chip :=
  if !c.usb.attached then c
  else if !dfuOpen c || c.usb.dfu.isEmpty then usbStall c
  else
    let u := c.usb
    let n := u.dfu.length
    let off := slotOffset c u.dfuSlot
    let version := pfield u.dfu (n - 128 + 0x10) 4
    match imageGood c off n version with
    | some _ => modUsb (fun u => { u with dfu := [] }) (listSlot u.dfuSlot off n version c)
    | none => lintImage (modUsb (fun u => { u with dfu := [], dfuErr := true }) c)

/-- DFU_MANIFEST. -/
def execDfuManifest (s : State) : Out := onChip dfuManifest s

/-- DFU_UPLOAD: stalled (R131). -/
def execDfuUpload (s : State) : Out := onChip (fun c => if c.usb.attached then usbStall c else c) s

end Sys2Proof.Machine
end

