-- ==== Sys2Proof/Machine/Kuval.lean ====
section
/-! DEFINITION. The Kuval instructions: arithmetic, special registers, loads and stores, branches, jumps, the stack, immediates and control (chapter 05). -/

namespace Sys2Proof.Machine

/-! ### Two-operand arithmetic (R277 to R280, Tables 05.3 and 05.11) -/

/-- A two-operand instruction with a long form. -/
def aluInstr (o : AluOp) (k : CoreId) (f : AluForm) : Chip → Chip :=
  regInstr k f.words fun x =>
    let cin := b2n x.fl.c
    let flTag := o.readsFl && x.flTag
    match f with
    | .pair p q =>
      let r := aluOp o 32 (x.pair p) (x.pair q) cin
      let t := (o.readsDest && x.pairTag p) || x.pairTag q || flTag
      setFlags r t (if o.writes then x.setPair p r.res t else x)
    | f =>
      let (d, s, st) := f.operands x
      let r := aluOp o 16 (x.reg d) s cin
      let t := (o.readsDest && x.tag d) || st || flTag
      setFlags r t (if o.writes then x.setReg d r.res t else x)

/-- A shift or rotate; the long form is undefined (R278, R280). -/
def shiftInstr (o : ShiftOp) (k : CoreId) (f : AluForm) : Chip → Chip :=
  match f with
  | .pair _ _ => illegalInstr k 0x0501
  | f => regInstr k f.words fun x =>
      let (d, s, st) := f.operands x
      let r := shiftFlags o (x.reg d) (s % 16)
      let t := x.tag d || st
      setFlags r t (x.setReg d r.res t)

/-- A multiplication into a pair: an odd destination is ILLEGAL, and the long form is undefined (R279, R280, R345). -/
def mulInstr (signed : Bool) (k : CoreId) (f : AluForm) : Chip → Chip :=
  match f with
  | .pair _ _ => illegalInstr k 0x0501
  | f => runInstr k f.words false false fun c =>
      let x := coreOf c k
      let (d, s, st) := f.operands x
      if d % 2 = 1 then .fault (.illegal 0x0501)
      else
        let r := mulFlags signed (x.reg d) s
        let t := x.tag d || st
        .ok (modCore k (fun x => { setFlags r t (x.setPair (d / 2) r.res t) with pc := x.next f.words }) c)

/-- MOV. -/
def execMov (k : CoreId) (f : AluForm) (s : State) : Out := onChip (aluInstr .mov k f) s
/-- ADD. -/
def execAdd (k : CoreId) (f : AluForm) (s : State) : Out := onChip (aluInstr .add k f) s
/-- ADC. -/
def execAdc (k : CoreId) (f : AluForm) (s : State) : Out := onChip (aluInstr .adc k f) s
/-- SUB. -/
def execSub (k : CoreId) (f : AluForm) (s : State) : Out := onChip (aluInstr .sub k f) s
/-- SBC. -/
def execSbc (k : CoreId) (f : AluForm) (s : State) : Out := onChip (aluInstr .sbc k f) s
/-- CMP. -/
def execCmp (k : CoreId) (f : AluForm) (s : State) : Out := onChip (aluInstr .cmp k f) s
/-- AND. -/
def execAnd (k : CoreId) (f : AluForm) (s : State) : Out := onChip (aluInstr .and k f) s
/-- OR. -/
def execOr (k : CoreId) (f : AluForm) (s : State) : Out := onChip (aluInstr .or k f) s
/-- XOR. -/
def execXor (k : CoreId) (f : AluForm) (s : State) : Out := onChip (aluInstr .xor k f) s
/-- TST. -/
def execTst (k : CoreId) (f : AluForm) (s : State) : Out := onChip (aluInstr .tst k f) s
/-- SHL. -/
def execShl (k : CoreId) (f : AluForm) (s : State) : Out := onChip (shiftInstr .shl k f) s
/-- SHR. -/
def execShr (k : CoreId) (f : AluForm) (s : State) : Out := onChip (shiftInstr .shr k f) s
/-- SAR. -/
def execSar (k : CoreId) (f : AluForm) (s : State) : Out := onChip (shiftInstr .sar k f) s
/-- ROR. -/
def execRor (k : CoreId) (f : AluForm) (s : State) : Out := onChip (shiftInstr .ror k f) s
/-- MULU. -/
def execMulu (k : CoreId) (f : AluForm) (s : State) : Out := onChip (mulInstr false k f) s
/-- MULS. -/
def execMuls (k : CoreId) (f : AluForm) (s : State) : Out := onChip (mulInstr true k f) s

/-! ### Unary operations and special registers (R281, Table 05.4) -/

/-- A unary operation on Wd. CLR reads nothing, so it clears the tag (R343). -/
def unaryInstr (o : UnaryOp) (k : CoreId) (d : Reg) : Chip → Chip :=
  regInstr k 1 fun x =>
    let r := unaryOp o (x.reg d)
    let t := x.tag d && o != .clr
    setFlags r t (x.setReg d r.res t)

/-- NOT. -/
def execNot (k : CoreId) (d : Reg) (s : State) : Out := onChip (unaryInstr .not k d) s
/-- NEG. -/
def execNeg (k : CoreId) (d : Reg) (s : State) : Out := onChip (unaryInstr .neg k d) s
/-- INC. -/
def execInc (k : CoreId) (d : Reg) (s : State) : Out := onChip (unaryInstr .inc k d) s
/-- DEC. -/
def execDec (k : CoreId) (d : Reg) (s : State) : Out := onChip (unaryInstr .dec k d) s
/-- SXT. -/
def execSxt (k : CoreId) (d : Reg) (s : State) : Out := onChip (unaryInstr .sxt k d) s
/-- ZXT. -/
def execZxt (k : CoreId) (d : Reg) (s : State) : Out := onChip (unaryInstr .zxt k d) s
/-- SWAB. -/
def execSwab (k : CoreId) (d : Reg) (s : State) : Out := onChip (unaryInstr .swab k d) s
/-- CLR. -/
def execClr (k : CoreId) (d : Reg) (s : State) : Out := onChip (unaryInstr .clr k d) s

/-- RDS: Wd = special E. E 7 is undefined. -/
def rdsInstr (k : CoreId) (d : Reg) (e : Special) : Chip → Chip :=
  if e = 7 then illegalInstr k 0x0501
  else regInstr k 1 fun x =>
    let (v, t) := specialRead e x
    x.setReg d v t

/-- WRS: special E = Ws. CB and 7 are undefined; a bank from a tagged Ws faults (R347, R348). -/
def wrsInstr (k : CoreId) (e : Special) (w : Reg) : Chip → Chip :=
  if e = 5 ∨ e = 7 then illegalInstr k 0x0501
  else runInstr k 1 false false fun c =>
    let x := coreOf c k
    if x.tag w ∧ 2 ≤ e.val ∧ e.val ≤ 4 then .fault (.poison 2)
    else .ok (modCore k (fun x => { specialWrite e (x.reg w) (x.tag w) x with pc := x.next 1 }) c)

/-- RDS. -/
def execRds (k : CoreId) (d : Reg) (e : Special) (s : State) : Out := onChip (rdsInstr k d e) s
/-- WRS. -/
def execWrs (k : CoreId) (e : Special) (w : Reg) (s : State) : Out := onChip (wrsInstr k e w) s

/-! ### Loads and stores (R282 to R285, R294) -/

/-- The data register field is defined for the size. -/
def regOk (z : Size) (r : Reg) : Bool := z != .l || r.val < 4

/-- A load or store encoding of group 0x3 is defined (Table 05.7, R283). -/
def ldDefined (z : Size) (r : Reg) : Bool := regOk z r
/-- A store encoding is defined: no .SB and no PC-relative mode. -/
def stDefined (z : Size) (r : Reg) (m : MemForm) : Bool :=
  regOk z r && z != .sb && (match m with | .pcDisp _ => false | _ => true)
/-- The modes of group 0xA (R285). -/
def extraMode (m : MemForm) : Bool :=
  match m with
  | .spDisp _ => false
  | .pairInd _ => false
  | .pcDisp _ => false
  | _ => true

/-- The base register update of an addressing mode, and the tag its read gives (R284, R343). -/
def updateBase (upd : Option (Nat × Nat)) (t : Bool) (x : Core) : Core :=
  match upd with
  | some (b, v) => x.setReg b v t
  | none => x

/-- A load through a bank: the value waits to land (R294), and the base is updated at once (R284). -/
def loadInstr (bank : Core → Byte) (k : CoreId) (z : Size) (r : Reg) (m : MemForm) : Chip → Chip :=
  runInstr k m.words false false fun c =>
    let x := coreOf c k
    let (a, tagged, upd) := m.address (bank x) z.bytes x
    match dataFault c k [{ right := .r, addr := a, size := z.bytes, tagged := tagged }] with
    | some f => .fault f
    | none =>
      let ((v, bad), c) := coreLoad k a z.bytes c
      let v := if bad then 0 else if z = .sb then narrow 16 (sext 8 v) else v
      .ok (modCore k (fun x =>
        let l : PendLoad :=
          { reg := if z = .l then 2 * r.val else r.val, long := z == .l, value := BitVec.ofNat 32 v, tag := bad, pc := x.pc, rf := x.fl.rf,
            base := upd.map fun u => (u.1, BitVec.ofNat 16 (x.reg u.1), x.tag u.1) }
        { updateBase upd false x with pend := some l, pc := x.next m.words }) c)

/-- A store through a bank: the value held before the instruction is stored, as poison if tagged (R284, R346). -/
def storeInstr (bank : Core → Byte) (k : CoreId) (z : Size) (r : Reg) (m : MemForm) : Chip → Chip :=
  runInstr k m.words false false fun c =>
    let x := coreOf c k
    let (a, tagged, upd) := m.address (bank x) z.bytes x
    let (v, t) := dataReg z r x
    match dataFault c k [{ right := .w, addr := a, size := z.bytes, tagged := tagged, poisonStore := t }] with
    | some f => .fault f
    | none =>
      .ok (modCore k (fun x => { updateBase upd t x with pc := x.next m.words }) (coreStore k a z.bytes v t c))

/-- LD. -/
def execLd (k : CoreId) (z : Size) (r : Reg) (m : MemForm) (s : State) : Out :=
  onChip (if ldDefined z r then loadInstr (·.db) k z r m else illegalInstr k 0x0501) s
/-- ST. -/
def execSt (k : CoreId) (z : Size) (r : Reg) (m : MemForm) (s : State) : Out :=
  onChip (if stDefined z r m then storeInstr (·.db) k z r m else illegalInstr k 0x0501) s
/-- LDE. -/
def execLde (k : CoreId) (z : Size) (r : Reg) (m : MemForm) (s : State) : Out :=
  onChip (if ldDefined z r && extraMode m then loadInstr (·.xb) k z r m else illegalInstr k 0x0501) s
/-- STE. -/
def execSte (k : CoreId) (z : Size) (r : Reg) (m : MemForm) (s : State) : Out :=
  onChip (if stDefined z r m && extraMode m then storeInstr (·.xb) k z r m else illegalInstr k 0x0501) s

/-! ### Branches, jumps, calls and returns (R286 to R290) -/

/-- Sets PC. -/
def Core.goto (x : Core) (t : Nat) : Core := { x with pc := BitVec.ofNat 16 t }

/-- A branch; other than BRA it reads FL, which faults when tagged (R288, R347). -/
def branchInstr (k : CoreId) (cond : Fin 15) (f : BranchForm) : Chip → Chip :=
  runInstr k f.words false false fun c =>
    let x := coreOf c k
    if cond.val ≠ 0 ∧ x.flTag then .fault (.poison 3)
    else .ok (modCore k (fun x => if condTrue cond x.fl then x.goto (f.target x) else { x with pc := x.next f.words }) c)

/-- Pushes words, each with its tag, whose accesses have passed their checks; SP takes a tag when a pushed register is tagged (R290, R343). -/
def doPush (k : CoreId) : List (Nat × Bool) → Chip → Chip
  | [], c => c
  | (v, t) :: ws, c =>
    let x := coreOf c k
    let c := coreStore k (pushAcc x 1 t).addr 2 v t c
    doPush k ws (modCore k (fun x => { x with sp := BitVec.ofNat 16 (off16 x.sp.toNat 65534), spTag := x.spTag || t }) c)

/-- The accesses of n untagged pushes. -/
def pushAccs (x : Core) (n : Nat) : List Acc := (List.range n).map fun i => pushAcc x (i + 1) false

/-- BSR: pushes the address of the next instruction and branches. -/
def bsrInstr (k : CoreId) (f : BranchForm) : Chip → Chip :=
  runInstr k f.words false false fun c =>
    let x := coreOf c k
    match dataFault c k (pushAccs x 1) with
    | some e => .fault e
    | none => .ok (modCore k (fun x => x.goto (f.target x)) (doPush k [((x.next f.words).toNat, false)] c))

/-- A jump or call: `far` gives the whole target address, otherwise the target lies in CB; `push` lists what a call pushes. -/
def jumpInstr (k : CoreId) (words : Nat) (target : Core → Nat × Bool) (far : Bool) (push : Core → List (Nat × Bool)) : Chip → Chip :=
  runInstr k words false false fun c =>
    let x := coreOf c k
    let (t, tagged) := target x
    let bank := if far then BitVec.ofNat 8 (t / 65536) else x.cb
    let ka := kaddr bank (t % 65536)
    match dataFaultAt c k (pushAccs x (push x).length) (if tagged then some (.poisonAddr 3 ka) else none) (oddTarget bank (t % 65536)) with
    | some e => .fault e
    | none => .ok (modCore k (fun x => { x.goto (t % 65536) with cb := bank }) (doPush k (push x) c))

/-- BRANCH. -/
def execBranch (k : CoreId) (cond : Fin 15) (f : BranchForm) (s : State) : Out := onChip (branchInstr k cond f) s
/-- BSR. -/
def execBsr (k : CoreId) (f : BranchForm) (s : State) : Out := onChip (bsrInstr k f) s
/-- JMP. -/
def execJmp (k : CoreId) (f : JumpForm) (s : State) : Out := onChip (jumpInstr k f.words f.target false fun _ => []) s
/-- CALL. -/
def execCall (k : CoreId) (f : JumpForm) (s : State) : Out :=
  onChip (jumpInstr k f.words f.target false fun x => [((x.next f.words).toNat, false)]) s
/-- JMPF. -/
def execJmpf (k : CoreId) (f : FarForm) (s : State) : Out := onChip (jumpInstr k f.words f.target true fun _ => []) s
/-- CALLF. -/
def execCallf (k : CoreId) (f : FarForm) (s : State) : Out :=
  onChip (jumpInstr k f.words f.target true fun x => [(x.cb.toNat, false), ((x.next f.words).toNat, false)]) s

/-- The accesses of n pops. -/
def popAccs (x : Core) (n : Nat) : List Acc := (List.range n).map fun i => popAcc x i

/-- The stack pointer after n pops. -/
def Core.popped (x : Core) (n : Nat) : Word := BitVec.ofNat 16 (x.sp.toNat + 2 * n)

/-- RET pops PC; RETF pops PC and CB (R290, R347). -/
def retInstr (k : CoreId) (far : Bool) : Chip → Chip :=
  runInstr k 1 false false fun c =>
    let x := coreOf c k
    let n := if far then 2 else 1
    match dataFault c k (popAccs x n) with
    | some f => .fault f
    | none =>
      let (ws, c) := popWords k x n 0 c
      let t := (ws.getD 0 (0, false)).1
      let bank := if far then BitVec.ofNat 8 (ws.getD 1 (0, false)).1 else x.cb
      if somePoison ws then .faultAt (.poison 6) c
      else match oddTarget bank t with
        | some f => .faultAt f c
        | none => .ok (modCore k (fun x => { x.goto t with cb := bank, sp := x.popped n }) c)

/-- RETI pops the frame of Table 06.2 (R326, R336, R337). -/
def retiInstr (k : CoreId) : Chip → Chip :=
  runInstr k 1 true true fun c =>
    let x := coreOf c k
    if !x.fl.h then .fault (.priv 0)
    else match dataFault c k (popAccs x 8) with
      | some f => .fault f
      | none =>
        let (ws, c) := popWords k x 8 0 c
        let v (i : Nat) : Nat := (ws.getD i (0, false)).1
        let bad (i : Nat) : Bool := (ws.getD i (0, false)).2
        let cb := BitVec.ofNat 8 (v 4)
        if bad 3 || bad 4 || bad 6 || bad 7 then .faultAt (.poison 6) c
        else match oddTarget cb (v 3) with
          | some f => .faultAt f c
          | none =>
            let w := v 5
            .ok (modCore k (fun x => { x with
              pc := BitVec.ofNat 16 (v 3), cb := cb,
              fl := { c := bit w 0, z := bit w 1, n := bit w 2, v := bit w 3, i := bit w 4, h := bit w 5, rf := bit w 6 },
              flTag := bad 5 || bit w 7, sp := BitVec.ofNat 16 (v 6), spTag := bit w 8, sb := BitVec.ofNat 8 (v 7) }) c)

/-- RET. -/
def execRet (k : CoreId) (s : State) : Out := onChip (retInstr k false) s
/-- RETF. -/
def execRetf (k : CoreId) (s : State) : Out := onChip (retInstr k true) s
/-- RETI. -/
def execReti (k : CoreId) (s : State) : Out := onChip (retiInstr k) s

/-- A push of a value with its tag (R290, R346). -/
def pushInstr (k : CoreId) (value : Core → Nat × Bool) : Chip → Chip :=
  runInstr k 1 false false fun c =>
    let x := coreOf c k
    let (v, t) := value x
    match dataFault c k [pushAcc x 1 t] with
    | some f => .fault f
    | none => .ok (modCore k (fun x => { x with pc := x.next 1 }) (doPush k [(v, t)] c))

/-- POP: the word waits to land in Wd, and SP moves at once (R290, R294, R342). -/
def popInstr (k : CoreId) (r : Reg) : Chip → Chip :=
  runInstr k 1 false false fun c =>
    let x := coreOf c k
    match dataFault c k [popAcc x 0] with
    | some f => .fault f
    | none =>
      let ((v, bad), c) := coreLoad k (popAcc x 0).addr 2 c
      .ok (modCore k (fun x => { x with
        pend := some { reg := r, value := BitVec.ofNat 32 (if bad then 0 else v), tag := bad, pc := x.pc, rf := x.fl.rf, sp := some (x.sp, x.spTag) },
        sp := x.popped 1, pc := x.next 1 }) c)

/-- POPF: FL takes the word at once, subject to R268; a poisoned word is 0 with the tag set (R342). -/
def popfInstr (k : CoreId) : Chip → Chip :=
  runInstr k 1 false false fun c =>
    let x := coreOf c k
    match dataFault c k [popAcc x 0] with
    | some f => .fault f
    | none =>
      let ((v, bad), c) := coreLoad k (popAcc x 0).addr 2 c
      .ok (modCore k (fun x => { x with fl := x.fl.write (if bad then 0 else v), flTag := bad, sp := x.popped 1, pc := x.next 1 }) c)

/-- PUSH. -/
def execPush (k : CoreId) (r : Reg) (s : State) : Out := onChip (pushInstr k fun x => (x.reg r, x.tag r)) s
/-- POP. -/
def execPop (k : CoreId) (r : Reg) (s : State) : Out := onChip (popInstr k r) s
/-- PUSHF. -/
def execPushf (k : CoreId) (s : State) : Out := onChip (pushInstr k fun x => (x.fl.toWord.toNat, x.flTag)) s
/-- POPF. -/
def execPopf (k : CoreId) (s : State) : Out := onChip (popfInstr k) s

/-! ### Immediate forms (R291) -/

/-- MOVI. -/
def execMovi (k : CoreId) (d : Reg) (v : Byte) (s : State) : Out :=
  onChip (regInstr k 1 fun x => x.setReg d (narrow 16 v.toInt) false) s

/-- MOVB: banks 3 to 7 are undefined. -/
def movbInstr (k : CoreId) (e : Fin 8) (v : Byte) : Chip → Chip :=
  match e.val with
  | 0 => regInstr k 1 fun x => { x with db := v }
  | 1 => regInstr k 1 fun x => { x with xb := v }
  | 2 => regInstr k 1 fun x => { x with sb := v }
  | _ => illegalInstr k 0x0501
/-- MOVB. -/
def execMovb (k : CoreId) (e : Fin 8) (v : Byte) (s : State) : Out := onChip (movbInstr k e v) s

/-- ADDI: as ADD with the byte sign-extended. -/
def execAddi (k : CoreId) (d : Reg) (v : Byte) (s : State) : Out :=
  onChip (regInstr k 1 fun x =>
    let r := addFlags 16 (x.reg d) (narrow 16 v.toInt) 0
    setFlags r (x.tag d) (x.setReg d r.res (x.tag d))) s

/-- CMPI: as CMP with the byte sign-extended. -/
def execCmpi (k : CoreId) (d : Reg) (v : Byte) (s : State) : Out :=
  onChip (regInstr k 1 fun x => setFlags (subFlags 16 (x.reg d) (narrow 16 v.toInt) 0) (x.tag d) x) s

/-- ADDSP: SP = SP + 2 × simm8. -/
def execAddsp (k : CoreId) (v : Byte) (s : State) : Out :=
  onChip (regInstr k 1 fun x => { x with sp := BitVec.ofNat 16 (narrow 16 (x.sp.toNat + 2 * v.toInt)) }) s

/-! ### Control (R292, R312 to R316) -/

/-- NOP. -/
def execNop (k : CoreId) (s : State) : Out := onChip (regInstr k 1 id) s

/-- WAITF completes at once if the frame latch is set; otherwise the core waits for a frame start (R53 to R55). -/
def waitfInstr (k : CoreId) : Chip → Chip :=
  runInstr k 1 true false fun c =>
    if (coreOf c k).latch then .ok (modCore k (Core.doneWaitf c.beam.frame) c)
    else .ok (modCore k (fun x => { x with wait := some .frame }) c)

/-- FENCE. Every access of this model is complete and visible when its instruction ends (R314, R426), so it only goes on. -/
def execFence (k : CoreId) (s : State) : Out := onChip (regInstr k 1 id) s

/-- Instruction words of WAITB. -/
def waitbWords : RegOrImm → Nat
  | .reg _ => 1
  | .imm _ => 2

/-- WAITB: a line not below the VTOTAL in force is ILLEGAL; the wait ends at or after L:0 of the reference frame (R56 to R58). -/
def waitbInstr (k : CoreId) (o : RegOrImm) : Chip → Chip :=
  runInstr k (waitbWords o) true false fun c =>
    let x := coreOf c k
    let (l, t) := o.value x
    if modeInForce c ∧ c.beam.vtotal ≤ l then .fault (.illegal 0x0501)
    else if t then .fault (.poison 4)
    else if modeInForce c ∧ beamReached c x.refFrame l then .ok (modCore k (Core.doneWait (waitbWords o)) c)
    else .ok (modCore k (fun x => { x with wait := some (.line l (waitbWords o) (!modeInForce c)) }) c)

/-- A ring presents a request to the core. -/
def requestPending (c : Chip) (k : Nat) : Bool := (topRequest c (corePart c k) k).isSome

/-- WAITI: with I = 0 and a request pending it completes; otherwise the core waits (R315). -/
def waitiInstr (k : CoreId) : Chip → Chip :=
  runInstr k 1 true false fun c =>
    if !(coreOf c k).fl.i && requestPending c k then .ok (modCore k (Core.doneWait 1) c)
    else .ok (modCore k (fun x => { x with wait := some .interrupt }) c)

/-- SEV fires software source 64 + k, k the constant's or register's low five bits, with the local core number as DATA (R316, R369). -/
def sevInstr (k : CoreId) (n : RegOrImm) : Chip → Chip :=
  runInstr k 1 false false fun c =>
    let (v, t) := n.value (coreOf c k)
    if t then .fault (.poison 4)
    else .ok (fire (corePart c k) (64 + v % 32) (coreOf c k).localNo (modCore k (fun x => { x with pc := x.next 1 }) c))

/-- TRAP enters the host-mode handler with n in ADDR_LO (R331, Table 06.3). -/
def trapInstr (k : CoreId) (n : Fin 64) : Chip → Chip :=
  runInstr k 1 true true fun c => .ok (enter k 1 n.val ((coreOf c k).next 1).toNat c).2

/-- WAITF. -/
def execWaitf (k : CoreId) (s : State) : Out := onChip (waitfInstr k) s
/-- WAITB. -/
def execWaitb (k : CoreId) (l : RegOrImm) (s : State) : Out := onChip (waitbInstr k l) s
/-- EI. -/
def execEi (k : CoreId) (s : State) : Out := onChip (regInstr k 1 fun x => { x with fl := { x.fl with i := true } }) s
/-- DI. -/
def execDi (k : CoreId) (s : State) : Out := onChip (regInstr k 1 fun x => { x with fl := { x.fl with i := false } }) s
/-- WAITI. -/
def execWaiti (k : CoreId) (s : State) : Out := onChip (waitiInstr k) s
/-- SEV. -/
def execSev (k : CoreId) (n : RegOrImm) (s : State) : Out := onChip (sevInstr k n) s
/-- TRAP. -/
def execTrap (k : CoreId) (n : Fin 64) (s : State) : Out := onChip (trapInstr k n) s

/-! ### Undefined encodings and extensions (R275, R276) -/

/-- An undefined encoding faults ILLEGAL. -/
def execUndefinedEncoding (k : CoreId) (_w : Word) (s : State) : Out := onChip (illegalInstr k 0x0501) s

/-- A steward extension faults ILLEGAL on a play core. On the steward core its effect is not published (R276). -/
def execStewardExtension (k : CoreId) (_w : Word) (s : State) : Out :=
  if k.val = 6 then .refused .unpublishedExtension else onChip (illegalInstr k 0x0503) s

end Sys2Proof.Machine
end

