-- ==== Sys2Proof/Machine/KuvalBlock.lean ====
section
/-! DEFINITION. The Kuval block, gather and multiply-accumulate instructions and the repeat prefixes (chapter 05, Repeats). -/

namespace Sys2Proof.Machine

/-- The encoding of a block instruction is defined: its registers differ, and MAC names neither W0 nor W1 (R309, R310). -/
def blockDefined : BlockOp → Bool
  | .bcpy _ d s => d != s
  | .bset _ d v => d != v
  | .bfnd d v => d != v
  | .mac d s => d != s && 2 ≤ d.val && 2 ≤ s.val
  | .xld _ d s b => d != s && d != b && s != b

/-- Element size. -/
def elemSize (word : Bool) : Nat := if word then 2 else 1

/-- What one iteration comes to: a fault that leaves nothing, or the chip after it and whether it ends a repeat. -/
inductive Iter where
  | fault (f : Flt)
  | ok (c : Chip) (last : Bool)

/-- Advances a pointer register; it takes the tag of what the instruction read (R343). -/
def advance (r : Reg) (n : Nat) (t : Bool) (x : Core) : Core := x.setReg r (off16 (x.reg r) n) t

/-- A read or write through a register in DB or XB. -/
def ptrAcc (right : Right) (bank : Byte) (r : Reg) (size : Nat) (x : Core) : Acc :=
  { right := right, addr := kaddr bank (x.reg r), size := size, tagged := x.tag r }

/-- One iteration of BCPY. -/
def bcpyIter (k : CoreId) (word : Bool) (d s : Reg) (c : Chip) : Iter :=
  let x := coreOf c k
  let n := elemSize word
  let src := ptrAcc .r x.db s n x
  let dst := ptrAcc .w x.xb d n x
  match dataFault c k [src, dst] with
  | some f => .fault f
  | none =>
    let ((v, bad), c) := coreLoad k src.addr n c
    .ok (modCore k (fun x => advance d n false (advance s n false x)) (coreStore k dst.addr n v bad c)) false

/-- One iteration of BSET. -/
def bsetIter (k : CoreId) (word : Bool) (d v : Reg) (c : Chip) : Iter :=
  let x := coreOf c k
  let n := elemSize word
  let t := x.tag v
  let dst := { ptrAcc .w x.xb d n x with poisonStore := t }
  match dataFault c k [dst] with
  | some f => .fault f
  | none => .ok (modCore k (advance d n t) (coreStore k dst.addr n (x.reg v) t c)) false

/-- One iteration of BFND.W: the flags of Wv − [XB:Wd]. Under a repeat an iteration that leaves FL tagged faults at the count point (R347). -/
def bfndIter (k : CoreId) (repeated : Bool) (d v : Reg) (c : Chip) : Iter :=
  let x := coreOf c k
  let t := x.tag v
  let src := ptrAcc .r x.xb d 2 x
  match dataFaultAt c k [src] (if repeated && t && !x.tag d then some (.poison 4) else none) none with
  | some f => .fault f
  | none =>
    let ((m, bad), c) := coreLoad k src.addr 2 c
    if repeated && bad then .fault (.poison 4)
    else
      let r := subFlags 16 (x.reg v) m 0
      .ok (modCore k (fun x => setFlags r (t || bad) (advance d 2 t x)) c) (r.z == some true)

/-- One iteration of MAC. -/
def macIter (k : CoreId) (d s : Reg) (c : Chip) : Iter :=
  let x := coreOf c k
  let a := ptrAcc .r x.db s 2 x
  let b := ptrAcc .r x.xb d 2 x
  match dataFault c k [a, b] with
  | some f => .fault f
  | none =>
    let ((va, ba), c) := coreLoad k a.addr 2 c
    let ((vb, bb), c) := coreLoad k b.addr 2 c
    let r := macFlags (x.pair 0) va vb
    let t := x.pairTag 0
    .ok (modCore k (fun x => setFlags r (t || ba || bb) (advance d 2 t (advance s 2 t (x.setPair 0 r.res (t || ba || bb))))) c) false

/-- One element of XLD (R310, R311): the index is read, then the table, then the destination is written. -/
def xldIter (k : CoreId) (word : Bool) (d s b : Reg) (c : Chip) : Iter :=
  let x := coreOf c k
  let n := elemSize word
  let idx := ptrAcc .r x.db s n x
  let dst := ptrAcc .w x.xb d n x
  let early := if x.tag b && !x.tag s then some (.poisonAddr 1 (kaddr x.db (x.reg b))) else none
  let finish (v : Nat) (bad : Bool) (c : Chip) : Iter :=
    .ok (modCore k (fun x => advance d n false (advance s n false x)) (coreStore k dst.addr n v bad c)) false
  match dataFault c k [idx] with
  | some _ => match dataFaultAt c k [idx, dst] early none with
    | some f => .fault f
    | none => .ok c false
  | none =>
    let ((i, bad), c') := coreLoad k idx.addr n c
    if bad then
      match dataFaultAt c k [idx, dst] early none with
      | some f => .fault f
      | none => finish 0 true c'
    else
      let tab : Acc := { right := .r, addr := kaddr x.db (off16 (x.reg b) (i * n)), size := n, tagged := x.tag b }
      match dataFault c k [idx, tab, dst] with
      | some f => .fault f
      | none =>
        let ((v, vb), c') := coreLoad k tab.addr n c'
        finish v vb c'

/-- One iteration of a block instruction. -/
def blockIter (k : CoreId) (repeated : Bool) : BlockOp → Chip → Iter
  | .bcpy w d s => bcpyIter k w d s
  | .bset w d v => bsetIter k w d v
  | .bfnd d v => bfndIter k repeated d v
  | .mac d s => macIter k d s
  | .xld w d s b => xldIter k w d s b

/-- A block instruction without a prefix. -/
def blockInstr (k : CoreId) (o : BlockOp) : Chip → Chip :=
  if !blockDefined o then illegalInstr k 0x0501
  else runInstr k 1 false false fun c => match blockIter k false o c with
    | .fault f => .fault f
    | .ok c _ => .ok (modCore k (fun x => { x with pc := x.next 1 }) c)

/-- XLD. -/
def execXld (k : CoreId) (word : Bool) (d r b : Reg) (s : State) : Out := onChip (blockInstr k (.xld word d r b)) s
/-- BCPY. -/
def execBcpy (k : CoreId) (word : Bool) (d r : Reg) (s : State) : Out := onChip (blockInstr k (.bcpy word d r)) s
/-- BSET. -/
def execBset (k : CoreId) (word : Bool) (d v : Reg) (s : State) : Out := onChip (blockInstr k (.bset word d v)) s
/-- BFND.W. -/
def execBfndW (k : CoreId) (d v : Reg) (s : State) : Out := onChip (blockInstr k (.bfnd d v)) s
/-- MAC. -/
def execMac (k : CoreId) (d r : Reg) (s : State) : Out := onChip (blockInstr k (.mac d r)) s

/-! ### Repeat prefixes (R301 to R308) -/

/-- The repeated instruction may follow a prefix and its encoding is defined (R304). -/
def repeatOk : Repeated → Option BlockOp
  | .block o => if blockDefined o then some o else none
  | .other => none

/-- Sets CT, clearing or keeping its tag. -/
def setCt (n : Nat) (x : Core) : Core := { x with ct := BitVec.ofNat 16 n, ctTag := false }

/-- The core goes on after a repeat: past the prefix and the repeated instruction, with RF clear. -/
def repeatDone (x : Core) : Core := { x with pc := x.next 2, fl := { x.fl with rf := false } }

/-- The state of a fault in an iteration: RF set, CT and the pointers as they stand, PC at the prefix (R307). -/
def faultInRepeat (k : CoreId) (f : Flt) (c : Chip) : Res :=
  .faultAt f (modCore k (fun x => { x with fl := { x.fl with rf := true } }) c)

/-- Runs n iterations in one action (R305, R306). -/
def repeatRun (k : CoreId) (o : BlockOp) : Nat → Chip → Res
  | 0, c => .ok (modCore k repeatDone c)
  | n + 1, c => match blockIter k true o c with
    | .fault f => faultInRepeat k f c
    | .ok c last =>
      let c := modCore k (setCt n) c
      if last then .ok (modCore k repeatDone c) else repeatRun k o n c

/-- REP: with RF set the count comes from CT, whatever the operand (R303); otherwise from the operand, 1 to 64 (R301). -/
def repInstr (k : CoreId) (n : RegOrImm) (o : Repeated) : Chip → Chip :=
  runInstr k 2 true true fun c =>
    let x := coreOf c k
    let (v, t) := n.value x
    if !x.fl.rf && (v == 0 || 64 < v) then .fault (.illegal 0x0502)
    else match repeatOk o with
      | none => .fault (.illegal 0x0501)
      | some o =>
        if x.fl.rf then (if x.ctTag then .fault (.poison 4) else repeatRun k o x.ct.toNat c)
        else if t then .fault (.poison 4)
        else repeatRun k o v (modCore k (setCt v) c)

/-- REPI: one iteration, or none when CT is 0; between iterations PC stays at the prefix with RF set (R302, R305, R306). -/
def repiInstr (k : CoreId) (o : Repeated) : Chip → Chip :=
  runInstr k 2 true true fun c =>
    let x := coreOf c k
    match repeatOk o with
    | none => .fault (.illegal 0x0501)
    | some o =>
      if x.ctTag then .fault (.poison 4)
      else match x.ct.toNat with
        | 0 => .ok (modCore k repeatDone c)
        | n + 1 => match blockIter k true o c with
          | .fault f => faultInRepeat k f c
          | .ok c last =>
            let c := modCore k (setCt n) c
            if last || n == 0 then .ok (modCore k repeatDone c)
            else .ok (modCore k (fun x => { x with fl := { x.fl with rf := true } }) c)

/-- REP. -/
def execRep (k : CoreId) (n : RegOrImm) (o : Repeated) (s : State) : Out := onChip (repInstr k n o) s
/-- REPI. -/
def execRepi (k : CoreId) (o : Repeated) (s : State) : Out := onChip (repiInstr k o) s

end Sys2Proof.Machine
end

