-- ==== Sys2Proof/Machine/WindowRows.lean ====
section
/-! DEFINITION. Accesses to the registers of bank 0xFF as commands: one word read or written by a core through its window (R865). -/

namespace Sys2Proof.Machine

/-- A word access of a core to its window. -/
def winAcc (right : Right) (off : Nat) : Acc := { right := right, addr := 0xFF0000 + off, size := 2 }

/-- Core k writes a window register; the write faults as a store of the core does, and a core that does not execute writes nothing. -/
def coreWrite (k off v : Nat) (c : Chip) : Chip :=
  if !canRun c k then c
  else match dataFaultAt c k [winAcc .w off] none none with
    | some f => raiseFault k f c
    | none => coreStore k (0xFF0000 + off) 2 v false c

/-- Core k reads a window register; what it reads stands in `memReply`. -/
def coreRead (k off : Nat) (c : Chip) : Chip :=
  if !canRun c k then c
  else match dataFaultAt c k [winAcc .r off] none none with
    | some f => raiseFault k f c
    | none =>
      let ((v, _), c) := coreLoad k (0xFF0000 + off) 2 c
      { c with memReply := { bytes := clean (leBytes 2 v) } }

/-- REGISTER_WRITE (R864, R865): any register of the window, at its offset. -/
def execRegisterWrite (k : CoreId) (off v : Word) (s : State) : Out := onChip (coreWrite k off.toNat v.toNat) s

/-! ### Beam, timebase and governor reads (R67, R74, R77) -/

/-- BEAM_LINE_READ: snapshots the beam. -/
def execBeamLineRead (k : CoreId) (s : State) : Out := onChip (coreRead k 0xC000) s
/-- QTIME_0_READ: snapshots Quartz time. -/
def execQtime0Read (k : CoreId) (s : State) : Out := onChip (coreRead k 0xC014) s
/-- GOV_STATE_READ: one of GOV_STATE, GOV_SLACK and GOV_SLACK_MIN. -/
def execGovStateRead (k : CoreId) (reg : Fin 3) (s : State) : Out := onChip (coreRead k (0xC020 + 2 * reg.val)) s

/-! ### The guard unit (R356 to R359) -/

/-- GUARD_ENABLE: GUARD_CTRL is written with EN 1. -/
def execGuardEnable (k : CoreId) (background clearErr : Bool) (s : State) : Out :=
  onChip (coreWrite k 0x1002 (1 + 2 * b2n background + 256 * b2n clearErr)) s
/-- GUARD_DISABLE: GUARD_CTRL is written with EN 0. -/
def execGuardDisable (k : CoreId) (background clearErr : Bool) (s : State) : Out :=
  onChip (coreWrite k 0x1002 (2 * b2n background + 256 * b2n clearErr)) s
/-- GUARD_REGION_WRITE: register `reg` of region g is written. -/
def execGuardRegionWrite (k : CoreId) (g : Fin 8) (reg : Fin 4) (v : Word) (s : State) : Out :=
  onChip (coreWrite k (0x1010 + 8 * g.val + 2 * reg.val) v.toNat) s

/-! ### The Hamper (chapter 07) -/

/-- EOI. -/
def execEoi (k : CoreId) (n : Fin 128) (s : State) : Out := onChip (coreWrite k 0x004 n.val) s
/-- SW_RAISE. -/
def execSwRaise (k : CoreId) (n : Fin 32) (s : State) : Out := onChip (coreWrite k 0x006 n.val) s
/-- PRI_RAISE. -/
def execPriRaise (k : CoreId) (level : Fin 4) (s : State) : Out := onChip (coreWrite k 0x00A level.val) s
/-- A value of Qq_CTRL. -/
def ringCtrl (enable routeEn : Bool) (route size : Nat) : Nat := bitsToNat [enable, routeEn] + 4 * route + 4096 * size
/-- RING_ENABLE: Qq_CTRL is written with ENABLE 1. -/
def execRingEnable (k : CoreId) (q : Fin 4) (routeEn : Bool) (route : Fin 8) (size : Fin 16) (s : State) : Out :=
  onChip (coreWrite k (0x20 + 16 * q.val) (ringCtrl true routeEn route.val size.val)) s
/-- RING_DISABLE: Qq_CTRL is written with ENABLE 0. -/
def execRingDisable (k : CoreId) (q : Fin 4) (routeEn : Bool) (route : Fin 8) (size : Fin 16) (s : State) : Out :=
  onChip (coreWrite k (0x20 + 16 * q.val) (ringCtrl false routeEn route.val size.val)) s
/-- RING_CONS_WRITE. -/
def execRingConsWrite (k : CoreId) (q : Fin 4) (v : Word) (s : State) : Out := onChip (coreWrite k (0x28 + 16 * q.val) v.toNat) s

/-! ### Mailbox doorbells (chapter 04) -/

/-- CMD_PROD_WRITE: the doorbell. -/
def execCmdProdWrite (k : CoreId) (v : Word) (s : State) : Out := onChip (coreWrite k 0x3010 v.toNat) s
/-- CPL_CONS_WRITE. -/
def execCplConsWrite (k : CoreId) (v : Word) (s : State) : Out := onChip (coreWrite k 0x3016 v.toNat) s
/-- MAILBOX_ENABLE: MB_CTRL is written with ENABLE 1. -/
def execMailboxEnable (k : CoreId) (cplEvent : Bool) (s : State) : Out := onChip (coreWrite k 0x3000 (bitsToNat [true, cplEvent])) s
/-- MAILBOX_DISABLE: MB_CTRL is written with ENABLE 0. -/
def execMailboxDisable (k : CoreId) (cplEvent : Bool) (s : State) : Out := onChip (coreWrite k 0x3000 (bitsToNat [false, cplEvent])) s

/-! ### Darning (R461) -/

/-- DARN_READ_RAW. -/
def execDarnReadRaw (k : CoreId) (s : State) : Out := onChip (coreWrite k 0xB012 1) s
/-- DARN_WRITE_RAW. -/
def execDarnWriteRaw (k : CoreId) (s : State) : Out := onChip (coreWrite k 0xB012 2) s
/-- DARN_WRITE_CHECK. -/
def execDarnWriteCheck (k : CoreId) (s : State) : Out := onChip (coreWrite k 0xB012 3) s

/-! ### Spool channels (R493 to R501) -/

/-- SPOOL_START: CH_CTRL of a channel is written with START. -/
def execSpoolStart (k : CoreId) (ch : Fin 8) (bulk ev : Bool) (s : State) : Out :=
  onChip (coreWrite k (0x2000 + 0x20 * ch.val) (ctrlValue true false false false bulk ev)) s
/-- SPOOL_ABORT. -/
def execSpoolAbort (k : CoreId) (ch : Fin 8) (bulk ev : Bool) (s : State) : Out :=
  onChip (coreWrite k (0x2000 + 0x20 * ch.val) (ctrlValue false true false false bulk ev)) s
/-- SPOOL_RESUME_WRITE. -/
def execSpoolResumeWrite (k : CoreId) (ch : Fin 8) (bulk ev : Bool) (s : State) : Out :=
  onChip (coreWrite k (0x2000 + 0x20 * ch.val) (ctrlValue false false true false bulk ev)) s
/-- SPOOL_CLEAR. -/
def execSpoolClear (k : CoreId) (ch : Fin 8) (bulk ev : Bool) (s : State) : Out :=
  onChip (coreWrite k (0x2000 + 0x20 * ch.val) (ctrlValue false false false true bulk ev)) s
/-- SPOOL_CANCEL_BEFORE_START: ABORT stands beside START or RESUME in one write. -/
def execSpoolCancelBeforeStart (k : CoreId) (ch : Fin 8) (resume bulk ev : Bool) (s : State) : Out :=
  onChip (coreWrite k (0x2000 + 0x20 * ch.val) (ctrlValue (!resume) true resume false bulk ev)) s

/-! ### Layers and stitches (R518 to R520, R549) -/

/-- LAYER_HOLD_RELEASE: LYR_HOLD is written with HOLD 0. -/
def execLayerHoldRelease (k : CoreId) (atFrame : Bool) (s : State) : Out := onChip (coreWrite k 0x4480 (2 * b2n atFrame)) s
/-- PALETTE_LOW_WRITE. -/
def execPaletteLowWrite (k : CoreId) (e : Fin 1024) (v : Word) (s : State) : Out := onChip (coreWrite k (0x5000 + 4 * e.val) v.toNat) s
/-- PALETTE_HIGH_WRITE. -/
def execPaletteHighWrite (k : CoreId) (e : Fin 1024) (v : Word) (s : State) : Out := onChip (coreWrite k (0x5002 + 4 * e.val) v.toNat) s
/-- LAYER_ENABLE_WRITE: a register of the layer window from 0x4000, by its word number; R520 decides those that affect admission. -/
def execLayerEnableWrite (k : CoreId) (reg : Fin 2048) (v : Word) (s : State) : Out := onChip (coreWrite k (0x4000 + 2 * reg.val) v.toNat) s
/-- STITCH_ENABLE_WRITE: ST_CTRL is written. -/
def execStitchEnableWrite (k : CoreId) (v : Word) (s : State) : Out := onChip (coreWrite k 0x6000 v.toNat) s

/-! ### Sound (chapter 13) -/

/-- VOICE_KEY_ON: V_CTRL of a voice is written with KEY_ON. -/
def execVoiceKeyOn (k : CoreId) (v : Fin 24) (ctrl : Word) (s : State) : Out := onChip (coreWrite k (0x7000 + 32 * v.val) (ctrl.toNat ||| 1)) s
/-- VOICE_KEY_OFF: V_CTRL of a voice is written with KEY_OFF and without KEY_ON. -/
def execVoiceKeyOff (k : CoreId) (v : Fin 24) (ctrl : Word) (s : State) : Out :=
  onChip (coreWrite k (0x7000 + 32 * v.val) (ctrl.toNat / 4 * 4 + 2)) s
/-- TONE_KEY_ON: N_CTRL of a tone is written with KEY_ON. -/
def execToneKeyOn (k : CoreId) (n : Fin 8) (ctrl : Word) (s : State) : Out := onChip (coreWrite k (0x7400 + 32 * n.val) (ctrl.toNat ||| 1)) s
/-- TONE_KEY_OFF: N_CTRL of a tone is written with KEY_OFF and without KEY_ON. -/
def execToneKeyOff (k : CoreId) (n : Fin 8) (ctrl : Word) (s : State) : Out :=
  onChip (coreWrite k (0x7400 + 32 * n.val) (ctrl.toNat / 4 * 4 + 2)) s
/-- SOUND_HOLD_RELEASE: SND_HOLD is written with HOLD 0. -/
def execSoundHoldRelease (k : CoreId) (at_ : Fin 4) (s : State) : Out := onChip (coreWrite k 0x770A (2 * at_.val)) s
/-- ASC_LO_READ: snapshots the sample counter. -/
def execAscLoRead (k : CoreId) (s : State) : Out := onChip (coreRead k 0x7712) s

/-! ### The UART (R702, R703) -/

/-- UART_DATA_WRITE. -/
def execUartDataWrite (k : CoreId) (v : Byte) (s : State) : Out := onChip (coreWrite k 0x9110 v.toNat) s
/-- UART_DATA_READ. -/
def execUartDataRead (k : CoreId) (s : State) : Out := onChip (coreRead k 0x9110) s

/-! ### Link channels (R757 to R762) -/

/-- CHANNEL_ENABLE: CH_CTRL of a link channel is written with EN 1. -/
def execChannelEnable (k : CoreId) (ch : Fin 32) (bulk mcast : Bool) (s : State) : Out :=
  onChip (coreWrite k (0xA000 + 0x40 * ch.val) (bitsToNat [true, bulk, mcast])) s
/-- CHANNEL_DISABLE: CH_CTRL of a link channel is written with EN 0. -/
def execChannelDisable (k : CoreId) (ch : Fin 32) (bulk mcast : Bool) (s : State) : Out :=
  onChip (coreWrite k (0xA000 + 0x40 * ch.val) (bitsToNat [false, bulk, mcast])) s
/-- TX_PROD_WRITE. -/
def execTxProdWrite (k : CoreId) (ch : Fin 32) (v : Word) (s : State) : Out := onChip (coreWrite k (0xA014 + 0x40 * ch.val) v.toNat) s
/-- RX_CONS_WRITE. -/
def execRxConsWrite (k : CoreId) (ch : Fin 32) (v : Word) (s : State) : Out := onChip (coreWrite k (0xA00E + 0x40 * ch.val) v.toNat) s

end Sys2Proof.Machine
end

