-- ==== Sys2Proof/Machine/KuvalSystem.lean ====
section
/-! DEFINITION. Interrupt entry, and the commands that report a core and its guard unit (R322, R323, R329, R362). -/

namespace Sys2Proof.Machine

/-- The saved PC of an interrupt: the instruction after WAITI, else the instruction that is next (Table 06.3). -/
def savedPc (x : Core) : Nat :=
  match x.wait with
  | some .interrupt => (x.next 1).toNat
  | _ => x.pc.toNat

/-- A core stands at an instruction boundary at which it can be interrupted: it executes or waits, and no load waits for its slot (R300). -/
def atBoundary (c : Chip) (k : Nat) : Bool :=
  let x := coreOf c k
  canRun { c with cores := vset c.cores k { x with wait := none } } k && x.pend.isNone

/-- HAMPER_INTERRUPT_ENTRY (R315, R329, R391): a presented request is taken with I = 1, and its ring's level is pushed; with I = 0 it
only completes a WAITI. -/
def interruptEntry (k : Nat) (c : Chip) : Chip :=
  let p := corePart c k
  match topRequest c p k with
  | none => c
  | some q =>
    let x := coreOf c k
    if !atBoundary c k then c
    else if x.fl.i then
      match enter k 0 0 (savedPc x) c with
      | (true, c) => modCore k (fun y => { y with prio := q :: y.prio }) c
      | (false, c) => c
    else if x.wait = some .interrupt then modCore k (Core.doneWait 1) c
    else c

/-- HAMPER_INTERRUPT_ENTRY. -/
def execHamperInterruptEntry (k : CoreId) (s : State) : Out := onChip (interruptEntry k) s

/-! ### Commands that name a core -/

/-- The core that a command's byte names: a guest by local number, P0 and external origins by hardware index 0 to 5 (R322, R362). -/
def namedCore (m : Cmd) (c : Chip) (n : Nat) : Option Nat :=
  match m.org with
  | .part 0 => if n < 6 then some n else none
  | .part p => coreOfLocal c p n
  | _ => if n < 6 then some n else none

/-- STATE of KUV.STATUS. -/
def kuvState (c : Chip) (k : Nat) : Nat :=
  let x := coreOf c k
  if isPegged c 1 k then 4
  else if unitState c ⟨1, k⟩ = .spare && !x.acting then 5
  else if x.halted then 2
  else match x.run with
    | .held => 3
    | .stopped => 2
    | .running => if x.wait.isSome then 1 else 0

/-- KUV.STATUS. -/
def kuvStatus (m : Cmd) (c : Chip) : Reply × Chip :=
  match namedCore m c (m.b 8) with
  | none => (.fail .badParam, c)
  | some k =>
    let x := coreOf c k
    let st := kuvState c k
    (.res x.faultCount ((if st = 1 ∨ st = 2 then kaddr x.cb x.pc.toNat else 0) + 2 ^ 24 * st), c)

/-- KUV.STATUS. -/
def execKuvStatus (r : Req) (s : State) : Out := onChip (serve 0x0501 r kuvStatus) s

/-- The block of Table 05.16. -/
def kuvBlock (x : Core) : List Byte :=
  x.w.toList.flatMap (fun w => leBytes 2 w.toNat) ++ leBytes 2 x.sp.toNat ++ leBytes 2 x.pc.toNat ++ leBytes 2 x.ct.toNat
    ++ leBytes 2 x.fl.toWord.toNat ++ [x.cb, x.db, x.xb, x.sb] ++ leBytes 1 x.wTag.toNat
    ++ leBytes 1 (bitsToNat [x.spTag, x.ctTag, x.flTag]) ++ [0, 0]

/-- KUV.REGS (R323): the block goes to a steward address for P0. -/
def kuvRegs (m : Cmd) (c : Chip) : Reply × Chip :=
  let k := m.b 8
  let dest := m.f 12 4
  let st := kuvState c k
  checked [chk (5 < k || !m.z 9 3 || !destOk m dest) .badParam, chk (st < 2) .badState]
    (fun c =>
      let shadowed := match c.svc.shadow with | some (j, _) => if st = 5 then j else k | none => k
      answerBlock m dest 0 0 (kuvBlock (coreOf c shadowed)) c) c

/-- KUV.REGS. -/
def execKuvRegs (r : Req) (s : State) : Out := onChip (serve 0x0502 r kuvRegs) s

/-- GUARD.STATUS (R362). -/
def guardStatus (m : Cmd) (c : Chip) : Reply × Chip :=
  match namedCore m c (m.b 8) with
  | none => (.fail .badParam, c)
  | some k =>
    let x := coreOf c k
    (.res 0 (bitsToNat [x.guard.en, x.guard.background, x.guard.cfgErr, x.halted]
      + 2 ^ 8 * bitsToNat (x.guard.regions.toList.map (·.en)) + 2 ^ 16 * x.faultCount), c)

/-- GUARD.STATUS. -/
def execGuardStatus (r : Req) (s : State) : Out := onChip (serve 0x0601 r guardStatus) s

/-! ### The Hamper (chapter 07) -/

/-- HAMPER_EDGE (R372): the oldest edge of the source that waits is arbitrated. -/
def hamperEdge (p src : Nat) (c : Chip) : Chip :=
  match c.edges.find? fun e => e.part == p && e.src == src with
  | none => c
  | some e => takeEdge p src e.data { c with edges := delFirst (· == e) c.edges }

/-- HAMPER_EDGE. -/
def execHamperEdge (p : Fin 7) (src : Fin 96) (s : State) : Out := onRun (hamperEdge p.val src.val) s

/-- HAMPER_LEVEL_ASSERT (R372, R373): an asserted level is arbitrated. -/
def hamperLevel (p src : Nat) (c : Chip) : Chip := if isLevelSrc src && levelOf c p src then takeLevel p src c else c

/-- HAMPER_LEVEL_ASSERT. -/
def execHamperLevelAssert (p : Fin 7) (src : Fin 96) (s : State) : Out := onRun (hamperLevel p.val src.val) s

/-- POSTPONED_RECORD_WRITE (R386): postponed records of a ring are written while there is space. -/
def execPostponedRecordWrite (p : Fin 7) (q : Fin 4) (s : State) : Out := onRun (drainPosts levelOf p.val q.val 96) s

/-- The partition that PID names: 0 the issuer's own, and P0 for an external origin; another only from P0 or an external origin with
consent (R409). -/
def hmpPid (m : Cmd) (c : Chip) : Except Status Nat :=
  match m.org with
  | .part 0 => if m.b 8 ≤ 6 then .ok (m.b 8) else .error .badParam
  | .part p => if m.b 8 = 0 then .ok p else .error .denied
  | o => if consentOf c o then (if m.b 8 ≤ 6 then .ok (m.b 8) else .error .badParam) else .error .denied

/-- HMP.STATUS. -/
def hmpStatus (m : Cmd) (c : Chip) : Reply × Chip :=
  match hmpPid m c with
  | .error st => (.fail st, c)
  | .ok p =>
    checked [chk (3 < m.b 9) .badParam] (fun c =>
      let h := hmpOf c p
      let g := h.ring (m.b 9)
      (.res (bitsToNat [g.enable, g.fault] + 4 * g.cause.code + 32 * b2n h.expert + 256 * (h.postCount (m.b 9) % 256)) (g.prod + 65536 * g.cons), c)) c

/-- HMP.STATUS. -/
def execHmpStatus (r : Req) (s : State) : Out := onChip (serve 0x0701 r hmpStatus) s

/-- HMP.RAISE (R368, R369). -/
def hmpRaise (m : Cmd) (c : Chip) : Reply × Chip :=
  match hmpPid m c with
  | .error st => (.fail st, c)
  | .ok p => checked [chk (m.b 9 < 64 || 95 < m.b 9) .badParam] (fun c => (.ok, fire p (m.b 9) 0xFF c)) c

/-- HMP.RAISE. -/
def execHmpRaise (r : Req) (s : State) : Out := onChip (serve 0x0702 r hmpRaise) s

/-- HMP.SETUP (R410): Q0 is disabled, configured and enabled as its window would be. -/
def hmpSetup (m : Cmd) (c : Chip) : Reply × Chip :=
  match hmpPid m c with
  | .error st => (.fail st, c)
  | .ok p =>
    let size := m.b 9
    let route := m.b 10
    let base := m.f 12 4
    let fits := 4 ≤ size && size ≤ 12 && base % 16 == 0
    checked [chk (15 < route || 1 < m.b 11 || 2 ^ 24 ≤ base || (!fits && m.b 11 == 0)) .badParam, chk (hmpOf c p).expert .badState]
      (fun c =>
        let c := if ((hmpOf c p).ring 0).enable then disableRing p 0 c else c
        let c := modRing p 0 (fun g => { g with base := base, sizeLog2 := size % 16, route := route % 8, routeEn := bit route 3 }) c
        if m.b 11 = 0 then (.ok, c)
        else if !fits then (.fail .badParam, modRing p 0 (fun g => { g with cause := .badcfg }) (lintBlock 0x0705 p 0 c))
        else (.ok, enableRing levelOf p 0 c)) c

/-- HMP.SETUP. -/
def execHmpSetup (r : Req) (s : State) : Out := onChip (serve 0x0703 r hmpSetup) s

end Sys2Proof.Machine
end

