-- ==== Sys2Proof/Machine/Power.lean ====
section
/-! DEFINITION. Power, ride-through, retention and resume, resets and boot (chapter 02, R10, R11, R871). -/

namespace Sys2Proof.Machine

/-! ### Supplies and classes (R82, R91 to R97) -/

/-- An input is a source of VSYS. -/
def isSource (mv vsys : Nat) : Bool := 2000 < mv && vsys ≤ mv + 100

/-- Some source is present. -/
def hasSource (v : Supply) : Bool := isSource v.vbus v.vsys || isSource v.vbat v.vsys

/-- The supply monitor's measurement. -/
def measure (v : Supply) (c : Chip) : Chip := modPwr (fun p => { p with vsys := v.vsys, vbus := v.vbus, vbat := v.vbat }) c

/-- SUPPLY in every running partition. -/
def fireSupply (c : Chip) : Chip := fireRunning 5 (supplyData c) c

/-- WARN as the level leaves it: the falling threshold is VWARN, the rising one 100 mV above. -/
def warnAt (p : Power) (vsys : Nat) : Bool := if vsys < p.vwarn then true else if p.vwarn + 100 ≤ vsys then false else p.warn

/-- VWARN_CROSSING (R92). -/
def vwarnCrossing (v : Supply) (c : Chip) : Chip :=
  let w := warnAt c.pwr v.vsys
  if w = c.pwr.warn ∨ c.pwr.phase = .off ∨ c.pwr.phase = .waitVbat then c
  else
    let c := modPwr (fun p => { p with warn := w }) (measure v c)
    if c.pwr.phase = .retention then c
    else fireSupply (if w then lintBlock 0x0101 0xFF 0 c else c)

/-- VWARN_CROSSING. -/
def execVwarnCrossing (v : Supply) (s : State) : Out := onAlways (vwarnCrossing v) s

/-- CLASS_2_ENTRY (R93 to R95): a period less than 2 ms after the last one goes on with its time. -/
def class2Entry (v : Supply) (c : Chip) : Chip :=
  let level := decide (v.vsys < 2600)
  if c.pwr.cls ≠ 1 ∨ v.vsys < 2300 ∨ (!level && hasSource v) then c
  else
    let now := c.clk.qtime
    let same := c.pwr.c2end.any fun t => now < t + 48000
    let c := modPwr (fun p => { p with
      cls := 2, c2start := now, c2acc := if same then p.c2acc else 0, reduced := true,
      rideCount := if same then p.rideCount else satAdd 0xFFFF p.rideCount 1 }) (measure v c)
    lintBlock 0x0102 0xFF (if level then 1 else 2) (fireSupply (applyDuties c))

/-- CLASS_2_ENTRY. -/
def execClass2Entry (v : Supply) (s : State) : Out := onChip (class2Entry v) s

/-- CLASS_2_END (R94). -/
def class2End (v : Supply) (c : Chip) : Chip :=
  if c.pwr.cls ≠ 2 ∨ v.vsys < 2650 ∨ !hasSource v then c
  else modPwr (fun p => { p with cls := 1, c2acc := p.c2acc + (c.clk.qtime - p.c2start), c2end := some c.clk.qtime }) (measure v c)

/-- CLASS_2_END. -/
def execClass2End (v : Supply) (s : State) : Out := onChip (class2End v) s

/-- CLASS_1_RESTORE (R97): 50 ms of unbroken class 1. -/
def class1Restore (c : Chip) : Chip :=
  match c.pwr.c2end with
  | some t =>
    if c.pwr.cls = 1 && c.pwr.reduced && c.pwr.phase != .resuming then applyDuties (modPwr (fun p => { p with reduced := false }) (atTime (t + 1200000) c))
    else c
  | none => c

/-- CLASS_1_RESTORE. -/
def execClass1Restore (s : State) : Out := onChip class1Restore s

/-! ### Resets (R113, R118, Table 02.5, R852) -/

/-- The units retired so far and the patch table, as the repair record keeps them. -/
def repairOf (c : Chip) : List Nat × Vector Nat 32 :=
  if (clocksRun c && c.pwr.phase != .recovery) || c.pwr.phase == .retention then
    ((allUnits.filter fun u => unitState c u == .retired).map UnitId.code, c.mem.patch)
  else (c.svc.repair, c.svc.repairPatch)

/-- The unit registers at a cold start (R852), before external memory is probed. -/
def coldUnits (b : Board) : UnitTable :=
  let t : UnitTable := {}
  let ports := if b.q176 then vset (vset t.ports 0 UnitReg.mkAbsent) 2 UnitReg.mkAbsent else t.ports
  { t with cores := vset (Vector.replicate 6 {}) b.spareCore UnitReg.mkSpare, ports := ports }

/-- What is left of memory: what the flash devices hold, and the top 64 KiB of steward SRAM where it is kept. -/
def coldMem (c : Chip) : Mem :=
  let top := c.pwr.topKept
  { cells := c.mem.cells.filter fun e => 0x20000000 ≤ e.1,
    stewCells := if top then c.mem.stewCells.filter fun e => 0x70000 ≤ e.1 else [],
    stewSyn := if top then c.mem.stewSyn.filter fun e => 0xE000 ≤ e.1 else [],
    cart := if c.mem.cart = .absent then .absent else .inserted }

/-- The always-on domain in a new phase, with the cause of the start to come; every setting takes its cold-start value. -/
def coldPower (ph : Phase) (cause : Nat) (p : Power) : Power :=
  { phase := ph, testHigh := p.testHigh, vsys := p.vsys, vbus := p.vbus, vbat := p.vbat, vbusOpen := p.vbusOpen, retLost := p.retLost,
    causeLatch := cause, topKept := p.topKept, banks := Vector.replicate 4 .off, buckStopped := p.buckStopped, buckFails := p.buckFails,
    slot := 0xFF }

/-- Everything but what the board, the flash devices, the fuses and the always-on domain keep is reset. -/
def coldReset (ph : Phase) (cause : Nat) (c : Chip) : Chip :=
  let (units, patch) := repairOf c
  let fresh : Chip := {}
  { fresh with
    board := c.board, fuses := c.fuses, burns := c.burns, freeCnt := c.freeCnt, memReply := c.memReply,
    pwr := coldPower ph cause c.pwr, gov := { tj := c.gov.tj }, clk := { lfXtal := c.clk.lfXtal }, mem := coldMem c, units := coldUnits c.board,
    lint := if c.pwr.topKept then c.lint else {}, cores := Vector.replicate 7 {}, svc := { repair := units, repairPatch := patch },
    snd := { fresh.snd with locked := false, started := false } }

/-- A cold start: held in reset until VBAT valid. -/
def coldStart (cause : Nat) (c : Chip) : Chip := coldReset .waitVbat cause c

/-- The off state, with the rule that wakes from it. -/
def enterOff (rule : WakeRule) (cause : Nat) (c : Chip) : Chip :=
  let wake := c.pwr.wake
  modPwr (fun p => { p with wakeRule := rule, wake := wake }) (coldReset .off cause c)

/-- RESET_N_ASSERT: RESET_N low for 10 µs; in the off state it is a wake source. -/
def resetN (c : Chip) : Chip :=
  match c.pwr.phase with
  | .off => c
  | _ => coldStart (if c.pwr.buckStopped then c.pwr.causeLatch else 3) c

/-- A source wakes the chip from the off state (R105, R116 to R118). -/
def wakes (p : Power) (src : WakeSrc) : Bool :=
  match p.wakeRule, src with
  | .selected, .vbus => bit p.wake 0
  | .selected, .home => bit p.wake 1
  | .selected, .resetN => bit p.wake 2
  | .resume, .resumeCondition => true
  | .thermal, .resumeCondition => true
  | .buck, .resetN => true
  | _, _ => false

/-- WAKE_FROM_OFF: a cold start with the latched cause. -/
def wakeFromOff (src : WakeSrc) (c : Chip) : Chip :=
  if c.pwr.phase = .off ∧ wakes c.pwr src then coldStart c.pwr.causeLatch (modPwr (fun p => { p with buckStopped := false, buckFails := 0 }) c) else c

/-- WAKE_FROM_OFF. -/
def execWakeFromOff (src : WakeSrc) (s : State) : Out := onAlways (wakeFromOff src) s

/-- RESET_N_ASSERT. -/
def execResetNAssert (s : State) : Out := onAlways (fun c => if c.pwr.phase = .off then wakeFromOff .resetN c else resetN c) s

/-- Power-on reset: nothing is kept but the fuses and what the flash devices hold. -/
def powerOn (c : Chip) : Chip :=
  coldStart 0 (modPwr (fun p => { p with topKept := false, retLost := false, buckStopped := false, buckFails := 0 }) c)

/-- POWER_ON_RESET: VSYS below 1.5 V. -/
def execPowerOnReset (v : Supply) (s : State) : Out := onAlways (fun c => if v.vsys < 1500 then powerOn (measure v c) else c) s

/-- TEST_PIN_HIGH (R871): power-on reset holds while the pin is high. -/
def execTestPinHigh (high : Bool) (s : State) : Out :=
  onAlways (fun c => if high then modPwr (fun p => { p with testHigh := true }) (powerOn c) else modPwr (fun p => { p with testHigh := false }) c) s

/-- THERMAL_SHUTDOWN (R116). -/
def execThermalShutdown (tj : Int) (s : State) : Out :=
  onAlways (fun c =>
    if tj ≤ 125 ∨ c.pwr.phase = .off ∨ c.pwr.phase = .waitVbat then c
    else enterOff .thermal 6 (lintBlock 0x010A 0xFF 0 (modGov (fun g => { g with tj := tj }) c))) s

/-- BUCK_CURRENT_LIMIT (R117): the buck stops, and Suken is held in reset. A limit before the restarted chip has VBAT valid is a failed
restart; the third in a row enters the off state. -/
def buckLimit (c : Chip) : Chip :=
  if c.pwr.phase = .off ∨ c.pwr.buckStopped then c
  else
    let again := c.pwr.phase = .waitVbat
    if again ∧ c.pwr.causeLatch ≠ 9 then c
    else
      let n := if again then c.pwr.buckFails + 1 else 0
      let c := lintBlock 0x0106 0xFF 0 c
      if 3 ≤ n then enterOff .buck 9 c
      else coldStart 9 (modPwr (fun p => { p with buckStopped := true, buckFails := n }) c)

/-- BUCK_CURRENT_LIMIT. -/
def execBuckCurrentLimit (s : State) : Out := onAlways buckLimit s

/-- BUCK_RESTART. -/
def execBuckRestart (s : State) : Out := onAlways (modPwr fun p => { p with buckStopped := false }) s

/-- DEFERRED_RESET_START (R138): what SYS.RESET or PWR.OFF asked for begins, and completions not yet written are discarded with the rest. -/
def deferredStart (c : Chip) : Chip :=
  match c.pwr.deferred with
  | some d =>
    let c := atTime c.pwr.deferAt c
    match d with
    | .coldStart => coldStart 5 c
    | .recoveryStart => modPwr (fun p => { p with recoveryFlag := true }) (coldStart 5 c)
    | .off w => enterOff .selected 7 (modPwr (fun p => { p with wake := w }) c)
  | none => c

/-- DEFERRED_RESET_START. -/
def execDeferredResetStart (s : State) : Out := onChip deferredStart s

/-! ### Class 3 and the resume window (R98 to R105, R132) -/

/-- The first frame start of this start has occurred. -/
def hasStarted (c : Chip) : Bool := c.mem.rinseOn && c.pwr.phase != .recovery

/-- Entry into class 3 (R98): the chip stops at once, and its state is kept as it stands. -/
def enterClass3 (trigger : Nat) (c : Chip) : Chip :=
  if !hasStarted c then modPwr (fun p => { p with phase := .retention, cls := 3, windowOpen := false, causeLatch := 8 }) c
  else
    let links := (List.range 4).any fun q => (linkPort c q).st != .down
    let c := sndFrameUnsure (holdNow c)
    let c := modInp (fun i => { i with pwm := i.pwm.map fun w => { w with from_ := 0, to_ := 0, start := c.clk.qtime } }) c
    let c := modSnd (fun s => { s with out := { s.out with spk := 0 }, bridge := { s.bridge with n := 0 } }) c
    let c := (List.range 7).foldl (fun c k => modCore k (fun x => match x.wait with
      | some .interrupt => x
      | _ => { x with wait := none }) c) c
    let c := evictAll .xmem (evictAll .sram (departAll 1 c))
    let cart := c.mem.cart != .absent
    modPwr (fun p => { p with
      phase := .retention, cls := 3, reduced := true, windowOpen := true, trigger := trigger, entryFrame := c.beam.frame, entryQtime := c.clk.qtime,
      vsysMin := p.vsys, cartAtEntry := cart, linkAtEntry := links, xmemLost := false }) (modGov (fun g => { g with output := 55, slew := 0 }) c)

/-- CLASS_3_ENTRY: VSYS below VSTOP. -/
def execClass3Entry (v : Supply) (s : State) : Out := onChip (fun c => if v.vsys < 2300 then enterClass3 1 (measure v c) else c) s

/-- RIDE_MS_EXPIRY: class 2 has lasted RIDE_MS. -/
def rideExpiry (c : Chip) : Chip :=
  if c.pwr.cls = 2 then enterClass3 2 (atTime (c.pwr.c2start + c.pwr.rideMs * 24000 - c.pwr.c2acc) c) else c

/-- RIDE_MS_EXPIRY. -/
def execRideMsExpiry (s : State) : Out := onChip rideExpiry s

/-- RETENTION_LOST (R100, R105, R120): VSYS below VRET. -/
def retentionLost (v : Supply) (c : Chip) : Chip :=
  if 1900 ≤ v.vsys ∨ clocksRun c then c
  else
    let c := modPwr (fun p => { p with retLost := true, topKept := false }) (measure v c)
    if c.pwr.phase = .retention then enterOff .resume (if c.pwr.windowOpen then 1 else c.pwr.causeLatch) c else c

/-- RETENTION_LOST. -/
def execRetentionLost (v : Supply) (s : State) : Out := onAlways (retentionLost v) s

/-- RESUME_WINDOW_EXPIRY (R105). -/
def execResumeWindowExpiry (s : State) : Out :=
  onAlways (fun c => if c.pwr.phase = .retention ∧ c.pwr.windowOpen then enterOff .resume 2 c else c) s

/-! ### Resume (R103 to R112, Table 02.4) -/

/-- What a resume has lost (Table 02.4 LOST). -/
def lostBits (o : ResumeObs) (cart : Bool) (c : Chip) : Nat :=
  bitsToNat [false, false, c.mem.xmem != .none && (c.pwr.xmemLost || !o.vioMHeld), cart, c.pwr.linkAtEntry, c.mem.flashOp.isSome && !o.flashOk,
             !c.clk.lfXtal]

/-- The record of a resume. -/
def resumeRecord (o : ResumeObs) (lost : Nat) (p : Power) : ResumeRecord :=
  { kind := 1, cause := 0, lost := lost, entryFrame := p.entryFrame, entryQtime := p.entryQtime, durationMs := min 0xFFFFFFFF o.ms,
    vsysMin := min 0xFFFF (min p.vsysMin o.vsysMin), rideCount := p.rideCount, trigger := p.trigger, slot := p.slot, bootFlags := p.record.bootFlags }

/-- Steps 1 to 3 of R106. -/
def resumeChip (o : ResumeObs) (c : Chip) : Chip :=
  let cart := c.pwr.cartAtEntry && (!o.cartStayed || !o.headerSame)
  let lost := lostBits o cart c
  let c := modPwr (fun p => { p with
    phase := .resuming, cls := 1, windowOpen := false, retLost := false, causeLatch := 0, c2acc := 0, c2end := some ((c.clk.qtime + o.ticks) % 2 ^ 64),
    record := resumeRecord o lost p, rideCount := 0, warn := warnAt p o.supply.vsys }) (measure o.supply c)
  let c := { c with clk := { c.clk with qtime := (c.clk.qtime + o.ticks) % 2 ^ 64 } }
  let c := modGov (fun g => { g with output := g.target, slew := 0 }) c
  let c := modSnd (fun s => { s with locked := false, asc := (s.asc + o.ticks / 500) % 2 ^ 32 }) c
  let c := modMem (fun m => { m with
    xVoid := if bit lost 2 then some [] else m.xVoid,
    rinseS := { m.rinseS with passStart := m.rinseS.passStart + o.ticks }, rinseX := { m.rinseX with passStart := m.rinseX.passStart + o.ticks } }) c
  let c := if bit lost 5 then flashTimeout c else c
  let c := if cart then pullCart c else c
  relockAgain (if o.cartNow then cartInsertion none c else c)

/-- The resume condition is met (R103). -/
def resumeMet (v : Supply) : Bool := 2650 ≤ v.vsys && hasSource v

/-- RESUME: in the window the chip resumes; where R132 bars a resume it cold-starts. -/
def resume (o : ResumeObs) (c : Chip) : Chip :=
  if c.pwr.phase ≠ .retention ∨ !resumeMet o.supply then c
  else if c.pwr.causeLatch = 8 then coldStart 8 (measure o.supply c)
  else if c.pwr.windowOpen ∧ o.ticks ≤ c.pwr.resumeMax * 2400000 then resumeChip o c
  else c

/-- RESUME. -/
def execResume (o : ResumeObs) (s : State) : Out := onAlways (resume o) s

/-- RESUME_RELEASE. -/
def execResumeRelease (s : State) : Out := onChip resumeRelease s

/-! ### Banks and VBUS (R81, R87 to R90) -/

/-- VIO_BANK_LOST. -/
def bankLost (b : Nat) (c : Chip) : Chip :=
  match vget c.pwr.banks b with
  | .off => c
  | .lost => c
  | _ => lintBlock 0x0105 0xFF b (modPwr (fun p => { p with
      banks := vset p.banks b .lost, xmemLost := p.xmemLost || (b == 3 && p.phase == .retention) }) c)

/-- VIO_BANK_LOST. -/
def execVioBankLost (b : Fin 4) (s : State) : Out := onAlways (bankLost b.val) s

/-- VBUS_OVERVOLTAGE. -/
def execVbusOvervoltage (v : Supply) (s : State) : Out :=
  onAlways (fun c => if v.vbus ≤ 6000 ∨ c.pwr.vbusOpen then c
    else lintBlock 0x0109 0xFF 0 (modPwr (fun p => { p with vbusOpen := true }) (measure v c))) s

/-- VBUS_OVERVOLTAGE_CLEAR. -/
def execVbusOvervoltageClear (v : Supply) (s : State) : Out :=
  onAlways (fun c => if 5800 ≤ v.vbus ∨ !c.pwr.vbusOpen then c else modPwr (fun p => { p with vbusOpen := false }) (measure v c)) s

/-! ### Boot (R119 to R127) -/

/-- A bank as it is measured (R87, R88). -/
def bankAt (vioM : Bool) (mv : Nat) : BankState :=
  if 1620 ≤ mv ∧ mv ≤ 1980 then .v18 else if 3000 ≤ mv ∧ mv ≤ 3600 ∧ !vioM then .v33 else .off

/-- Step 4: the banks. -/
def bootBanks (o : BootObs) (c : Chip) : Chip :=
  let l := [bankAt false o.vioA, bankAt false o.vioB, bankAt false o.vioC, bankAt true o.vioM]
  (List.range 4).foldl (fun c b =>
    let st := l.getD b .off
    let c := modPwr (fun p => { p with banks := vset p.banks b st }) c
    if st = .off then lintBlock 0x0105 0xFF b c else c) c

/-- A density of R429. -/
def densityOk (mib : Nat) : Bool := [8, 16, 32, 64].contains mib

/-- What the probe of external memory sets. -/
def probed : XProbe → Option (XArr × Nat)
  | .none => some (.none, 0)
  | .lean m => if densityOk m then some (.lean, m) else none
  | .full m => if densityOk m then some (.full, m) else none
  | .mixed => none

/-- Step 4: external memory (R466); the package or an absent bank may leave none to find. -/
def bootXmem (o : BootObs) (c : Chip) : Chip :=
  let x := if c.board.q176 || vget c.pwr.banks 3 != .v18 then XProbe.none else o.xmem
  match probed x with
  | none => lintBlock 0x0808 0xFF 0 c
  | some (arr, d) =>
    let n := match arr with | .none => 0 | .lean => 5 | .full => 6
    let c := modMem (fun m => { m with xmem := arr, density := d }) c
    (List.range n).foldl (fun c k => setUnitReg ⟨3, k⟩ {} c) c

/-- Steps 1 to 4: clocks, the crystal of the always-on domain, the cartridge, steward SRAM and its top 64 KiB, banks and external memory. -/
def bootMemory (o : BootObs) (c : Chip) : Chip :=
  let kept := c.pwr.topKept
  let c := { measure o.supply c with clk := { c.clk with lfXtal := o.lfXtal } }
  let c := modPwr (fun p => { p with topKept := true, cls := 1, warn := warnAt { p with warn := false } o.supply.vsys, buckFails := 0 }) c
  let c := modMem (fun m => { m with cart := if o.cart then .inserted else .absent }) c
  let c := if kept then (c.mem.stewSyn.map (·.1)).foldl (fun c w => (readStew (8 * w) c).2) c else { c with lint := {} }
  bootXmem o (bootBanks o c)

/-- The fuses that a start blows: the exit fuse of SERVICE (R786), and what SCRAP has not destroyed (R791). -/
def bootFuses (c : Chip) : Chip :=
  match lifeOf c with
  | .service => burnNow .exit c
  | .scrap =>
    let l := (List.range 16).filter fun i => (slotOf c i).st != .destroyed && (slotOf c i).st != .unusable
    let c := l.foldl (fun c i =>
      let (v, c) := freeNat c
      burnNow (.destroy i (bit v 0)) c) c
    if l.isEmpty then c else lintAs true 0x1009 (blockUnit 0x1009) 0xFF 0 c
  | _ => c

/-- Recovery mode is to be entered whatever the slots hold (R127, R791). -/
def mustRecover (o : BootObs) (c : Chip) : Bool :=
  o.recovery || c.pwr.recoveryFlag || lifeOf c == .blank || lifeOf c == .scrap

/-- Step 6: the record of a cold start (R110 to R112). -/
def bootRecord (c : Chip) : Chip :=
  let flags := bitsToNat [c.pwr.fallback, c.pwr.dirCopy, c.pwr.phase == .recovery]
  let cause := c.pwr.causeLatch
  let c := if cause = 1 ∨ cause = 2 then lintAs true 0x0104 (blockUnit 0x0104) 0xFF cause c else c
  modPwr (fun p => { p with record := { cause := cause, slot := p.slot, bootFlags := flags, rideCount := p.rideCount },
                            rideCount := 0, causeLatch := 0, retLost := false }) c

/-- Recovery mode: the reason has no code and is a free value (R127). -/
def enterRecovery (c : Chip) : Chip :=
  let (d, c) := freeNat c
  let c := lintAs true 0x0108 (blockUnit 0x0108) 0xFF (d % 2 ^ 32) (modPwr (fun p => { p with phase := .recovery, slot := 0xFF, recoveryFlag := true }) c)
  bootRecord c

/-- Steps 5 and 6: the directory, the slots, the image, and Boroux or recovery mode. -/
def bootSlots (o : BootObs) (c : Chip) : Chip :=
  if mustRecover o c then enterRecovery c
  else
    let c := match bootDir c with
      | some (_, true) => lintAs true 0x010C (blockUnit 0x010C) 0xFF 0 (modPwr (fun p => { p with dirCopy := true }) c)
      | _ => c
    match bootTry (tryOrder c) c with
    | (true, c) =>
      let img := match bootSlot c c.pwr.slot with | some s => c.mem.bytes (flashBase + s.offset) s.length | none => []
      let c := modMem (fun m => m.setStewBytes 0 img) (modPwr (fun p => { p with phase := .run }) c)
      let c := applyRepair (bootRecord { c with cores := vset c.cores 6 { run := .running } })
      modSvc (fun s => { s with table := c.units }) c
    | (false, c) => enterRecovery c

/-- VBAT_VALID: the boot ROM runs. -/
def vbatValid (o : BootObs) (c : Chip) : Chip :=
  if c.pwr.phase ≠ .waitVbat ∨ c.pwr.testHigh ∨ c.pwr.buckStopped ∨ !resumeMet o.supply then c
  else bootSlots o (bootFuses (bootMemory o c))

/-- VBAT_VALID. -/
def execVbatValid (o : BootObs) (s : State) : Out := onAlways (vbatValid o) s

/-! ### The watchdog (R114, R840) -/

/-- WATCHDOG_EXPIRY. -/
def watchdog (c : Chip) : Chip :=
  if c.pwr.phase ≠ .run then c
  else
    let now := c.clk.qtime
    let c := lintBlock 0x010B 0xFF 0 c
    if c.pwr.wdFirst.any fun t => now ≤ t + 240000000 then coldStart 4 c
    else
      let c := modPwr (fun p => { p with wdFirst := some now }) c
      let other := if c.pwr.slot = 0 then 1 else 0
      if !slotConfirmed c && (bootSlot c other).any (·.confirmed) then startRestart other false none (lintBlock 0x1109 0xFF c.pwr.slot c)
      else startRestart c.pwr.slot false none c

/-- WATCHDOG_EXPIRY. -/
def execWatchdogExpiry (s : State) : Out := onChip watchdog s

/-! ### Commands (R10, R11, R137 to R139) -/

/-- SYS.INFO (Table 00.3). -/
def sysInfo (_m : Cmd) (c : Chip) : Reply × Chip :=
  let there (q : Nat) : Bool := unitState c ⟨5, q⟩ != .absent
  let fw := if c.pwr.phase = .recovery then 0 else c.pwr.fwVersion
  (.res (c.mem.xmem.code + 4 * bitsToNat ((List.range 4).map there)) (0xB1 + 2 ^ 8 * (if c.board.q176 then 2 else 1) + 2 ^ 16 * fw), c)

/-- SYS.INFO. -/
def execSysInfo (r : Req) (s : State) : Out := onChip (serve 0x0001 r sysInfo) s

/-- A reset or the off state follows 1 ms later; one asked for before goes first. -/
def deferReset (d : DeferredReset) (c : Chip) : Chip :=
  if c.pwr.deferred.isSome then c else modPwr (fun p => { p with deferred := some d, deferAt := c.clk.qtime + 24000 }) c

/-- SYS.RESET. -/
def sysReset (m : Cmd) (c : Chip) : Reply × Chip :=
  checked [chk (m.b 8 != 1 && m.b 8 != 2) .badParam] (fun c => (.ok, deferReset (if m.b 8 = 1 then .coldStart else .recoveryStart) c)) c

/-- SYS.RESET. -/
def execSysReset (r : Req) (s : State) : Out := onChip (serve 0x0002 r sysReset) s

/-- SYS.BOOT_STATUS. -/
def sysBootStatus (_m : Cmd) (c : Chip) : Reply × Chip :=
  let s := (bootSlot c c.pwr.slot).getD default
  (.res (bitsToNat [slotConfirmed c, c.pwr.fallback]) (c.pwr.slot + 2 ^ 8 * s.attempts + 2 ^ 16 * (s.version % 65536)), c)

/-- SYS.BOOT_STATUS. -/
def execSysBootStatus (r : Req) (s : State) : Out := onChip (serve 0x0003 r sysBootStatus) s

/-- PWR.STATUS. -/
def pwrStatus (_m : Cmd) (c : Chip) : Reply × Chip :=
  let p := c.pwr
  (.res (p.cls + 4 * bitsToNat [p.warn, isSource p.vbus p.vsys, isSource p.vbat p.vsys]) (p.vsys % 65536 + 2 ^ 16 * (p.vbus % 65536)), c)

/-- PWR.STATUS. -/
def execPwrStatus (r : Req) (s : State) : Out := onChip (serve 0x0101 r pwrStatus) s

/-- PWR.CONFIG. -/
def pwrConfig (m : Cmd) (c : Chip) : Reply × Chip :=
  let w := m.f 8 2
  let r := m.b 10
  let x := m.f 12 2
  checked [chk (w < 2700 || 4500 < w || r < 1 || 20 < r || m.b 11 != 0 || x < 1 || 600 < x) .badParam]
    (fun c => (.ok, modPwr (fun p => { p with vwarn := w, rideMs := r, resumeMax := x }) c)) c

/-- PWR.CONFIG. -/
def execPwrConfig (r : Req) (s : State) : Out := onChip (serve 0x0102 r pwrConfig) s

/-- The 32 bytes of the resume record (Table 02.4). -/
def ResumeRecord.bytes (r : ResumeRecord) : List Byte :=
  leBytes 1 r.kind ++ leBytes 1 r.cause ++ leBytes 2 r.lost ++ leBytes 4 r.entryFrame ++ leBytes 8 r.entryQtime ++ leBytes 4 r.durationMs
    ++ leBytes 2 r.vsysMin ++ leBytes 2 r.rideCount ++ leBytes 1 r.trigger ++ leBytes 1 r.slot ++ leBytes 1 r.bootFlags ++ leBytes 5 0

/-- PWR.RESUME_INFO. -/
def pwrResumeInfo (m : Cmd) (c : Chip) : Reply × Chip :=
  let d := m.f 8 4
  checked [chk (destDenied m c d 32) .denied, chk (!destOk m d) .badParam]
    (fun c => answerBlock m d 0 0 c.pwr.record.bytes c) c

/-- PWR.RESUME_INFO. -/
def execPwrResumeInfo (r : Req) (s : State) : Out := onChip (serve 0x0103 r pwrResumeInfo) s

/-- PWR.OFF. -/
def pwrOff (m : Cmd) (c : Chip) : Reply × Chip :=
  checked [chk (m.b 8 == 0 || 7 < m.b 8) .badParam] (fun c => (.ok, deferReset (.off (m.b 8)) c)) c

/-- PWR.OFF. -/
def execPwrOff (r : Req) (s : State) : Out := onChip (serve 0x0104 r pwrOff) s

end Sys2Proof.Machine
end

