-- ==== Sys2Proof/Machine/Dispatch.lean ====
section
/-! DEFINITION. exec: one arm per command, each one direct call of its meaning or a rejection by name. -/

namespace Sys2Proof.Machine

/-- The effect of one command on everything but the queue of waiting commands. -/
def exec (i : Instr) (s : State) : Host.Outcome State Fault Refusal :=
  match i with
  | .sysInfo r => Sys2Proof.Machine.execSysInfo r s
  | .sysReset r => Sys2Proof.Machine.execSysReset r s
  | .sysBootStatus r => Sys2Proof.Machine.execSysBootStatus r s
  | .pwrStatus r => Sys2Proof.Machine.execPwrStatus r s
  | .pwrConfig r => Sys2Proof.Machine.execPwrConfig r s
  | .pwrResumeInfo r => Sys2Proof.Machine.execPwrResumeInfo r s
  | .pwrOff r => Sys2Proof.Machine.execPwrOff r s
  | .govStatus r => Sys2Proof.Machine.execGovStatus r s
  | .govLimits r => Sys2Proof.Machine.execGovLimits r s
  | .govVote r => Sys2Proof.Machine.execGovVote r s
  | .timeLineEvent r => Sys2Proof.Machine.execTimeLineEvent r s
  | .timeDet r => Sys2Proof.Machine.execTimeDet r s
  | .partStatus r => Sys2Proof.Machine.execPartStatus r s
  | .partCreate r => Sys2Proof.Machine.execPartCreate r s
  | .partDestroy r => Sys2Proof.Machine.execPartDestroy r s
  | .partMap r => Sys2Proof.Machine.execPartMap r s
  | .partAssign r => Sys2Proof.Machine.execPartAssign r s
  | .partRelease r => Sys2Proof.Machine.execPartRelease r s
  | .partStart r => Sys2Proof.Machine.execPartStart r s
  | .partStop r => Sys2Proof.Machine.execPartStop r s
  | .partReset r => Sys2Proof.Machine.execPartReset r s
  | .partQuota r => Sys2Proof.Machine.execPartQuota r s
  | .partRights r => Sys2Proof.Machine.execPartRights r s
  | .partFocus r => Sys2Proof.Machine.execPartFocus r s
  | .mbxCancel r => Sys2Proof.Machine.execMbxCancel r s
  | .mbxStatus r => Sys2Proof.Machine.execMbxStatus r s
  | .mbxConsent r => Sys2Proof.Machine.execMbxConsent r s
  | .mbxSync r => Sys2Proof.Machine.execMbxSync r s
  | .kuvStatus r => Sys2Proof.Machine.execKuvStatus r s
  | .kuvRegs r => Sys2Proof.Machine.execKuvRegs r s
  | .guardStatus r => Sys2Proof.Machine.execGuardStatus r s
  | .hmpStatus r => Sys2Proof.Machine.execHmpStatus r s
  | .hmpRaise r => Sys2Proof.Machine.execHmpRaise r s
  | .hmpSetup r => Sys2Proof.Machine.execHmpSetup r s
  | .memStatus r => Sys2Proof.Machine.execMemStatus r s
  | .memCartMount r => Sys2Proof.Machine.execMemCartMount r s
  | .memCartUnmount r => Sys2Proof.Machine.execMemCartUnmount r s
  | .memFlashProgram r => Sys2Proof.Machine.execMemFlashProgram r s
  | .memFlashErase r => Sys2Proof.Machine.execMemFlashErase r s
  | .memRinse r => Sys2Proof.Machine.execMemRinse r s
  | .splStatus r => Sys2Proof.Machine.execSplStatus r s
  | .splSubmit r => Sys2Proof.Machine.execSplSubmit r s
  | .splResume r => Sys2Proof.Machine.execSplResume r s
  | .lyrStatus r => Sys2Proof.Machine.execLyrStatus r s
  | .lyrSetup r => Sys2Proof.Machine.execLyrSetup r s
  | .lyrEnable r => Sys2Proof.Machine.execLyrEnable r s
  | .lyrPalette r => Sys2Proof.Machine.execLyrPalette r s
  | .lyrGrant r => Sys2Proof.Machine.execLyrGrant r s
  | .stchSet r => Sys2Proof.Machine.execStchSet r s
  | .cmpStatus r => Sys2Proof.Machine.execCmpStatus r s
  | .cmpBlend r => Sys2Proof.Machine.execCmpBlend r s
  | .cmpBackground r => Sys2Proof.Machine.execCmpBackground r s
  | .cmpTone r => Sys2Proof.Machine.execCmpTone r s
  | .cmpDither r => Sys2Proof.Machine.execCmpDither r s
  | .scnStatus r => Sys2Proof.Machine.execScnStatus r s
  | .scnSelStatus r => Sys2Proof.Machine.execScnSelStatus r s
  | .scnMode r => Sys2Proof.Machine.execScnMode r s
  | .scnPanel r => Sys2Proof.Machine.execScnPanel r s
  | .scnDcs r => Sys2Proof.Machine.execScnDcs r s
  | .scnSelenite r => Sys2Proof.Machine.execScnSelenite r s
  | .sndStatus r => Sys2Proof.Machine.execSndStatus r s
  | .sndVoice r => Sys2Proof.Machine.execSndVoice r s
  | .sndEnv r => Sys2Proof.Machine.execSndEnv r s
  | .sndTone r => Sys2Proof.Machine.execSndTone r s
  | .sndStream r => Sys2Proof.Machine.execSndStream r s
  | .sndCapture r => Sys2Proof.Machine.execSndCapture r s
  | .sndGain r => Sys2Proof.Machine.execSndGain r s
  | .sndCap r => Sys2Proof.Machine.execSndCap r s
  | .sndOutput r => Sys2Proof.Machine.execSndOutput r s
  | .inpSnapshot r => Sys2Proof.Machine.execInpSnapshot r s
  | .inpConfig r => Sys2Proof.Machine.execInpConfig r s
  | .inpTouchCal r => Sys2Proof.Machine.execInpTouchCal r s
  | .ioGpio r => Sys2Proof.Machine.execIoGpio r s
  | .ioI2c r lines => Sys2Proof.Machine.execIoI2c r lines s
  | .ioSpi r => Sys2Proof.Machine.execIoSpi r s
  | .ioUart r => Sys2Proof.Machine.execIoUart r s
  | .ioPwm r => Sys2Proof.Machine.execIoPwm r s
  | .ioRumble r => Sys2Proof.Machine.execIoRumble r s
  | .ioAdc r => Sys2Proof.Machine.execIoAdc r s
  | .lnkStatus r => Sys2Proof.Machine.execLnkStatus r s
  | .lnkConfig r => Sys2Proof.Machine.execLnkConfig r s
  | .lnkChannel r => Sys2Proof.Machine.execLnkChannel r s
  | .lnkGroup r => Sys2Proof.Machine.execLnkGroup r s
  | .lnkRemote r => Sys2Proof.Machine.execLnkRemote r s
  | .lnkExport r => Sys2Proof.Machine.execLnkExport r s
  | .lnkBlock r => Sys2Proof.Machine.execLnkBlock r s
  | .lnkBeatTx r => Sys2Proof.Machine.execLnkBeatTx r s
  | .lnkBeatRx r => Sys2Proof.Machine.execLnkBeatRx r s
  | .vltStatus r => Sys2Proof.Machine.execVltStatus r s
  | .vltSlotInfo r => Sys2Proof.Machine.execVltSlotInfo r s
  | .vltNonce r => Sys2Proof.Machine.execVltNonce r s
  | .vltLoad r => Sys2Proof.Machine.execVltLoad r s
  | .vltDerive r => Sys2Proof.Machine.execVltDerive r s
  | .vltDestroy r bad => Sys2Proof.Machine.execVltDestroy r bad s
  | .vltProve r => Sys2Proof.Machine.execVltProve r s
  | .vltVerify r => Sys2Proof.Machine.execVltVerify r s
  | .vltLifecycle r bad => Sys2Proof.Machine.execVltLifecycle r bad s
  | .vltService r => Sys2Proof.Machine.execVltService r s
  | .vltFloor r => Sys2Proof.Machine.execVltFloor r s
  | .svcUnitStatus r => Sys2Proof.Machine.execSvcUnitStatus r s
  | .svcUnitReset r => Sys2Proof.Machine.execSvcUnitReset r s
  | .svcPeg r => Sys2Proof.Machine.execSvcPeg r s
  | .svcSpareMacro r => Sys2Proof.Machine.execSvcSpareMacro r s
  | .svcMigrate r => Sys2Proof.Machine.execSvcMigrate r s
  | .svcXmem r => Sys2Proof.Machine.execSvcXmem r s
  | .svcShadow r => Sys2Proof.Machine.execSvcShadow r s
  | .svcReinstate r => Sys2Proof.Machine.execSvcReinstate r s
  | .svcStage r => Sys2Proof.Machine.execSvcStage r s
  | .svcSwap r => Sys2Proof.Machine.execSvcSwap r s
  | .svcRestart r => Sys2Proof.Machine.execSvcRestart r s
  | .svcLintRead r => Sys2Proof.Machine.execSvcLintRead r s
  | .svcLintCounts r => Sys2Proof.Machine.execSvcLintCounts r s
  | .svcLintClear r => Sys2Proof.Machine.execSvcLintClear r s
  | .svcTrend r => Sys2Proof.Machine.execSvcTrend r s
  | .mov k f => Sys2Proof.Machine.execMov k f s
  | .add k f => Sys2Proof.Machine.execAdd k f s
  | .adc k f => Sys2Proof.Machine.execAdc k f s
  | .sub k f => Sys2Proof.Machine.execSub k f s
  | .sbc k f => Sys2Proof.Machine.execSbc k f s
  | .cmp k f => Sys2Proof.Machine.execCmp k f s
  | .and k f => Sys2Proof.Machine.execAnd k f s
  | .or k f => Sys2Proof.Machine.execOr k f s
  | .xor k f => Sys2Proof.Machine.execXor k f s
  | .tst k f => Sys2Proof.Machine.execTst k f s
  | .shl k f => Sys2Proof.Machine.execShl k f s
  | .shr k f => Sys2Proof.Machine.execShr k f s
  | .sar k f => Sys2Proof.Machine.execSar k f s
  | .ror k f => Sys2Proof.Machine.execRor k f s
  | .mulu k f => Sys2Proof.Machine.execMulu k f s
  | .muls k f => Sys2Proof.Machine.execMuls k f s
  | .not k d => Sys2Proof.Machine.execNot k d s
  | .neg k d => Sys2Proof.Machine.execNeg k d s
  | .inc k d => Sys2Proof.Machine.execInc k d s
  | .dec k d => Sys2Proof.Machine.execDec k d s
  | .sxt k d => Sys2Proof.Machine.execSxt k d s
  | .zxt k d => Sys2Proof.Machine.execZxt k d s
  | .swab k d => Sys2Proof.Machine.execSwab k d s
  | .clr k d => Sys2Proof.Machine.execClr k d s
  | .rds k d e => Sys2Proof.Machine.execRds k d e s
  | .wrs k e w => Sys2Proof.Machine.execWrs k e w s
  | .ld k z r m => Sys2Proof.Machine.execLd k z r m s
  | .st k z r m => Sys2Proof.Machine.execSt k z r m s
  | .lde k z r m => Sys2Proof.Machine.execLde k z r m s
  | .ste k z r m => Sys2Proof.Machine.execSte k z r m s
  | .branch k cond f => Sys2Proof.Machine.execBranch k cond f s
  | .bsr k f => Sys2Proof.Machine.execBsr k f s
  | .jmp k f => Sys2Proof.Machine.execJmp k f s
  | .call k f => Sys2Proof.Machine.execCall k f s
  | .jmpf k f => Sys2Proof.Machine.execJmpf k f s
  | .callf k f => Sys2Proof.Machine.execCallf k f s
  | .ret k => Sys2Proof.Machine.execRet k s
  | .retf k => Sys2Proof.Machine.execRetf k s
  | .reti k => Sys2Proof.Machine.execReti k s
  | .push k r => Sys2Proof.Machine.execPush k r s
  | .pop k r => Sys2Proof.Machine.execPop k r s
  | .pushf k => Sys2Proof.Machine.execPushf k s
  | .popf k => Sys2Proof.Machine.execPopf k s
  | .movi k d v => Sys2Proof.Machine.execMovi k d v s
  | .movb k e v => Sys2Proof.Machine.execMovb k e v s
  | .addi k d v => Sys2Proof.Machine.execAddi k d v s
  | .cmpi k d v => Sys2Proof.Machine.execCmpi k d v s
  | .addsp k v => Sys2Proof.Machine.execAddsp k v s
  | .nop k => Sys2Proof.Machine.execNop k s
  | .waitf k => Sys2Proof.Machine.execWaitf k s
  | .fence k => Sys2Proof.Machine.execFence k s
  | .waitb k l => Sys2Proof.Machine.execWaitb k l s
  | .ei k => Sys2Proof.Machine.execEi k s
  | .di k => Sys2Proof.Machine.execDi k s
  | .waiti k => Sys2Proof.Machine.execWaiti k s
  | .sev k n => Sys2Proof.Machine.execSev k n s
  | .trap k n => Sys2Proof.Machine.execTrap k n s
  | .rep k n o => Sys2Proof.Machine.execRep k n o s
  | .repi k o => Sys2Proof.Machine.execRepi k o s
  | .xld k word d r b => Sys2Proof.Machine.execXld k word d r b s
  | .bcpy k word d r => Sys2Proof.Machine.execBcpy k word d r s
  | .bset k word d v => Sys2Proof.Machine.execBset k word d v s
  | .bfndW k d v => Sys2Proof.Machine.execBfndW k d v s
  | .mac k d r => Sys2Proof.Machine.execMac k d r s
  | .undefinedEncoding k w => Sys2Proof.Machine.execUndefinedEncoding k w s
  | .stewardExtension k w => Sys2Proof.Machine.execStewardExtension k w s
  | .hamperInterruptEntry k => Sys2Proof.Machine.execHamperInterruptEntry k s
  | .guardEnable k background clearErr => Sys2Proof.Machine.execGuardEnable k background clearErr s
  | .guardDisable k background clearErr => Sys2Proof.Machine.execGuardDisable k background clearErr s
  | .guardRegionWrite k g reg v => Sys2Proof.Machine.execGuardRegionWrite k g reg v s
  | .frameStart o => Sys2Proof.Machine.execFrameStart o s
  | .lineStart => Sys2Proof.Machine.execLineStart s
  | .fetchComplete n dots => Sys2Proof.Machine.execFetchComplete n dots s
  | .fetchDeadline n layers groups => Sys2Proof.Machine.execFetchDeadline n layers groups s
  | .abortRasterJump => Sys2Proof.Machine.execAbortRasterJump s
  | .stormHoldEnd p => Sys2Proof.Machine.execStormHoldEnd p s
  | .lineCompose n => Sys2Proof.Machine.execLineCompose n s
  | .vcoreTargetReached => Sys2Proof.Machine.execVcoreTargetReached s
  | .thermalCap tj => Sys2Proof.Machine.execThermalCap tj s
  | .clockReferenceFallback => Sys2Proof.Machine.execClockReferenceFallback s
  | .clockReferenceReturn => Sys2Proof.Machine.execClockReferenceReturn s
  | .vcoreFollowFault out => Sys2Proof.Machine.execVcoreFollowFault out s
  | .beamLineRead k => Sys2Proof.Machine.execBeamLineRead k s
  | .qtime0Read k => Sys2Proof.Machine.execQtime0Read k s
  | .govStateRead k reg => Sys2Proof.Machine.execGovStateRead k reg s
  | .vwarnCrossing v => Sys2Proof.Machine.execVwarnCrossing v s
  | .class2Entry v => Sys2Proof.Machine.execClass2Entry v s
  | .class2End v => Sys2Proof.Machine.execClass2End v s
  | .class1Restore => Sys2Proof.Machine.execClass1Restore s
  | .rideMsExpiry => Sys2Proof.Machine.execRideMsExpiry s
  | .class3Entry v => Sys2Proof.Machine.execClass3Entry v s
  | .retentionLost v => Sys2Proof.Machine.execRetentionLost v s
  | .resumeWindowExpiry => Sys2Proof.Machine.execResumeWindowExpiry s
  | .resume o => Sys2Proof.Machine.execResume o s
  | .resumeRelease => Sys2Proof.Machine.execResumeRelease s
  | .vioBankLost b => Sys2Proof.Machine.execVioBankLost b s
  | .vbusOvervoltage v => Sys2Proof.Machine.execVbusOvervoltage v s
  | .vbusOvervoltageClear v => Sys2Proof.Machine.execVbusOvervoltageClear v s
  | .watchdogExpiry => Sys2Proof.Machine.execWatchdogExpiry s
  | .borouxStart => Sys2Proof.Machine.execBorouxStart s
  | .thermalShutdown tj => Sys2Proof.Machine.execThermalShutdown tj s
  | .buckCurrentLimit => Sys2Proof.Machine.execBuckCurrentLimit s
  | .buckRestart => Sys2Proof.Machine.execBuckRestart s
  | .powerOnReset v => Sys2Proof.Machine.execPowerOnReset v s
  | .resetNAssert => Sys2Proof.Machine.execResetNAssert s
  | .wakeFromOff src => Sys2Proof.Machine.execWakeFromOff src s
  | .vbatValid o => Sys2Proof.Machine.execVbatValid o s
  | .deferredResetStart => Sys2Proof.Machine.execDeferredResetStart s
  | .partitionResetComplete p => Sys2Proof.Machine.execPartitionResetComplete p s
  | .partitionResetOverrun p unit => Sys2Proof.Machine.execPartitionResetOverrun p unit s
  | .selfResetDelay p => Sys2Proof.Machine.execSelfResetDelay p s
  | .unitReleaseRampEnd unit => Sys2Proof.Machine.execUnitReleaseRampEnd unit s
  | .guestStallTimeout p target => Sys2Proof.Machine.execGuestStallTimeout p target s
  | .memoryRequest q => Sys2Proof.Machine.execMemoryRequest q s
  | .mergeEntryEvict xmem line => Sys2Proof.Machine.execMergeEntryEvict xmem line s
  | .externalDeviceLost d => Sys2Proof.Machine.execExternalDeviceLost d s
  | .resilverLine => Sys2Proof.Machine.execResilverLine s
  | .macroCopyRow bad => Sys2Proof.Machine.execMacroCopyRow bad s
  | .rinseVisit l => Sys2Proof.Machine.execRinseVisit l s
  | .rinsePassLate l => Sys2Proof.Machine.execRinsePassLate l s
  | .cartPageFill page => Sys2Proof.Machine.execCartPageFill page s
  | .cartRemoval => Sys2Proof.Machine.execCartRemoval s
  | .cartInsertion image => Sys2Proof.Machine.execCartInsertion image s
  | .flashOpComplete => Sys2Proof.Machine.execFlashOpComplete s
  | .flashOpTimeout => Sys2Proof.Machine.execFlashOpTimeout s
  | .darnReadRaw k => Sys2Proof.Machine.execDarnReadRaw k s
  | .darnWriteRaw k => Sys2Proof.Machine.execDarnWriteRaw k s
  | .darnWriteCheck k => Sys2Proof.Machine.execDarnWriteCheck k s
  | .cmdProdWrite k v => Sys2Proof.Machine.execCmdProdWrite k v s
  | .recordAcceptance f => Sys2Proof.Machine.execRecordAcceptance f s
  | .cplConsWrite k v => Sys2Proof.Machine.execCplConsWrite k v s
  | .postponedCompletionWrite f => Sys2Proof.Machine.execPostponedCompletionWrite f s
  | .mailboxEnable k cplEvent => Sys2Proof.Machine.execMailboxEnable k cplEvent s
  | .mailboxDisable k cplEvent => Sys2Proof.Machine.execMailboxDisable k cplEvent s
  | .resultBufferTimeout n => Sys2Proof.Machine.execResultBufferTimeout n s
  | .dataChunkTimeout h => Sys2Proof.Machine.execDataChunkTimeout h s
  | .hostRead a n => Sys2Proof.Machine.execHostRead a n s
  | .hostWrite a data => Sys2Proof.Machine.execHostWrite a data s
  | .hostQuadRead a n => Sys2Proof.Machine.execHostQuadRead a n s
  | .hostQuadWrite a data => Sys2Proof.Machine.execHostQuadWrite a data s
  | .hostPortReset => Sys2Proof.Machine.execHostPortReset s
  | .hostBadTransaction => Sys2Proof.Machine.execHostBadTransaction s
  | .usbDataItem h data => Sys2Proof.Machine.execUsbDataItem h data s
  | .usbTransferEnd rest => Sys2Proof.Machine.execUsbTransferEnd rest s
  | .usbInPacketAck => Sys2Proof.Machine.execUsbInPacketAck s
  | .usbBusReset => Sys2Proof.Machine.execUsbBusReset s
  | .usbVbusChange present => Sys2Proof.Machine.execUsbVbusChange present s
  | .usbUnsupportedRequest => Sys2Proof.Machine.execUsbUnsupportedRequest s
  | .usbSuspend => Sys2Proof.Machine.execUsbSuspend s
  | .usbResume => Sys2Proof.Machine.execUsbResume s
  | .usbInUnread => Sys2Proof.Machine.execUsbInUnread s
  | .dfuDetach => Sys2Proof.Machine.execDfuDetach s
  | .dfuDownload alt data => Sys2Proof.Machine.execDfuDownload alt data s
  | .dfuManifest => Sys2Proof.Machine.execDfuManifest s
  | .dfuUpload => Sys2Proof.Machine.execDfuUpload s
  | .linkDataChunk node handle data poison => Sys2Proof.Machine.execLinkDataChunk node handle data poison s
  | .hamperEdge p src => Sys2Proof.Machine.execHamperEdge p src s
  | .hamperLevelAssert p src => Sys2Proof.Machine.execHamperLevelAssert p src s
  | .eoi k n => Sys2Proof.Machine.execEoi k n s
  | .swRaise k n => Sys2Proof.Machine.execSwRaise k n s
  | .priRaise k level => Sys2Proof.Machine.execPriRaise k level s
  | .ringEnable k q routeEn route size => Sys2Proof.Machine.execRingEnable k q routeEn route size s
  | .ringDisable k q routeEn route size => Sys2Proof.Machine.execRingDisable k q routeEn route size s
  | .ringConsWrite k q v => Sys2Proof.Machine.execRingConsWrite k q v s
  | .postponedRecordWrite p q => Sys2Proof.Machine.execPostponedRecordWrite p q s
  | .spoolStart k ch bulk ev => Sys2Proof.Machine.execSpoolStart k ch bulk ev s
  | .spoolAbort k ch bulk ev => Sys2Proof.Machine.execSpoolAbort k ch bulk ev s
  | .spoolResumeWrite k ch bulk ev => Sys2Proof.Machine.execSpoolResumeWrite k ch bulk ev s
  | .spoolClear k ch bulk ev => Sys2Proof.Machine.execSpoolClear k ch bulk ev s
  | .spoolCancelBeforeStart k ch resume bulk ev => Sys2Proof.Machine.execSpoolCancelBeforeStart k ch resume bulk ev s
  | .spoolChainStart ch => Sys2Proof.Machine.execSpoolChainStart ch s
  | .spoolElement ch => Sys2Proof.Machine.execSpoolElement ch s
  | .spoolStall ch => Sys2Proof.Machine.execSpoolStall ch s
  | .layerHoldRelease k atFrame => Sys2Proof.Machine.execLayerHoldRelease k atFrame s
  | .paletteLowWrite k e v => Sys2Proof.Machine.execPaletteLowWrite k e v s
  | .paletteHighWrite k e v => Sys2Proof.Machine.execPaletteHighWrite k e v s
  | .layerEnableWrite k reg v => Sys2Proof.Machine.execLayerEnableWrite k reg v s
  | .stitchEnableWrite k v => Sys2Proof.Machine.execStitchEnableWrite k v s
  | .synthLock => Sys2Proof.Machine.execSynthLock s
  | .lockTimeout => Sys2Proof.Machine.execLockTimeout s
  | .lockRetry => Sys2Proof.Machine.execLockRetry s
  | .overshootCut lane hz => Sys2Proof.Machine.execOvershootCut lane hz s
  | .dcsWriteSend => Sys2Proof.Machine.execDcsWriteSend s
  | .dcsReadAnswer bad data => Sys2Proof.Machine.execDcsReadAnswer bad data s
  | .dcsReadTimeout => Sys2Proof.Machine.execDcsReadTimeout s
  | .panelSequenceWait => Sys2Proof.Machine.execPanelSequenceWait s
  | .audioSamplePeriod => Sys2Proof.Machine.execAudioSamplePeriod s
  | .mixSample lateV lateS => Sys2Proof.Machine.execMixSample lateV lateS s
  | .micSample mic bs => Sys2Proof.Machine.execMicSample mic bs s
  | .i2sInputFrame slots rate => Sys2Proof.Machine.execI2sInputFrame slots rate s
  | .i2sClockLost => Sys2Proof.Machine.execI2sClockLost s
  | .i2sClockRecovered => Sys2Proof.Machine.execI2sClockRecovered s
  | .micStuck mic => Sys2Proof.Machine.execMicStuck mic s
  | .bridgeOvercurrent => Sys2Proof.Machine.execBridgeOvercurrent s
  | .bridgeRestart => Sys2Proof.Machine.execBridgeRestart s
  | .voiceKeyOn k v ctrl => Sys2Proof.Machine.execVoiceKeyOn k v ctrl s
  | .voiceKeyOff k v ctrl => Sys2Proof.Machine.execVoiceKeyOff k v ctrl s
  | .toneKeyOn k n ctrl => Sys2Proof.Machine.execToneKeyOn k n ctrl s
  | .toneKeyOff k n ctrl => Sys2Proof.Machine.execToneKeyOff k n ctrl s
  | .soundHoldRelease k at_ => Sys2Proof.Machine.execSoundHoldRelease k at_ s
  | .ascLoRead k => Sys2Proof.Machine.execAscLoRead k s
  | .touchSample pen x1 x2 x3 y1 y2 y3 z1 z2 => Sys2Proof.Machine.execTouchSample pen x1 x2 x3 y1 y2 y3 z1 z2 s
  | .keyScan keys pins => Sys2Proof.Machine.execKeyScan keys pins s
  | .homeKeyPress => Sys2Proof.Machine.execHomeKeyPress s
  | .homeKeyRelease => Sys2Proof.Machine.execHomeKeyRelease s
  | .homeKeyHold => Sys2Proof.Machine.execHomeKeyHold s
  | .auxConversion ch code => Sys2Proof.Machine.execAuxConversion ch code s
  | .rumbleDurationEnd => Sys2Proof.Machine.execRumbleDurationEnd s
  | .rumbleTimeout => Sys2Proof.Machine.execRumbleTimeout s
  | .i2cStretchTimeout b n recovers => Sys2Proof.Machine.execI2cStretchTimeout b n recovers s
  | .uartRxByte b framing parity brk => Sys2Proof.Machine.execUartRxByte b framing parity brk s
  | .uartTxByte cts => Sys2Proof.Machine.execUartTxByte cts s
  | .uartDataWrite k v => Sys2Proof.Machine.execUartDataWrite k v s
  | .uartDataRead k => Sys2Proof.Machine.execUartDataRead k s
  | .portPresenceDetect q => Sys2Proof.Machine.execPortPresenceDetect q s
  | .trainLcw q a b => Sys2Proof.Machine.execTrainLcw q a b s
  | .trainSymbolCount q => Sys2Proof.Machine.execTrainSymbolCount q s
  | .trainingHoldoffEnd q => Sys2Proof.Machine.execTrainingHoldoffEnd q s
  | .helloReceive q serial id auth => Sys2Proof.Machine.execHelloReceive q serial id auth s
  | .authChal q nonce serial => Sys2Proof.Machine.execAuthChal q nonce serial s
  | .authResp q nonce serial mac => Sys2Proof.Machine.execAuthResp q nonce serial mac s
  | .authFin q mac => Sys2Proof.Machine.execAuthFin q mac s
  | .authTimeout q => Sys2Proof.Machine.execAuthTimeout q s
  | .quarantineExpiry q => Sys2Proof.Machine.execQuarantineExpiry q s
  | .ackLcw q seq => Sys2Proof.Machine.execAckLcw q seq s
  | .nakLcw q seq => Sys2Proof.Machine.execNakLcw q seq s
  | .creditLcw q vc n full => Sys2Proof.Machine.execCreditLcw q vc n full s
  | .departLcw q cause => Sys2Proof.Machine.execDepartLcw q cause s
  | .symbolError q => Sys2Proof.Machine.execSymbolError q s
  | .presenceLoss q => Sys2Proof.Machine.execPresenceLoss q s
  | .retransmitTimeout q => Sys2Proof.Machine.execRetransmitTimeout q s
  | .ackDelayExpiry q => Sys2Proof.Machine.execAckDelayExpiry q s
  | .creditStateRepeat q => Sys2Proof.Machine.execCreditStateRepeat q s
  | .linkPacketReceive q bytes aborted => Sys2Proof.Machine.execLinkPacketReceive q bytes aborted s
  | .topoAdvertisement q pri serial hops => Sys2Proof.Machine.execTopoAdvertisement q pri serial hops s
  | .topoAdvertiseTimer => Sys2Proof.Machine.execTopoAdvertiseTimer s
  | .advertisementExpiry q => Sys2Proof.Machine.execAdvertisementExpiry q s
  | .rootElectionTimeout => Sys2Proof.Machine.execRootElectionTimeout s
  | .gridIdOffer q at_ id => Sys2Proof.Machine.execGridIdOffer q at_ id s
  | .idRequest q serial => Sys2Proof.Machine.execIdRequest q serial s
  | .idReply q serial id => Sys2Proof.Machine.execIdReply q serial id s
  | .timeExchangeTimer => Sys2Proof.Machine.execTimeExchangeTimer s
  | .timeRequest q t2 t3 => Sys2Proof.Machine.execTimeRequest q t2 t3 s
  | .timeReply t1 t2 t3 t4 => Sys2Proof.Machine.execTimeReply t1 t2 t3 t4 s
  | .beatReceive q src frame time asc htotal vtotal pclk lag payload => Sys2Proof.Machine.execBeatReceive q src frame time asc htotal vtotal pclk lag payload s
  | .mgmtReceive q node record poison authentic => Sys2Proof.Machine.execMgmtReceive q node record poison authentic s
  | .phaseJump => Sys2Proof.Machine.execPhaseJump s
  | .holdoverExpiry => Sys2Proof.Machine.execHoldoverExpiry s
  | .channelEnable k ch bulk mcast => Sys2Proof.Machine.execChannelEnable k ch bulk mcast s
  | .channelDisable k ch bulk mcast => Sys2Proof.Machine.execChannelDisable k ch bulk mcast s
  | .txProdWrite k ch v => Sys2Proof.Machine.execTxProdWrite k ch v s
  | .linkMessageSend ch => Sys2Proof.Machine.execLinkMessageSend ch s
  | .rxConsWrite k ch v => Sys2Proof.Machine.execRxConsWrite k ch v s
  | .creditAnnounceTimer ch => Sys2Proof.Machine.execCreditAnnounceTimer ch s
  | .dataReceive => Sys2Proof.Machine.execDataReceive s
  | .ctrlOpen node ch free => Sys2Proof.Machine.execCtrlOpen node ch free s
  | .ctrlClose node ch => Sys2Proof.Machine.execCtrlClose node ch s
  | .ctrlCredit node ch free => Sys2Proof.Machine.execCtrlCredit node ch free s
  | .ctrlNak about why => Sys2Proof.Machine.execCtrlNak about why s
  | .channelStallTimeout ch => Sys2Proof.Machine.execChannelStallTimeout ch s
  | .blockReceive node group x first last data poison => Sys2Proof.Machine.execBlockReceive node group x first last data poison s
  | .blockOkReceive node x => Sys2Proof.Machine.execBlockOkReceive node x s
  | .blockTimeout => Sys2Proof.Machine.execBlockTimeout s
  | .remoteAnswerReceive node answer => Sys2Proof.Machine.execRemoteAnswerReceive node answer s
  | .remoteTimeout => Sys2Proof.Machine.execRemoteTimeout s
  | .serviceDurationEnd => Sys2Proof.Machine.execServiceDurationEnd s
  | .nonceExpiry => Sys2Proof.Machine.execNonceExpiry s
  | .shadowRotate => Sys2Proof.Machine.execShadowRotate s
  | .selfTestComplete coreOk spareOk => Sys2Proof.Machine.execSelfTestComplete coreOk spareOk s
  | .unitResetTimeout unit => Sys2Proof.Machine.execUnitResetTimeout unit s
  | .trendHourly vcore tj slack => Sys2Proof.Machine.execTrendHourly vcore tj slack s
  | .trendMonthly => Sys2Proof.Machine.execTrendMonthly s
  | .registerWrite k off v => Sys2Proof.Machine.execRegisterWrite k off v s
  | .audioSynthLock => Sys2Proof.Machine.execAudioSynthLock s
  | .vcoreFollowRecovery out => Sys2Proof.Machine.execVcoreFollowRecovery out s
  | .i2cTransferEnd b e => Sys2Proof.Machine.execI2cTransferEnd b e s
  | .spiTransferEnd data => Sys2Proof.Machine.execSpiTransferEnd data s
  | .usbCommandRecord bytes => Sys2Proof.Machine.execUsbCommandRecord bytes s
  | .usbStandardRequest q => Sys2Proof.Machine.execUsbStandardRequest q s
  | .testPinHigh high => Sys2Proof.Machine.execTestPinHigh high s

end Sys2Proof.Machine
end

