-- ==== Sys2Proof/WellFormed.lean ====
section
/-! DEFINITION. Which commands are well formed: the bounds on operands that their types do not give, and the opcode of each mailbox row. -/

namespace Sys2Proof

/-- A record of the steward's own brings PLEN bytes (Table 18.3); an accepted one is named by its handle. -/
def Req.wf (op : Nat) : Req → Bool
  | .accepted _ => true
  | .own ps => (Config.opRow op).any fun row => row.plen == ps.length

/-- A supply is reported in 16 bits of mV (PWR.STATUS). -/
def Supply.wf (v : Supply) : Bool := decide (v.vsys < 65536 ∧ v.vbus < 65536 ∧ v.vbat < 65536)

/-- Bank and supply voltages in 16 bits of mV; a device density that R429 names. -/
def BootObs.wf (o : BootObs) : Bool :=
  o.supply.wf && decide (o.vioA < 65536 ∧ o.vioB < 65536 ∧ o.vioC < 65536 ∧ o.vioM < 65536) &&
    (match o.xmem with
     | .lean n => [8, 16, 32, 64].contains n
     | .full n => [8, 16, 32, 64].contains n
     | .none => true
     | .mixed => true)

/-- The lowest VSYS of a retention is not above what VSYS can be, and the supply is one. -/
def ResumeObs.wf (o : ResumeObs) : Bool := o.supply.wf && decide (o.vsysMin < 65536)

/-- A request reads or stores 1 to 64 bytes: the length of one access (R168). -/
def MemReq.wf : MemReq → Bool
  | .read _ _ n => decide (0 < n.val)
  | .write _ _ bs => decide (0 < bs.length ∧ bs.length ≤ 64)

/-- A transfer reads at most 255 bytes (R703). -/
def I2cEnd.wf : I2cEnd → Bool
  | .done bs => decide (bs.length ≤ 255)
  | .nackAddress _ => true
  | .nackData _ => true

/-- A part of a result block is not empty. -/
def RemoteAnswer.wf : RemoteAnswer → Bool
  | .accepted _ => true
  | .result _ bs => !bs.isEmpty
  | .completed _ _ _ _ => true

/-- The opcode that a mailbox row runs (Table 18.3); an event row has none. -/
def Instr.op? : Instr → Option Nat
  | .sysInfo _ => some 0x0001
  | .sysReset _ => some 0x0002
  | .sysBootStatus _ => some 0x0003
  | .pwrStatus _ => some 0x0101
  | .pwrConfig _ => some 0x0102
  | .pwrResumeInfo _ => some 0x0103
  | .pwrOff _ => some 0x0104
  | .govStatus _ => some 0x0201
  | .govLimits _ => some 0x0202
  | .govVote _ => some 0x0203
  | .timeLineEvent _ => some 0x0210
  | .timeDet _ => some 0x0211
  | .partStatus _ => some 0x0301
  | .partCreate _ => some 0x0310
  | .partDestroy _ => some 0x0311
  | .partMap _ => some 0x0312
  | .partAssign _ => some 0x0313
  | .partRelease _ => some 0x0314
  | .partStart _ => some 0x0315
  | .partStop _ => some 0x0316
  | .partReset _ => some 0x0317
  | .partQuota _ => some 0x0318
  | .partRights _ => some 0x0319
  | .partFocus _ => some 0x031A
  | .mbxCancel _ => some 0x0401
  | .mbxStatus _ => some 0x0402
  | .mbxConsent _ => some 0x0403
  | .mbxSync _ => some 0x0404
  | .kuvStatus _ => some 0x0501
  | .kuvRegs _ => some 0x0502
  | .guardStatus _ => some 0x0601
  | .hmpStatus _ => some 0x0701
  | .hmpRaise _ => some 0x0702
  | .hmpSetup _ => some 0x0703
  | .memStatus _ => some 0x0801
  | .memCartMount _ => some 0x0810
  | .memCartUnmount _ => some 0x0811
  | .memFlashProgram _ => some 0x0812
  | .memFlashErase _ => some 0x0813
  | .memRinse _ => some 0x0820
  | .splStatus _ => some 0x0901
  | .splSubmit _ => some 0x0910
  | .splResume _ => some 0x0911
  | .lyrStatus _ => some 0x0A01
  | .lyrSetup _ => some 0x0A10
  | .lyrEnable _ => some 0x0A11
  | .lyrPalette _ => some 0x0A12
  | .lyrGrant _ => some 0x0A13
  | .stchSet _ => some 0x0A20
  | .cmpStatus _ => some 0x0B01
  | .cmpBlend _ => some 0x0B10
  | .cmpBackground _ => some 0x0B11
  | .cmpTone _ => some 0x0B12
  | .cmpDither _ => some 0x0B13
  | .scnStatus _ => some 0x0C01
  | .scnSelStatus _ => some 0x0C02
  | .scnMode _ => some 0x0C10
  | .scnPanel _ => some 0x0C11
  | .scnDcs _ => some 0x0C12
  | .scnSelenite _ => some 0x0C13
  | .sndStatus _ => some 0x0D01
  | .sndVoice _ => some 0x0D10
  | .sndEnv _ => some 0x0D11
  | .sndTone _ => some 0x0D12
  | .sndStream _ => some 0x0D13
  | .sndCapture _ => some 0x0D14
  | .sndGain _ => some 0x0D15
  | .sndCap _ => some 0x0D16
  | .sndOutput _ => some 0x0D17
  | .inpSnapshot _ => some 0x0E10
  | .inpConfig _ => some 0x0E11
  | .inpTouchCal _ => some 0x0E12
  | .ioGpio _ => some 0x0E20
  | .ioI2c _ _ => some 0x0E21
  | .ioSpi _ => some 0x0E22
  | .ioUart _ => some 0x0E23
  | .ioPwm _ => some 0x0E24
  | .ioRumble _ => some 0x0E25
  | .ioAdc _ => some 0x0E26
  | .lnkStatus _ => some 0x0F01
  | .lnkConfig _ => some 0x0F10
  | .lnkChannel _ => some 0x0F11
  | .lnkGroup _ => some 0x0F12
  | .lnkRemote _ => some 0x0F20
  | .lnkExport _ => some 0x0F21
  | .lnkBlock _ => some 0x0F22
  | .lnkBeatTx _ => some 0x0F23
  | .lnkBeatRx _ => some 0x0F24
  | .vltStatus _ => some 0x1001
  | .vltSlotInfo _ => some 0x1002
  | .vltNonce _ => some 0x1003
  | .vltLoad _ => some 0x1010
  | .vltDerive _ => some 0x1011
  | .vltDestroy _ _ => some 0x1012
  | .vltProve _ => some 0x1020
  | .vltVerify _ => some 0x1021
  | .vltLifecycle _ _ => some 0x1030
  | .vltService _ => some 0x1031
  | .vltFloor _ => some 0x1032
  | .svcUnitStatus _ => some 0x1101
  | .svcUnitReset _ => some 0x1110
  | .svcPeg _ => some 0x1111
  | .svcSpareMacro _ => some 0x1112
  | .svcMigrate _ => some 0x1113
  | .svcXmem _ => some 0x1114
  | .svcShadow _ => some 0x1115
  | .svcReinstate _ => some 0x1116
  | .svcStage _ => some 0x1120
  | .svcSwap _ => some 0x1121
  | .svcRestart _ => some 0x1122
  | .svcLintRead _ => some 0x1130
  | .svcLintCounts _ => some 0x1131
  | .svcLintClear _ => some 0x1132
  | .svcTrend _ => some 0x1133
  | .mov _ _ => none
  | .add _ _ => none
  | .adc _ _ => none
  | .sub _ _ => none
  | .sbc _ _ => none
  | .cmp _ _ => none
  | .and _ _ => none
  | .or _ _ => none
  | .xor _ _ => none
  | .tst _ _ => none
  | .shl _ _ => none
  | .shr _ _ => none
  | .sar _ _ => none
  | .ror _ _ => none
  | .mulu _ _ => none
  | .muls _ _ => none
  | .not _ _ => none
  | .neg _ _ => none
  | .inc _ _ => none
  | .dec _ _ => none
  | .sxt _ _ => none
  | .zxt _ _ => none
  | .swab _ _ => none
  | .clr _ _ => none
  | .rds _ _ _ => none
  | .wrs _ _ _ => none
  | .ld _ _ _ _ => none
  | .st _ _ _ _ => none
  | .lde _ _ _ _ => none
  | .ste _ _ _ _ => none
  | .branch _ _ _ => none
  | .bsr _ _ => none
  | .jmp _ _ => none
  | .call _ _ => none
  | .jmpf _ _ => none
  | .callf _ _ => none
  | .ret _ => none
  | .retf _ => none
  | .reti _ => none
  | .push _ _ => none
  | .pop _ _ => none
  | .pushf _ => none
  | .popf _ => none
  | .movi _ _ _ => none
  | .movb _ _ _ => none
  | .addi _ _ _ => none
  | .cmpi _ _ _ => none
  | .addsp _ _ => none
  | .nop _ => none
  | .waitf _ => none
  | .fence _ => none
  | .waitb _ _ => none
  | .ei _ => none
  | .di _ => none
  | .waiti _ => none
  | .sev _ _ => none
  | .trap _ _ => none
  | .rep _ _ _ => none
  | .repi _ _ => none
  | .xld _ _ _ _ _ => none
  | .bcpy _ _ _ _ => none
  | .bset _ _ _ _ => none
  | .bfndW _ _ _ => none
  | .mac _ _ _ => none
  | .undefinedEncoding _ _ => none
  | .stewardExtension _ _ => none
  | .hamperInterruptEntry _ => none
  | .guardEnable _ _ _ => none
  | .guardDisable _ _ _ => none
  | .guardRegionWrite _ _ _ _ => none
  | .frameStart _ => none
  | .lineStart => none
  | .fetchComplete _ _ => none
  | .fetchDeadline _ _ _ => none
  | .abortRasterJump => none
  | .stormHoldEnd _ => none
  | .lineCompose _ => none
  | .vcoreTargetReached => none
  | .thermalCap _ => none
  | .clockReferenceFallback => none
  | .clockReferenceReturn => none
  | .vcoreFollowFault _ => none
  | .beamLineRead _ => none
  | .qtime0Read _ => none
  | .govStateRead _ _ => none
  | .vwarnCrossing _ => none
  | .class2Entry _ => none
  | .class2End _ => none
  | .class1Restore => none
  | .rideMsExpiry => none
  | .class3Entry _ => none
  | .retentionLost _ => none
  | .resumeWindowExpiry => none
  | .resume _ => none
  | .resumeRelease => none
  | .vioBankLost _ => none
  | .vbusOvervoltage _ => none
  | .vbusOvervoltageClear _ => none
  | .watchdogExpiry => none
  | .borouxStart => none
  | .thermalShutdown _ => none
  | .buckCurrentLimit => none
  | .buckRestart => none
  | .powerOnReset _ => none
  | .resetNAssert => none
  | .wakeFromOff _ => none
  | .vbatValid _ => none
  | .deferredResetStart => none
  | .partitionResetComplete _ => none
  | .partitionResetOverrun _ _ => none
  | .selfResetDelay _ => none
  | .unitReleaseRampEnd _ => none
  | .guestStallTimeout _ _ => none
  | .memoryRequest _ => none
  | .mergeEntryEvict _ _ => none
  | .externalDeviceLost _ => none
  | .resilverLine => none
  | .macroCopyRow _ => none
  | .rinseVisit _ => none
  | .rinsePassLate _ => none
  | .cartPageFill _ => none
  | .cartRemoval => none
  | .cartInsertion _ => none
  | .flashOpComplete => none
  | .flashOpTimeout => none
  | .darnReadRaw _ => none
  | .darnWriteRaw _ => none
  | .darnWriteCheck _ => none
  | .cmdProdWrite _ _ => none
  | .recordAcceptance _ => none
  | .cplConsWrite _ _ => none
  | .postponedCompletionWrite _ => none
  | .mailboxEnable _ _ => none
  | .mailboxDisable _ _ => none
  | .resultBufferTimeout _ => none
  | .dataChunkTimeout _ => none
  | .hostRead _ _ => none
  | .hostWrite _ _ => none
  | .hostQuadRead _ _ => none
  | .hostQuadWrite _ _ => none
  | .hostPortReset => none
  | .hostBadTransaction => none
  | .usbDataItem _ _ => none
  | .usbTransferEnd _ => none
  | .usbInPacketAck => none
  | .usbBusReset => none
  | .usbVbusChange _ => none
  | .usbUnsupportedRequest => none
  | .usbSuspend => none
  | .usbResume => none
  | .usbInUnread => none
  | .dfuDetach => none
  | .dfuDownload _ _ => none
  | .dfuManifest => none
  | .dfuUpload => none
  | .linkDataChunk _ _ _ _ => none
  | .hamperEdge _ _ => none
  | .hamperLevelAssert _ _ => none
  | .eoi _ _ => none
  | .swRaise _ _ => none
  | .priRaise _ _ => none
  | .ringEnable _ _ _ _ _ => none
  | .ringDisable _ _ _ _ _ => none
  | .ringConsWrite _ _ _ => none
  | .postponedRecordWrite _ _ => none
  | .spoolStart _ _ _ _ => none
  | .spoolAbort _ _ _ _ => none
  | .spoolResumeWrite _ _ _ _ => none
  | .spoolClear _ _ _ _ => none
  | .spoolCancelBeforeStart _ _ _ _ _ => none
  | .spoolChainStart _ => none
  | .spoolElement _ => none
  | .spoolStall _ => none
  | .layerHoldRelease _ _ => none
  | .paletteLowWrite _ _ _ => none
  | .paletteHighWrite _ _ _ => none
  | .layerEnableWrite _ _ _ => none
  | .stitchEnableWrite _ _ => none
  | .synthLock => none
  | .lockTimeout => none
  | .lockRetry => none
  | .overshootCut _ _ => none
  | .dcsWriteSend => none
  | .dcsReadAnswer _ _ => none
  | .dcsReadTimeout => none
  | .panelSequenceWait => none
  | .audioSamplePeriod => none
  | .mixSample _ _ => none
  | .micSample _ _ => none
  | .i2sInputFrame _ _ => none
  | .i2sClockLost => none
  | .i2sClockRecovered => none
  | .micStuck _ => none
  | .bridgeOvercurrent => none
  | .bridgeRestart => none
  | .voiceKeyOn _ _ _ => none
  | .voiceKeyOff _ _ _ => none
  | .toneKeyOn _ _ _ => none
  | .toneKeyOff _ _ _ => none
  | .soundHoldRelease _ _ => none
  | .ascLoRead _ => none
  | .touchSample _ _ _ _ _ _ _ _ _ => none
  | .keyScan _ _ => none
  | .homeKeyPress => none
  | .homeKeyRelease => none
  | .homeKeyHold => none
  | .auxConversion _ _ => none
  | .rumbleDurationEnd => none
  | .rumbleTimeout => none
  | .i2cStretchTimeout _ _ _ => none
  | .uartRxByte _ _ _ _ => none
  | .uartTxByte _ => none
  | .uartDataWrite _ _ => none
  | .uartDataRead _ => none
  | .portPresenceDetect _ => none
  | .trainLcw _ _ _ => none
  | .trainSymbolCount _ => none
  | .trainingHoldoffEnd _ => none
  | .helloReceive _ _ _ _ => none
  | .authChal _ _ _ => none
  | .authResp _ _ _ _ => none
  | .authFin _ _ => none
  | .authTimeout _ => none
  | .quarantineExpiry _ => none
  | .ackLcw _ _ => none
  | .nakLcw _ _ => none
  | .creditLcw _ _ _ _ => none
  | .departLcw _ _ => none
  | .symbolError _ => none
  | .presenceLoss _ => none
  | .retransmitTimeout _ => none
  | .ackDelayExpiry _ => none
  | .creditStateRepeat _ => none
  | .linkPacketReceive _ _ _ => none
  | .topoAdvertisement _ _ _ _ => none
  | .topoAdvertiseTimer => none
  | .advertisementExpiry _ => none
  | .rootElectionTimeout => none
  | .gridIdOffer _ _ _ => none
  | .idRequest _ _ => none
  | .idReply _ _ _ => none
  | .timeExchangeTimer => none
  | .timeRequest _ _ _ => none
  | .timeReply _ _ _ _ => none
  | .beatReceive _ _ _ _ _ _ _ _ _ _ => none
  | .mgmtReceive _ _ _ _ _ => none
  | .phaseJump => none
  | .holdoverExpiry => none
  | .channelEnable _ _ _ _ => none
  | .channelDisable _ _ _ _ => none
  | .txProdWrite _ _ _ => none
  | .linkMessageSend _ => none
  | .rxConsWrite _ _ _ => none
  | .creditAnnounceTimer _ => none
  | .dataReceive => none
  | .ctrlOpen _ _ _ => none
  | .ctrlClose _ _ => none
  | .ctrlCredit _ _ _ => none
  | .ctrlNak _ _ => none
  | .channelStallTimeout _ => none
  | .blockReceive _ _ _ _ _ _ _ => none
  | .blockOkReceive _ _ => none
  | .blockTimeout => none
  | .remoteAnswerReceive _ _ => none
  | .remoteTimeout => none
  | .serviceDurationEnd => none
  | .nonceExpiry => none
  | .shadowRotate => none
  | .selfTestComplete _ _ => none
  | .unitResetTimeout _ => none
  | .trendHourly _ _ _ => none
  | .trendMonthly => none
  | .registerWrite _ _ _ => none
  | .audioSynthLock => none
  | .vcoreFollowRecovery _ => none
  | .i2cTransferEnd _ _ => none
  | .spiTransferEnd _ => none
  | .usbCommandRecord _ => none
  | .usbStandardRequest _ => none
  | .testPinHigh _ => none

/-- The command is well formed. -/
def Instr.wf : Instr → Bool
  | .sysInfo r => r.wf 0x0001
  | .sysReset r => r.wf 0x0002
  | .sysBootStatus r => r.wf 0x0003
  | .pwrStatus r => r.wf 0x0101
  | .pwrConfig r => r.wf 0x0102
  | .pwrResumeInfo r => r.wf 0x0103
  | .pwrOff r => r.wf 0x0104
  | .govStatus r => r.wf 0x0201
  | .govLimits r => r.wf 0x0202
  | .govVote r => r.wf 0x0203
  | .timeLineEvent r => r.wf 0x0210
  | .timeDet r => r.wf 0x0211
  | .partStatus r => r.wf 0x0301
  | .partCreate r => r.wf 0x0310
  | .partDestroy r => r.wf 0x0311
  | .partMap r => r.wf 0x0312
  | .partAssign r => r.wf 0x0313
  | .partRelease r => r.wf 0x0314
  | .partStart r => r.wf 0x0315
  | .partStop r => r.wf 0x0316
  | .partReset r => r.wf 0x0317
  | .partQuota r => r.wf 0x0318
  | .partRights r => r.wf 0x0319
  | .partFocus r => r.wf 0x031A
  | .mbxCancel r => r.wf 0x0401
  | .mbxStatus r => r.wf 0x0402
  | .mbxConsent r => r.wf 0x0403
  | .mbxSync r => r.wf 0x0404
  | .kuvStatus r => r.wf 0x0501
  | .kuvRegs r => r.wf 0x0502
  | .guardStatus r => r.wf 0x0601
  | .hmpStatus r => r.wf 0x0701
  | .hmpRaise r => r.wf 0x0702
  | .hmpSetup r => r.wf 0x0703
  | .memStatus r => r.wf 0x0801
  | .memCartMount r => r.wf 0x0810
  | .memCartUnmount r => r.wf 0x0811
  | .memFlashProgram r => r.wf 0x0812
  | .memFlashErase r => r.wf 0x0813
  | .memRinse r => r.wf 0x0820
  | .splStatus r => r.wf 0x0901
  | .splSubmit r => r.wf 0x0910
  | .splResume r => r.wf 0x0911
  | .lyrStatus r => r.wf 0x0A01
  | .lyrSetup r => r.wf 0x0A10
  | .lyrEnable r => r.wf 0x0A11
  | .lyrPalette r => r.wf 0x0A12
  | .lyrGrant r => r.wf 0x0A13
  | .stchSet r => r.wf 0x0A20
  | .cmpStatus r => r.wf 0x0B01
  | .cmpBlend r => r.wf 0x0B10
  | .cmpBackground r => r.wf 0x0B11
  | .cmpTone r => r.wf 0x0B12
  | .cmpDither r => r.wf 0x0B13
  | .scnStatus r => r.wf 0x0C01
  | .scnSelStatus r => r.wf 0x0C02
  | .scnMode r => r.wf 0x0C10
  | .scnPanel r => r.wf 0x0C11
  | .scnDcs r => r.wf 0x0C12
  | .scnSelenite r => r.wf 0x0C13
  | .sndStatus r => r.wf 0x0D01
  | .sndVoice r => r.wf 0x0D10
  | .sndEnv r => r.wf 0x0D11
  | .sndTone r => r.wf 0x0D12
  | .sndStream r => r.wf 0x0D13
  | .sndCapture r => r.wf 0x0D14
  | .sndGain r => r.wf 0x0D15
  | .sndCap r => r.wf 0x0D16
  | .sndOutput r => r.wf 0x0D17
  | .inpSnapshot r => r.wf 0x0E10
  | .inpConfig r => r.wf 0x0E11
  | .inpTouchCal r => r.wf 0x0E12
  | .ioGpio r => r.wf 0x0E20
  | .ioI2c r _ => r.wf 0x0E21
  | .ioSpi r => r.wf 0x0E22
  | .ioUart r => r.wf 0x0E23
  | .ioPwm r => r.wf 0x0E24
  | .ioRumble r => r.wf 0x0E25
  | .ioAdc r => r.wf 0x0E26
  | .lnkStatus r => r.wf 0x0F01
  | .lnkConfig r => r.wf 0x0F10
  | .lnkChannel r => r.wf 0x0F11
  | .lnkGroup r => r.wf 0x0F12
  | .lnkRemote r => r.wf 0x0F20
  | .lnkExport r => r.wf 0x0F21
  | .lnkBlock r => r.wf 0x0F22
  | .lnkBeatTx r => r.wf 0x0F23
  | .lnkBeatRx r => r.wf 0x0F24
  | .vltStatus r => r.wf 0x1001
  | .vltSlotInfo r => r.wf 0x1002
  | .vltNonce r => r.wf 0x1003
  | .vltLoad r => r.wf 0x1010
  | .vltDerive r => r.wf 0x1011
  | .vltDestroy r _ => r.wf 0x1012
  | .vltProve r => r.wf 0x1020
  | .vltVerify r => r.wf 0x1021
  | .vltLifecycle r _ => r.wf 0x1030
  | .vltService r => r.wf 0x1031
  | .vltFloor r => r.wf 0x1032
  | .svcUnitStatus r => r.wf 0x1101
  | .svcUnitReset r => r.wf 0x1110
  | .svcPeg r => r.wf 0x1111
  | .svcSpareMacro r => r.wf 0x1112
  | .svcMigrate r => r.wf 0x1113
  | .svcXmem r => r.wf 0x1114
  | .svcShadow r => r.wf 0x1115
  | .svcReinstate r => r.wf 0x1116
  | .svcStage r => r.wf 0x1120
  | .svcSwap r => r.wf 0x1121
  | .svcRestart r => r.wf 0x1122
  | .svcLintRead r => r.wf 0x1130
  | .svcLintCounts r => r.wf 0x1131
  | .svcLintClear r => r.wf 0x1132
  | .svcTrend r => r.wf 0x1133
  | .mov _ _ => true
  | .add _ _ => true
  | .adc _ _ => true
  | .sub _ _ => true
  | .sbc _ _ => true
  | .cmp _ _ => true
  | .and _ _ => true
  | .or _ _ => true
  | .xor _ _ => true
  | .tst _ _ => true
  | .shl _ _ => true
  | .shr _ _ => true
  | .sar _ _ => true
  | .ror _ _ => true
  | .mulu _ _ => true
  | .muls _ _ => true
  | .not _ _ => true
  | .neg _ _ => true
  | .inc _ _ => true
  | .dec _ _ => true
  | .sxt _ _ => true
  | .zxt _ _ => true
  | .swab _ _ => true
  | .clr _ _ => true
  | .rds _ _ _ => true
  | .wrs _ _ _ => true
  | .ld _ _ _ _ => true
  | .st _ _ _ _ => true
  | .lde _ _ _ _ => true
  | .ste _ _ _ _ => true
  | .branch _ _ _ => true
  | .bsr _ _ => true
  | .jmp _ _ => true
  | .call _ _ => true
  | .jmpf _ _ => true
  | .callf _ _ => true
  | .ret _ => true
  | .retf _ => true
  | .reti _ => true
  | .push _ _ => true
  | .pop _ _ => true
  | .pushf _ => true
  | .popf _ => true
  | .movi _ _ _ => true
  | .movb _ _ _ => true
  | .addi _ _ _ => true
  | .cmpi _ _ _ => true
  | .addsp _ _ => true
  | .nop _ => true
  | .waitf _ => true
  | .fence _ => true
  | .waitb _ _ => true
  | .ei _ => true
  | .di _ => true
  | .waiti _ => true
  | .sev _ _ => true
  | .trap _ _ => true
  | .rep _ _ _ => true
  | .repi _ _ => true
  | .xld _ _ _ _ _ => true
  | .bcpy _ _ _ _ => true
  | .bset _ _ _ _ => true
  | .bfndW _ _ _ => true
  | .mac _ _ _ => true
  | .undefinedEncoding _ w => decide (w.toNat < 0xF000)
  | .stewardExtension _ w => decide (0xF000 ≤ w.toNat)
  | .hamperInterruptEntry _ => true
  | .guardEnable _ _ _ => true
  | .guardDisable _ _ _ => true
  | .guardRegionWrite _ _ _ _ => true
  | .frameStart _ => true
  | .lineStart => true
  | .fetchComplete _ _ => true
  | .fetchDeadline _ _ _ => true
  | .abortRasterJump => true
  | .stormHoldEnd _ => true
  | .lineCompose _ => true
  | .vcoreTargetReached => true
  | .thermalCap _ => true
  | .clockReferenceFallback => true
  | .clockReferenceReturn => true
  | .vcoreFollowFault _ => true
  | .beamLineRead _ => true
  | .qtime0Read _ => true
  | .govStateRead _ _ => true
  | .vwarnCrossing v => v.wf
  | .class2Entry v => v.wf
  | .class2End v => v.wf
  | .class1Restore => true
  | .rideMsExpiry => true
  | .class3Entry v => v.wf
  | .retentionLost v => v.wf
  | .resumeWindowExpiry => true
  | .resume o => o.wf
  | .resumeRelease => true
  | .vioBankLost _ => true
  | .vbusOvervoltage v => v.wf
  | .vbusOvervoltageClear v => v.wf
  | .watchdogExpiry => true
  | .borouxStart => true
  | .thermalShutdown _ => true
  | .buckCurrentLimit => true
  | .buckRestart => true
  | .powerOnReset v => v.wf
  | .resetNAssert => true
  | .wakeFromOff _ => true
  | .vbatValid o => o.wf
  | .deferredResetStart => true
  | .partitionResetComplete _ => true
  | .partitionResetOverrun _ _ => true
  | .selfResetDelay _ => true
  | .unitReleaseRampEnd _ => true
  | .guestStallTimeout _ _ => true
  | .memoryRequest q => q.wf
  | .mergeEntryEvict _ _ => true
  | .externalDeviceLost _ => true
  | .resilverLine => true
  | .macroCopyRow _ => true
  | .rinseVisit _ => true
  | .rinsePassLate _ => true
  | .cartPageFill _ => true
  | .cartRemoval => true
  | .cartInsertion image => image.all fun bs => decide (0 < bs.length ∧ bs.length ≤ 0x10000000)
  | .flashOpComplete => true
  | .flashOpTimeout => true
  | .darnReadRaw _ => true
  | .darnWriteRaw _ => true
  | .darnWriteCheck _ => true
  | .cmdProdWrite _ _ => true
  | .recordAcceptance _ => true
  | .cplConsWrite _ _ => true
  | .postponedCompletionWrite _ => true
  | .mailboxEnable _ _ => true
  | .mailboxDisable _ _ => true
  | .resultBufferTimeout _ => true
  | .dataChunkTimeout _ => true
  | .hostRead _ n => decide (0 < n)
  | .hostWrite _ data => !data.isEmpty
  | .hostQuadRead _ n => decide (0 < n)
  | .hostQuadWrite _ data => !data.isEmpty
  | .hostPortReset => true
  | .hostBadTransaction => true
  | .usbDataItem _ data => decide (0 < data.length ∧ data.length ≤ 1024)
  | .usbTransferEnd rest => !rest.isEmpty
  | .usbInPacketAck => true
  | .usbBusReset => true
  | .usbVbusChange _ => true
  | .usbUnsupportedRequest => true
  | .usbSuspend => true
  | .usbResume => true
  | .usbInUnread => true
  | .dfuDetach => true
  | .dfuDownload _ data => !data.isEmpty
  | .dfuManifest => true
  | .dfuUpload => true
  | .linkDataChunk _ _ data _ => decide (0 < data.length ∧ data.length ≤ 60)
  | .hamperEdge _ _ => true
  | .hamperLevelAssert _ _ => true
  | .eoi _ _ => true
  | .swRaise _ _ => true
  | .priRaise _ _ => true
  | .ringEnable _ _ _ _ _ => true
  | .ringDisable _ _ _ _ _ => true
  | .ringConsWrite _ _ _ => true
  | .postponedRecordWrite _ _ => true
  | .spoolStart _ _ _ _ => true
  | .spoolAbort _ _ _ _ => true
  | .spoolResumeWrite _ _ _ _ => true
  | .spoolClear _ _ _ _ => true
  | .spoolCancelBeforeStart _ _ _ _ _ => true
  | .spoolChainStart _ => true
  | .spoolElement _ => true
  | .spoolStall _ => true
  | .layerHoldRelease _ _ => true
  | .paletteLowWrite _ _ _ => true
  | .paletteHighWrite _ _ _ => true
  | .layerEnableWrite _ _ _ => true
  | .stitchEnableWrite _ _ => true
  | .synthLock => true
  | .lockTimeout => true
  | .lockRetry => true
  | .overshootCut _ _ => true
  | .dcsWriteSend => true
  | .dcsReadAnswer _ data => decide (0 < data.length)
  | .dcsReadTimeout => true
  | .panelSequenceWait => true
  | .audioSamplePeriod => true
  | .mixSample _ _ => true
  | .micSample _ _ => true
  | .i2sInputFrame slots _ => decide (0 < slots.length ∧ slots.length ≤ 16)
  | .i2sClockLost => true
  | .i2sClockRecovered => true
  | .micStuck _ => true
  | .bridgeOvercurrent => true
  | .bridgeRestart => true
  | .voiceKeyOn _ _ _ => true
  | .voiceKeyOff _ _ _ => true
  | .toneKeyOn _ _ _ => true
  | .toneKeyOff _ _ _ => true
  | .soundHoldRelease _ _ => true
  | .ascLoRead _ => true
  | .touchSample _ _ _ _ _ _ _ _ _ => true
  | .keyScan _ _ => true
  | .homeKeyPress => true
  | .homeKeyRelease => true
  | .homeKeyHold => true
  | .auxConversion _ _ => true
  | .rumbleDurationEnd => true
  | .rumbleTimeout => true
  | .i2cStretchTimeout _ _ _ => true
  | .uartRxByte _ _ _ _ => true
  | .uartTxByte _ => true
  | .uartDataWrite _ _ => true
  | .uartDataRead _ => true
  | .portPresenceDetect _ => true
  | .trainLcw _ _ _ => true
  | .trainSymbolCount _ => true
  | .trainingHoldoffEnd _ => true
  | .helloReceive _ _ _ _ => true
  | .authChal _ _ _ => true
  | .authResp _ _ _ _ => true
  | .authFin _ _ => true
  | .authTimeout _ => true
  | .quarantineExpiry _ => true
  | .ackLcw _ _ => true
  | .nakLcw _ _ => true
  | .creditLcw _ _ _ _ => true
  | .departLcw _ _ => true
  | .symbolError _ => true
  | .presenceLoss _ => true
  | .retransmitTimeout _ => true
  | .ackDelayExpiry _ => true
  | .creditStateRepeat _ => true
  | .linkPacketReceive _ bytes _ => decide (bytes.length ≤ 74)
  | .topoAdvertisement _ _ _ _ => true
  | .topoAdvertiseTimer => true
  | .advertisementExpiry _ => true
  | .rootElectionTimeout => true
  | .gridIdOffer _ _ _ => true
  | .idRequest _ _ => true
  | .idReply _ _ _ => true
  | .timeExchangeTimer => true
  | .timeRequest _ t2 t3 => decide (t2 ≤ t3)
  | .timeReply t1 t2 t3 t4 => decide (t1 ≤ t4 ∧ t2 ≤ t3)
  | .beatReceive _ _ _ _ _ _ _ _ _ payload => decide (payload.length = 32)
  | .mgmtReceive _ _ _ _ _ => true
  | .phaseJump => true
  | .holdoverExpiry => true
  | .channelEnable _ _ _ _ => true
  | .channelDisable _ _ _ _ => true
  | .txProdWrite _ _ _ => true
  | .linkMessageSend _ => true
  | .rxConsWrite _ _ _ => true
  | .creditAnnounceTimer _ => true
  | .dataReceive => true
  | .ctrlOpen _ _ _ => true
  | .ctrlClose _ _ => true
  | .ctrlCredit _ _ _ => true
  | .ctrlNak _ _ => true
  | .channelStallTimeout _ => true
  | .blockReceive _ _ _ _ _ data _ => decide (0 < data.length ∧ data.length ≤ 64)
  | .blockOkReceive _ _ => true
  | .blockTimeout => true
  | .remoteAnswerReceive _ answer => answer.wf
  | .remoteTimeout => true
  | .serviceDurationEnd => true
  | .nonceExpiry => true
  | .shadowRotate => true
  | .selfTestComplete _ _ => true
  | .unitResetTimeout _ => true
  | .trendHourly _ _ _ => true
  | .trendMonthly => true
  | .registerWrite _ _ _ => true
  | .audioSynthLock => true
  | .vcoreFollowRecovery _ => true
  | .i2cTransferEnd _ e => e.wf
  | .spiTransferEnd data => !data.isEmpty
  | .usbCommandRecord bytes => decide (bytes.length = 32)
  | .usbStandardRequest _ => true
  | .testPinHigh _ => true

end Sys2Proof
end

