-- ==== Sys2Proof/Safety.lean ====
section
/-! DEFINITION. What counts as a safe run, and the terms claims are stated in: when a mailbox row runs, what it answers, and what fuses may do. -/

namespace Sys2Proof.Machine

/-! ### Runs -/

/-- The machine answers a next state. -/
def goesOn : Out → Bool
  | .next _ => true
  | _ => false

/-- n steps from s, none of which stops. -/
def safeRun : Nat → State → Bool
  | 0, _ => true
  | n + 1, s => match step s with
    | .next t => safeRun n t
    | _ => false

/-- The one command that can stop the block: a steward extension on the steward core (R276). -/
def stops : Instr → Bool
  | .stewardExtension k _ => k.val == 6
  | _ => false

/-! ### What a meaning answers -/

/-- s with its chip changed to c; of the fuses, those before and those c has blown. -/
def State.settle (s : State) (c : Chip) : State := { s with chip := settleFuses s.chip.fuses c }

/-- s after command m has been answered on chip c. -/
def State.answered (s : State) (m : Cmd) (r : Reply) (c : Chip) : State := s.settle (answer m (r, c))

/-- The chip serves commands from the ring, the ports or the steward, in phase `run`. -/
abbrev awake (c : Chip) : Prop := c.pwr.phase = .run

/-- Mailbox row r of an opcode runs command m in s: the steward serves, m is taken, and checks 1 to 3 of Table 18.4 pass. -/
abbrev Runs (op : Nat) (s : State) (r : Req) (m : Cmd) : Prop :=
  awake s.chip ∧ takeReq r op s.chip = some m ∧ m.ptrDenied = false ∧ (m.paramPoison || m.tagPoison) = false ∧
    (Config.opRow op).any (fun row => originOk s.chip row.origin m.org) = true

/-- Mailbox row i of opcode op, whenever it runs a command that meets pre, answers rep on the chip eff and leaves the rest of s as it is. -/
def Answers (op : Nat) (i : Req → Instr) (pre : Chip → Cmd → Prop) (rep : Chip → Cmd → Reply) (eff : Chip → Cmd → Chip) : Prop :=
  ∀ s r m, Runs op s r m → pre s.chip m → exec (i r) s = .next (s.answered m (rep s.chip m) (eff s.chip m))

/-- Event row i, on a chip in phase `run` that meets pre, makes eff of the chip and leaves the rest of s as it is. -/
def Makes (i : Instr) (pre : Chip → Prop) (eff : Chip → Chip) : Prop :=
  ∀ s, awake s.chip → pre s.chip → exec i s = .next (s.settle (eff s.chip))

/-- Row i of the supply monitor, the pins or the always-on domain, in whatever phase pre allows, makes eff of the chip. -/
def MakesIn (i : Instr) (pre : Chip → Prop) (eff : Chip → Chip) : Prop :=
  ∀ s, pre s.chip → exec i s = .next (s.settle (eff s.chip))

/-- What went out on the link before is shown no longer. -/
def linkQuiet (c : Chip) : Chip := modLink (fun l => { l with sent := [] }) c

/-- Row i of the link, on a chip that meets pre, makes eff of the chip, and what waits for the link then goes out (R245). -/
def MakesLinked (i : Instr) (pre : Chip → Prop) (eff : Chip → Chip) : Prop :=
  Makes i (fun c => pre (linkQuiet c)) (fun c => linkFlush (eff (linkQuiet c)))

/-- Mailbox row i of the link, whenever it runs a command that meets pre, answers rep on the chip eff, and what waits for the link then
goes out (R245). -/
def AnswersLinked (op : Nat) (i : Req → Instr) (pre : Chip → Cmd → Prop) (rep : Reply) (eff : Chip → Cmd → Chip) : Prop :=
  ∀ s r m, Runs op { s with chip := linkQuiet s.chip } r m → pre (linkQuiet s.chip) m →
    exec (i r) s = .next (s.settle (linkFlush (answer m (rep, eff (linkQuiet s.chip) m))))

/-! ### Kuval instructions (R265, R271, R294, R300) -/

/-- Core k executes an instruction of n words: it runs, and fetching no word of it is refused (R271, R353). -/
abbrev Executes (c : Chip) (k n : Nat) : Prop := canRun c k = true ∧ fetchFault c k n = none

/-- The chip as the body of an instruction sees it: the load that waited has left its place and lands behind the body (R295). -/
def noLoad (k : Nat) (c : Chip) : Chip := modCore k (fun x => { x with pend := none }) c

/-- The end of an instruction: a load that waited lands, and RF is 0 (R295, R303). -/
def retired (old : Option PendLoad) (x : Core) : Core := { landOld old x with fl := { (landOld old x).fl with rf := false } }

/-- An instruction of n words that works on its core alone: eff, then the next instruction. -/
def Core.after (n : Nat) (eff : Core → Core) (x : Core) : Core := retired x.pend { eff { x with pend := none } with pc := x.next n }

/-- Instruction i of core k, n words long, does eff to its core, goes on to the next instruction, and leaves the rest of s as it is. -/
def Steps (i : Instr) (k : CoreId) (n : Nat) (eff : Core → Core) : Prop :=
  ∀ s, Executes s.chip k n → exec i s = .next (s.settle (modCore k (Core.after n eff) s.chip))

/-- Instruction i of core k, n words long, does eff to the chip when pre holds, and then ends: a load that waited lands, RF is 0. -/
def Does (i : Instr) (k : CoreId) (n : Nat) (pre : Chip → Prop) (eff : Chip → Chip) : Prop :=
  ∀ s, Executes s.chip k n → pre (noLoad k s.chip) →
    exec i s = .next (s.settle (modCore k (retired (coreOf s.chip k).pend) (eff (noLoad k s.chip))))

/-- Instruction i of core k, n words long, raises fault f when pre holds, with none of its own effect (R331). -/
def Faults (i : Instr) (k : CoreId) (n : Nat) (pre : Chip → Prop) (f : Flt) : Prop :=
  ∀ s, Executes s.chip k n → pre (noLoad k s.chip) → exec i s = .next (s.settle (raiseFault k f s.chip))

/-- Instruction i of core k, which lands a waiting load first (R297), does eff to the chip and keeps no load. -/
def DoesLanded (i : Instr) (k : CoreId) (n : Nat) (pre : Chip → Prop) (eff : Chip → Chip) : Prop :=
  ∀ s, canRun s.chip k = true → fetchFault (landNow k s.chip) k n = none → pre (noLoad k (landNow k s.chip)) →
    exec i s = .next (s.settle (modCore k (retired (coreOf (landNow k s.chip) k).pend) (eff (noLoad k (landNow k s.chip)))))

/-- As `DoesLanded`, for an instruction that sets RF itself. -/
def DoesKeepRf (i : Instr) (k : CoreId) (n : Nat) (pre : Chip → Prop) (eff : Chip → Chip) : Prop :=
  ∀ s, canRun s.chip k = true → fetchFault (landNow k s.chip) k n = none → pre (noLoad k (landNow k s.chip)) →
    exec i s = .next (s.settle (modCore k (landOld (coreOf (landNow k s.chip) k).pend) (eff (noLoad k (landNow k s.chip)))))

/-- A two-operand operation on Wd with a second operand v tagged vt: the result where it is written, flags and tags (Table 05.11, R343, R344). -/
def shortAlu (o : AluOp) (d v : Nat) (vt : Bool) (x : Core) : Core :=
  let r := aluOp o 16 (x.reg d) v (b2n x.fl.c)
  let t := (o.readsDest && x.tag d) || vt || (o.readsFl && x.flTag)
  setFlags r t (if o.writes then x.setReg d r.res t else x)

/-- The same on pairs. -/
def longAlu (o : AluOp) (p q : Nat) (x : Core) : Core :=
  let r := aluOp o 32 (x.pair p) (x.pair q) (b2n x.fl.c)
  let t := (o.readsDest && x.pairTag p) || x.pairTag q || (o.readsFl && x.flTag)
  setFlags r t (if o.writes then x.setPair p r.res t else x)

/-- A shift of Wd by the low four bits of v, tagged vt (R278). -/
def shiftBy (o : ShiftOp) (d v : Nat) (vt : Bool) (x : Core) : Core :=
  let r := shiftFlags o (x.reg d) (v % 16)
  setFlags r (x.tag d || vt) (x.setReg d r.res (x.tag d || vt))

/-- A product of Wd and v, tagged vt, to the pair of Wd (R279, R345). -/
def multiply (signed : Bool) (d v : Nat) (vt : Bool) (x : Core) : Core :=
  let r := mulFlags signed (x.reg d) v
  setFlags r (x.tag d || vt) (x.setPair (d / 2) r.res (x.tag d || vt))

/-- A unary operation on Wd (R281). -/
def unary (o : UnaryOp) (d : Nat) (x : Core) : Core :=
  setFlags (unaryOp o (x.reg d)) (x.tag d) (x.setReg d (unaryOp o (x.reg d)).res (x.tag d))

/-! ### Window registers (R162, R163, R864, R865) -/

/-- Core k reads or writes window register off: it runs, the access is refused nothing, and the register's window is open to its partition. -/
abbrev Reaches (c : Chip) (k : Nat) (right : Right) (off : Nat) : Prop :=
  canRun c k = true ∧ dataFaultAt c k [winAcc right off] none none = none ∧ inWindow c (corePart c k) (0xFF0000 + off) = true ∧
    winOpen c (corePart c k) off = true

/-- Row i reads window register off: what it reads, and what the read itself changes. -/
def ReadsReg (i : Instr) (k : CoreId) (off : Nat) (val : Chip → Nat) (eff : Chip → Chip) : Prop :=
  ∀ s, Reaches s.chip k .r off → exec i s = .next (s.settle { eff s.chip with memReply := { bytes := clean (leBytes 2 (val s.chip)) } })

/-- Row i writes window register off, and where pre holds makes eff of the chip; p is the core's partition. -/
def WritesReg (i : Instr) (k : CoreId) (off : Nat) (pre : Nat → Chip → Prop) (eff : Nat → Chip → Chip) : Prop :=
  ∀ s, Reaches s.chip k .w off → pre (corePart s.chip k) s.chip → exec i s = .next (s.settle (eff (corePart s.chip k) s.chip))

/-! ### Fuses (R778, R782, R801) -/

/-- A slot may go from one state to another: a key is taken once, and a destroyed slot stays so. -/
def Slot.advance (a b : Slot) : Prop :=
  a = b ∨ (a.st = .empty ∧ b.st ≠ .empty) ∨ (a.st = .loaded ∧ (b.st = .destroyed ∨ b.st = .unusable) ∧ b.key = .none)

/-- Fuses only blow. -/
structure Fuses.Advance (a b : Fuses) : Prop where
  serial : b.serial = a.serial
  maker : a.maker = true → b.maker = true
  field : a.field = true → b.field = true
  scrap : a.scrap = true → b.scrap = true
  entries : a.entries ≤ b.entries
  exits : a.exits ≤ b.exits
  floor : a.floor ≤ b.floor
  slots : ∀ i, i < 16 → Slot.advance (a.slots.toList.getD i {}) (b.slots.toList.getD i {})

/-- The fuses a chip can have: at most eight SERVICE entries and exits, and no key in a slot that is not loaded. -/
structure Fuses.Legal (f : Fuses) : Prop where
  entries : f.entries ≤ 8
  exits : f.exits ≤ 8
  keys : ∀ i, i < 16 → (f.slots.toList.getD i {}).st ≠ .loaded → (f.slots.toList.getD i {}).key = .none

end Sys2Proof.Machine
end

