-- ==== Sys2Proof/Certificates/Slice0/Obligations.lean ====
section
/-! DEFINITION. The statements about the model, from the numbered rules of the spec. -/

open Sys2Proof Sys2Proof.Machine

/-- The command at the front of the queue is the one that runs, on the state with the queue's rest. -/
def Obligations.FrontCommandRuns : Prop :=
  (∀ (s : State) (i : Instr) (rest : List Instr), step { s with pending := i :: rest } = exec i { s with pending := rest }) ∧
  (∀ (s : State) (i : Instr), s.pending = [] → step { s with pending := [i] } = exec i s)

/-- The queue is first in, first out: a step that goes on takes its front command off and puts nothing in, whatever the command does; on an
empty queue the step is a tick of Quartz time, and while the chip sleeps it leaves the chip as it is but for settled fuses (log entry 4). -/
def Obligations.QueueIsFifo : Prop :=
  (∀ s t : State, step s = .next t → t.pending = s.pending.tail) ∧
  (∀ s : State, s.pending = [] → asleep s.chip = false → step s = .next (s.settle (tick s.chip))) ∧
  (∀ s : State, s.pending = [] → asleep s.chip = true → step s = .next (s.settle s.chip)) ∧
  (∀ (s : State) (r : Refusal), step s = .refused r → r = .unpublishedExtension ∧ ∃ k w rest, k.val = 6 ∧ s.pending = .stewardExtension k w :: rest) ∧
  (∀ (s : State) (f : Fault), step s ≠ .fault f)

/-- What is programmed once stays programmed (R778, R782, R788, R801): from every state, a step that goes on leaves the serial as it is, blows
fuses and restores none, never lowers the rollback floor or a count of SERVICE, loads a slot only from EMPTY and never makes it EMPTY
again; and a chip whose fuses are legal keeps legal fuses. -/
def Obligations.FusesOnlyBlow : Prop :=
  ∀ s t : State, step s = .next t →
    Fuses.Advance s.chip.fuses t.chip.fuses ∧ (Fuses.Legal s.chip.fuses → Fuses.Legal t.chip.fuses)

/-- The state after reset, where the spec gives values: Quartz time and the frame counter (R31, R73), the governor's target, output and
parameters (Table 01.2), SEQ and consent (R260), guests EMPTY and owning nothing (R193), the mailbox and Hamper windows (Tables 04.14 and
07.8), the cores' flags, tags and empty stacks (Table 06.7, R320, R389), the patch table and the Rinse (R414, Table 08.10), composition and
sound settings (Tables 11.7 and 13.5), an empty lint log, unit generations (R852), legal fuses, and an empty queue. -/
def Obligations.ResetState : Prop :=
  let c := State.reset.chip
  State.reset.pending = [] ∧ c.clk.qtime = 0 ∧ c.beam.frame = 0xFFFFFFFF ∧ c.beam.line = 0 ∧ c.beam.dot = 0 ∧ c.beam.hold = true ∧
  c.gov.target = 80 ∧ c.gov.output = 80 ∧ c.gov.par = { vmin := 60, vmax := 95, lowWm := 64, highWm := 128, panicWm := 16, panicSteps := 3, holdFrames := 8, audWm := 64 } ∧
  c.pwr.cls = 1 ∧ c.seq = 0 ∧ c.cmds = [] ∧ c.consent.toList = [false, false, false] ∧ c.focus = 0 ∧
  (∀ p : Fin 7, p ≠ 0 → (partOf c p).st = .empty ∧ (partOf c p).gen = 0 ∧ (partOf c p).map = []) ∧
  (∀ p : Fin 7, (mbxOf c p).enable = false ∧ (mbxOf c p).fault = false ∧ (mbxOf c p).cmdProd = 0 ∧ (mbxOf c p).cplProd = 0) ∧
  (∀ p : Fin 7, (hmpOf c p).srcEn = BitVec.allOnes 96 ∧ (hmpOf c p).pend = 0 ∧ (hmpOf c p).posts = [] ∧ (hmpOf c p).expert = false ∧
    ∀ q : Fin 4, ((hmpOf c p).ring q).enable = false ∧ ((hmpOf c p).ring q).sizeLog2 = 4 ∧ ((hmpOf c p).ring q).prod = 0 ∧ ((hmpOf c p).ring q).cons = 0) ∧
  (∀ k : Fin 6, (coreOf c k).run = .held ∧ (coreOf c k).w.toList = List.replicate 8 0 ∧ (coreOf c k).pc = 0 ∧ (coreOf c k).fl = { h := true } ∧
    (coreOf c k).wTag = 0 ∧ (coreOf c k).prio = [] ∧ (coreOf c k).pend = none ∧ (coreOf c k).guard.en = false) ∧
  (∀ n : Fin 32, vget c.mem.patch n = n) ∧ c.mem.rinseSram = 8 ∧ c.mem.rinseXmem = 512 ∧ c.mem.cart = .absent ∧ c.mem.bufSram = [] ∧ c.mem.wf = true ∧
  c.snd.asc = 0 ∧ c.lint = {} ∧ (∀ k : Fin 6, (vget c.units.cores k).gen = 1) ∧ unitState c ⟨1, 5⟩ = .spare ∧ unitState c ⟨2, 32⟩ = .spare ∧
  c.vlt.nonce = none ∧ c.svc.shadowEn = true ∧ c.svc.shadowMs = 1000 ∧ Fuses.Legal c.fuses

/-- Stored bytes, of memory and of the steward's private SRAM (R413, R419): in the canonical form, a byte that is stored reads back, every
other byte is unchanged, bytes stored from an address read back in order with every byte outside them unchanged, and two memories that
read alike everywhere are the same data. -/
def Obligations.StoredBytes : Prop :=
  ∀ m : Mem, m.wf = true →
    (∀ pa b, (m.setByte pa b).byte pa = b) ∧
    (∀ pa b q, q ≠ pa → (m.setByte pa b).byte q = m.byte q) ∧
    (∀ pa bs, (m.setBytes pa bs).bytes pa bs.length = bs) ∧
    (∀ pa bs q, q < pa ∨ pa + bs.length ≤ q → (m.setBytes pa bs).byte q = m.byte q) ∧
    (∀ a bs, (List.range bs.length).map (fun i => (m.setStewBytes a bs).stewByte (a + i)) = bs) ∧
    (∀ a bs q, q < a ∨ a + bs.length ≤ q → (m.setStewBytes a bs).stewByte q = m.stewByte q) ∧
    (∀ n : Mem, n.wf = true → (∀ q, n.byte q = m.byte q) → n.cells = m.cells)

/-- The SRAM code (R416, R417, Tables 08.3 and 08.4): with any stored word and any address fold, one wrong data bit is found at its place, one
wrong check bit is found as a check bit, and two wrong bits of the word, of the check byte or of both are never taken for a sound word,
for poison or for a single wrong bit. -/
def Obligations.SramCode : Prop :=
  ∀ fold data : Nat, data < 2 ^ 64 →
    let syn (d c : Nat) : Nat := sramCheck fold d ^^^ c
    synClass (syn data (sramCheck fold data)) = .clean ∧
    (∀ j : Fin 64, synClass (syn (data ^^^ 2 ^ j.val) (sramCheck fold data)) = .data j.val) ∧
    (∀ j : Fin 8, synClass (syn data (sramCheck fold data ^^^ 2 ^ j.val)) = .check) ∧
    (∀ i j : Fin 64, i ≠ j → synClass (syn (data ^^^ 2 ^ i.val ^^^ 2 ^ j.val) (sramCheck fold data)) = .ueEven) ∧
    (∀ i j : Fin 8, i ≠ j → synClass (syn data (sramCheck fold data ^^^ 2 ^ i.val ^^^ 2 ^ j.val)) = .ueEven) ∧
    (∀ (i : Fin 64) (j : Fin 8), synClass (syn (data ^^^ 2 ^ i.val) (sramCheck fold data ^^^ 2 ^ j.val)) = .ueEven)

/-- A word of user SRAM (R417, R420, R423): what is written into a word whose macro serves reads back, poison as poison, without a change of
the chip, and every other word of every macro reads as before. -/
def Obligations.SramWords : Prop :=
  ∀ (c : Chip) (pa : Nat) (w : WordRead), c.mem.wf = true → ssorted c.mem.syn = true → pa % 8 = 0 → pa < 0x400000 → macroFenced c pa = false →
    (w.poison = false → w.bytes.length = 8) →
      (readSram pa (writeSram pa w c) = (if w.poison then WordRead.bad else w, writeSram pa w c)) ∧
      (∀ q, q % 8 = 0 → q < 0x400000 → q ≠ pa → (readSram q (writeSram pa w c)).1 = (readSram q c).1) ∧
      { writeSram pa w c with mem := c.mem } = c

/-- The lint log (R844): an occurrence less than 24,000,000 ticks after FIRST_QTIME of the pair's newest entry merges into it, which counts it or
saturates, sets LAST_QTIME and keeps the rest; any other is a new entry, and LINT fires. -/
def Obligations.LintMerges : Prop :=
  ∀ (boot : Bool) (code unit origin detail : Nat) (c : Chip),
    (∀ i, lintNewest c.lint code unit = some i → c.clk.qtime < (c.lint.entries.getD i {}).first + 24000000 →
      let e := c.lint.entries.getD i {}
      let d := lintAs boot code unit origin detail c
      d.lint.entries = c.lint.entries.set i
        { e with last := c.clk.qtime, count := if e.count = 65535 then 65535 else e.count + 1, saturated := e.saturated || e.count == 65535 } ∧
      d.lint.next = c.lint.next ∧ d.lint.overwritten = c.lint.overwritten ∧ { d with lint := c.lint } = c) ∧
    ((∀ i, lintNewest c.lint code unit = some i → (c.lint.entries.getD i {}).first + 24000000 ≤ c.clk.qtime) →
      let d := lintAs boot code unit origin detail c
      d.lint.entries = (lintWrite { code := code, unit := unit, count := 1, origin := origin, boot := boot, first := c.clk.qtime, last := c.clk.qtime,
                                    frame := c.beam.frame, detail := detail } c.lint).entries ∧
      d.lint.next = (c.lint.next + 1) % 256 ∧ (∃ x, d.edges = c.edges ++ [⟨0, 58, .one x⟩]) ∧
      { d with lint := c.lint, edges := c.edges, freeCnt := c.freeCnt } = c)

/-- The lifetime counters (R846): every occurrence, merged or not, adds one to its code's counter, which holds at 2^32 - 1; every other code's
counter is unchanged. -/
def Obligations.LintCounters : Prop :=
  ∀ (boot : Bool) (code unit origin detail : Nat) (c : Chip),
    let d := lintAs boot code unit origin detail c
    sget 0 d.lint.counters code = min (2 ^ 32 - 1) (sget 0 c.lint.counters code + 1) ∧
    (∀ other, other ≠ code → sget 0 d.lint.counters other = sget 0 c.lint.counters other)

/-- The arithmetic of the cores (R277, R280, Tables 05.3 and 05.11), on 16 and on 32 bits: the result is the exact sum or difference modulo
2^w, C the carry or borrow out of it, V that the signed result does not fit; a subtraction is the addition of the complement with the
complement of the borrow; and adding low words and then high words with their carry gives the long sum with its C, V and N. -/
def Obligations.ArithmeticIsExact : Prop :=
  (∀ w ∈ [16, 32], ∀ a b k : Nat, a < 2 ^ w → b < 2 ^ w → k ≤ 1 →
    (addFlags w a b k).res < 2 ^ w ∧ (addFlags w a b k).c = some (decide ((addFlags w a b k).res ≠ a + b + k)) ∧
    ((addFlags w a b k).v = some false ↔ sext w (addFlags w a b k).res = sext w a + sext w b + k) ∧
    ((addFlags w a b k).v = some false ↔ -(2 ^ (w - 1) : Nat) ≤ sext w a + sext w b + k ∧ sext w a + sext w b + k < (2 ^ (w - 1) : Nat)) ∧
    ((subFlags w a b k).res : Int) % (2 ^ w : Nat) = ((a : Int) - b - k) % (2 ^ w : Nat) ∧ (subFlags w a b k).res < 2 ^ w ∧
    ((subFlags w a b k).c = some true ↔ (a : Int) - b - k < 0) ∧
    (subFlags w a b k).res = (addFlags w a (2 ^ w - 1 - b) (1 - k)).res ∧
    (subFlags w a b k).v = (addFlags w a (2 ^ w - 1 - b) (1 - k)).v ∧
    (subFlags w a b k).c = (addFlags w a (2 ^ w - 1 - b) (1 - k)).c.map not) ∧
  (∀ a b : Nat, a < 2 ^ 32 → b < 2 ^ 32 →
    let lo := addFlags 16 (a % 65536) (b % 65536) 0
    let hi := addFlags 16 (a / 65536) (b / 65536) (b2n (lo.c.getD false))
    (addFlags 32 a b 0).res = lo.res + 65536 * hi.res ∧ (addFlags 32 a b 0).c = hi.c ∧ (addFlags 32 a b 0).v = hi.v ∧ (addFlags 32 a b 0).n = hi.n)

/-- The commands of SYS and PWR (R10, R137 to R139, Tables 00.3, 02.4, 02.7): what each answers and the one thing it changes. A second
request for a reset changes nothing, which is the model's choice (log entry 20). -/
def Obligations.SysPwrCommands : Prop :=
  Answers 0x0001 .sysInfo (fun _ _ => True)
    (fun c _ => .res (c.mem.xmem.code + 4 * bitsToNat ((List.range 4).map fun q => unitState c ⟨5, q⟩ != .absent))
      (0xB1 + 2 ^ 8 * (if c.board.q176 then 2 else 1) + 2 ^ 16 * c.pwr.fwVersion))
    (fun c _ => c) ∧
  Answers 0x0002 .sysReset (fun c m => (m.b 8 = 1 ∨ m.b 8 = 2) ∧ c.pwr.deferred = none) (fun _ _ => .ok)
    (fun c m => { c with pwr := { c.pwr with deferred := some (if m.b 8 = 1 then .coldStart else .recoveryStart), deferAt := c.clk.qtime + 24000 } }) ∧
  Answers 0x0002 .sysReset (fun c m => (m.b 8 = 1 ∨ m.b 8 = 2) ∧ c.pwr.deferred.isSome) (fun _ _ => .ok) (fun c _ => c) ∧
  Answers 0x0003 .sysBootStatus (fun _ _ => True)
    (fun c _ => .res (b2n (slotConfirmed c) + 2 * b2n c.pwr.fallback)
      (c.pwr.slot + 2 ^ 8 * ((bootSlot c c.pwr.slot).getD default).attempts + 2 ^ 16 * (((bootSlot c c.pwr.slot).getD default).version % 65536)))
    (fun c _ => c) ∧
  Answers 0x0101 .pwrStatus (fun _ _ => True)
    (fun c _ => .res (c.pwr.cls + 4 * b2n c.pwr.warn + 8 * b2n (isSource c.pwr.vbus c.pwr.vsys) + 16 * b2n (isSource c.pwr.vbat c.pwr.vsys))
      (c.pwr.vsys % 65536 + 2 ^ 16 * (c.pwr.vbus % 65536)))
    (fun c _ => c) ∧
  Answers 0x0102 .pwrConfig
    (fun _ m => 2700 ≤ m.f 8 2 ∧ m.f 8 2 ≤ 4500 ∧ 1 ≤ m.b 10 ∧ m.b 10 ≤ 20 ∧ m.b 11 = 0 ∧ 1 ≤ m.f 12 2 ∧ m.f 12 2 ≤ 600)
    (fun _ _ => .ok)
    (fun c m => { c with pwr := { c.pwr with vwarn := m.f 8 2, rideMs := m.b 10, resumeMax := m.f 12 2 } }) ∧
  Answers 0x0103 .pwrResumeInfo (fun _ m => m.org.external = true ∧ m.f 8 4 = 0)
    (fun c _ => .done .ok 0 0 c.pwr.record.bytes) (fun c _ => c) ∧
  (∀ p, Answers 0x0103 .pwrResumeInfo (fun c m => m.org = .part p ∧ m.f 8 4 < 2 ^ 24 ∧ m.f 8 4 % 4 = 0 ∧ kRangeOk c p .w (m.f 8 4) 32 = true)
    (fun _ _ => .ok) (fun c m => writeK p (m.f 8 4) (clean c.pwr.record.bytes) c)) ∧
  Answers 0x0104 .pwrOff (fun c m => 1 ≤ m.b 8 ∧ m.b 8 ≤ 7 ∧ c.pwr.deferred = none) (fun _ _ => .ok)
    (fun c m => { c with pwr := { c.pwr with deferred := some (.off (m.b 8)), deferAt := c.clk.qtime + 24000 } })

/-- The commands of GOV and TIME (R44, R45, R67, R74, R75, Table 01.10): what each answers and what it changes. GOV.LIMITS that lowers
VMAX_CFG below the output waits; with an earlier one waiting the model completes that one first, which is its choice (log entry 13). -/
def Obligations.GovTimeCommands : Prop :=
  (∀ p, Answers 0x0201 .govStatus (fun _ m => m.org = .part p ∧ p ≠ 0)
    (fun c _ => .res 0 (c.gov.target + 2 ^ 8 * c.gov.output + 2 ^ 16 * c.gov.slackMin + 2 ^ 24 * bitsToNat (govFlags c ++ [(partOf c p).vote])))
    (fun c _ => modPart p (fun q => { q with det := q.det ||| 8#4 }) c)) ∧
  Answers 0x0201 .govStatus (fun _ m => m.org.external = true)
    (fun c _ => .res 0 (c.gov.target + 2 ^ 8 * c.gov.output + 2 ^ 16 * c.gov.slackMin
      + 2 ^ 24 * bitsToNat (govFlags c ++ [c.parts.toList.any (·.vote)])))
    (fun c _ => c) ∧
  Answers 0x0202 .govLimits
    (fun c m => (limitsOf m).ok = true ∧ c.gov.oldVmax = none ∧ c.gov.output ≤ (limitsOf m).vmax) (fun _ _ => .ok)
    (fun c m => { c with gov := { c.gov with
      par := limitsOf m, target := min (vmaxOf { c.gov with par := limitsOf m }) (max c.gov.target (limitsOf m).vmin) } }) ∧
  Answers 0x0202 .govLimits
    (fun c m => (limitsOf m).ok = true ∧ c.gov.oldVmax = none ∧ (limitsOf m).vmax < c.gov.output) (fun _ _ => .wait)
    (fun c m => { c with gov := { c.gov with
      par := limitsOf m, target := min (vmaxOf { c.gov with par := limitsOf m }) (max c.gov.target (limitsOf m).vmin),
      oldVmax := some (c.gov.par.vmax, if m.handle = 0 then none else some m.handle) } }) ∧
  Answers 0x0203 .govVote (fun _ m => m.b 8 ≤ 1) (fun _ _ => .ok) (fun c m => modPart m.guest (fun q => { q with vote := m.b 8 == 1 }) c) ∧
  Answers 0x0210 .timeLineEvent (fun _ m => m.f 8 2 ≤ 2047 ∨ m.f 8 2 = 0xFFFF) (fun _ _ => .ok)
    (fun c m => modPart m.guest (fun q => { q with lineMatch := m.f 8 2 }) c) ∧
  Answers 0x0211 .timeDet (fun _ m => m.b 8 = 0)
    (fun c m => .res 0 ((partOf c m.guest).det.toNat
      + 65536 * min 65535 ((((List.range 6).filter fun k => ownerOf c .core k == m.guest).map fun k => (coreOf c k).overrun).sum)))
    (fun c _ => c) ∧
  Answers 0x0211 .timeDet (fun _ m => m.b 8 = 1)
    (fun c m => .res 0 ((partOf c m.guest).det.toNat
      + 65536 * min 65535 ((((List.range 6).filter fun k => ownerOf c .core k == m.guest).map fun k => (coreOf c k).overrun).sum)))
    (fun c m => modPart m.guest (fun q => { q with det := 0 }) c)

/-- The commands that make, stop and account for guests (R142 to R146, R149, R167, R181, R185, R197, Tables 03.6 to 03.10): the checks in their
order end in the effect, and nothing else of the machine changes. P0's share, credits and generation are free values and its own DESTROY order
is the model's choice (log entry 19). -/
def Obligations.PartitionCommands : Prop :=
  Answers 0x0301 .partStatus
    (fun c m => 1 ≤ statusPid m ∧ statusPid m ≤ 6 ∧ (m.org.external = true ∨ m.guest = 0 ∨ statusPid m = m.guest) ∧ m.b 10 = 0 ∧ m.b 11 = 0 ∧
      m.f 12 4 = 0)
    (fun c m => .res (min 0xFFFF (loadOf c (statusPid m))) ((partOf c (statusPid m)).st.code + 2 ^ 8 * (partOf c (statusPid m)).gen
      + 2 ^ 16 * (partOf c (statusPid m)).share + 2 ^ 24 * (partOf c (statusPid m)).credits))
    (fun c _ => c) ∧
  Answers 0x0301 .partStatus
    (fun c m => 1 ≤ statusPid m ∧ statusPid m ≤ 6 ∧ (m.org.external = true ∨ m.guest = 0 ∨ statusPid m = m.guest) ∧ m.b 10 = 1 ∧ m.b 11 = 0 ∧
      m.f 12 4 = 0)
    (fun c m => .res (min 0xFFFF (loadOf c (statusPid m))) ((partOf c (statusPid m)).budget + 2 ^ 16 * min 0xFFFF (admitCap c)))
    (fun c _ => c) ∧
  Answers 0x0310 .partCreate
    (fun c m => 1 ≤ m.b 8 ∧ m.b 8 ≤ 6 ∧ m.b 9 ≤ 63 ∧ 1 ≤ m.b 10 ∧ m.b 10 ≤ 64 ∧ 1 ≤ m.b 11 ∧ m.b 11 ≤ 64 ∧ m.f 12 2 ≤ 127 ∧
      (c.scan.mode.isSome = true → m.f 14 2 ≤ admitCap c) ∧ (partOf c (m.b 8)).st = .empty ∧ otherShares c (m.b 8) + m.b 10 ≤ 64 ∧
      overCeiling c (m.b 8) (m.f 14 2) = false ∧
      ∀ k ∈ coresOf (m.b 9), isPegged c 1 k = false ∧ unitState c ⟨1, k⟩ ≠ .retired ∧ ownerOf c .core k = 0 ∧ isSpareCore c k = false)
    (fun _ _ => .ok)
    (fun c m =>
      let c := modPart (m.b 8) (fun q => { st := .stopped, gen := (q.gen + 1) % 256, map := [(0xFF, MapEntry.ownWindow)],
                                           rights := BitVec.ofNat 7 (m.f 12 2), share := m.b 10, budget := m.f 14 2, credits := m.b 11,
                                           tokens := Vector.replicate 3 (4 * m.b 10) }) c
      let c := resetHamper (m.b 8) (modMbx (m.b 8) (fun _ => {}) c)
      (coresOf (m.b 9)).foldl (fun c k => setOwner .core k (m.b 8) c)
        { c with snd := { c.snd with parts := vset c.snd.parts (m.b 8) {} }, diag := vset c.diag (m.b 8) {} }) ∧
  Answers 0x0315 .partStart
    (fun c m => 1 ≤ m.b 8 ∧ m.b 8 ≤ 6 ∧ m.z 10 2 = true ∧ m.f 12 4 < 2 ^ 24 ∧ m.b 9 = (partOf c (m.b 8)).gen ∧ (partOf c (m.b 8)).st = .stopped)
    (fun _ _ => .ok)
    (fun c m => modPart (m.b 8) (fun q => { q with st := .running, hasRun := true, entry := m.f 12 4 })
      ((ownedUnits c (m.b 8) .core).foldl (fun c' k =>
        if unitState c' ⟨1, k⟩ = .active ∨ (coreOf c' k).acting = true then modCore k (startCore (m.f 12 4) (partOf c (m.b 8)).hasRun) c' else c') c)) ∧
  Answers 0x0316 .partStop
    (fun c m => 1 ≤ m.b 8 ∧ m.b 8 ≤ 6 ∧ m.b 9 = (partOf c (m.b 8)).gen ∧ (partOf c (m.b 8)).st = .running)
    (fun _ _ => .ok)
    (fun c m => modPart (m.b 8) (fun q => { q with st := .stopped })
      ((ownedUnits c (m.b 8) .core).foldl (fun c k => modCore k (fun x => if x.run = .running then { x with run := .stopped } else x) c) c)) ∧
  Answers 0x0318 .partQuota
    (fun c m => 1 ≤ m.b 8 ∧ m.b 8 ≤ 6 ∧ 1 ≤ m.b 10 ∧ m.b 10 ≤ 64 ∧ 1 ≤ m.b 11 ∧ m.b 11 ≤ 64 ∧ m.b 9 = (partOf c (m.b 8)).gen ∧
      ((partOf c (m.b 8)).st = .stopped ∨ (partOf c (m.b 8)).st = .running) ∧ otherShares c (m.b 8) + m.b 10 ≤ 64 ∧
      overCeiling c (m.b 8) (m.f 12 2) = false)
    (fun _ _ => .ok)
    (fun c m => markOver (m.b 8) (modPart (m.b 8) (fun q => { q with
      share := m.b 10, credits := m.b 11, budget := m.f 12 2, tokens := q.tokens.map fun t => min t (4 * m.b 10) }) c)) ∧
  Answers 0x0317 .partReset
    (fun c m => 1 ≤ m.b 8 ∧ m.b 8 ≤ 6 ∧ m.org = .part (m.b 8) ∧ m.b 10 ≤ 3 ∧ m.b 9 = (partOf c (m.b 8)).gen ∧ (partOf c (m.b 8)).st = .running)
    (fun _ _ => .ok)
    (fun c m => modPart (m.b 8) (fun q =>
      { q with
        st := .resetting
        reset := some { handle := none, issuer := m.b 8, since := c.clk.qtime, scrub := bit (m.b 10) 0, restart := bit (m.b 10) 1, selfDelay := true } }) c) ∧
  Answers 0x0317 .partReset
    (fun c m => 1 ≤ m.b 8 ∧ m.b 8 ≤ 6 ∧ m.org ≠ .part (m.b 8) ∧ (m.org.external = true ∨ m.guest = 0) ∧ m.b 10 ≤ 3 ∧ m.b 9 = (partOf c (m.b 8)).gen ∧
      ((partOf c (m.b 8)).st = .running ∨ (partOf c (m.b 8)).st = .stopped))
    (fun _ _ => .wait)
    (fun c m => loseFocus (m.b 8) (teardown (m.b 8) (modPart (m.b 8) (fun q =>
      { q with
        st := .resetting
        reset := some { handle := m.waitHandle, issuer := m.org.lintCode, since := c.clk.qtime, scrub := bit (m.b 10) 0, restart := bit (m.b 10) 1, selfDelay := false } }) c))) ∧
  Answers 0x031A .partFocus
    (fun c m => m.b 8 ≤ 6 ∧ (m.b 8 = 0 ∨ (partOf c (m.b 8)).st = .running ∨ (partOf c (m.b 8)).st = .stopped))
    (fun _ _ => .wait) (fun c m => { c with focusPending := c.focusPending ++ [(m.waitHandle, m.b 8)] })

/-- The commands that give, take and map units (R152, R157 to R160, R164, R182, R183): a unit changes hands at once, at the frame start or
after its ramp; a map entry is written, removed or shared; a removed right takes with it what it granted. A destroyed guest's state is EMPTY
and its generation is kept. -/
def Obligations.OwnershipCommands : Prop :=
  Answers 0x0311 .partDestroy
    (fun c m => 1 ≤ m.b 8 ∧ m.b 8 ≤ 6 ∧ m.b 9 = (partOf c (m.b 8)).gen ∧ (partOf c (m.b 8)).st = .stopped)
    (fun _ _ => .ok) (fun c m => destroyPart (m.b 8) c) ∧
  (∀ (p : Fin 7) c, ∃ g, partOf (destroyPart p c) p = { gen := g }) ∧
  Answers 0x0312 .partMap
    (fun c m => 1 ≤ m.b 8 ∧ m.b 8 ≤ 6 ∧ m.b 9 = (partOf c (m.b 8)).gen ∧ ((partOf c (m.b 8)).st = .stopped ∨ (partOf c (m.b 8)).st = .running) ∧
      1 ≤ m.b 11 ∧ m.b 10 + m.b 11 ≤ 0xFF ∧ m.b 14 ≤ 31 ∧ m.b 15 = 0 ∧ bit (m.b 14) 0 = true ∧
      (∀ i, i < m.b 11 → frameOk c (m.f 12 2 + i) (bit (m.b 14) 2) = true ∧ mappers c (m.b 8) (m.f 12 2 + i) = []))
    (fun _ _ => .ok)
    (fun c m => markShared (modPart (m.b 8) (fun q =>
      { q with
        map := (List.range (m.b 11)).foldl (fun l i => sput {} l (m.b 10 + i)
          { frame := m.f 12 2 + i, v := true, r := bit (m.b 14) 1, w := bit (m.b 14) 2, x := bit (m.b 14) 3 }) q.map }) c)) ∧
  Answers 0x0312 .partMap
    (fun c m => 1 ≤ m.b 8 ∧ m.b 8 ≤ 6 ∧ m.b 9 = (partOf c (m.b 8)).gen ∧ ((partOf c (m.b 8)).st = .stopped ∨ (partOf c (m.b 8)).st = .running) ∧
      1 ≤ m.b 11 ∧ m.b 10 + m.b 11 ≤ 0xFF ∧ m.b 14 ≤ 31 ∧ m.b 15 = 0 ∧ bit (m.b 14) 0 = false)
    (fun _ _ => .ok)
    (fun c m => markShared (modPart (m.b 8) (fun q => { q with map := (List.range (m.b 11)).foldl (fun l i => sput {} l (m.b 10 + i) {}) q.map }) c)) ∧
  (∀ k : UnitKind, k ≠ .layer → k ≠ .sprite → Answers 0x0313 .partAssign
    (fun c m => 1 ≤ m.b 8 ∧ m.b 8 ≤ 6 ∧ m.b 9 = (partOf c (m.b 8)).gen ∧
      ((partOf c (m.b 8)).st = .stopped ∨ (k ≠ .core ∧ (partOf c (m.b 8)).st = .running)) ∧
      kindOfCode (m.b 10) = some k ∧ 1 ≤ m.b 12 ∧ m.b 11 + m.b 12 ≤ (ownVec c k).length ∧ lacksUnitRight c (m.b 8) k (rangeOf m) = false ∧
      (∀ i ∈ rangeOf m, kindPegged c k i = false ∧ ownerOf c k i = 0 ∧ futureOwner (afterChanges c) k i = 0 ∧
        (k = .core → unitState c ⟨1, i⟩ ≠ .retired ∧ isSpareCore c i = false)))
    (fun _ _ => .ok) (fun c m => (rangeOf m).foldl (fun c i => setOwner k i (m.b 8) c) c)) ∧
  (∀ k : UnitKind, k = .layer ∨ k = .sprite → Answers 0x0313 .partAssign
    (fun c m => 1 ≤ m.b 8 ∧ m.b 8 ≤ 6 ∧ m.b 9 = (partOf c (m.b 8)).gen ∧ ((partOf c (m.b 8)).st = .stopped ∨ (partOf c (m.b 8)).st = .running) ∧
      kindOfCode (m.b 10) = some k ∧ 1 ≤ m.b 12 ∧ m.b 11 + m.b 12 ≤ (ownVec c k).length ∧
      (∀ i ∈ rangeOf m, kindPegged c k i = false ∧ futureOwner (afterChanges c) k i = 0))
    (fun _ _ => .wait) (fun c m => enqueueOwn m k (m.b 8) (rangeOf m) c)) ∧
  (∀ k : UnitKind, k = .core ∨ k = .spool ∨ k = .link → Answers 0x0314 .partRelease
    (fun c m => 1 ≤ m.b 8 ∧ m.b 8 ≤ 6 ∧ m.b 9 = (partOf c (m.b 8)).gen ∧
      ((partOf c (m.b 8)).st = .stopped ∨ (k ≠ .core ∧ (partOf c (m.b 8)).st = .running)) ∧
      kindOfCode (m.b 10) = some k ∧ 1 ≤ m.b 12 ∧ m.b 11 + m.b 12 ≤ (ownVec c k).length ∧
      (∀ i ∈ rangeOf m, kindPegged c k i = false ∧ channelBusy c k i = false ∧ futureOwner (afterChanges c) k i = m.b 8 ∧
        (k = .core → unitState c ⟨1, i⟩ ≠ .retired ∧ isSpareCore c i = false)))
    (fun _ _ => .ok) (fun c m => (rangeOf m).foldl (fun c i => setOwner k i 0 c) c)) ∧
  (∀ k : UnitKind, k = .layer ∨ k = .sprite → Answers 0x0314 .partRelease
    (fun c m => 1 ≤ m.b 8 ∧ m.b 8 ≤ 6 ∧ m.b 9 = (partOf c (m.b 8)).gen ∧ ((partOf c (m.b 8)).st = .stopped ∨ (partOf c (m.b 8)).st = .running) ∧
      kindOfCode (m.b 10) = some k ∧ 1 ≤ m.b 12 ∧ m.b 11 + m.b 12 ≤ (ownVec c k).length ∧
      (∀ i ∈ rangeOf m, kindPegged c k i = false ∧ futureOwner (afterChanges c) k i = m.b 8))
    (fun _ _ => .wait) (fun c m => enqueueOwn m k 0 (rangeOf m) c)) ∧
  (∀ k : UnitKind, k = .voice ∨ k = .tone ∨ k = .input → Answers 0x0314 .partRelease
    (fun c m => 1 ≤ m.b 8 ∧ m.b 8 ≤ 6 ∧ m.b 9 = (partOf c (m.b 8)).gen ∧ ((partOf c (m.b 8)).st = .stopped ∨ (partOf c (m.b 8)).st = .running) ∧
      kindOfCode (m.b 10) = some k ∧ 1 ≤ m.b 12 ∧ m.b 11 + m.b 12 ≤ (ownVec c k).length ∧
      (∀ i ∈ rangeOf m, kindPegged c k i = false ∧ futureOwner (afterChanges c) k i = m.b 8))
    (fun _ _ => .wait) (fun c m => rampRange m k (rangeOf m) c)) ∧
  Answers 0x0319 .partRights
    (fun c m => 1 ≤ m.b 8 ∧ m.b 8 ≤ 6 ∧ m.b 9 = (partOf c (m.b 8)).gen ∧ ((partOf c (m.b 8)).st = .stopped ∨ (partOf c (m.b 8)).st = .running) ∧
      m.f 10 2 ≤ 127)
    (fun _ _ => .ok)
    (fun c m =>
      let lost (k : Nat) : Bool := hasRight c (m.b 8) k && !bit (m.f 10 2) k
      let d := modPart (m.b 8) (fun q => { q with rights := BitVec.ofNat 7 (m.f 10 2) }) c
      let d := if lost 2 then dropOverbook (m.b 8) d else d
      let d := if lost 4 then [2, 3].foldl (fun d i => if futureOwner d .input i = m.b 8 then rampOut .input i none false d else d) d else d
      if lost 5 then (ownedUnits d (m.b 8) .link).foldl (fun d i => setOwner .link i 0 d) d else d)

/-- The events of partitions (R179, R183, R185 to R191): a self-reset begins after 1 ms, a reset completes with GEN stepped, a unit that does
not stop is pegged, a released sound unit returns after its ramp, and a stalled guest is logged. -/
def Obligations.PartitionRows : Prop :=
  (∀ (p : Fin 7) (j : ResetJob), Makes (.selfResetDelay p) (fun c => (partOf c p).reset = some j ∧ j.selfDelay = true)
    (fun c => loseFocus p (teardown p (modPart p (fun q => { q with reset := some { j with selfDelay := false } }) (atTime (j.since + 24000) c))))) ∧
  (∀ (p : Fin 7) (j : ResetJob), Makes (.partitionResetComplete p) (fun c => (partOf c p).reset = some j ∧ j.selfDelay = false) (resetEnds p j)) ∧
  (∀ (p : Fin 7) (j : ResetJob) (c : Chip), j.restart = false →
    let d := resetSoundOf p (resetLayersOf p (if j.scrub then (scrubFrames c p).foldl (fun c f => scrubFrame f c) c else c))
    resetEnds p j c = finish j.handle .ok (b2n j.pegged) 0 (lintBlock 0x0301 j.issuer (p + 256 * b2n j.scrub)
      (modPart p (fun q => { q with st := .stopped, gen := (q.gen + 1) % 256, hasRun := false, reset := none, det := 0, vote := false, lineMatch := 0xFFFF })
        { d with diag := vset d.diag p {} }))) ∧
  (∀ (p : Fin 7) (n : Word) (j : ResetJob) (k : UnitKind), Makes (.partitionResetOverrun p n)
    (fun c => (partOf c p).reset = some j ∧ j.selfDelay = false ∧ kindOfReg (unitOfCode n.toNat).kind = some k ∧
      (unitReg? c (unitOfCode n.toNat)).isSome ∧ ownerOf c k (unitOfCode n.toNat).index = p.val ∧
      isPegged c (unitOfCode n.toNat).kind (unitOfCode n.toNat).index = false)
    (fun c => lint 0x0305 n.toNat p 0 (pegAny (unitOfCode n.toNat) (modPart p (fun q => { q with reset := some { j with pegged := true } })
      (atTime (j.since + 144000 + 1) c))))) ∧
  (∀ (n : Word) (o : OwnRamp), Makes (.unitReleaseRampEnd n)
    (fun c => (c.ownRamp.find? fun o => o.kind.reg == some (n.toNat / 256) && o.index == n.toNat % 256) = some o)
    (fun c =>
      let t := atTime (o.since + 120000) c
      let t := setOwner o.kind o.index 0 { t with ownRamp := delFirst (· == o) c.ownRamp }
      if o.last then finish o.handle .ok 0 0 t else t)) ∧
  (∀ (p : Fin 7) (t : Fin 3), Makes (.guestStallTimeout p t) (fun c => 1 ≤ p.val ∧ (partOf c p).st ≠ .empty) (lintBlock 0x0304 p t)) ∧
  (∀ t, (∀ (c : Chip), t < c.clk.qtime → atTime t c = c) ∧ (∀ (c : Chip), c.clk.qtime < t → atTime t c = advanceTime (t - c.clk.qtime) c))

/-- The mailbox commands and the reports of cores, guard units and Hampers (R226 to R230, R252, R322, R323, R362, R368, R369, R409, R410): the
checks in their order end in the effect, and nothing else of the machine changes. -/
def Obligations.MailboxAndReportCommands : Prop :=
  (∀ t : Cmd, Answers 0x0401 .mbxCancel
    (fun c m => foreignHandle c m.org (m.f 8 4) = false ∧ findCmd c (BitVec.ofNat 32 (m.f 8 4)) = some t ∧ t.op ≠ 0x0401 ∧ t.started = false)
    (fun _ _ => .ok) (fun c _ => complete t .cancelled 0 0 [] c)) ∧
  (∀ t : Cmd, Answers 0x0401 .mbxCancel
    (fun c m => foreignHandle c m.org (m.f 8 4) = false ∧ findCmd c (BitVec.ofNat 32 (m.f 8 4)) = some t ∧ t.op ≠ 0x0401 ∧ t.op ≠ 0x0F20 ∧
      t.started = true ∧ spoolUnqueue t.handle c = none ∧ (Config.opRow t.op).any (·.cancel) = true ∧ t.cancelBy = none ∧ t.dataSince = none)
    (fun _ _ => .wait) (fun c m => modCmd t.handle (fun x => { x with cancelBy := some m.handle }) c)) ∧
  Answers 0x0402 .mbxStatus (fun _ _ => True)
    (fun c m => .res (bitsToNat [(mbxFlags c m.org).2.1, (mbxFlags c m.org).2.2])
      (creditMax c m.org + 2 ^ 8 * (creditMax c m.org - inFlight c m.org) + 2 ^ 16 * min 255 (mbxFlags c m.org).1))
    (fun c _ => c) ∧
  Answers 0x0403 .mbxConsent (fun _ m => m.b 8 ≤ 2 ∧ m.b 9 ≤ 1)
    (fun _ _ => .ok) (fun c m => { c with consent := vset c.consent (m.b 8) (bit (m.b 9) 0) }) ∧
  Answers 0x0404 .mbxSync (fun _ _ => True) (fun _ _ => .ok) (fun c _ => c) ∧
  (∀ k, Answers 0x0501 .kuvStatus (fun c m => namedCore m c (m.b 8) = some k)
    (fun c _ => .res (coreOf c k).faultCount
      ((if kuvState c k = 1 ∨ kuvState c k = 2 then kaddr (coreOf c k).cb (coreOf c k).pc.toNat else 0) + 2 ^ 24 * kuvState c k))
    (fun c _ => c)) ∧
  Answers 0x0502 .kuvRegs
    (fun c m => m.org = .part 0 ∧ m.b 8 ≤ 5 ∧ m.z 9 3 = true ∧ destOk m (m.f 12 4) = true ∧ 2 ≤ kuvState c (m.b 8) ∧ kuvState c (m.b 8) ≠ 5 ∧
      kRangeOk c 0 .w (m.f 12 4) (kuvBlock (coreOf c (m.b 8))).length = true)
    (fun _ _ => .ok) (fun c m => writeK 0 (m.f 12 4) (clean (kuvBlock (coreOf c (m.b 8)))) c) ∧
  (∀ x : Core, (kuvBlock x).length = 32) ∧
  (∀ k, Answers 0x0601 .guardStatus (fun c m => namedCore m c (m.b 8) = some k)
    (fun c _ => .res 0 (bitsToNat [(coreOf c k).guard.en, (coreOf c k).guard.background, (coreOf c k).guard.cfgErr, (coreOf c k).halted]
      + 2 ^ 8 * bitsToNat ((coreOf c k).guard.regions.toList.map (·.en)) + 2 ^ 16 * (coreOf c k).faultCount))
    (fun c _ => c)) ∧
  (∀ p, Answers 0x0701 .hmpStatus (fun c m => hmpPid m c = .ok p ∧ m.b 9 ≤ 3)
    (fun c m => .res (bitsToNat [((hmpOf c p).ring (m.b 9)).enable, ((hmpOf c p).ring (m.b 9)).fault] + 4 * ((hmpOf c p).ring (m.b 9)).cause.code
        + 32 * b2n (hmpOf c p).expert + 256 * ((hmpOf c p).postCount (m.b 9) % 256))
      (((hmpOf c p).ring (m.b 9)).prod + 65536 * ((hmpOf c p).ring (m.b 9)).cons))
    (fun c _ => c)) ∧
  (∀ p, Answers 0x0702 .hmpRaise (fun c m => hmpPid m c = .ok p ∧ 64 ≤ m.b 9 ∧ m.b 9 ≤ 95) (fun _ _ => .ok) (fun c m => fire p (m.b 9) 0xFF c)) ∧
  (∀ p, Answers 0x0703 .hmpSetup
    (fun c m => hmpPid m c = .ok p ∧ m.b 10 ≤ 15 ∧ m.b 11 ≤ 1 ∧ m.f 12 4 < 2 ^ 24 ∧ 4 ≤ m.b 9 ∧ m.b 9 ≤ 12 ∧ m.f 12 4 % 16 = 0 ∧ (hmpOf c p).expert = false)
    (fun _ _ => .ok)
    (fun c m =>
      let c := if ((hmpOf c p).ring 0).enable then disableRing p 0 c else c
      let c := modRing p 0 (fun g => { g with base := m.f 12 4, sizeLog2 := m.b 9, route := m.b 10 % 8, routeEn := bit (m.b 10) 3 }) c
      if m.b 11 = 0 then c else enableRing levelOf p 0 c))

/-- The registers of a guest's mailbox, its records and its completions (R208, R223, R233 to R237, R251, Tables 04.10, 04.11): a ring is
enabled only as R231 asks, the doorbell and the consumer index move only as far as the rings allow, and a violation faults the mailbox. -/
def Obligations.MailboxRows : Prop :=
  (∀ k ev, WritesReg (.mailboxEnable k ev) k 0x3000 (fun p c => (mbxOf c p).enable = false ∧ (mbxOf c p).ringsOk = true)
    (fun p c => drainMbx p (modMbx p (fun m =>
      { m with
        enable := true, cplEvent := ev, fault := false, cause := .none, noRead := false, noCpl := false
        cmdProd := 0, cmdCons := 0, cplProd := 0, cplCons := 0 }) c))) ∧
  (∀ k ev, WritesReg (.mailboxEnable k ev) k 0x3000 (fun p c => (mbxOf c p).enable = false ∧ (mbxOf c p).ringsOk = false)
    (fun p c => modMbx p (fun m => { m with cause := .badcfg }) c)) ∧
  (∀ k ev, WritesReg (.mailboxDisable k ev) k 0x3000 (fun _ _ => True) (fun p c => modMbx p (fun m => { m with enable := false, cplEvent := ev }) c)) ∧
  (∀ k (v : Word), WritesReg (.cmdProdWrite k v) k 0x3010
    (fun p c => idxDiff (mbxOf c p).cmdProd (mbxOf c p).cmdCons + idxDiff v.toNat (mbxOf c p).cmdProd ≤ 2 ^ (mbxOf c p).cmdLog2)
    (fun p c => modMbx p (fun m => { m with cmdProd := v.toNat }) c)) ∧
  (∀ k (v : Word), WritesReg (.cmdProdWrite k v) k 0x3010
    (fun p c => 2 ^ (mbxOf c p).cmdLog2 < idxDiff (mbxOf c p).cmdProd (mbxOf c p).cmdCons + idxDiff v.toNat (mbxOf c p).cmdProd)
    (fun p c => faultMbx p .prod 0x0404 c)) ∧
  (∀ k (v : Word), WritesReg (.cplConsWrite k v) k 0x3016
    (fun p c => idxDiff v.toNat (mbxOf c p).cplCons ≤ idxDiff (mbxOf c p).cplProd (mbxOf c p).cplCons)
    (fun p c => drainMbx p (modMbx p (fun m => { m with cplCons := v.toNat }) c))) ∧
  (∀ k (v : Word), WritesReg (.cplConsWrite k v) k 0x3016
    (fun p c => idxDiff (mbxOf c p).cplProd (mbxOf c p).cplCons < idxDiff v.toNat (mbxOf c p).cplCons)
    (fun p c => faultMbx p .cons 0x0405 c)) ∧
  (∀ p : Fin 7, MakesLinked (.recordAcceptance (.guest p))
    (fun c => c.stewDown = false ∧ 1 ≤ p.val ∧ (mbxOf c p).enable = true ∧ (mbxOf c p).noRead = false ∧ (mbxOf c p).cmdProd ≠ (mbxOf c p).cmdCons ∧
      kRangeOk c p .r ((mbxOf c p).cmdBase + 32 * ((mbxOf c p).cmdCons % 2 ^ (mbxOf c p).cmdLog2)) 32 = true ∧
      kRangeOk c p .w ((mbxOf c p).cmdBase + 32 * ((mbxOf c p).cmdCons % 2 ^ (mbxOf c p).cmdLog2)) 4 = true)
    (fun c =>
      let i := (mbxOf c p).cmdCons % 2 ^ (mbxOf c p).cmdLog2
      let a := (mbxOf c p).cmdBase + 32 * i
      let r := readK p a 32 c
      let w := acceptRecord (.part p) i r.1 r.2
      modMbx p (fun m => { m with cmdCons := (m.cmdCons + 1) % 65536, lastReject := (wordStatus w.1).getD m.lastReject })
        (writeK p a (clean (leBytes 4 w.1)) w.2))) ∧
  (∀ (p : Fin 7) h l, MakesLinked (.postponedCompletionWrite (.guest p))
    (fun c => c.stewDown = false ∧ (mbxOf c p).held = h :: l ∧ (mbxOf c p).cplOpen = true ∧
      kRangeOk c p .w ((mbxOf c p).cplBase + 16 * ((mbxOf c p).cplProd % 2 ^ (mbxOf c p).cplLog2)) 16 = true)
    (fun c =>
      let d := writeK p ((mbxOf c p).cplBase + 16 * ((mbxOf c p).cplProd % 2 ^ (mbxOf c p).cplLog2)) h.cpl.bytes
        (modMbx p (fun m => { m with held := l }) c)
      let d := modMbx p (fun m => { m with cplProd := (m.cplProd + 1) % 65536 }) d
      if !h.quiet && (mbxOf c p).cplEvent then fire p 0 0 d else d)) ∧
  (∀ n : Fin 2, Makes (.resultBufferTimeout n) (fun c => vget c.host.resLen n ≠ 0)
    (fun c => hostFault 0x040B (atTime (vget c.host.resSince n + 24000000) c))) ∧
  (∀ (h : Long) (m : Cmd) (t : Nat), Makes (.dataChunkTimeout h) (fun c => findCmd c h = some m ∧ m.dataSince = some t ∧ dataReady m = false)
    (fun c => complete m .timeout 0 0 [] (atTime (t + 24000000) c)))

/-- The host SPI port (R238 to R240, R710 to R713): reads answer the bytes of the window, writes act by register, a malformed transaction is
ignored and logged, and a port reset gives the registers their reset values. -/
def Obligations.HostPortRows : Prop :=
  (∀ (a : Word) n, MakesIn (.hostRead a n) (fun c => serving c = true ∧ a.toNat < 4096)
    (fun c => { c with memReply := { bytes := clean ((List.range n).map fun i => hostByte c (a.toNat + i)) } })) ∧
  (∀ (a : Word) n, MakesIn (.hostQuadRead a n) (fun c => serving c = true ∧ a.toNat < 4096)
    (fun c => { c with memReply := { bytes := clean ((List.range n).map fun i => hostByte c (a.toNat + i)) } })) ∧
  (∀ (a : Word) n, MakesIn (.hostRead a n) (fun c => serving c = false) (fun c => { c with memReply := { bytes := clean (List.replicate n 0xFF) } })) ∧
  (∀ (a : Word) b0 b1 b2 b3, MakesIn (.hostWrite a [b0, b1, b2, b3]) (fun c => serving c = true ∧ a.toNat < 0x40 ∧ a.toNat % 4 = 0)
    (hostRegWrite a.toNat (leNat [b0, b1, b2, b3]))) ∧
  (∀ (a : Word) b, MakesIn (.hostWrite a [b]) (fun c => serving c = true ∧ 0x40 < a.toNat ∧ a.toNat < 4095) (modHost (HostMbx.put a.toNat [b]))) ∧
  (∀ (a : Word) b, MakesIn (.hostQuadWrite a [b]) (fun c => serving c = true ∧ 0x40 < a.toNat ∧ a.toNat < 4095) (modHost (HostMbx.put a.toNat [b]))) ∧
  (∀ (a : Word) b0 b1 b2 b3, MakesIn (.hostQuadWrite a [b0, b1, b2, b3]) (fun c => serving c = true ∧ a.toNat < 0x40 ∧ a.toNat % 4 = 0)
    (hostRegWrite a.toNat (leNat [b0, b1, b2, b3]))) ∧
  (∀ v c, idxDiff c.host.cmdProd c.host.cmdCons + idxDiff v c.host.cmdProd ≤ 16 →
    hostRegWrite 0x04 v c = modHost (fun h => { h with cmdProd := v % 65536 }) c) ∧
  (∀ v c, hostRegWrite 0x2C v c = modHost (fun h => { h with status := h.status &&& ~~~(BitVec.ofNat 5 v) }) c) ∧
  MakesIn .hostPortReset (fun c => serving c = true)
    (fun c => discardHeld c.host.held.length 0
      { c with host := { bytes := c.host.bytes, discard := c.host.discard ++ (outstanding c .host).filter fun x => !c.host.discard.contains x } }) ∧
  Makes .hostBadTransaction (fun _ => True) (lintBlock 0x0E06 0xFF 0)

/-- The memory commands (R448 to R455, R469 to R471, R805): the status word, the Rinse's periods, flash programming and erasing, and the mount of a
cartridge whose header, table and image are good. One flash operation at a time is the model's choice (log entry 18). -/
def Obligations.MemoryCommands : Prop :=
  Answers 0x0801 .memStatus (fun _ _ => True)
    (fun c _ => .res c.mem.ceCount
      (c.mem.xmem.code + 2 ^ 8 * bitsToNat c.mem.erased.toList + 2 ^ 14 * b2n c.mem.resilver.isSome + 2 ^ 24 * c.mem.cart.code))
    (fun c _ => c) ∧
  Answers 0x0820 .memRinse (fun _ m => m.b 8 ≠ 0 ∧ 16 ≤ m.f 10 2 ∧ m.f 10 2 ≤ 4096 ∧ m.z 9 1 = true)
    (fun _ _ => .ok) (fun c m => modMem (fun x => { x with rinseSram := m.b 8, rinseXmem := m.f 10 2 }) c) ∧
  (∀ p, Answers 0x0812 .memFlashProgram
    (fun c m => flashFree c = true ∧ m.org = .part p ∧ srcDenied m c (m.f 16 4) (m.f 10 2) = false ∧ flashDenied m c (m.b 8) (m.f 12 4) (m.f 10 2) = false ∧
      m.b 8 ≤ 1 ∧ 256 ≤ m.f 10 2 ∧ m.f 10 2 ≤ 4096 ∧ m.f 10 2 % 256 = 0 ∧ m.f 12 4 % 256 = 0 ∧ m.f 16 4 < 2 ^ 24 ∧ m.z 9 1 = true ∧
      isPegged c 0x0B (m.b 8) = false ∧ (m.b 8 = 1 → c.mem.cart ≠ .absent) ∧ anyPoison (readK p (m.f 16 4) (m.f 10 2) c).1 = false)
    (fun _ _ => .wait)
    (fun c m => modMem (fun x =>
      { x with
        flashOp := some { handle := m.waitHandle, kind := .program, cs := m.b 8, offset := m.f 12 4, left := m.f 10 2 / 256, total := m.f 10 2 / 256,
                          data := plain (readK p (m.f 16 4) (m.f 10 2) c).1 } })
      (modCmd m.handle (fun x => { x with dataSince := none }) (readK p (m.f 16 4) (m.f 10 2) c).2))) ∧
  Answers 0x0812 .memFlashProgram
    (fun c m => flashFree c = true ∧ m.org.external = true ∧ flashDenied m c (m.b 8) (m.f 12 4) (m.f 10 2) = false ∧
      m.b 8 ≤ 1 ∧ 256 ≤ m.f 10 2 ∧ m.f 10 2 ≤ 4096 ∧ m.f 10 2 % 256 = 0 ∧ m.f 12 4 % 256 = 0 ∧ m.f 16 4 = 0 ∧ m.z 9 1 = true ∧
      isPegged c 0x0B (m.b 8) = false ∧ (m.b 8 = 1 → c.mem.cart ≠ .absent) ∧ dataReady m = true ∧ m.dataPoison = false)
    (fun _ _ => .wait)
    (fun c m => modMem (fun x =>
      { x with
        flashOp := some { handle := m.waitHandle, kind := .program, cs := m.b 8, offset := m.f 12 4, left := m.f 10 2 / 256, total := m.f 10 2 / 256,
                          data := m.data.take (m.f 10 2) } })
      (modCmd m.handle (fun x => { x with dataSince := none }) c)) ∧
  Answers 0x0813 .memFlashErase
    (fun c m => flashFree c = true ∧ flashDenied m c (m.b 8) (m.f 12 4) (4096 * m.b 9) = false ∧ m.b 8 ≤ 1 ∧ m.b 9 ≠ 0 ∧ m.f 12 4 % 4096 = 0 ∧ m.z 10 2 = true ∧
      isPegged c 0x0B (m.b 8) = false ∧ (m.b 8 = 1 → c.mem.cart ≠ .absent))
    (fun _ _ => .wait)
    (fun c m => modMem (fun x =>
      { x with flashOp := some { handle := m.waitHandle, kind := .erase, cs := m.b 8, offset := m.f 12 4, left := m.b 9, total := m.b 9 } })
      (modCmd m.handle (fun x => { x with dataSince := none }) c)) ∧
  Answers 0x0810 .memCartMount
    (fun c _ =>
      let hd := c.mem.bytes 0x30000000 64
      let table := c.mem.bytes (0x30000000 + (headerOf hd).crcTable) 4096
      isPegged c 0x0B 1 = false ∧ c.mem.cart ≠ .absent ∧ pfield hd 0 4 = 0x54434B53 ∧ pfield hd 4 2 = 1 ∧ crc32 (hd.take 0x3C) = pfield hd 0x3C 4 ∧
        crc32 (table.take 4092) = leNat (table.drop 4092) ∧
        (bit (headerOf hd).flags 1 = true →
          ∃ a b d, verifyImage c 2 0 (headerOf hd).titleId (c.mem.bytes 0x30000000 (headerOf hd).imageLen) = .good a b d) ∧
        (bit (headerOf hd).flags 0 = true → (contentSlot c (headerOf hd).titleId).isSome = true ∧ (lifeOf c = .maker ∨ lifeOf c = .field)))
    (fun c _ => .res (headerOf (c.mem.bytes 0x30000000 64)).flags (headerOf (c.mem.bytes 0x30000000 64)).imageLen)
    (fun c _ => modMem (fun m => { m with cart := .mounted, cartHdr := headerOf (c.mem.bytes 0x30000000 64), cache := [] }) c) ∧
  Answers 0x0811 .memCartUnmount (fun c _ => isPegged c 0x0B 1 = false ∧ c.mem.cart ≠ .absent)
    (fun _ _ => .ok) (fun c _ => modMem (fun m => { m with cart := .inserted, cache := [] }) c)

/-- Requests at the targets, the merge buffers, darning and the Rinse (R156, R165 to R171, R427, R456 to R463, R818): a request is granted where
the map and ADMIT allow it, a dirty entry is written out whole, and a walk visits one place. -/
def Obligations.MemoryRequestRows : Prop :=
  (∀ (u : Word) (a : BitVec 24) n p cls, Makes (.memoryRequest (.read u a n))
    (fun c => n.val ≠ 0 ∧ requester c (unitOfCode u.toNat) = some (p, cls, true) ∧ kRangeOk c p .r a.toNat n.val = true)
    (fun c =>
      let d := countGrant (targetOf (kPhys c p a.toNat)) (rinseFloor cls (targetOf (kPhys c p a.toNat)) c)
      let r := if cls = .guest then readK p a.toNat n.val d else readKFree p a.toNat n.val d
      { r.2 with memReply := { bytes := r.1 } })) ∧
  (∀ (u : Word) (a : BitVec 24) bs p, Makes (.memoryRequest (.write u a bs))
    (fun c => bs ≠ [] ∧ bs.length < 64 ∧ requester c (unitOfCode u.toNat) = some (p, .guest, true) ∧ kRangeOk c p .w a.toNat bs.length = true)
    (fun c =>
      let d := countGrant (targetOf (kPhys c p a.toNat)) (rinseFloor .guest (targetOf (kPhys c p a.toNat)) c)
      { writeK p a.toNat (clean bs) d with memReply := { bytes := [] } })) ∧
  (∀ (u : Word) (a : BitVec 24) n p cls, Makes (.memoryRequest (.read u a n))
    (fun c => n.val ≠ 0 ∧ requester c (unitOfCode u.toNat) = some (p, cls, false))
    (fun c => { fabricPeg (unitOfCode u.toNat) a.toNat c with memReply := { refused := true } })) ∧
  (∀ (line : Long) e, Makes (.mergeEntryEvict false line) (fun c => (c.mem.buf .sram).find? (·.line == line.toNat) = some e)
    (fun c => evictEntry .sram e (setBuf .sram (delFirst (·.line == line.toNat) (c.mem.buf .sram)) c))) ∧
  (∀ (line : Long) e, Makes (.mergeEntryEvict true line) (fun c => (c.mem.buf .xmem).find? (·.line == line.toNat) = some e)
    (fun c => evictEntry .xmem e (setBuf .xmem (delFirst (·.line == line.toNat) (c.mem.buf .xmem)) c))) ∧
  Makes (.rinseVisit .sram) (fun c => c.mem.rinseOn = true)
    (fun c => modMem (fun m => { m with rinseS := m.rinseS.advance 73728 c.clk.qtime, sinceRinse := vset m.sinceRinse 0 0 }) (rinseSramLine c.mem.rinseS.pos c)) ∧
  Makes (.rinseVisit .xmem) (fun c => c.mem.rinseOn = true ∧ c.mem.xmem ≠ .none ∧ c.mem.zeroPtr ≤ c.mem.rinseX.pos)
    (fun c => modMem (fun m =>
      { m with zeroPtr := c.mem.rinseX.pos + 1, rinseX := m.rinseX.advance m.xLines c.clk.qtime, sinceRinse := vset m.sinceRinse 1 0 }) c) ∧
  Makes (.rinseVisit .cart) (fun c => c.mem.rinseOn = true ∧ c.mem.cart = .mounted ∧ isPegged c 0x0B 1 = false ∧ cartPageGood c.mem c.mem.rinsePage = true)
    (fun c => modMem (fun m =>
      { m with rinsePage := if m.rinsePage + 1 < m.cartHdr.pages then m.rinsePage + 1 else 0, sinceRinse := vset m.sinceRinse 2 0 }) c) ∧
  Makes (.rinsePassLate .sram) (fun c => c.mem.rinseOn = true ∧ c.mem.rinseS.late = false)
    (fun c => lintBlock 0x080D 0xFF 0 (modMem (fun m => { m with rinseS := { m.rinseS with late := true } })
      (atTime (c.mem.rinseS.passStart + 2 * c.mem.rinseSram * 24000000 + 1) c))) ∧
  (∀ k, WritesReg (.darnReadRaw k) k 0xB012 (fun p c => darnRefused c p .readRaw = true) (fun p c => modDiag p (fun d => { d with refused := true }) c)) ∧
  (∀ k, WritesReg (.darnReadRaw k) k 0xB012 (fun p c => darnRefused c p .readRaw = false ∧ c.mem.region (kPhys c p (diagOf c p).addr / 8 * 8) = .sram)
    (fun p c => readRawSram p (kPhys c p (diagOf c p).addr / 8 * 8)
      (modDiag p (fun d => { d with refused := false }) (evictLine .sram (kPhys c p (diagOf c p).addr / 8 * 8 / 64) c)))) ∧
  (∀ k, WritesReg (.darnWriteRaw k) k 0xB012 (fun p c => darnRefused c p .writeRaw = false ∧ c.mem.region (kPhys c p (diagOf c p).addr / 8 * 8) = .sram)
    (fun p c =>
      let d := modDiag p (fun d => { d with refused := false }) (evictLine .sram (kPhys c p (diagOf c p).addr / 8 * 8 / 64) c)
      modMem (Mem.setRaw (kPhys c p (diagOf c p).addr / 8 * 8) (leBytes 8 (diagOf d p).data) ((diagOf d p).chk0 % 256)) d)) ∧
  (∀ k, WritesReg (.darnWriteCheck k) k 0xB012 (fun p c => darnRefused c p .writeCheck = false ∧ c.mem.region (kPhys c p (diagOf c p).addr / 8 * 8) = .sram)
    (fun p c =>
      let a := kPhys c p (diagOf c p).addr / 8 * 8
      let d := modDiag p (fun d => { d with refused := false }) (evictLine .sram (a / 64) c)
      modMem (Mem.setRaw a (d.mem.bytes a 8) ((diagOf d p).chk0 % 256)) d))

/-- External memory, spare macros, flash and the cartridge (R99, R437, R442 to R444, R447, R452, R453, R455, R823, R824, R828): what is lost,
rewritten, copied, programmed or inserted, one place at a time. -/
def Obligations.MemoryDeviceRows : Prop :=
  (∀ d : Fin 6, Makes (.externalDeviceLost d) (fun c => fitted c d = true ∧ c.mem.resilver = none ∧ c.mem.erased.toList.getD d false = false ∧
      ∀ j, j < 6 → j ≠ d.val → c.mem.erased.toList.getD j false = false)
    (fun c =>
      let t := fireMemoryDevice 2 (lint 0x0805 (0x0300 + d) 0xFF 0 (setUnitState ⟨3, d⟩ .retired
        (modMem (fun m => { m with erased := vset m.erased d true, corrRun := (0, 0) }) c)))
      if c.mem.xmem = .lean then lintBlock 0x0806 0xFF 0 t else t)) ∧
  (∀ r : Resilver, Makes .resilverLine (fun c => c.mem.resilver = some r ∧ r.aborted = true)
    (fun c => finish r.handle .hwFault 0 0 (modMem (fun m => { m with resilver := none }) c))) ∧
  (∀ r : Resilver, Makes .resilverLine
    (fun c => c.mem.resilver = some r ∧ r.aborted = false ∧ (readLine r.ptr (evictLine .xmem (0x400000 + r.ptr) c)).2.mem.resilver = some r)
    (fun c =>
      let t := readLine r.ptr (evictLine .xmem (0x400000 + r.ptr) c)
      let d := (List.range 8).foldl (fun d i => writeXmem (0x10000000 + 64 * r.ptr + 8 * i) (t.1.getD i .bad) d) t.2
      if d.mem.xLines ≤ r.ptr + 1 then resilverEnd { r with ptr := r.ptr + 1 } d else modMem (fun m => { m with resilver := some { r with ptr := r.ptr + 1 } }) d)) ∧
  (∀ k : MacroCopy, Makes (.macroCopyRow true) (fun c => c.mem.copy = some k ∧ unitState (copyRow k c) ⟨2, k.spare⟩ = .copying)
    (fun c => finish k.handle .hwFault 0 0 (setUnitState ⟨2, k.spare⟩ .retired (modMem (fun m => { m with copy := none }) (copyRow k c))))) ∧
  (∀ k : MacroCopy, Makes (.macroCopyRow false) (fun c => c.mem.copy = some k ∧ k.row < 2047 ∧ unitState (copyRow k c) ⟨2, k.spare⟩ = .copying)
    (fun c => modMem (fun m => { m with copy := some { k with row := k.row + 1 } }) (copyRow k c))) ∧
  (∀ k : MacroCopy, Makes (.macroCopyRow false) (fun c => c.mem.copy = some k ∧ k.row = 2047 ∧ unitState (copyRow k c) ⟨2, k.spare⟩ = .copying)
    (fun c =>
      let d := copyRow k c
      let old := vget d.mem.patch k.logical
      let d := lint 0x080F (0x0200 + old) 0xFF k.spare (modMem (fun m => { m with patch := vset m.patch k.logical k.spare, copy := none }) d)
      fireService (0x0200 + k.spare) 3 0 (finish k.handle .ok 0 0 (setUnitState ⟨2, old⟩ .retired (setUnitState ⟨2, k.spare⟩ .active d))))) ∧
  (∀ o : FlashOp, Makes .flashOpComplete (fun c => c.mem.flashOp = some o ∧ o.kind = .program ∧ o.busy = true ∧ 1 < o.left)
    (fun c =>
      let d := uncache o.cs o.offset 256 (programAt (csBase o.cs + o.offset) ((o.data.drop (256 * (o.total - o.left))).take 256) c)
      modMem (fun m => { m with flashOp := some { o with offset := o.offset + 256, left := o.left - 1, busy := d.pwr.cls == 1 } }) d)) ∧
  (∀ o : FlashOp, Makes .flashOpComplete (fun c => c.mem.flashOp = some o ∧ o.kind = .erase ∧ o.busy = true ∧ o.left = 1)
    (fun c => drainResets (finish o.handle .ok 0 0
      (modMem (fun m => { m with flashOp := none }) (uncache o.cs o.offset 4096 (eraseSector (csBase o.cs + o.offset) c))))) ) ∧
  (∀ o : FlashOp, Makes .flashOpTimeout (fun c => c.mem.flashOp = some o ∧ o.busy = true)
    (fun c => drainResets (finish o.handle .timeout 0 (o.total - o.left) (modMem (fun m => { m with flashOp := none })
      (lint 0x0810 (0x0B00 + o.cs) 0xFF o.offset (uncache o.cs o.offset o.kind.unit (spoilFlash (csBase o.cs + o.offset) o.kind.unit c))))))) ∧
  (∀ (page : Word) bs, Makes (.cartPageFill page)
    (fun c => c.mem.cart = .mounted ∧ isPegged c 0x0B 1 = false ∧ c.mem.cache.any (·.page == page.toNat) = false ∧ cartPageGood c.mem page.toNat = true ∧
      (if bit c.mem.cartHdr.flags 0 then cartPlain c page.toNat (c.mem.bytes (0x30000000 + 4096 * page.toNat) 4096)
        else some (c.mem.bytes (0x30000000 + 4096 * page.toNat) 4096)) = some bs)
    (modMem fun m => { m with cache := (⟨page.toNat, bs⟩ :: m.cache).take 16 })) ∧
  Makes .cartRemoval (fun c => c.mem.cart ≠ .absent ∧ c.mem.flashOp = none)
    (fun c => lint 0x0809 0x0B01 0xFF 0 (fireRunning 9 0 (modMem (fun m => { m with cart := .absent, cache := [] }) c))) ∧
  Makes (.cartInsertion none) (fun c => c.mem.cart = .absent) (fun c => fireRunning 9 1 (modMem (fun m => { m with cart := .inserted }) c)) ∧
  (∀ bs, Makes (.cartInsertion (some bs)) (fun c => c.mem.cart = .absent ∧ bs.length ≤ 2 ^ 28)
    (fun c => fireRunning 9 1 (modMem (fun m =>
      { ({ m with cells := sclear m.cells 0x30000000 0x40000000 } : Mem).setBytes 0x30000000 bs with cart := .inserted }) c)))

/-- The Spool engine (R473, R479 to R481, R492 to R502, R506, R508): a chain is queued, started, stopped, resumed and cleared as CH_CTRL and the
commands say, an element moves its bytes, and the end of a chain reports. -/
def Obligations.SpoolCommandsAndRows : Prop :=
  (∀ ch, Answers 0x0901 .splStatus (fun c m => spoolTarget m c = some ch ∧ isPegged c 4 ch = false)
    (fun c _ => .res (min (chOf c ch).elem 0xFFFF)
      ((chOf c ch).st.code + 4 * (chOf c ch).queue.length + 256 * (chOf c ch).cause + 65536 * (chOf c ch).didx))
    (fun c _ => c)) ∧
  (∀ ch, Answers 0x0910 .splSubmit
    (fun c m => spoolTarget m c = some ch ∧ isPegged c 4 ch = false ∧ m.b 9 ≤ 1 ∧ m.z 10 2 = true ∧ m.f 12 4 < 2 ^ 24 ∧ m.f 12 4 % 32 = 0 ∧
      (chOf c ch).queue.length < 4)
    (fun _ _ => .wait)
    (fun c m =>
      let d := modCh ch (fun x =>
        { x with
          queue := x.queue ++ [{ first := m.f 12 4, byCmd := true, handle := if m.org = .part 0 then none else some m.handle, bulk := bit (m.b 9) 0 }] }) c
      if (chOf c ch).free && (chOf c ch).queue.isEmpty then startFront ch d else d)) ∧
  (∀ ch, Answers 0x0911 .splResume
    (fun c m => spoolTarget m c = some ch ∧ isPegged c 4 ch = false ∧ (chOf c ch).st = .parked ∧ (chOf c ch).queue = [])
    (fun _ _ => .wait)
    (fun c m => modCh ch (fun x =>
      { x with
        st := .running
        queue := [{ first := x.cur, byCmd := true, handle := if m.org = .part 0 then none else some m.handle }]
        curIdx := x.didx, curElem := x.elem, loaded := none, lastProgress := c.clk.qtime }) c)) ∧
  (∀ k (n : Fin 8) bulk ev ch, WritesReg (.spoolStart k n bulk ev) k (0x2000 + 0x20 * n.val)
    (fun p c => windowUnit c p .spool n = some ch ∧ (chOf c ch).free = true ∧ (chOf c ch).queue = [])
    (fun _ c => startFront ch (modCh ch (fun x => { x with queue := [{ first := x.desc }] }) (modCh ch (fun x => { x with bulk := bulk, eventEn := ev }) c)))) ∧
  (∀ k (n : Fin 8) bulk ev ch, WritesReg (.spoolAbort k n bulk ev) k (0x2000 + 0x20 * n.val)
    (fun p c => windowUnit c p .spool n = some ch ∧ (chOf c ch).st = .running)
    (fun _ c => modCh ch (fun x => { x with st := .stopping }) (modCh ch (fun x => { x with bulk := bulk, eventEn := ev }) c))) ∧
  (∀ k (n : Fin 8) bulk ev ch, WritesReg (.spoolResumeWrite k n bulk ev) k (0x2000 + 0x20 * n.val)
    (fun p c => windowUnit c p .spool n = some ch ∧ (chOf c ch).st = .parked ∧ (chOf c ch).queue = [])
    (fun _ c => resumeParked ch false none (modCh ch (fun x => { x with bulk := bulk, eventEn := ev }) c))) ∧
  (∀ k (n : Fin 8) bulk ev ch, WritesReg (.spoolClear k n bulk ev) k (0x2000 + 0x20 * n.val)
    (fun p c => windowUnit c p .spool n = some ch ∧ (chOf c ch).st = .parked)
    (fun _ c => modCh ch (fun x => { x with st := .idle, cur := 0 }) (modCh ch (fun x => { x with bulk := bulk, eventEn := ev }) c))) ∧
  (∀ k (n : Fin 8) resume bulk ev ch, WritesReg (.spoolCancelBeforeStart k n resume bulk ev) k (0x2000 + 0x20 * n.val)
    (fun p c => windowUnit c p .spool n = some ch ∧ (chOf c ch).free = true)
    (fun _ c => fireSpool ch Status.cancelledBeforeStart.code (modCh ch (fun x => { x with status := Status.cancelledBeforeStart.code })
      (modCh ch (fun x => { x with bulk := bulk, eventEn := ev }) c)))) ∧
  (∀ (ch : Fin 8) q l, Makes (.spoolChainStart ch) (fun c => (chOf c ch).free = true ∧ (chOf c ch).queue = q :: l)
    (fun c => modCh ch (fun x =>
      { x with st := .running, cur := q.first, curIdx := 0, curElem := 0, loaded := none, lastProgress := c.clk.qtime }) c)) ∧
  (∀ (ch : Fin 8) bs x d, Makes (.spoolElement ch)
    (fun c => (chOf c ch).st = .running ∧ isPegged c 4 ch = false ∧ cancelWaits ((chOf c ch).queue.head?.getD default).handle c = false ∧
      (chOf c ch).loaded = some bs ∧ parseDesc bs (chOf c ch).curIdx = some x ∧
      spElem (ownerOf c .spool ch) ((chOf c ch).bulk || ((chOf c ch).queue.head?.getD default).bulk) x (chOf c ch).curElem c = .ok d)
    (fun _ => elementDone ch x d)) ∧
  (∀ (ch : Fin 8), Makes (.spoolElement ch)
    (fun c => (chOf c ch).st = .running ∧ isPegged c 4 ch = false ∧ cancelWaits ((chOf c ch).queue.head?.getD default).handle c = true)
    (endChain ch .partialDone .aborted 0)) ∧
  (∀ p bulk x k c, x.op = .fill → x.desc = false → refusedOf c p [(.w, (x.d + (piece x.d x.len k).1) % 2 ^ 24, (piece x.d x.len k).2)] = none →
    spElem p bulk x k c = .ok (spWrite bulk p ((x.d + (piece x.d x.len k).1) % 2 ^ 24)
      ((List.range (piece x.d x.len k).2).map fun j => (x.pattern.getD (((piece x.d x.len k).1 + j) % x.size) 0, false)) c)) ∧
  (∀ ch : Fin 8, Makes (.spoolStall ch) (fun c => (chOf c ch).st = .running)
    (fun c =>
      let d := atTime ((chOf c ch).lastProgress + 2400000) c
      lint 0x0905 (0x0400 + ch) (ownerOf d .spool ch) 0 (modCh ch (fun x => { x with lastProgress := d.clk.qtime }) d)))

/-- The commands of layers, stitches and composition (R164, R183, R513, R520, R543, R549, R554, R555, R580, R584 to R586): checks and admission are
made on what every accepted change will leave, and the change then waits for its opening. -/
def Obligations.LayerAndComposeCommands : Prop :=
  (∀ hw, Answers 0x0A01 .lyrStatus (fun c m => lunitOf c m.part (m.b 8) = some (.layer hw) ∧ isPegged c 6 hw = false)
    (fun c m =>
      let l := layerOf c hw
      .res (bitsToNat [l.r.en, essEff l.r.ess (lunitMarks c m.part (.layer hw)),
          (lunitMarks c m.part (.layer hw)).overbooked, (lunitMarks c m.part (.layer hw)).shed] + 16 * (kindOf hw).code + 256 * hw)
        (min 65535 (layerCost c hw l.r) + 65536 * min 65535 (loadOf c m.part)))
    (fun c _ => c)) ∧
  (∀ hw img d, Answers 0x0A10 .lyrSetup
    (fun c m => kRangeOk c m.part .r (m.f 12 4) 64 = true ∧ m.f 12 4 < 2 ^ 24 ∧ readKFree m.part (m.f 12 4) 64 c = (img, d) ∧ m.b 8 < 8 ∧
      layerOfLocal (afterChanges c) m.part (m.b 8) = some hw ∧ anyPoison img = false ∧ m.z 9 3 = true ∧
      (setupRegs (plain img)).all (fun w => blockValid (kindOf hw) w.1 w.2) = true ∧ isPegged (afterChanges c) 6 hw = false ∧
      ((setupRegs (plain img)).foldl (fun r w => r.write (kindOf hw) w.1 w.2) (layerOf (afterChanges c) hw).r).en = false)
    (fun _ _ => .wait) (fun _ m => enqueueChange m true (.setup hw (setupRegs (plain img))) d)) ∧
  (∀ hw, Answers 0x0A11 .lyrEnable
    (fun c m => m.b 8 ≠ 0x81 ∧ lunitOf (afterChanges c) m.part (m.b 8) = some (.layer hw) ∧ bit (m.b 9) 7 = false ∧ bit (m.b 9) 3 = false ∧
      isPegged (afterChanges c) 6 hw = false ∧
      (bit (m.b 9) 0 = true → admission (afterChanges c) m.part
        (loadOf (modLayer hw (fun l => { l with r := { l.r with en := false } }) (afterChanges c)) m.part)
        (layerCost (afterChanges c) hw (layerOf (afterChanges c) hw).r) false ≠ .refused))
    (fun _ _ => .wait) (fun c m => enqueueChange m true (.enable hw (m.b 9)) c)) ∧
  Answers 0x0A12 .lyrPalette
    (fun c m => 1 ≤ m.f 10 2 ∧ m.f 10 2 ≤ 1024 ∧ m.f 12 4 < 2 ^ 24 ∧ kRangeOk c m.part .r (m.f 12 4) (4 * m.f 10 2) = true ∧
      anyPoison (readKFree m.part (m.f 12 4) (4 * m.f 10 2) c).1 = false ∧
      m.f 8 2 + m.f 10 2 ≤ 64 * (palBanks (afterChanges c).lyr m.part).length)
    (fun _ _ => .wait)
    (fun c m => enqueueChange m true (.palette m.part (m.f 8 2)
      ((List.range (m.f 10 2)).map fun i => pfield (plain (readKFree m.part (m.f 12 4) (4 * m.f 10 2) c).1) (4 * i) 4))
      (readKFree m.part (m.f 12 4) (4 * m.f 10 2) c).2) ∧
  Answers 0x0A13 .lyrGrant
    (fun c m => 1 ≤ m.b 8 ∧ m.b 8 ≤ 6 ∧ m.b 10 ≤ 15 ∧ m.b 11 ≤ 16 ∧ (0 < m.b 11 → m.b 10 + m.b 11 ≤ 16) ∧ m.b 12 ≤ 64 ∧
      m.b 12 ≤ 8 * (ownedUnits (afterChanges c) (m.b 8) .sprite).length ∧ m.b 9 = (partOf c (m.b 8)).gen ∧
      ((partOf c (m.b 8)).st = .stopped ∨ (partOf c (m.b 8)).st = .running) ∧
      (∀ b, m.b 10 ≤ b → b < m.b 10 + m.b 11 → b < 16 → vget (afterChanges c).lyr.palOwner b = 0 ∨ vget (afterChanges c).lyr.palOwner b = m.b 8) ∧
      ((List.range 7).map fun i => if i = m.b 8 then m.b 12 else (groupOf (afterChanges c) i).quota).sum ≤ 64 ∧
      m.b 12 ≤ (groupOf (afterChanges c) (m.b 8)).quota)
    (fun _ _ => .wait) (fun c m => enqueueChange m true (.grant (m.b 8) (m.b 10) (m.b 11) (m.b 12)) c) ∧
  Answers 0x0A20 .stchSet
    (fun c m => m.f 8 4 < 2 ^ 24 ∧ m.f 8 4 % 8 = 0 ∧ 1 ≤ m.f 12 2 ∧ m.f 12 2 ≤ 4096 ∧ 1 ≤ m.b 14 ∧ m.b 14 ≤ 16 ∧ m.b 15 ≤ 1 ∧
      (m.b 15 = 1 → admission (afterChanges c) m.part (loadOf (modStitch m.part (fun s => { s with en := false }) (afterChanges c)) m.part)
        (8 * m.b 14) false ≠ .refused))
    (fun _ _ => .wait) (fun c m => enqueueChange m true (.stitch m.part (m.f 8 4) (m.f 12 2) (m.b 14) (bit (m.b 15) 0)) c) ∧
  Answers 0x0B01 .cmpStatus (fun _ m => m.org = .part 0)
    (fun c _ => .res (min 65535 (((List.range 8).map fun hw => (layerOf c hw).m.substLast).sum))
      (c.cmp.tone + 4 * c.cmp.dither + 16 * vget c.cmp.depth 0 + 256 * vget c.cmp.depth 1 + 4096 * vget c.cmp.depth 2))
    (fun c _ => c) ∧
  (∀ hw, Answers 0x0B10 .cmpBlend
    (fun c m => m.b 8 < 8 ∧ layerOfLocal (afterChanges c) m.part (m.b 8) = some hw ∧ m.b 9 % 4 ≠ 3 ∧ m.b 9 < 8 ∧ m.b 10 ≤ 7 ∧ isPegged (afterChanges c) 6 hw = false)
    (fun _ _ => .wait) (fun c m => enqueueChange m true (.blend hw { mode := m.b 9 % 4, premul := bit (m.b 9) 2, prioZ := m.b 10 }) c)) ∧
  Answers 0x0B11 .cmpBackground (fun _ m => m.f 8 2 ≤ 8191 ∧ m.f 10 2 ≤ 8191 ∧ m.f 12 2 ≤ 8191)
    (fun _ _ => .wait) (fun c m => enqueueChange m true (.background (m.f 8 2) (m.f 10 2) (m.f 12 2)) c) ∧
  Answers 0x0B12 .cmpTone (fun _ m => m.b 8 = 0 ∧ m.z 9 3 = true ∧ m.srcDenied = false ∧ m.dataPoison = false)
    (fun _ _ => .wait)
    (fun c m => enqueueChange m true (.tone 0 none) (modCmd m.handle (fun x => { x with data := [], dataSince := none }) c)) ∧
  (∀ v, Answers 0x0B12 .cmpTone
    (fun _ m => 1 ≤ m.b 8 ∧ m.b 8 ≤ 3 ∧ m.z 9 3 = true ∧ m.srcRead = true ∧ m.srcDenied = false ∧ m.f 12 4 < 2 ^ 24 ∧ m.org.external = false ∧ m.dataPoison = false ∧
      toneTables (m.b 8) m.data = some v ∧ v.toList.any (fun t => t.any (4096 ≤ ·)) = false)
    (fun _ _ => .wait)
    (fun c m => enqueueChange m true (.tone (m.b 8) (some v)) (modCmd m.handle (fun x => { x with data := [], dataSince := none }) c))) ∧
  Answers 0x0B13 .cmpDither (fun _ m => m.b 8 ≤ 2 ∧ depthOk (m.b 9) = true ∧ depthOk (m.b 10) = true ∧ depthOk (m.b 11) = true)
    (fun _ _ => .wait) (fun c m => enqueueChange m true (.dither (m.b 8) #v[m.b 9, m.b 10, m.b 11]) c)

/-- The layer windows and the work of a line (R34, R39, R41, R515, R518 to R520, R549, R551, R571, R615, R616, R621): direct and held writes, palette
halves, fetch, deadline, composition and the end of a storm hold. -/
def Obligations.LayerAndLineRows : Prop :=
  (∀ k f, WritesReg (.layerHoldRelease k f) k 0x4480 (fun p c => (lpOf c p).hold = true)
    (fun p c => modLp p (fun l => { l with atFrame := f, hold := false, released := l.released ++ l.staged.map (fun w => (f, w)), staged := [] }) c)) ∧
  (∀ k (e : Fin 1024) (v : Word) h, WritesReg (.paletteLowWrite k e v) k (0x5000 + 4 * e.val)
    (fun p c => (lpOf c p).hold = false ∧ palEntry c.lyr p e = some h) (fun p c => modLp p (fun l => { l with palLow := some (h, v.toNat) }) c)) ∧
  (∀ k (e : Fin 1024) (v : Word) h, WritesReg (.paletteHighWrite k e v) k (0x5002 + 4 * e.val)
    (fun p c => (lpOf c p).hold = false ∧ palEntry c.lyr p e = some h)
    (fun p c => palCommit h v.toNat (lpOf c p).palLow (modLp p (fun l => { l with palLow := none }) c))) ∧
  (∀ k (n : Fin 2048) (v : Word) x, WritesReg (.layerEnableWrite k n v) k (0x4000 + 2 * n.val)
    (fun p c => n.val ≠ 0x240 ∧ (lpOf c p).hold = true ∧ lregAt c p (2 * n.val) = some x ∧ x.writable = true ∧ x.valid v.toNat = true)
    (fun p c => modLp p (fun l => { l with staged := l.staged ++ [(2 * n.val, v.toNat)] }) c)) ∧
  (∀ k (n : Fin 2048) (v : Word) x, WritesReg (.layerEnableWrite k n v) k (0x4000 + 2 * n.val)
    (fun p c => n.val ≠ 0x240 ∧ (lpOf c p).hold = false ∧ lregAt c p (2 * n.val) = some x ∧ x.writable = true ∧ x.valid v.toNat = true)
    (fun p c => lregWrite p v.toNat false x c)) ∧
  (∀ k (n : Fin 2048) (v : Word) x, WritesReg (.layerEnableWrite k n v) k (0x4000 + 2 * n.val)
    (fun p c => n.val ≠ 0x240 ∧ lregAt c p (2 * n.val) = some x ∧ x.writable = true ∧ x.valid v.toNat = false)
    (fun p c => lintReg p (0x4000 + 2 * n.val) x c)) ∧
  (∀ k (v : Word), WritesReg (.stitchEnableWrite k v) k 0x6000 (fun _ _ => bit v.toNat 0 = false)
    (fun p c => modStitch p (fun s => { s with en := false, slots := bits v.toNat 11 8 + 1, m := s.m.drop, actEn := false }) c)) ∧
  (∀ k (v : Word) a, WritesReg (.stitchEnableWrite k v) k 0x6000
    (fun p c => bit v.toNat 0 = true ∧ a ≠ .refused ∧
      admission c p (loadOf (modStitch p (fun x => { x with en := false }) c) p)
        (stitchCost { (lpOf c p).stitch with en := true, slots := bits v.toNat 11 8 + 1 }) true = a)
    (fun p c => lintAdmit a p 0x81 (modStitch p (fun s => { s with en := true, slots := bits v.toNat 11 8 + 1, m := s.m.admitAs a }) c))) ∧
  (∀ (n : Fin 2048) (dots : Fin 8192) s, Makes (.fetchComplete n dots)
    (fun c => (c.scan.lines.find? fun s => s.line == n.val && s.fetched.isNone) = some s ∧ s.missed = false)
    (fun c =>
      let r := fetchSlot s (fun _ => false) (fun _ => false) c
      noteSlack n (if r.1.isEmpty then 255 else slackOf dots r.2.beam.htotal) (setSlot n (fun t => { t with fetched := some r.1 }) r.2))) ∧
  (∀ (n : Fin 2048) ml mg s, Makes (.fetchDeadline n ml mg)
    (fun c => (c.scan.lines.find? fun s => s.line == n.val && s.fetched.isNone) = some s ∧ missing c s ml mg ≠ ([], []) ∧
      (∀ hw ∈ (missing c s ml mg).1, essEff (s.snap.layers.toList.getD hw {}).r.ess (layerOf c hw).m = false) ∧
      (∀ p ∈ (missing c s ml mg).2, essEff (s.snap.groups.toList.getD p {}).ess (groupOf c p).m = false))
    (fun c =>
      let d := (missing c s ml mg).1.foldl (fun d hw => shedLayer s.frame n hw d) (noteSlack n 0 c)
      let d := (missing c s ml mg).2.foldl (fun d p => shedGroup s.frame n p d) d
      let r := fetchSlot s (fun hw => (missing c s ml mg).1.contains hw) (fun p => (missing c s ml mg).2.contains p) d
      setSlot n (fun t => { t with fetched := some r.1, missed := true }) r.2)) ∧
  (∀ (n : Fin 2048) s us, Makes (.lineCompose n)
    (fun c => (c.scan.lines.find? fun s => s.line == n.val && s.composed.isNone) = some s ∧ s.fetched = some us ∧ fullSlots c < 4) (composeLine s us)) ∧
  (∀ (p : Fin 7) t, Makes (.stormHoldEnd p) (fun c => (lpOf c p).storm = some t) (fun c => modLp p (fun l => { l with storm := none }) (atTime t c)))

/-- The Hamper's window (R383, R387, R388, R392, R396, R397, R404, R405): EOI ends the source's claim and pops the running priority, and an
edge that was counted meanwhile is enqueued again; raising the priority pushes it; a consumer index beyond the records faults the ring. -/
def Obligations.HamperWindowRows : Prop :=
  (∀ (k : CoreId) (n : Fin 128), 96 ≤ n.val → WritesReg (.eoi k n) k 0x004 (fun _ _ => True) fun p c => lint 0x0703 (coreUnit k) p n c) ∧
  (∀ (k : CoreId) (n : Fin 128), n.val < 96 → WritesReg (.eoi k n) k 0x004
    (fun p c => (hmpOf (modCore k (fun x => { x with prio := x.prio.drop 1 }) c) p).pend.getLsbD n = false)
    fun _ c => modCore k (fun x => { x with prio := x.prio.drop 1 }) c) ∧
  (∀ (k : CoreId) (n : Fin 128), n.val < 96 → isLevelSrc n = false → WritesReg (.eoi k n) k 0x004
    (fun p c =>
      let h := hmpOf (modCore k (fun x => { x with prio := x.prio.drop 1 }) c) p
      h.pend.getLsbD n = true ∧ sget 0 h.counts n = 0)
    fun p c => modHmp p (fun h => { h with pend := h.pend &&& ~~~(1#96 <<< n.val) }) (modCore k (fun x => { x with prio := x.prio.drop 1 }) c)) ∧
  (∀ (k : CoreId) (n : Fin 32), WritesReg (.swRaise k n) k 0x006 (fun _ _ => True) fun p c => fire p (64 + n) (coreOf c k).localNo c) ∧
  (∀ (k : CoreId) (l : Fin 4), WritesReg (.priRaise k l) k 0x00A (fun _ c => (coreOf c k).prio.length < 8)
    fun _ c => modCore k (fun x => { x with prio := l.val :: x.prio }) c) ∧
  (∀ (k : CoreId) (l : Fin 4), WritesReg (.priRaise k l) k 0x00A (fun _ c => 8 ≤ (coreOf c k).prio.length)
    fun p c => lint 0x0704 (coreUnit k) p l c) ∧
  (∀ (k : CoreId) (q : Fin 4) (routeEn : Bool) (route : Fin 8) (size : Fin 16), WritesReg (.ringEnable k q routeEn route size) k (0x20 + 16 * q.val)
    (fun p c => ((hmpOf c p).ring q).enable = false ∧ ((hmpOf c p).ring q).sizeLog2 = size.val ∧ (q = 0 ∨ (hmpOf c p).expert = true))
    fun p c => enableRing levelOf p q (modRing p q (fun g => { g with routeEn := routeEn, route := route }) c)) ∧
  (∀ (k : CoreId) (q : Fin 4) (routeEn : Bool) (route : Fin 8) (size : Fin 16), WritesReg (.ringDisable k q routeEn route size) k (0x20 + 16 * q.val)
    (fun p c => ((hmpOf c p).ring q).enable = true ∧ ((hmpOf c p).ring q).sizeLog2 = size.val)
    fun p c => disableRing p q (modRing p q (fun g => { g with routeEn := routeEn, route := route }) c)) ∧
  (∀ (k : CoreId) (q : Fin 4) (v : Word), WritesReg (.ringConsWrite k q v) k (0x28 + 16 * q.val)
    (fun p c => 2 ^ ((hmpOf c p).ring q).sizeLog2 < idxDiff ((hmpOf c p).ring q).prod v.toNat)
    fun p c => lintBlock 0x0707 p q (modRing p q (fun g => { g with fault := true, cause := .cons }) c)) ∧
  (∀ (k : CoreId) (q : Fin 4) (v : Word), WritesReg (.ringConsWrite k q v) k (0x28 + 16 * q.val)
    (fun p c => idxDiff ((hmpOf c p).ring q).prod v.toNat ≤ 2 ^ ((hmpOf c p).ring q).sizeLog2)
    fun p c => drainPosts levelOf p q 96 (modRing p q (fun g => { g with cons := v.toNat }) c))

/-- Arbitration of a source (R371 to R373, R386): a masked source or a source of a disabled ring enqueues nothing; an edge that finds its
source pending is counted; one that finds it free is enqueued; a level is enqueued while it is asserted and unclaimed. -/
def Obligations.HamperRows : Prop :=
  ∀ (p : Fin 7) (src : Fin 96),
    let first (e : Edge) (c : Chip) : Prop := c.edges.find? (fun e => e.part == p.val && e.src == src.val) = some e
    let taken (e : Edge) (c : Chip) : Chip := { c with edges := delFirst (· == e) c.edges }
    (∀ e, Makes (.hamperEdge p src) (fun c => first e c ∧ (hmpOf c p).srcEn.getLsbD src = false) (taken e)) ∧
    (∀ e, Makes (.hamperEdge p src)
      (fun c => first e c ∧ (hmpOf c p).srcEn.getLsbD src = true ∧ ((hmpOf c p).ring ((hmpOf c p).ringOf src)).enable = false)
      (fun c => modHmp p (Hmp.coalesce src 1 e.data) (taken e c))) ∧
    (∀ e, Makes (.hamperEdge p src)
      (fun c => first e c ∧ (hmpOf c p).srcEn.getLsbD src = true ∧ ((hmpOf c p).ring ((hmpOf c p).ringOf src)).enable = true ∧
        (hmpOf c p).posted src = false ∧ (hmpOf c p).pend.getLsbD src = true)
      (fun c => modHmp p (Hmp.coalesce src 1 e.data) (taken e c))) ∧
    (∀ e, Makes (.hamperEdge p src)
      (fun c => first e c ∧ (hmpOf c p).srcEn.getLsbD src = true ∧ ((hmpOf c p).ring ((hmpOf c p).ringOf src)).enable = true ∧
        (hmpOf c p).posted src = false ∧ (hmpOf c p).pend.getLsbD src = false)
      (fun c => enqueue p src 1 e.data false false (taken e c))) ∧
    Makes (.hamperLevelAssert p src)
      (fun c => isLevelSrc src = true ∧ levelOf c p src = true ∧ (hmpOf c p).srcEn.getLsbD src = true ∧
        ((hmpOf c p).ring ((hmpOf c p).ringOf src)).enable = true ∧ (hmpOf c p).pend.getLsbD src = false ∧ (hmpOf c p).posted src = false)
      (enqueue p src 1 (.one 0) false true) ∧
    (∀ q : Fin 4, Makes (.postponedRecordWrite p q) (fun _ => True) (drainPosts levelOf p q 96))

/-- The guard unit's registers and the other registers of the core control window (R356 to R358, Table 06.9), and any window register
written whole (R864, R865). -/
def Obligations.GuardAndRegisterRows : Prop :=
  (∀ (k : CoreId) (background clearErr : Bool), WritesReg (.guardEnable k background clearErr) k 0x1002
    (fun _ c => (coreOf c k).guard.en = false ∧ ∀ r ∈ (coreOf c k).guard.regions.toList, r.en = true → r.configOk = true)
    fun _ c => modCore k (fun x => { x with guard := { x.guard with en := true, background := background, cfgErr := x.guard.cfgErr && !clearErr } }) c) ∧
  (∀ (k : CoreId) (background clearErr : Bool), WritesReg (.guardEnable k background clearErr) k 0x1002
    (fun _ c => (coreOf c k).guard.en = false ∧ ∃ r ∈ (coreOf c k).guard.regions.toList, r.en = true ∧ r.configOk = false)
    fun p c => lint 0x0603 0x0E06 p k
      (modCore k (fun x => { x with guard := { x.guard with en := false, background := background, cfgErr := true } }) c)) ∧
  (∀ (k : CoreId) (background clearErr : Bool), WritesReg (.guardDisable k background clearErr) k 0x1002 (fun _ _ => True)
    fun _ c => modCore k (fun x => { x with guard := { x.guard with en := false, background := background, cfgErr := x.guard.cfgErr && !clearErr } }) c) ∧
  (∀ (k : CoreId) (g : Fin 8) (reg : Fin 4) (v : Word) (s : State),
    let a := 0xFF1010 + 8 * g.val + 2 * reg.val
    canRun s.chip k = true → (coreOf s.chip k).fl.h = true → inWindow s.chip (corePart s.chip k) a = true → (coreOf s.chip k).guard.en = true →
      exec (.guardRegionWrite k g reg v) s = .next (s.settle (raiseFault k (.guardWrite a) s.chip))) ∧
  (∀ (k : CoreId) (g : Fin 8) (reg : Fin 4) (v : Word), WritesReg (.guardRegionWrite k g reg v) k (0x1010 + 8 * g.val + 2 * reg.val)
    (fun _ c => (coreOf c k).guard.en = false)
    fun _ c => modCore k (fun x => { x with guard := { x.guard with regions := vmod x.guard.regions g (GuardRegion.write (2 * reg.val) v.toNat) } }) c) ∧
  (∀ (k : CoreId) (off v : Word), WritesReg (.registerWrite k off v) k off.toNat (fun _ _ => True) fun p c => winWrite k p off.toNat v.toNat c)

/-- Scan-out's commands and events (R588, R597, R598, R604 to R611, R630 to R632, R635): a mode is taken and relocked, the output is released at
lock, held after a third cut, and the panel and the DCS link take their steps. -/
def Obligations.ScanOut : Prop :=
  Answers 0x0C01 .scnStatus (fun _ m => m.org = .part 0)
    (fun c _ => .res ((c.scan.mode.map (·.iface)).getD 0
        + 4 * bitsToNat [c.beam.hold, c.scan.panel.videoOn, c.scan.h.cutLock, c.scan.panel.power, c.lyrParts.toList.any (·.storm.isSome)])
      c.scan.pclkOut)
    (fun c _ => c) ∧
  Answers 0x0C02 .scnSelStatus (fun _ m => m.b 8 ≤ 3)
    (fun c m =>
      let x := vget c.scan.sel.win (m.b 8)
      .res (bitsToNat [x.pin, x.content, x.loadOpen, x.loadShort, x.discarded, x.en]) x.exp)
    (fun c _ => c) ∧
  Answers 0x0C02 .scnSelStatus (fun _ m => m.b 8 = 0xFF) (fun c _ => .res 0 c.scan.sel.stuck) (fun c _ => c) ∧
  Answers 0x0C10 .scnMode
    (fun c m => bits (m.b 8) 6 5 = 0 ∧ (modeOf m).ok = true ∧ budgetSum c ≤ admitCapOf (modeOf m) ∧ modeUnreleased c.scan = false ∧ c.scan.modeQ = [])
    (fun _ _ => .wait)
    (fun c m => startRelock (modeOf m) true m.waitHandle
      (modHold (fun s => { s with cutLock := false, cuts := [], startHeld := (modeOf m).startHeld }) c)) ∧
  Answers 0x0C10 .scnMode
    (fun c m => bits (m.b 8) 6 5 = 0 ∧ (modeOf m).ok = true ∧ budgetSum c ≤ admitCapOf (modeOf m) ∧ (modeUnreleased c.scan = true ∨ c.scan.modeQ ≠ []))
    (fun _ _ => .wait) (fun c m => modScan (fun s => { s with modeQ := s.modeQ ++ [{ mode := modeOf m, handle := m.waitHandle }] }) c) ∧
  Answers 0x0C11 .scnPanel (fun c m => 1 ≤ m.b 8 ∧ m.b 8 ≤ 4 ∧ m.b 12 ≤ 1 ∧ c.scan.panel.seq = none ∧ panelInOrder c.scan (m.b 8) = true)
    (fun _ _ => .wait)
    (fun c m => panelStart { action := m.b 8, t1 := m.b 9, t2 := m.b 10, t3 := m.b 11, ulps := bit (m.b 12) 0, handle := m.waitHandle } c) ∧
  Answers 0x0C12 .scnDcs
    (fun c m => m.b 8 ≤ 1 ∧ 1 ≤ m.b 9 ∧ m.b 9 ≤ 12 ∧ (m.b 8 = 0 → m.b 9 ≤ 2) ∧ m.b 10 ≤ 3 ∧ m.b 11 = 0 ∧ c.scan.mode.any (·.iface == 1) = true ∧ c.beam.hold = true)
    (fun _ _ => .ok) (fun c _ => c) ∧
  Answers 0x0C12 .scnDcs
    (fun c m => m.b 8 ≤ 1 ∧ 1 ≤ m.b 9 ∧ m.b 9 ≤ 12 ∧ (m.b 8 = 0 → m.b 9 ≤ 2) ∧ m.b 10 ≤ 3 ∧ m.b 11 = 0 ∧ c.scan.mode.any (·.iface == 1) = true ∧ c.beam.hold = false)
    (fun _ _ => .wait)
    (fun c m => modDcs (fun s =>
      { s with waiting := s.waiting ++ [{ kind := m.b 8, vc := m.b 10, data := pslice m.params 4 (m.b 9), handle := m.waitHandle, since := c.clk.qtime }] }) c) ∧
  Answers 0x0C12 .scnDcs
    (fun c m => m.b 8 = 2 ∧ m.b 9 = 1 ∧ m.b 10 ≤ 3 ∧ m.b 11 = 0 ∧ c.scan.mode.any (·.iface == 1) = true ∧ c.beam.hold = true ∧ c.scan.dcs.read = none)
    (fun _ _ => .wait)
    (fun c m => modDcs (fun s => { s with read := some { kind := 2, vc := m.b 10, data := pslice m.params 4 1, handle := m.waitHandle, since := c.clk.qtime } }) c) ∧
  Answers 0x0C13 .scnSelenite
    (fun _ m => m.b 8 ≤ 3 ∧ m.b 9 ≤ 3 ∧ m.f 10 2 ≤ 1279 ∧ m.f 12 2 ≤ 799 ∧ 1 ≤ m.f 14 2 ∧ m.f 14 2 ≤ 1280 ∧ 1 ≤ m.f 16 2 ∧ m.f 16 2 ≤ 800 ∧ 1 ≤ m.b 18 ∧ m.b 19 = 0)
    (fun _ _ => .wait)
    (fun c m => enqueueChange m true (.selenite (m.b 8) (m.b 9) (m.f 10 2) (m.f 12 2) (m.f 14 2) (m.f 16 2) (m.b 18) (m.f 20 4)) c) ∧
  (∀ r : Relock, Makes .synthLock
    (fun c => c.scan.relock = some r ∧ c.beam.hold = true ∧ c.scan.h.cutLock = false ∧ c.scan.h.startHeld = false ∧ c.scan.h.videoOff = false)
    (fun c =>
      let d := releaseOutput (modHold (fun s => { s with cut := false }) (modScan (fun s => { s with relock := none, pclkOut := r.mode.pclk }) c))
      if r.byCmd then finish r.handle .ok 0 0 d else d)) ∧
  (∀ m c, c.scan.mode = some m → (releaseOutput c).beam.hold = false ∧ (releaseOutput c).beam.line = m.vsStart ∧ (releaseOutput c).beam.dot = 0 ∧
    (releaseOutput c).beam.field = false) ∧
  (∀ r : Relock, Makes .lockTimeout (fun c => c.scan.relock = some r ∧ r.timedOut = false)
    (fun c => lintBlock 0x0C04 0xFF 0 (modScan (fun s => { s with relock := some { r with timedOut := true, since := (atTime (r.since + 4800) c).clk.qtime } })
      (atTime (r.since + 4800) c)))) ∧
  (∀ r : Relock, Makes .lockRetry (fun c => c.scan.relock = some r ∧ r.timedOut = true)
    (fun c => modScan (fun s => { s with relock := some { r with since := (atTime (r.since + 240000) c).clk.qtime } }) (atTime (r.since + 240000) c))) ∧
  (∀ (hz : Long) m, Makes (.overshootCut false hz)
    (fun c => c.scan.mode = some m ∧ m.pclkMax * 101 < hz.toNat * 100 ∧ (c.scan.h.cuts.filter fun t => c.clk.qtime ≤ t + 24000000).length ≤ 1)
    (fun c => holdNow (relockAgain (lintBlock 0x0C03 0xFF hz.toNat
      (modHold (fun s => { s with cuts := c.clk.qtime :: c.scan.h.cuts.filter (fun t => c.clk.qtime ≤ t + 24000000), cut := true }) c))))) ∧
  (∀ (d : Dcs) l, Makes .dcsWriteSend
    (fun c => c.scan.dcs.waiting = d :: l ∧ c.beam.hold = false ∧ c.beam.vactive ≤ c.beam.line ∧ c.scan.dcs.line ≠ some (c.beam.frame, c.beam.line))
    (fun c => finish d.handle .ok 0 0 (modDcs (fun s => { s with waiting := l, line := some (c.beam.frame, c.beam.line) }) c))) ∧
  (∀ (d : Dcs) bs, Makes (.dcsReadAnswer false bs) (fun c => c.scan.dcs.read = some d)
    (fun c => finish d.handle .ok (min 4 bs.length) (leNat (bs.take 4)) (modDcs (fun s => { s with read := none }) c))) ∧
  (∀ (d : Dcs) bs, Makes (.dcsReadAnswer true bs) (fun c => c.scan.dcs.read = some d)
    (fun c => finish d.handle .integrity 0 0 (modDcs (fun s => { s with read := none }) c))) ∧
  (∀ d : Dcs, Makes .dcsReadTimeout (fun c => c.scan.dcs.read = some d)
    (fun c => lintBlock 0x0C0A 0xFF 0 (finish d.handle .timeout 0 0 (modDcs (fun s => { s with read := none }) (atTime (d.since + 240000) c))))) ∧
  (∀ q : PanelSeq, Makes .panelSequenceWait (fun c => c.scan.panel.seq = some q ∧ q.action = 1 ∧ q.stage = 0)
    (fun c => panelWait 1 q.t2 (modPanel (fun s => { s with pnlResetN := true }) (atTime q.until_ c)))) ∧
  (∀ q : PanelSeq, Makes .panelSequenceWait (fun c => c.scan.panel.seq = some q ∧ q.action = 1 ∧ q.stage ≠ 0)
    (fun c => finish q.handle .ok 0 0 (modPanel (fun s => { s with seq := none }) (atTime q.until_ c))))

/-- The sound commands (R641, R648, R659, R662, R664, R682): the writes a command stages go to their units in order at the time it names, and
SND.CAP and SND.OUTPUT take effect at once. -/
def Obligations.SoundCommands : Prop :=
  Answers 0x0D01 .sndStatus (fun _ _ => True)
    (fun c _ => .res (bitsToNat [c.snd.bridge.en, c.snd.bridge.fault, c.snd.i2s.cfg.en && !c.snd.i2s.clockLost, c.snd.out.lim])
      (min 65535 c.snd.out.peak.1 + 65536 * min 65535 c.snd.out.peak.2))
    (fun c _ => c) ∧
  (∀ v, Answers 0x0D10 .sndVoice
    (fun c m => windowUnit c m.part .voice (m.b 8) = some v ∧ bit (m.b 9) 7 = false ∧ (bits (m.b 9) 6 5 = 3 → m.part = 0) ∧ m.b 10 ≤ 2 ∧ m.z 29 1 = true ∧
      voiceFieldsOk (bits (m.b 9) 4 3) (m.f 12 4) (m.f 16 4) (m.f 20 4) (m.f 24 2) (m.f 26 2) (m.b 28) = true ∧ isPegged c 7 v = false)
    (fun _ _ => .wait)
    (fun c m => postSnd m.part (whenOf (m.b 10) (m.f 30 2))
      [.voice v 0x02 (m.f 12 2), .voice v 0x04 (m.f 14 2), .voice v 0x06 (m.f 16 2), .voice v 0x08 (m.f 18 2), .voice v 0x0A (m.f 20 2),
       .voice v 0x0C (m.f 22 2), .voice v 0x0E (m.f 24 2), .voice v 0x12 (m.b 28 + 256 * m.b 11), .voice v 0x10 (m.f 26 2), .voice v 0x00 (m.b 9 % 128)]
      (some (if m.handle = 0 then none else some m.handle)) c)) ∧
  (∀ v, Answers 0x0D11 .sndEnv
    (fun c m => m.b 9 = 0 ∧ windowUnit c m.part .voice (m.b 8) = some v ∧ m.f 16 4 ≤ 2 ^ 23 ∧ isPegged c 7 v = false)
    (fun _ _ => .wait)
    (fun c m => postSnd m.part .now
      [.voice v 0x14 (m.f 10 2), .voice v 0x16 (m.f 12 2), .voice v 0x18 (m.f 14 2), .voice v 0x1A (m.f 16 2), .voice v 0x1C (m.f 18 2)]
      (some (if m.handle = 0 then none else some m.handle)) c)) ∧
  (∀ n, Answers 0x0D11 .sndEnv
    (fun c m => m.b 9 = 1 ∧ windowUnit c m.part .tone (m.b 8) = some n ∧ m.f 16 4 ≤ 2 ^ 23 ∧ isPegged c 8 n = false)
    (fun _ _ => .wait)
    (fun c m => postSnd m.part .now
      [.tone n 0x0C (m.f 10 2), .tone n 0x0E (m.f 12 2), .tone n 0x10 (m.f 14 2), .tone n 0x12 (m.f 16 2), .tone n 0x14 (m.f 18 2)]
      (some (if m.handle = 0 then none else some m.handle)) c)) ∧
  (∀ n, Answers 0x0D12 .sndTone
    (fun c m => windowUnit c m.part .tone (m.b 8) = some n ∧ m.b 9 < 64 ∧ (bits (m.b 9) 5 4 = 3 → m.part = 0) ∧ m.b 10 ≤ 2 ∧ m.f 12 4 < 2 ^ 24 ∧
      m.b 17 ≤ 128 ∧ m.f 18 2 ≤ 8192 ∧ isPegged c 8 n = false)
    (fun _ _ => .wait)
    (fun c m => postSnd m.part (whenOf (m.b 10) (m.f 20 2))
      [.tone n 0x02 (m.f 12 2), .tone n 0x04 (m.f 14 2), .tone n 0x06 (m.b 16), .tone n 0x0A (m.b 17 + 256 * m.b 11), .tone n 0x08 (m.f 18 2),
       .tone n 0x00 (m.b 9 % 16 + 32 * bits (m.b 9) 5 4)]
      (some (if m.handle = 0 then none else some m.handle)) c)) ∧
  (∀ i, Answers 0x0D13 .sndStream
    (fun c m => windowUnit c m.part .input (m.b 8) = some i ∧ i < 2 ∧ bit (m.b 9) 3 = false ∧ m.b 9 < 64 ∧ (bits (m.b 9) 5 4 = 3 → m.part = 0) ∧
      4000 ≤ m.f 12 4 ∧ m.f 12 4 ≤ 48000 ∧ ringFieldsOk (m.f 16 4) (m.b 20) = true ∧ m.b 21 ≤ 128 ∧ m.f 22 2 ≤ 8192 ∧ isPegged c 9 i = false)
    (fun _ _ => .wait)
    (fun c m => postSnd m.part .now
      [.input i 0x02 (m.f 16 2), .input i 0x04 (m.f 18 2), .input i 0x06 (m.b 20), .input i 0x08 (m.f 10 2), .input i 0x0A (m.f 12 2),
       .input i 0x0C (m.f 14 2), .input i 0x10 (m.b 21), .input i 0x0E (m.f 22 2), .input i 0x00 (m.b 9 % 8 + 16 * bits (m.b 9) 5 4)]
      (some (if m.handle = 0 then none else some m.handle)) c)) ∧
  (∀ i, Answers 0x0D14 .sndCapture
    (fun c m => windowUnit c m.part .input (m.b 8) = some i ∧ 2 ≤ i ∧ bit (m.b 9) 3 = false ∧ m.b 9 < 64 ∧ (bits (m.b 9) 5 4 = 3 → m.part = 0) ∧
      ringFieldsOk (m.f 12 4) (m.b 16) = true ∧ m.b 17 ≤ 7 ∧ m.f 18 2 ≤ 8192 ∧ m.b 20 ≤ 128 ∧ isPegged c 9 i = false)
    (fun _ _ => .wait)
    (fun c m => postSnd m.part .now
      [.input i 0x02 (m.f 12 2), .input i 0x04 (m.f 14 2), .input i 0x06 (m.b 16), .input i 0x08 (m.f 10 2), .input i 0x0A (m.b 17),
       .input i 0x10 (m.b 20), .input i 0x0E (m.f 18 2), .input i 0x00 (m.b 9 % 4 + 8 * bits (m.b 9) 2 2 + 16 * bits (m.b 9) 5 4)]
      (some (if m.handle = 0 then none else some m.handle)) c)) ∧
  (∀ own, Answers 0x0D15 .sndGain
    (fun c m => consentOf c m.org = true ∧ gainStage (m.b 8) = some own ∧ (own = true → m.org.external = true ∨ m.part = 0) ∧ m.b 10 ≤ 2 ∧ m.z 11 1 = true ∧
      m.f 12 2 ≤ 8192)
    (fun _ _ => .wait)
    (fun c m => postSnd m.part (whenOf (m.b 10) (m.f 14 2)) [gainWrite m.part (m.b 8) (m.b 9) (m.f 12 2)]
      (some (if m.handle = 0 then none else some m.handle)) c)) ∧
  Answers 0x0D16 .sndCap (fun c m => m.b 8 = 0 ∧ m.z 9 1 = true ∧ (m.org = .part 0 ∨ m.f 10 2 ≤ c.snd.mix.spkLim.cap))
    (fun _ _ => .ok) (fun c m => modSnd (fun s => { s with mix := { s.mix with spkLim := { s.mix.spkLim with cap := m.f 10 2 } } }) c) ∧
  Answers 0x0D16 .sndCap (fun c m => m.b 8 = 1 ∧ m.z 9 1 = true ∧ (m.org = .part 0 ∨ m.f 10 2 ≤ c.snd.mix.i2sLim.cap))
    (fun _ _ => .ok) (fun c m => modSnd (fun s => { s with mix := { s.mix with i2sLim := { s.mix.i2sLim with cap := m.f 10 2 } } }) c) ∧
  Answers 0x0D17 .sndOutput
    (fun c m => m.b 8 ≤ 1 ∧ 4 ≤ m.b 9 ∧ m.b 9 ≤ 14 ∧ 2000 ≤ m.f 14 2 ∧ m.f 14 2 ≤ 5000 ∧ m.f 16 4 < 2 ^ 11 ∧ (i2sOf m).fmt ≠ 3 ∧ (i2sOf m).width ≠ 3 ∧
      (∀ k, k < 8 → bits (m.f 20 4) (4 * k + 3) (4 * k) ≤ 5) ∧ bit (m.b 24) 3 = false ∧ bit (m.b 24) 7 = false ∧ m.b 25 ≤ 2 ∧
      c.snd.bridge.fault = false ∧ i2sOf m = c.snd.i2s.cfg)
    (fun _ _ => .ok)
    (fun c m => modSnd (fun s =>
      { s with
        bridge := { s.bridge with en := bit (m.b 8) 0, vref := m.f 14 2 }
        mix := { s.mix with relShift := m.b 9, spkLim := { s.mix.spkLim with thr := m.f 10 2 }, i2sLim := { s.mix.i2sLim with thr := m.f 12 2 },
                            fmic := m.b 25 }
        i2s := { s.i2s with next := none } }) c)

/-- The sample clock, the mixer, the output stage, the inputs and the sound window (R637 to R640, R652, R653, R657 to R662, R669, R670, R673,
R676 to R679, R683): a sample is mixed while there is room, one leaves each period, and a key or a hold is taken as the window says. -/
def Obligations.SoundRows : Prop :=
  (∀ lv ls, Makes (.mixSample lv ls) (fun c => c.snd.started = true ∧ c.snd.out.fifo.length < 16)
    (fun c => modSnd (fun s => { s with out := { s.out with fifo := s.out.fifo ++ [(mixOne lv ls c).1] } }) (mixOne lv ls c).2)) ∧
  (∀ lv ls, Makes (.mixSample lv ls) (fun c => c.snd.started = true ∧ 16 ≤ c.snd.out.fifo.length ∧ c.snd.out.fifo.length < 256)
    (fun c => modSnd (fun s => { s with out := { s.out with fifo := s.out.fifo ++ [(mixOne 0 0 c).1] } }) (mixOne 0 0 c).2)) ∧
  (∀ x l, Makes .audioSamplePeriod
    (fun c => c.snd.started = true ∧ c.snd.locked = true ∧ c.snd.out.fifo = x :: l ∧ c.snd.i2s.cfg.en = false ∧ c.snd.i2s.next = none ∧ c.snd.i2s.clockLost = false ∧
      (inOf c 4).lossRamp = 0)
    (fun c =>
      let n := min 48 (c.snd.out.level + 1)
      let b := if spkUp c then min 96 (c.snd.bridge.n + 1) else c.snd.bridge.n - 1
      let spk := clamp24 (x.spk * n / 48 * b / 96)
      let y : Int × Int := (x.l * n / 48, x.r * n / 48)
      let g := c.snd.i2s
      modSnd (fun s =>
        { s with
          asc := (s.asc + 1) % 2 ^ 32
          out := { s.out with
                   fifo := l, last := x, level := n, spk := spk, limNow := s.out.limNow || x.limited
                   peakNow := (max s.out.peakNow.1 (spk.natAbs / 128), max s.out.peakNow.2 (max y.1.natAbs y.2.natAbs / 128)) }
          bridge := { s.bridge with n := b }
          i2s := { g with ramp := min 48 (g.ramp + 1), conv := { x0 := g.conv.x1, x1 := y, r := g.conv.r - g.rate } } }) c)) ∧
  Makes .audioSynthLock (fun c => c.snd.locked = false)
    (modSnd fun s => { s with locked := true, started := true, asc := if s.started then s.asc else 0 }) ∧
  Makes .bridgeOvercurrent (fun c => c.snd.bridge.n ≠ 0 ∧ c.snd.bridge.tripped = none)
    (fun c =>
      let ts := (c.clk.qtime :: c.snd.bridge.trips).filter fun t => c.clk.qtime < t + 24000000
      lintBlock 0x0D0A 0xFF 0 (modSnd (fun s =>
        { s with out := { s.out with spk := 0 },
                 bridge := { s.bridge with n := 0, tripped := some c.clk.qtime, trips := ts, fault := decide (3 ≤ ts.length) } }) c)) ∧
  (∀ t, Makes .bridgeRestart (fun c => c.snd.bridge.tripped = some t ∧ c.snd.bridge.fault = false)
    (fun c => modSnd (fun s => { s with bridge := { s.bridge with tripped := none } }) (atTime (t + 2400000) c))) ∧
  (∀ (mic : Fin 2) bs, Makes (.micSample mic bs) (fun c => (inOf c (2 + mic)).cfg.en = true ∧ (inOf c (2 + mic)).st.stuck = false)
    (fun c =>
      let k := (List.range 64).foldl (fun k j => Cic.bit (bs.getLsbD j) k) (inOf c (2 + mic)).cic
      let v := micValue ((inOf c (2 + mic)).cfg.rate % 8) k.out.1
      let r := (inOf c (2 + mic)).conv.push (fmicHz c.snd.mix.fmic) (v, v)
      r.1.foldl (fun d x => inputSample (2 + mic) x d)
        (modIn (2 + mic) (fun q => { q with cic := k.out.2, conv := r.2, st := { q.st with stuck := false } }) c))) ∧
  (∀ mic : Fin 2, Makes (.micStuck mic) (fun c => (inOf c (2 + mic)).cfg.en = true ∧ 1024 ≤ (inOf c (2 + mic)).cic.run ∧ (inOf c (2 + mic)).st.stuck = false)
    (fun c => lint 0x0D09 (0x0902 + mic) (ownerOf c .input (2 + mic)) 0 (modIn (2 + mic) (fun q => { q with st := { q.st with stuck := true } }) c))) ∧
  (∀ slots rate, Makes (.i2sInputFrame slots rate) (fun c => c.snd.i2s.cfg.en = true ∧ c.snd.i2s.clockLost = false ∧ c.snd.i2s.cfg.master = true ∧
      ((inOf c 4).cfg.en = true ∨ (inOf c 4).cfg.mon = true))
    (fun c => inputSample 4 (i2sChannels c.snd.i2s.cfg slots) c)) ∧
  Makes .i2sClockLost (fun c => c.snd.i2s.cfg.en = true ∧ c.snd.i2s.cfg.master = false ∧ c.snd.i2s.clockLost = false)
    (fun c => lint 0x0D08 0x0904 (ownerOf c .input 4) 0 (modIn 4 (fun q => { q with st := { q.st with clockLost := true }, lossRamp := 48 })
      (modSnd (fun s => { s with i2s := { s.i2s with clockLost := true, slots := [] } }) c))) ∧
  Makes .i2sClockRecovered (fun c => c.snd.i2s.clockLost = true)
    (fun c => modIn 4 (fun q => { q with st := { q.st with clockLost := false }, lossRamp := 48, conv := {} })
      (modSnd (fun s => { s with i2s := { s.i2s with clockLost := false, conv := {} } }) c)) ∧
  (∀ k (n : Fin 24) (v : Word) u, WritesReg (.voiceKeyOn k n v) k (0x7000 + 32 * n.val)
    (fun p c => windowUnit c p .voice n = some u ∧ sndWriteBad p (.voice u 0) (v.toNat ||| 1) = false ∧ (vget c.snd.parts p).hold = false)
    (fun p c => postSnd p .now [.voice u 0 (v.toNat ||| 1)] none c)) ∧
  (∀ k (n : Fin 24) (v : Word) u, WritesReg (.voiceKeyOff k n v) k (0x7000 + 32 * n.val)
    (fun p c => windowUnit c p .voice n = some u ∧ sndWriteBad p (.voice u 0) (v.toNat / 4 * 4 + 2) = false ∧ (vget c.snd.parts p).hold = false)
    (fun p c => postSnd p .now [.voice u 0 (v.toNat / 4 * 4 + 2)] none c)) ∧
  (∀ k (n : Fin 8) (v : Word) u, WritesReg (.toneKeyOn k n v) k (0x7400 + 32 * n.val)
    (fun p c => windowUnit c p .tone n = some u ∧ sndWriteBad p (.tone u 0) (v.toNat ||| 1) = false ∧ (vget c.snd.parts p).hold = false)
    (fun p c => postSnd p .now [.tone u 0 (v.toNat ||| 1)] none c)) ∧
  (∀ k (n : Fin 8) (v : Word) u, WritesReg (.toneKeyOff k n v) k (0x7400 + 32 * n.val)
    (fun p c => windowUnit c p .tone n = some u ∧ sndWriteBad p (.tone u 0) (v.toNat / 4 * 4 + 2) = false ∧ (vget c.snd.parts p).hold = true)
    (fun p c => modSnd (fun s => { s with parts := vmod s.parts p fun q => { q with staged := q.staged ++ [.tone u 0 (v.toNat / 4 * 4 + 2)] } }) c)) ∧
  (∀ k (w : Fin 4), WritesReg (.soundHoldRelease k w) k 0x770A (fun p c => (vget c.snd.parts p).hold = true ∧ (vget c.snd.parts p).staged ≠ [])
    (fun p c =>
      let q : SndPart := { vget c.snd.parts p with hold := false, at_ := w.val }
      postSnd p q.time q.staged none (modSnd (fun s => { s with parts := vset s.parts p { q with staged := [] } }) c))) ∧
  (∀ k, ReadsReg (.ascLoRead k) k 0x7712 (fun c => c.snd.asc % 65536)
    (fun c => setDet (corePart c k) 0 (modCore k (fun x => { x with ascSnap := c.snd.asc }) c)))

/-- The beam and the clock reference (R25 to R27, R53 to R58, R62, R69 to R71, R75, R617, R748): when each row does something, and what.
The order of the parts of a frame start is the model's choice (log entry 4). -/
def Obligations.BeamRows : Prop :=
  (∀ o, Makes (.frameStart o)
    (fun c => beamMoves c = true ∧ c.scan.h.due = false ∧ c.beam.line + 1 = c.beam.vtotal)
    (fun c => frameStart o true (reachLineEnd c))) ∧
  (∀ c, (setLatches c).cores = c.cores.map fun x => { x with latch := true }) ∧
  (∀ c, c.scan.mode = none → beamFrame c = { c with beam := { c.beam with
    frame := (c.beam.frame + 1) % 2 ^ 32, line := 0, dot := 0, field := c.beam.interlaced && !c.beam.field } }) ∧
  Makes .lineStart
    (fun c => beamMoves c = true ∧ c.scan.h.due = false ∧ c.beam.line + 1 < c.beam.vtotal ∧ abortJumpDue c = false ∧ phaseJumpDue c = none)
    (fun c => enterLine (c.beam.line + 1) (reachLineEnd c)) ∧
  (∀ c, (reachLineEnd c).beam.dot = 0 ∧ (reachLineEnd c).beam.frac = 0 ∧ (reachLineEnd c).beam.line = c.beam.line ∧
    (reachLineEnd c).clk.qtime =
      (c.clk.qtime + (c.beam.sub + ((c.beam.htotal - c.beam.dot) * 24000000 - c.beam.frac)) / beamRate c) % 2 ^ 64) ∧
  Makes .abortRasterJump (fun c => abortJumpDue c = true ∧ c.scan.h.due = false) jumpToVs ∧
  (∀ k, Makes .phaseJump (fun c => phaseJumpDue c = some k ∧ c.scan.h.due = false)
    (fun c => jumpToVs (lint 0x0F0A nodeUnit 0xFF k { c with link := { c.link with align := { c.link.align with jump := none } } }))) ∧
  Makes .clockReferenceFallback (fun c => c.clk.rcFallback = false)
    (fun c => relockAgain (modSnd (fun s => { s with locked := false })
      (linkLoseClock (lintBlock 0x0205 0xFF 0 { c with clk := { c.clk with xtalOk := false, rcFallback := true, returnDue := false } })))) ∧
  Makes .clockReferenceReturn (fun c => c.clk.rcFallback = true)
    (fun c => { c with clk := { c.clk with xtalOk := true, returnDue := true } }) ∧
  (∀ c, c.clk.returnDue = true → clockReturns c = relockAgain (modSnd (fun s => { s with locked := false })
    { c with clk := { c.clk with rcFallback := false, returnDue := false } }))

/-- The rows of the governor and of the timebase window (R44 to R49, R72, R76, R77): a rise above 110 °C caps the target and the output,
a follow fault holds the governor until the output is back, a lowered VMAX_CFG comes into force, and reads snapshot. -/
def Obligations.GovernorRows : Prop :=
  (∀ tj, Makes (.thermalCap tj) (fun c => 110 < tj ∧ c.gov.thermCap = false)
    (fun c => lintGov 0x0203 0 { c with gov := { c.gov with
      tj := tj, thermCap := true, target := min c.gov.target 80, output := min c.gov.output 80 } })) ∧
  (∀ tj, Makes (.thermalCap tj) (fun _ => tj ≤ 110) id) ∧
  (∀ out : Fin 256, Makes (.vcoreFollowFault out)
    (fun c => (outTarget c + 3 < out.val ∨ out.val + 3 < outTarget c) ∧ c.gov.followHold = false)
    (fun c => lintGov 0x0206 0 { c with gov := { c.gov with output := out.val, followHold := true } })) ∧
  (∀ out : Fin 256, Makes (.vcoreFollowRecovery out) (fun c => out.val ≤ outTarget c + 1 ∧ outTarget c ≤ out.val + 1)
    (fun c => { c with gov := { c.gov with output := out.val, followHold := false } })) ∧
  (∀ old h, Makes .vcoreTargetReached (fun c => c.gov.oldVmax = some (old, h))
    (fun c => finish h .ok 0 0 { c with gov := { c.gov with oldVmax := none, output := min c.gov.output c.gov.par.vmax, slew := 0 } })) ∧
  (∀ c, govHeld c = true → govFrame true 0 c = { c with gov := { c.gov with slackMin := c.gov.slackRun, slackRun := 255, panic := false, calm := 0 } }) ∧
  (∀ c fill, govHeld c = false → c.gov.par.lowWm ≤ c.gov.slackRun → c.gov.target < vmaxOf c.gov →
    govFrame true fill c = { c with gov := { c.gov with
      slackMin := c.gov.slackRun, slackRun := 255, panic := false, target := c.gov.target + 1, calm := 0 } }) ∧
  (∀ c fill, govHeld c = false → c.gov.par.lowWm ≤ c.gov.slackRun → c.gov.par.audWm ≤ fill → c.gov.par.highWm < c.gov.slackRun →
    c.gov.panic = false → c.gov.par.holdFrames ≤ c.gov.calm + 1 →
    govFrame false fill c = { c with gov := { c.gov with
      slackMin := c.gov.slackRun, slackRun := 255, panic := false, target := max (c.gov.target - 1) c.gov.par.vmin, calm := 0 } }) ∧
  (∀ k, ReadsReg (.beamLineRead k) k 0xC000
    (fun c => (liveBeam c).1 + 2 ^ 13 * b2n c.beam.hold + 2 ^ 14 * b2n (inBlanking c) + 2 ^ 15 * b2n (!c.beam.hold && c.beam.field))
    (fun c => modPart (corePart c k) (fun q => { q with det := q.det ||| 2#4 })
      (modCore k (fun x => { x with beamDot := (liveBeam c).2, snapFrame := c.beam.frame }) c))) ∧
  (∀ k, ReadsReg (.qtime0Read k) k 0xC014 (fun c => c.clk.qtime % 65536)
    (fun c => modPart (corePart c k) (fun q => { q with det := q.det ||| 1#4 }) (modCore k (fun x => { x with qtimeSnap := c.clk.qtime }) c))) ∧
  (∀ k, ReadsReg (.govStateRead k 0) k 0xC020 (fun c => c.gov.output + 256 * bitsToNat (govFlags c))
    (fun c => modPart (corePart c k) (fun q => { q with det := q.det ||| 8#4 }) c)) ∧
  (∀ k, ReadsReg (.govStateRead k 1) k 0xC022 (fun c => c.gov.slackLine) (fun c => modPart (corePart c k) (fun q => { q with det := q.det ||| 8#4 }) c)) ∧
  (∀ k, ReadsReg (.govStateRead k 2) k 0xC024 (fun c => c.gov.slackMin) (fun c => modPart (corePart c k) (fun q => { q with det := q.det ||| 8#4 }) c))

/-- Supply classes and retention (R92 to R100, R105, R116, R117): what each crossing records, reduces and reports, and when the chip goes to
retention or the off state. -/
def Obligations.SupplyRows : Prop :=
  (∀ v, MakesIn (.vwarnCrossing v) (fun c => c.pwr.phase = .run ∧ c.pwr.warn = false ∧ v.vsys < c.pwr.vwarn)
    (fun c => fireSupply (lintBlock 0x0101 0xFF 0 { c with pwr := { c.pwr with vsys := v.vsys, vbus := v.vbus, vbat := v.vbat, warn := true } }))) ∧
  (∀ v, MakesIn (.vwarnCrossing v) (fun c => c.pwr.phase = .run ∧ c.pwr.warn = true ∧ c.pwr.vwarn + 100 ≤ v.vsys)
    (fun c => fireSupply { c with pwr := { c.pwr with vsys := v.vsys, vbus := v.vbus, vbat := v.vbat, warn := false } })) ∧
  (∀ v, Makes (.class2Entry v) (fun c => c.pwr.cls = 1 ∧ 2300 ≤ v.vsys ∧ (v.vsys < 2600 ∨ hasSource v = false))
    (fun c => lintBlock 0x0102 0xFF (if v.vsys < 2600 then 1 else 2) (fireSupply (applyDuties { c with pwr := { c.pwr with
      vsys := v.vsys, vbus := v.vbus, vbat := v.vbat, cls := 2, c2start := c.clk.qtime, reduced := true,
      c2acc := if (c.pwr.c2end.any fun t => c.clk.qtime < t + 48000) = true then c.pwr.c2acc else 0,
      rideCount := if (c.pwr.c2end.any fun t => c.clk.qtime < t + 48000) = true then c.pwr.rideCount
        else min 0xFFFF (c.pwr.rideCount + 1) } })))) ∧
  (∀ v, Makes (.class2End v) (fun c => c.pwr.cls = 2 ∧ 2650 ≤ v.vsys ∧ hasSource v = true)
    (fun c => { c with pwr := { c.pwr with
      vsys := v.vsys, vbus := v.vbus, vbat := v.vbat, cls := 1, c2acc := c.pwr.c2acc + (c.clk.qtime - c.pwr.c2start), c2end := some c.clk.qtime } })) ∧
  (∀ t, Makes .class1Restore (fun c => c.pwr.c2end = some t ∧ c.pwr.cls = 1 ∧ c.pwr.reduced = true)
    (fun c => applyDuties (modPwr (fun p => { p with reduced := false }) (atTime (t + 1200000) c)))) ∧
  Makes .rideMsExpiry (fun c => c.pwr.cls = 2)
    (fun c => enterClass3 2 (atTime (c.pwr.c2start + c.pwr.rideMs * 24000 - c.pwr.c2acc) c)) ∧
  (∀ v, Makes (.class3Entry v) (fun _ => v.vsys < 2300) (fun c => enterClass3 1 (measure v c))) ∧
  (∀ n c, hasStarted c = true → let t := (enterClass3 n c).pwr
    t.phase = .retention ∧ t.cls = 3 ∧ t.windowOpen = true ∧ t.trigger = n ∧ t.entryFrame = c.beam.frame ∧ t.entryQtime = c.clk.qtime) ∧
  (∀ n c, hasStarted c = false → enterClass3 n c = { c with pwr := { c.pwr with phase := .retention, cls := 3, windowOpen := false, causeLatch := 8 } }) ∧
  (∀ v, MakesIn (.retentionLost v) (fun c => c.pwr.phase = .retention ∧ v.vsys < 1900)
    (fun c => enterOff .resume (if c.pwr.windowOpen then 1 else c.pwr.causeLatch)
      { c with pwr := { c.pwr with vsys := v.vsys, vbus := v.vbus, vbat := v.vbat, retLost := true, topKept := false } })) ∧
  MakesIn .resumeWindowExpiry (fun c => c.pwr.phase = .retention ∧ c.pwr.windowOpen = true) (enterOff .resume 2) ∧
  (∀ tj, MakesIn (.thermalShutdown tj) (fun c => 125 < tj ∧ c.pwr.phase = .run)
    (fun c => enterOff .thermal 6 (lintBlock 0x010A 0xFF 0 { c with gov := { c.gov with tj := tj } }))) ∧
  MakesIn .buckCurrentLimit (fun c => c.pwr.phase = .run ∧ c.pwr.buckStopped = false)
    (fun c => coldStart 9 (modPwr (fun p => { p with buckStopped := true, buckFails := 0 }) (lintBlock 0x0106 0xFF 0 c))) ∧
  MakesIn .buckCurrentLimit (fun c => c.pwr.phase = .waitVbat ∧ c.pwr.buckStopped = false ∧ c.pwr.causeLatch = 9 ∧ 2 ≤ c.pwr.buckFails)
    (fun c => enterOff .buck 9 (lintBlock 0x0106 0xFF 0 c)) ∧
  MakesIn .buckRestart (fun _ => True) (fun c => { c with pwr := { c.pwr with buckStopped := false } }) ∧
  (∀ (b : Fin 4), MakesIn (.vioBankLost b) (fun c => vget c.pwr.banks b ≠ .off ∧ vget c.pwr.banks b ≠ .lost)
    (fun c => lintBlock 0x0105 0xFF b { c with pwr := { c.pwr with
      banks := vset c.pwr.banks b .lost, xmemLost := c.pwr.xmemLost || (b.val == 3 && c.pwr.phase == .retention) } })) ∧
  (∀ v, MakesIn (.vbusOvervoltage v) (fun c => 6000 < v.vbus ∧ c.pwr.vbusOpen = false)
    (fun c => lintBlock 0x0109 0xFF 0 { c with pwr := { c.pwr with vsys := v.vsys, vbus := v.vbus, vbat := v.vbat, vbusOpen := true } })) ∧
  (∀ v, MakesIn (.vbusOvervoltageClear v) (fun c => v.vbus < 5800 ∧ c.pwr.vbusOpen = true)
    (fun c => { c with pwr := { c.pwr with vsys := v.vsys, vbus := v.vbus, vbat := v.vbat, vbusOpen := false } }))

/-- Resets, the off state, resume and boot (R103 to R114, R118 to R127, R138, R840, R871): which start each row brings and what it keeps. -/
def Obligations.ResetAndResumeRows : Prop :=
  (∀ v, MakesIn (.powerOnReset v) (fun _ => v.vsys < 1500)
    (fun c => coldStart 0 (modPwr (fun p => { p with topKept := false, retLost := false, buckStopped := false, buckFails := 0 }) (measure v c)))) ∧
  MakesIn .resetNAssert (fun c => c.pwr.phase = .run ∧ c.pwr.buckStopped = false) (coldStart 3) ∧
  (∀ src, MakesIn (.wakeFromOff src) (fun c => c.pwr.phase = .off ∧ wakes c.pwr src = true)
    (fun c => coldStart c.pwr.causeLatch (modPwr (fun p => { p with buckStopped := false, buckFails := 0 }) c))) ∧
  MakesIn (.testPinHigh true) (fun _ => True) (fun c => { powerOn c with pwr := { (powerOn c).pwr with testHigh := true } }) ∧
  MakesIn (.testPinHigh false) (fun _ => True) (fun c => { c with pwr := { c.pwr with testHigh := false } }) ∧
  Makes .deferredResetStart (fun c => c.pwr.deferred = some .coldStart) (fun c => coldStart 5 (atTime c.pwr.deferAt c)) ∧
  (∀ w, Makes .deferredResetStart (fun c => c.pwr.deferred = some (.off w))
    (fun c => enterOff .selected 7 (modPwr (fun p => { p with wake := w }) (atTime c.pwr.deferAt c)))) ∧
  (∀ n c, (coldStart n c).pwr.phase = .waitVbat ∧ (coldStart n c).pwr.causeLatch = n ∧ (coldStart n c).fuses = c.fuses ∧
    (coldStart n c).burns = c.burns ∧ (coldStart n c).board = c.board ∧ (coldStart n c).cmds = [] ∧ (coldStart n c).clk.qtime = 0 ∧
    (coldStart n c).beam = {} ∧ (∀ a, 0x20000000 ≤ a → (coldStart n c).mem.byte a = c.mem.byte a)) ∧
  (∀ o, MakesIn (.resume o) (fun c => c.pwr.phase = .retention ∧ resumeMet o.supply = true ∧ c.pwr.causeLatch ≠ 8 ∧ c.pwr.windowOpen = true ∧
      o.ticks ≤ c.pwr.resumeMax * 2400000) (resumeChip o)) ∧
  (∀ o, MakesIn (.resume o) (fun c => c.pwr.phase = .retention ∧ resumeMet o.supply = true ∧ c.pwr.causeLatch = 8)
    (fun c => coldStart 8 (measure o.supply c))) ∧
  MakesIn .resumeRelease (fun c => c.pwr.phase = .resuming ∧ c.scan.relock = none ∧ c.beam.hold = false ∧
      c.beam.line + 1 = c.beam.vtotal ∧ c.beam.htotal ≠ 0 ∧ c.scan.mode.isSome)
    (fun c => frameStart {} false (resumed (reachLineEnd c))) ∧
  (∀ o, MakesIn (.vbatValid o) (fun c => c.pwr.phase = .waitVbat ∧ c.pwr.testHigh = false ∧ c.pwr.buckStopped = false ∧ resumeMet o.supply = true)
    (fun c => bootSlots o (bootFuses (bootMemory o c)))) ∧
  (∀ o c, mustRecover o c = true → bootSlots o c = enterRecovery c) ∧
  (∀ c, (enterRecovery c).pwr.phase = .recovery ∧ (enterRecovery c).pwr.slot = 0xFF) ∧
  Makes .watchdogExpiry (fun c => ∃ t, c.pwr.wdFirst = some t ∧ c.clk.qtime ≤ t + 240000000) (fun c => coldStart 4 (lintBlock 0x010B 0xFF 0 c)) ∧
  Makes .watchdogExpiry (fun c => c.pwr.wdFirst = none ∧ slotConfirmed c = true)
    (fun c => startRestart c.pwr.slot false none (modPwr (fun p => { p with wdFirst := some c.clk.qtime }) (lintBlock 0x010B 0xFF 0 c))) ∧
  (∀ r rb own, Makes .borouxStart (fun c => c.svc.restart = some r ∧ slotGood c r.slot = some (rb, own)) (borouxServes r r.slot rb own .ok)) ∧
  (∀ r i rb own c, r.cmd = none → c.svc.table = c.units → let t := borouxServes r i rb own .ok c
    t.stewDown = false ∧ t.svc.restart = none ∧ (coreOf t 6).run = .running ∧ t.pwr.slot = i)

/-- Commands of input and the small ports (R685 to R688, R694 to R709): a snapshot destination, the key matrix and touch, GPIO, PWM and rumble,
the auxiliary converter, I2C, SPI and the UART. The pointers of the small ports go through the map of P0 (log entry 14). -/
def Obligations.InputAndPortCommands : Prop :=
  Answers 0x0E10 .inpSnapshot
    (fun c m => m.f 8 4 < 2 ^ 24 ∧ m.f 8 4 % 32 = 0 ∧ (m.f 8 4 ≠ 0 → kRangeOk c m.part .w (m.f 8 4) 32 = true))
    (fun _ _ => .ok) (fun c m => modSnapPart m.part (fun q => { q with en := m.f 8 4 != 0, dest := m.f 8 4 }) c) ∧
  Answers 0x0E11 .inpConfig
    (fun c m => m.b 8 ≤ 3 ∧ 1 ≤ m.b 9 ∧ m.b 9 ≤ 31 ∧ 4 ≤ m.b 10 ∧ m.b 10 ≤ 63 ∧ m.b 11 ≤ 1 ∧ 60 ≤ m.f 12 2 ∧ m.f 12 2 ≤ 960 ∧ 1 ≤ m.b 14 ∧ m.z 15 1 = true ∧
      50 ≤ m.f 16 2 ∧ m.f 16 2 ≤ 5000 ∧ 100 ≤ m.f 18 2 ∧ m.f 18 2 ≤ 20000 ∧ c.inp.keys.gpioMode = bit (m.b 8) 0)
    (fun _ _ => .ok)
    (fun c m => modInp (fun i => { i with touchCfg := { i.touchCfg with
                                            en := bit (m.b 11) 0, rate := m.f 12 2, settle := m.b 14, plate := m.f 16 2, thresh := m.f 18 2 } })
      (modKeys (fun k => { k with gpioMode := bit (m.b 8) 0, diodes := bit (m.b 8) 1, debMs := m.b 9, rowUs := m.b 10 }) c)) ∧
  Answers 0x0E12 .inpTouchCal (fun _ _ => True)
    (fun _ _ => .ok) (fun c m => modInp (fun i => { i with touchCfg := { i.touchCfg with cal := Vector.ofFn fun k => sext 32 (m.f (8 + 4 * k.val) 4) } }) c) ∧
  Answers 0x0E20 .ioGpio
    (fun c m => m.f 8 4 < 2 ^ 24 ∧ m.f 12 4 < 2 ^ 24 ∧ m.f 16 4 < 2 ^ 24 ∧ BitVec.ofNat 24 (m.f 8 4) &&& c.inp.keys.matrixPins = 0)
    (fun c m => .res 0 (let k := c.inp.keys
      let mask := BitVec.ofNat 24 (m.f 8 4)
      let dir := (k.dir &&& ~~~mask) ||| (BitVec.ofNat 24 (m.f 12 4) &&& mask)
      let out := (k.out &&& ~~~mask) ||| (BitVec.ofNat 24 (m.f 16 4) &&& mask)
      ((out &&& dir) ||| (k.pins &&& ~~~dir)).toNat))
    (fun c m =>
      let mask := BitVec.ofNat 24 (m.f 8 4)
      modKeys (fun k => { k with dir := (k.dir &&& ~~~mask) ||| (BitVec.ofNat 24 (m.f 12 4) &&& mask),
                                 out := (k.out &&& ~~~mask) ||| (BitVec.ofNat 24 (m.f 16 4) &&& mask) }) c) ∧
  Answers 0x0E24 .ioPwm (fun _ m => m.b 8 = 0 ∧ m.f 10 2 ≤ 1000 ∧ 100 ≤ m.f 12 4 ∧ m.f 12 4 ≤ 100000)
    (fun _ _ => .ok)
    (fun c m => applyDuties (modInp (fun i => { i with pwm := vmod i.pwm 0 fun w => { w with freq := m.f 12 4, rampMs := m.b 9, set := m.f 10 2 } }) c)) ∧
  Answers 0x0E24 .ioPwm (fun _ m => m.b 8 = 1 ∧ m.f 10 2 ≤ 1000 ∧ 100 ≤ m.f 12 4 ∧ m.f 12 4 ≤ 100000 ∧ 100 ≤ m.f 16 2 ∧ m.f 16 2 ≤ 10000)
    (fun _ _ => .ok)
    (fun c m => applyDuties (modInp (fun i => { i with rumble := { i.rumble with max := m.f 10 2, ms := m.f 16 2 } })
      (modInp (fun i => { i with pwm := vmod i.pwm 1 fun w => { w with freq := m.f 12 4, rampMs := m.b 9 } }) c))) ∧
  Answers 0x0E25 .ioRumble (fun c m => m.f 8 2 ≤ 1000 ∧ m.f 10 2 ≤ 10000 ∧ (m.part = 0 ∨ c.focus = m.part))
    (fun _ _ => .ok)
    (fun c m => applyDuties (modInp (fun i =>
      { i with rumble := { i.rumble with req := some (m.part, m.f 8 2, c.clk.qtime + 24000 * m.f 10 2) } }) c)) ∧
  Answers 0x0E26 .ioAdc (fun _ m => m.b 8 ≤ 3)
    (fun c m => .res 0 (vget c.inp.adc (m.b 8) + 65536 * ((vget c.inp.adc (m.b 8) * 1800 + 2048) / 4096))) (fun c _ => c) ∧
  (∀ lines, lines ≠ .stuck → Answers 0x0E21 (fun r => .ioI2c r lines)
    (fun c m => m.b 8 ≤ 3 ∧ m.b 9 ≤ 127 ∧ m.b 10 ≤ 12 ∧ m.f 12 4 < 2 ^ 24 ∧ (m.f 12 4 ≠ 0 → kRangeOk c 0 .w (m.f 12 4) (m.b 11) = true) ∧
      (m.f 12 4 = 0 → m.b 11 ≤ 4) ∧ (vget c.inp.i2c (m.b 8 % 2)).op = none)
    (fun _ _ => .wait)
    (fun c m => modI2c (m.b 8 % 2) (fun x =>
      { x with
        stuck := x.stuck && lines != .recovered
        op := some { handle := m.waitHandle, addr := m.b 9, wdata := pslice m.params 8 (m.b 10), rlen := m.b 11, dest := m.f 12 4 } })
      (modI2c (m.b 8 % 2) (fun x => { x with fast := bit (m.b 8) 1, svc := false }) c))) ∧
  Answers 0x0E22 .ioSpi
    (fun c m => m.b 8 ≤ 1 ∧ m.b 9 ≤ 7 ∧ 1 ≤ m.f 10 2 ∧ m.f 10 2 ≤ 4096 ∧ m.f 12 4 < 2 ^ 24 ∧ m.f 16 4 < 2 ^ 24 ∧ 100000 ≤ m.f 20 4 ∧ m.f 20 4 ≤ 24000000 ∧
      kRangeOk c 0 .r (m.f 12 4) (m.f 10 2) = true ∧ (m.f 16 4 ≠ 0 → kRangeOk c 0 .w (m.f 16 4) (m.f 10 2) = true) ∧ c.inp.spi.op = none ∧
      anyPoison (readK 0 (m.f 12 4) (m.f 10 2) c).1 = false)
    (fun _ _ => .wait)
    (fun c m => modInp (fun i => { i with spi := { svc := false,
                                                   op := some { handle := m.waitHandle, cs := m.b 8, mode := m.b 9, div := (24000000 + m.f 20 4 - 1) / m.f 20 4,
                                                                out := plain (readK 0 (m.f 12 4) (m.f 10 2) c).1, dest := m.f 16 4 } } })
      (readK 0 (m.f 12 4) (m.f 10 2) c).2) ∧
  Answers 0x0E23 .ioUart (fun _ m => 300 ≤ m.f 8 4 ∧ m.f 8 4 ≤ 3000000 ∧ m.b 12 < 32 ∧ m.b 12 % 4 ≠ 3)
    (fun _ _ => .ok) (fun c m => modUart (fun u => { u with baud := m.f 8 4, format := m.b 12 }) c)

/-- What arrives at the keys, the touch screen and the small ports (R684 to R693, R699 to R709, Tables 14.1 to 14.3). -/
def Obligations.InputAndPortRows : Prop :=
  (∀ x1 x2 x3 y1 y2 y3 z1 z2 : Fin 4096, Makes (.touchSample true x1 x2 x3 y1 y2 y3 z1 z2)
    (fun c => c.inp.touchCfg.en = true ∧ (median3 x1 x2 x3 = 0 ∨ median3 x1 x2 x3 = 4095 ∨ median3 y1 y2 y3 = 0 ∨ median3 y1 y2 y3 = 4095))
    (fun c => lintBlock 0x0E02 0xFF 0 (modTouch (fun t => { t with fault := true }) c))) ∧
  (∀ x1 x2 x3 y1 y2 y3 z1 z2 : Fin 4096, Makes (.touchSample false x1 x2 x3 y1 y2 y3 z1 z2) (fun c => c.inp.touchCfg.en = true)
    (modTouch fun t =>
      { t with x := median3 x1 x2 x3, y := median3 y1 y2 y3, z1 := z1, z2 := z2, last := false, press := 0,
               contact := if t.last then t.contact else false })) ∧
  (∀ x1 x2 x3 y1 y2 y3 z1 z2 : Fin 4096, Makes (.touchSample true x1 x2 x3 y1 y2 y3 z1 z2)
    (fun c => c.inp.touchCfg.en = true ∧ 0 < median3 x1 x2 x3 ∧ median3 x1 x2 x3 < 4095 ∧ 0 < median3 y1 y2 y3 ∧ median3 y1 y2 y3 < 4095 ∧
      touchContact c.inp.touchCfg true (median3 x1 x2 x3) z1 z2 = true)
    (fun c =>
      let g := c.inp.touchCfg
      let x := median3 x1 x2 x3
      let y := median3 y1 y2 y3
      modTouch (fun t =>
        { t with x := x, y := y, z1 := z1, z2 := z2, last := true, contact := t.last || t.contact, tapped := t.tapped || (t.last && !t.contact),
                 press := min 0xFFFF (touchRt g.plate x z1 z2),
                 posX := touchPos (vget g.cal 0) (vget g.cal 1) (vget g.cal 2) x y c.beam.hactive,
                 posY := touchPos (vget g.cal 3) (vget g.cal 4) (vget g.cal 5) x y c.beam.vactive }) c)) ∧
  (∀ keys pins, Makes (.keyScan keys pins) (fun c => c.inp.keys.ghost = true ∨ (c.inp.keys.scan keys pins).ghost = false) (modKeys (Keys.scan keys pins))) ∧
  (∀ keys pins, Makes (.keyScan keys pins) (fun c => c.inp.keys.ghost = false ∧ (c.inp.keys.scan keys pins).ghost = true)
    (fun c => lintBlock 0x0E01 0xFF 0 (modKeys (Keys.scan keys pins) c))) ∧
  Makes .homeKeyPress (fun c => c.inp.homeDown = false) (fun c => fire 0 54 1 (modInp (fun s => { s with homeDown := true }) c)) ∧
  Makes .homeKeyRelease (fun c => c.inp.homeDown = true) (fun c => fire 0 54 2 (modInp (fun s => { s with homeDown := false }) c)) ∧
  Makes .homeKeyHold (fun c => c.inp.homeDown = true) (fire 0 54 3) ∧
  (∀ (ch : Fin 4) (v : Fin 4096), Makes (.auxConversion ch v) (fun _ => True) (modInp fun i => { i with adc := vset i.adc ch v })) ∧
  (∀ p d t, Makes .rumbleDurationEnd (fun c => c.inp.rumble.req = some (p, d, t))
    (fun c => applyDuties (modInp (fun i => { i with rumble := { i.rumble with req := none } }) (atTime t c)))) ∧
  (∀ t, Makes .rumbleTimeout (fun c => c.inp.rumble.since = some t)
    (fun c => lintBlock 0x0E09 0xFF 0
      (applyDuties (modInp (fun i => { i with rumble := { i.rumble with req := none } }) (atTime (t + 24000 * c.inp.rumble.ms) c))))) ∧
  (∀ (b : Fin 2) o bs, Makes (.i2cTransferEnd b (.done bs)) (fun c => (vget c.inp.i2c b).op = some o ∧ o.dest = 0)
    (fun c => finish o.handle .ok (min 255 o.total + 256 * 0) (leNat (pslice bs 0 o.rlen)) (modI2c b (fun x => { x with op := none, svc := true }) c))) ∧
  (∀ (b : Fin 2) o (n : Byte), Makes (.i2cTransferEnd b (.nackAddress n)) (fun c => (vget c.inp.i2c b).op = some o)
    (fun c => finish o.handle .partialDone (min 255 n.toNat + 256 * 1) 0 (modI2c b (fun x => { x with op := none, svc := true }) c))) ∧
  (∀ (b : Fin 2) o (n : Byte), Makes (.i2cStretchTimeout b n true) (fun c => (vget c.inp.i2c b).op = some o)
    (fun c => finish o.handle .timeout (min 255 n.toNat + 256 * 3) 0
      (modI2c b (fun x => { x with op := none, svc := true }) (lintBlock 0x0E03 0xFF o.addr c)))) ∧
  (∀ o bs, Makes (.spiTransferEnd bs) (fun c => c.inp.spi.op = some o ∧ o.dest ≠ 0)
    (fun c => finish o.handle .ok 0 0 (modInp (fun i => { i with spi := { op := none, svc := true } })
      (writeK 0 o.dest (clean (pslice bs 0 o.out.length)) c)))) ∧
  (∀ b, Makes (.uartRxByte b false false false) (fun c => c.inp.uart.on = true ∧ c.inp.uart.rx.length < 64)
    (modUart fun u => { u with rx := u.rx ++ [b] })) ∧
  (∀ b, Makes (.uartRxByte b false false false) (fun c => c.inp.uart.on = true ∧ 64 ≤ c.inp.uart.rx.length) (uartError 2)) ∧
  (∀ b l, Makes (.uartTxByte true) (fun c => c.inp.uart.on = true ∧ c.inp.uart.tx = b :: l) (modUart fun u => { u with tx := l, sent := some b })) ∧
  (∀ k (b : Byte), WritesReg (.uartDataWrite k b) k 0x9110 (fun p c => p = 0 ∧ c.inp.uart.tx.length < 64)
    (fun _ c => modUart (fun u => { u with tx := u.tx ++ [b] }) c)) ∧
  (∀ k, ReadsReg (.uartDataRead k) k 0x9110 (fun c => if corePart c k = 0 then (c.inp.uart.rx.headD 0).toNat else 0)
    (fun c => if corePart c k = 0 then modUart (fun u => { u with rx := u.rx.drop 1 }) c else c))

/-- The USB device port and DFU (R130, R131, R241 to R244, R249, R714 to R716, Tables 14.3, 14.4): records and data items come in, completions are
read, the port follows VBUS and the bus, requests are answered or stalled, and an image is loaded in recovery mode. Detail words of a stall and the
descriptors' product fields are free values. -/
def Obligations.UsbAndDfuRows : Prop :=
  (∀ bs, Makes (.usbCommandRecord bs) (fun c => usbOn c = true ∧ bs.length = 32 ∧ pfield bs 0 2 ≠ 0xFFFF ∧ c.usb.halted.contains 0x01 = false)
    (modUsb fun u => { u with waiting := u.waiting ++ [(u.slot, bs)], slot := (u.slot + 1) % 16 })) ∧
  (∀ (h : Long) bs, Makes (.usbDataItem h bs) (fun c => usbOn c = true ∧ bs ≠ [] ∧ bs.length ≤ 1024 ∧ c.usb.halted.contains 0x01 = false)
    (fun c => (takeChunk .usb h.toNat (clean bs) c).2)) ∧
  (∀ bs, Makes (.usbTransferEnd bs) (fun _ => True) (fun c => c)) ∧
  Makes .usbInPacketAck (fun c => usbOn c = true ∧ c.usb.halted.contains 0x81 = false) (modUsb fun u => { u with items := u.items.drop 1 }) ∧
  Makes .usbBusReset (fun c => c.usb.attached = true)
    (fun c => discardHeld (c.usb.items.filter (·.completion)).length 1
      { c with usb := { attached := true, dfu := c.usb.dfu, dfuSlot := c.usb.dfuSlot, dfuErr := c.usb.dfuErr,
                        discard := c.usb.discard ++ (outstanding c .usb).filter fun x => !c.usb.discard.contains x } }) ∧
  Makes (.usbVbusChange true) (fun _ => True) (modUsb fun u => { u with attached := true }) ∧
  Makes (.usbVbusChange false) (fun c => c.usb.attached = true) (fun c => modUsb (fun u => { u with attached := false }) (usbReset c)) ∧
  Makes .usbUnsupportedRequest (fun c => c.usb.attached = true)
    (fun c => lintBlock 0x0E08 0xFF ((freeNat c).1 % 2 ^ 32) { (freeNat c).2 with memReply := { refused := true } }) ∧
  Makes .usbSuspend (fun c => c.usb.attached = true) (modUsb fun u => { u with suspended := true }) ∧
  Makes .usbResume (fun _ => True) (modUsb fun u => { u with suspended := false }) ∧
  (∀ i l, Makes .usbInUnread (fun c => c.usb.items = i :: l) (fun c => lintBlock 0x0E07 0xFF 0 (atTime (i.since + 24000000) c))) ∧
  (∀ a, Makes (.usbStandardRequest (.setAddress a)) (fun c => c.usb.attached = true) (modUsb fun u => { u with address := a.val })) ∧
  (∀ n : Byte, Makes (.usbStandardRequest (.setConfiguration n)) (fun c => c.usb.attached = true ∧ n.toNat ≤ 1)
    (modUsb fun u => { u with config := n.toNat, slot := 0, alt := Vector.replicate 2 0, halted := [] })) ∧
  Makes (.usbStandardRequest .getConfiguration) (fun c => c.usb.attached = true) (fun c => { c with memReply := { bytes := clean (leBytes 1 c.usb.config) } }) ∧
  (∀ n : Byte, Makes (.usbStandardRequest (.setConfiguration n)) (fun c => c.usb.attached = true ∧ 1 < n.toNat) usbStall) ∧
  Makes .dfuDetach (fun c => c.usb.attached = true ∧ consentOf c .usb = true)
    (fun c => { c with pwr := { c.pwr with deferred := some .recoveryStart, deferAt := c.clk.qtime + 24000000 } }) ∧
  Makes .dfuDetach (fun c => c.usb.attached = true ∧ consentOf c .usb = false) usbStall ∧
  (∀ (alt : Fin 2) bs s, s.chip.pwr.phase = .recovery → s.chip.usb.attached = true → lifeOf s.chip ≠ .scrap → bs.length ≤ 4096 →
    isPegged s.chip 0x0B 0 = false → s.chip.usb.dfu = [] →
    exec (.dfuDownload alt bs) s = .next (s.settle (
      let base := flashBase + slotOffset s.chip alt
      modUsb (fun u => { u with dfu := bs, dfuSlot := alt, dfuErr := false })
        (programAt base bs ((List.range ((bs.length + 4095) / 4096)).foldl (fun c i => eraseSector (base + 4096 * i) c) s.chip))))) ∧
  (∀ s img, s.chip.pwr.phase = .recovery → s.chip.usb.attached = true → lifeOf s.chip ≠ .scrap → s.chip.usb.dfu ≠ [] →
    imageGood s.chip (slotOffset s.chip s.chip.usb.dfuSlot) s.chip.usb.dfu.length (pfield s.chip.usb.dfu (s.chip.usb.dfu.length - 128 + 0x10) 4) = some img →
    exec .dfuManifest s = .next (s.settle (modUsb (fun u => { u with dfu := [] })
      (listSlot s.chip.usb.dfuSlot (slotOffset s.chip s.chip.usb.dfuSlot) s.chip.usb.dfu.length
        (pfield s.chip.usb.dfu (s.chip.usb.dfu.length - 128 + 0x10) 4) s.chip)))) ∧
  Makes .dfuUpload (fun c => c.usb.attached = true) usbStall

/-- Commands of the link (R725, R735, R755, R763 to R766, R776, Table 15.11): status, configuration, channels, groups, remote mailboxes,
exports, block transfers and the beat. -/
def Obligations.LinkCommands : Prop :=
  Answers 0x0F01 .lnkStatus (fun _ m => m.b 8 = 0xFF)
    (fun c _ =>
      let n := c.link.node
      .res (c.link.align.st.code + 4 * b2n n.root + 8 * b2n n.enumerated
        + 16 * (match n.best with | some a => if n.root then 0 else a.hops | none => 0)) (n.id + 65536 * n.rootId.getD 0))
    (fun c _ => c) ∧
  Answers 0x0F01 .lnkStatus (fun _ m => m.b 8 ≤ 3)
    (fun c m =>
      let p := linkPort c (m.b 8)
      .res (min 65535 (p.hop.retrTimes.filter (c.clk.qtime < · + 24000000)).length) (p.st.code + 16 * p.rate + 65536 * p.nbr.getD 0))
    (fun c _ => c) ∧
  AnswersLinked 0x0F10 .lnkConfig (fun _ m => m.b 8 < 8 ∧ 1 ≤ m.b 9 ∧ m.b 9 ≤ 3 ∧ m.b 11 < 16 ∧ 1 ≤ m.b 14 ∧ m.b 14 ≤ 8)
    .ok (fun c m => applyLinkCfg m.linkCfg c) ∧
  (∀ ch, AnswersLinked 0x0F11 .lnkChannel
    (fun c m => windowUnit c m.pno .link (m.b 8) = some ch ∧ m.b 9 < 8 ∧ m.b 12 < 32 ∧ m.z 14 2 = true ∧ m.chanCfg.ok = true ∧
      m.f 16 4 < 2 ^ 24 ∧ m.f 20 4 < 2 ^ 24 ∧ isPegged c 0x0A ch = false ∧ ¬(bit (m.b 9) 0 = true ∧ (linkChan c ch).cfg.en = true))
    .ok (fun c m =>
      let c := modChan ch (fun x => { x with cfg := m.chanCfg }) (closeChan ch c)
      if bit (m.b 9) 0 then openChan ch c else c)) ∧
  AnswersLinked 0x0F12 .lnkGroup (fun _ _ => True)
    .ok (fun c m => modNode (fun n => { n with groups := BitVec.ofNat 64 (m.f 8 8) ||| 1 }) c) ∧
  AnswersLinked 0x0F20 .lnkRemote
    (fun c m => m.f 12 4 < 2 ^ 24 ∧ m.f 10 2 ≠ 0 ∧ m.f 48 4 < 2 ^ 24 ∧ m.f 52 4 ≤ 458752 ∧
      (0 < m.f 52 4 → kRangeOk c m.pno .r (m.f 48 4) (m.f 52 4) = true) ∧ routeOf c (m.f 8 2) false none ≠ .lost)
    .wait (fun c m =>
      let c := modLink (fun l => { l with remotes := l.remotes ++ [{ handle := m.waitHandle, part := m.pno, node := m.f 8 2, dest := m.f 12 4,
                                                                     dsrc := m.f 48 4, dlen := m.f 52 4, ends := c.clk.qtime + m.f 10 2 * 240000 }] }) c
      sendPkt (mgmtPkt c (m.f 8 2) 0 (.record (clean (pslice m.params 8 32)))) none c) ∧
  AnswersLinked 0x0F21 .lnkExport
    (fun c m => bits (m.b 8) 6 3 = 0 ∧ bit (m.b 8) 7 = true ∧ ∀ e, exportOf c (m.b 8 % 8) = some e → e.part = m.pno)
    .ok (fun c m => modLink (fun l => { l with exports := vset l.exports (m.b 8 % 8) none }) c) ∧
  AnswersLinked 0x0F21 .lnkExport
    (fun c m => bits (m.b 8) 6 3 = 0 ∧ bit (m.b 8) 7 = false ∧ bits (m.b 9) 6 5 = 0 ∧
      (bit (m.b 9) 7 = true → (windowUnit c m.pno .link (m.b 9 % 32)).isSome = true) ∧ m.f 12 4 < 2 ^ 24 ∧ m.f 16 4 ≠ 0 ∧ m.f 16 4 ≤ 2 ^ 24 ∧
      (bit (m.f 10 2) 15 = true → m.f 10 2 ≤ 32768 + 63) ∧ ∀ e, exportOf c (m.b 8 % 8) = some e → e.part = m.pno)
    .ok (fun c m => modLink (fun l => { l with exports := vset l.exports (m.b 8 % 8) (some
      { part := m.pno, allow := m.f 10 2, notify := if bit (m.b 9) 7 then windowUnit c m.pno .link (m.b 9 % 32) else none,
        base := m.f 12 4, len := m.f 16 4 }) }) c) ∧
  AnswersLinked 0x0F22 .lnkBlock
    (fun c m => bit (m.f 8 2) 15 = false ∧ m.b 10 < 8 ∧ m.z 11 1 = true ∧ m.f 12 4 < 2 ^ 24 ∧ m.f 20 4 ≠ 0 ∧ m.f 20 4 ≤ 65536 ∧
      kRangeOk c m.pno .r (m.f 12 4) (m.f 20 4) = true ∧ routeOf c (m.f 8 2) false none ≠ .lost)
    .wait (fun c m =>
      let d := readK m.pno (m.f 12 4) (m.f 20 4) c
      let pk := blockPkts d.2.link.node.id (m.f 8 2) (m.b 10) (m.f 16 4) m.waitHandle d.1
      pk.foldl (fun c k => sendPkt k none c) (modLink (fun l =>
        { l with blocks := l.blocks ++ [{ handle := m.waitHandle, node := m.f 8 2, x := m.b 10, since := d.2.clk.qtime }] }) d.2)) ∧
  AnswersLinked 0x0F22 .lnkBlock
    (fun c m => bit (m.f 8 2) 15 = true ∧ m.f 8 2 ≤ 32768 + 63 ∧ m.b 10 < 8 ∧ m.z 11 1 = true ∧ m.f 12 4 < 2 ^ 24 ∧ m.f 20 4 ≠ 0 ∧ m.f 20 4 ≤ 65536 ∧
      kRangeOk c m.pno .r (m.f 12 4) (m.f 20 4) = true ∧ treePorts (readK m.pno (m.f 12 4) (m.f 20 4) c).2 ≠ [])
    .wait (fun c m =>
      let d := readK m.pno (m.f 12 4) (m.f 20 4) c
      (blockPkts d.2.link.node.id (m.f 8 2) (m.b 10) (m.f 16 4) m.waitHandle d.1).foldl (fun c k => (spreadPkt k none c).2) d.2) ∧
  AnswersLinked 0x0F23 .lnkBeatTx (fun c m => m.b 8 ≤ 32 ∧ m.z 9 7 = true ∧ c.link.node.root = true)
    .ok (fun c m => modAlign (fun a => { a with tx := pslice m.params 8 (m.b 8) }) c) ∧
  AnswersLinked 0x0F24 .lnkBeatRx
    (fun c m => m.f 8 4 < 2 ^ 24 ∧ m.f 8 4 % 64 = 0 ∧ (m.f 8 4 ≠ 0 → kRangeOk c m.pno .w (m.f 8 4) 64 = true))
    .ok (fun c m => modAlign (fun a => { a with dest := vset a.dest m.pno (if m.f 8 4 = 0 then none else some (m.f 8 4)) }) c)

/-- A port of the link from its detection to its loss (R724 to R728, R731, R733, R768, R770, R772): training, HELLO, authentication,
acknowledgement, credits and departure. -/
def Obligations.LinkPortRows : Prop :=
  ∀ q : LinkPortId,
    MakesLinked (.portPresenceDetect q) (fun c => portRuns c q = true ∧ (linkPort c q).st = .down ∧ (linkPort c q).tr.until_ = none)
      (fun c => sendTrain q (modLPort q (fun p => { p with st := .train, rate := 1, tr := { fails := p.tr.fails } }) c)) ∧
    (∀ a b : Byte, MakesLinked (.trainLcw q a b)
      (fun c => (linkPort c q).st = .train ∧ b.toNat = c.link.node.cfg.mode ∧ 1 ≤ a.toNat ∧ a.toNat ≤ 3)
      (fun c => modLPort q (fun p =>
        { p with rate := min c.link.node.cfg.rateMax a.toNat,
                 tr := { p.tr with agreed := true, ready := false, peerReady := false, peerMode := b.toNat } }) c)) ∧
    (∀ b : Byte, MakesLinked (.trainLcw q 0xFF b) (fun c => (linkPort c q).st = .train ∧ b.toNat = c.link.node.cfg.mode)
      (fun c => enterHello q (modTrain q (fun t => { t with peerReady := true }) c))) ∧
    (∀ a b : Byte, MakesLinked (.trainLcw q a b) (fun c => (linkPort c q).st = .train ∧ b.toNat ≠ c.link.node.cfg.mode)
      (fun c => modTrain q (fun t => { t with peerMode := b.toNat }) (portDownAs .mismatch q 0 none (lint 0x0F03 (portUnit q) 0xFF 1 c)))) ∧
    MakesLinked (.trainSymbolCount q) (fun c => (linkPort c q).st = .train ∧ (linkPort c q).tr.agreed = true ∧ (linkPort c q).tr.ready = false)
      (fun c => enterHello q (putLine q (.lcw 0x04 0xFF c.link.node.cfg.mode) (modTrain q (fun t => { t with ready := true }) c))) ∧
    (∀ t, MakesLinked (.trainingHoldoffEnd q) (fun c => (linkPort c q).st = .down ∧ (linkPort c q).tr.until_ = some t)
      (fun c => modTrain q (fun t => { t with until_ := none }) (atTime t c))) ∧
    MakesLinked (.symbolError q) (fun c => (linkPort c q).st = .train ∧ (linkPort c q).rate ≤ 1)
      (fun c => failTraining q (lintKind q 1 c)) ∧
    MakesLinked (.symbolError q) (fun c => (linkPort c q).st = .train ∧ 1 < (linkPort c q).rate)
      (fun c => modLPort q (fun p => { p with rate := p.rate - 1, tr := { p.tr with ready := false, peerReady := false } }) (lintKind q 1 c)) ∧
    MakesLinked (.symbolError q)
      (fun c => (linkPort c q).st = .joined ∧ ((linkPort c q).hop.symErrs.filter (c.clk.qtime < · + 24000)).length < 255)
      (fun c => lintKind q 1 (modHop q (fun h =>
        { h with symErrs := (linkPort c q).hop.symErrs.filter (c.clk.qtime < · + 24000) ++ [c.clk.qtime] }) c)) ∧
    MakesLinked (.presenceLoss q) (fun c => (linkPort c q).st ≠ .down) (portDrop q) ∧
    (∀ cause : Byte, MakesLinked (.departLcw q cause) (fun c => (linkPort c q).st ≠ .down) (portDown q cause.toNat)) ∧
    (∀ (serial : BitVec 64) (id : Word), MakesLinked (.helloReceive q serial id false)
      (fun c => (linkPort (takeInbox 6 c) q).st = .hello ∧ (takeInbox 6 c).link.node.cfg.authReq = false)
      (fun c => joinPort q false (modLPort q (fun p =>
        { p with nbr := some id.toNat, serial := some serial.toNat, tr := { p.tr with peerAuth := false } }) (takeInbox 6 c)))) ∧
    (∀ (n : BitVec 128) (serial : BitVec 64) (mac : List Byte), MakesLinked (.authChal q n serial)
      (fun c => (linkPort (takeInbox 6 c) q).st = .auth ∧ (linkPort (takeInbox 6 c) q).tr.init = false ∧
        hopMac (entropy16 (takeInbox 6 c)).2 serial.toNat (entropy16 (takeInbox 6 c)).2.fuses.serial (bytes16 n) (entropy16 (takeInbox 6 c)).1 0x52 = some mac)
      (fun c =>
        let d := entropy16 (takeInbox 6 c)
        sendNbr q 1 6 (.resp d.1 d.2.fuses.serial mac) (modLPort q (fun p =>
          { p with serial := some serial.toNat, tr := { p.tr with nI := bytes16 n, nR := d.1, since := d.2.clk.qtime } }) d.2))) ∧
    (∀ (n : BitVec 128) (serial : BitVec 64) (mac : BitVec 128) (f : List Byte), MakesLinked (.authResp q n serial mac)
      (fun c =>
        let c := takeInbox 6 c
        let p := linkPort c q
        p.st = .auth ∧ p.tr.init = true ∧ hopMac c c.fuses.serial serial.toNat p.tr.nI (bytes16 n) 0x52 = some (bytes16 mac) ∧
          hopMac c c.fuses.serial serial.toNat p.tr.nI (bytes16 n) 0x49 = some f)
      (fun c => joinPort q true (sendNbr q 1 6 (.fin f) (takeInbox 6 c)))) ∧
    (∀ (mac : BitVec 128), MakesLinked (.authFin q mac)
      (fun c =>
        let c := takeInbox 6 c
        let p := linkPort c q
        p.st = .auth ∧ p.tr.init = false ∧ p.tr.nR ≠ [] ∧
          hopMac c (p.serial.getD 0) c.fuses.serial p.tr.nI p.tr.nR 0x49 = some (bytes16 mac))
      (fun c => joinPort q true (takeInbox 6 c))) ∧
    MakesLinked (.authTimeout q) (fun c => (linkPort c q).st = .auth)
      (fun c => quarantine q (atTime ((linkPort c q).tr.since + 240000) c)) ∧
    MakesLinked (.quarantineExpiry q) (fun c => (linkPort c q).st = .quarantined)
      (fun c => modLPort q (fun p => { p with st := .down, tr := { fails := p.tr.fails } }) (atTime ((linkPort c q).tr.until_.getD 0) c)) ∧
    (∀ (seq : Byte) i, MakesLinked (.ackLcw q seq) (fun c => (linkPort c q).hop.replay.findIdx? (·.seq == seq.toNat) = some i)
      (fun c => pump q (((linkPort c q).hop.replay.take (i + 1)).foldl (fun c k => acked k c)
        (modHop q (fun h => { h with replay := h.replay.drop (i + 1), retr := 0 }) c)))) ∧
    (∀ (seq : Byte) i, MakesLinked (.nakLcw q seq) (fun c => (linkPort c q).hop.replay.findIdx? (·.seq == seq.toNat) = some i) (retransmit q i)) ∧
    MakesLinked (.retransmitTimeout q) (fun c => (linkPort c q).hop.replay ≠ []) (retransmit q 0) ∧
    (∀ (vc : Fin 4) (n : Byte) (full : Bool), MakesLinked (.creditLcw q vc n full)
      (fun c => (linkPort c q).st = .joined ∧ (if full then n.toNat else vget (linkPort c q).hop.credits vc + n.toNat) ≤ vcBuffers vc)
      (fun c => pump q (modHop q (fun h =>
        { h with credits := vset h.credits vc (if full then n.toNat else vget (linkPort c q).hop.credits vc + n.toNat) }) c))) ∧
    (∀ (vc : Fin 4) (n : Byte) (full : Bool), MakesLinked (.creditLcw q vc n full)
      (fun c => (linkPort c q).st = .joined ∧ vcBuffers vc < (if full then n.toNat else vget (linkPort c q).hop.credits vc + n.toNat))
      (fun c => portDrop q (lintKind q 5 c))) ∧
    MakesLinked (.ackDelayExpiry q) (fun c => 0 < (linkPort c q).hop.acks) (sendAck q) ∧
    MakesLinked (.creditStateRepeat q) (fun c => (linkPort c q).st = .joined)
      (fun c => (List.range 4).foldl (fun d vc => putLine q (.lcw 0x03 vc (vcBuffers vc - vget (linkPort c q).hop.used vc)) d) c)

/-- What a port does with a packet (R730, R731, R733, R773, Table 15.9): taken in order, its payload and header sound, it is accepted and
acknowledged at the eighth; with a CRC error, or out of order, it is refused with NAK; seen before, with ACK. -/
def Obligations.LinkPacketReceive : Prop :=
  ∀ (q : LinkPortId) (raw : List Byte),
    let bs := raw.take (raw.length - 2)
    let k := parsePkt bs
    let sound := 10 ≤ raw.length ∧ crc16 bs = leNat (raw.drop (raw.length - 2))
    MakesLinked (.linkPacketReceive q raw false) (fun c => (linkPort c q).st = .joined ∧ ¬sound)
      (fun c => sendNak q (lint 0x0F04 (portUnit q) 0xFF 0 c)) ∧
    MakesLinked (.linkPacketReceive q raw false)
      (fun c => (linkPort c q).st = .joined ∧ sound ∧ 0 < ((linkPort c q).hop.rxSeq + 256 - k.seq) % 256 ∧
        ((linkPort c q).hop.rxSeq + 256 - k.seq) % 256 ≤ 128)
      (sendAck q) ∧
    MakesLinked (.linkPacketReceive q raw false)
      (fun c => (linkPort c q).st = .joined ∧ sound ∧ ((linkPort c q).hop.rxSeq + 256 - k.seq) % 256 = 0 ∧ malformed bs = true)
      (fun c => sendNak q (lintKind q 4 c)) ∧
    MakesLinked (.linkPacketReceive q raw false)
      (fun c => (linkPort c q).st = .joined ∧ sound ∧ ((linkPort c q).hop.rxSeq + 256 - k.seq) % 256 = 0 ∧ malformed bs = false ∧
        vcBuffers k.vc ≤ vget (linkPort c q).hop.used k.vc)
      (fun c => portDrop q (lintKind q 3 c)) ∧
    MakesLinked (.linkPacketReceive q raw false)
      (fun c => (linkPort c q).st = .joined ∧ sound ∧ ((linkPort c q).hop.rxSeq + 256 - k.seq) % 256 = 0 ∧ malformed bs = false ∧
        vget (linkPort c q).hop.used k.vc < vcBuffers k.vc)
      (fun c =>
        let c := modHop q (fun h => { h with rxSeq := (h.rxSeq + 1) % 256, used := vmod h.used k.vc (· + 1), acks := h.acks + 1, naks := [] }) c
        acceptPkt q k (bs.drop 8) (if 8 ≤ (linkPort c q).hop.acks then sendAck q c else c))

/-- The node among its neighbours (R735 to R739, R744 to R746, R751): advertisements, the root, identities, system time, the beat and
holdover. -/
def Obligations.LinkNodeRows : Prop :=
  (∀ (q : LinkPortId) (pri : Byte) (serial : BitVec 64) (hops : Word),
    MakesLinked (.topoAdvertisement q pri serial hops) (fun c => isJoined (takeInbox 5 c) q = true ∧ hops.toNat < 511)
      (fun c => elect (modLPort q (fun p => { p with adv := some { pri := pri.toNat, serial := serial.toNat, hops := hops.toNat + 1, time := (takeInbox 5 c).clk.qtime } })
        (takeInbox 5 c))) ∧
    MakesLinked (.topoAdvertisement q pri serial hops) (fun c => isJoined (takeInbox 5 c) q = true ∧ 511 ≤ hops.toNat)
      (fun c => lint 0x0F0E nodeUnit 0xFF 0 (takeInbox 5 c))) ∧
  MakesLinked .topoAdvertiseTimer (fun c => c.link.node.best = none)
    (fun c => (List.range 4).foldl (fun d q => if isJoined d q then sendNbr q 1 5 (.topo c.link.node.cfg.rootPri c.fuses.serial 0) d else d) c) ∧
  (∀ b, MakesLinked .topoAdvertiseTimer (fun c => c.link.node.best = some b)
    (fun c => (List.range 4).foldl (fun d q => if isJoined d q then sendNbr q 1 5 (.topo b.pri b.serial b.hops) d else d) c)) ∧
  (∀ (q : LinkPortId) a, MakesLinked (.advertisementExpiry q) (fun c => (linkPort c q).adv = some a)
    (fun c => loseRoute (elect (modLPort q (fun p => { p with adv := none }) (atTime (a.time + 720000) c))))) ∧
  MakesLinked .rootElectionTimeout (fun c => c.link.node.cfg.on = true ∧ c.link.node.root = false ∧ c.link.node.best = none)
    (fun c => becomeRoot (atTime (c.link.node.lastBetter + 1200000) c)) ∧
  (∀ (q a : LinkPortId) (id : Word),
    MakesLinked (.gridIdOffer q a id)
      (fun c => isJoined (takeInbox 5 c) q = true ∧ (takeInbox 5 c).link.node.cfg.mode = 3 ∧ (takeInbox 5 c).link.node.enumerated = false)
      (fun c => offerId (modNode (fun n => { n with id := gridIdFrom a id.toNat, enumerated := true })
        (modLPort q (fun p => { p with nbr := some id.toNat }) (takeInbox 5 c)))) ∧
    MakesLinked (.gridIdOffer q a id)
      (fun c => isJoined (takeInbox 5 c) q = true ∧ (takeInbox 5 c).link.node.cfg.mode = 3 ∧ (takeInbox 5 c).link.node.enumerated = true ∧
        gridIdFrom a id.toNat ≠ (takeInbox 5 c).link.node.id)
      (fun c => lint 0x0F0D nodeUnit 0xFF id.toNat (modLPort q (fun p => { p with nbr := some id.toNat }) (takeInbox 5 c)))) ∧
  (∀ (q : LinkPortId) (serial : BitVec 64),
    MakesLinked (.idRequest q serial)
      (fun c => isJoined (takeInbox 5 c) q = true ∧ (takeInbox 5 c).link.node.cfg.mode ≠ 3 ∧ (takeInbox 5 c).link.node.root = true ∧
        (rootAssign serial.toNat (takeInbox 5 c).link.node).1 = none)
      (fun c => sendNbr q 1 5 (.idRep serial.toNat none) (modNode (fun _ => (rootAssign serial.toNat (takeInbox 5 c).link.node).2) (takeInbox 5 c))) ∧
    (∀ i, MakesLinked (.idRequest q serial)
      (fun c => isJoined (takeInbox 5 c) q = true ∧ (takeInbox 5 c).link.node.cfg.mode ≠ 3 ∧ (takeInbox 5 c).link.node.root = true ∧
        (rootAssign serial.toNat (takeInbox 5 c).link.node).1 = some i)
      (fun c => sendNbr q 1 5 (.idRep serial.toNat (some i))
        (learnRoute q i (modNode (fun _ => (rootAssign serial.toNat (takeInbox 5 c).link.node).2) (takeInbox 5 c))))) ∧
    (∀ up : Nat, MakesLinked (.idRequest q serial)
      (fun c => isJoined (takeInbox 5 c) q = true ∧ (takeInbox 5 c).link.node.cfg.mode ≠ 3 ∧ (takeInbox 5 c).link.node.root = false ∧
        (takeInbox 5 c).link.node.parent = some up)
      (fun c => sendNbr up 1 5 (.idReq serial.toNat) (modNode (fun n => { n with idAsks := sins n.idAsks serial.toNat q }) (takeInbox 5 c)))) ∧
    (∀ i : Word, MakesLinked (.idReply q serial (some i)) (fun c => isJoined (takeInbox 5 c) q = true ∧ serial.toNat = (takeInbox 5 c).fuses.serial)
      (fun c => modNode (fun n => { n with id := i.toNat, enumerated := true }) (takeInbox 5 c))) ∧
    MakesLinked (.idReply q serial none) (fun c => isJoined (takeInbox 5 c) q = true ∧ serial.toNat = (takeInbox 5 c).fuses.serial)
      (fun c => lint 0x0F0D nodeUnit 0xFF 0 (takeInbox 5 c))) ∧
  (∀ q, MakesLinked .timeExchangeTimer
    (fun c => c.link.node.root = false ∧ c.link.node.parent = some q ∧ c.link.node.enumerated = true)
    (fun c => sendNbr q 0 2 .timeReq (modLink (fun l => { l with time := { l.time with asked := true } }) c))) ∧
  (∀ (q : LinkPortId) t2 t3, MakesLinked (.timeRequest q t2 t3) (fun c => isJoined (takeInbox 2 c) q = true)
    (fun c => sendNbr q 0 2 (.timeRep t2 t3) (modLPort q (fun p => { p with child := true }) (takeInbox 2 c)))) ∧
  (∀ (q : Nat) (t1 t2 t3 t4 : Nat),
    let a : Int := (t2 : Int) - t1
    let b : Int := (t4 : Int) - t3
    MakesLinked (.timeReply t1 t2 t3 t4)
      (fun c => (takeInbox 2 c).link.time.asked = true ∧ (takeInbox 2 c).link.node.parent = some q ∧ (a + b < 0 ∨ 128000 < a + b))
      (fun c => modLink (fun l => { l with time := { l.time with asked := false } }) (lintKind q 9 (takeInbox 2 c))) ∧
    MakesLinked (.timeReply t1 t2 t3 t4)
      (fun c => (takeInbox 2 c).link.time.asked = true ∧ (takeInbox 2 c).link.node.parent = some q ∧ 0 ≤ a + b ∧ a + b ≤ 128000 ∧
        (takeInbox 2 c).link.time.locked = true)
      (fun c => discipline (a - b) (takeInbox 2 c))) ∧
  (∀ (q : LinkPortId) (src : Word) (frame : Long) (time : Nat) (asc : Long) (ht vt : Word) (pclk : Long) (lag : Byte) (payload : List Byte),
    let b : Beat := { frame := frame.toNat, time := time, asc := asc.toNat, htotal := ht.toNat, vtotal := vt.toNat, pclk := pclk.toNat,
                      lag := lag.toNat, payload := payload.take 32 }
    let kept (c : Chip) := modAlign (fun a => { a with lastFrame := some b.frame }) (modNode (fun n => { n with rootId := some src.toNat }) (takeInbox 1 c))
    let mine (c : Chip) := c.link.node.root = false ∧ (c.link.node.rootId = none ∨ c.link.node.rootId = some src.toNat)
    MakesLinked (.beatReceive q src frame time asc ht vt pclk lag payload)
      (fun c => mine (takeInbox 1 c) ∧ ∀ f, (takeInbox 1 c).link.align.lastFrame = some f → b.frame = (f + 1) % 2 ^ 32)
      (fun c => keepBeat b (kept c)) ∧
    MakesLinked (.beatReceive q src frame time asc ht vt pclk lag payload)
      (fun c => mine (takeInbox 1 c) ∧ ∃ f, (takeInbox 1 c).link.align.lastFrame = some f ∧ b.frame ≠ (f + 1) % 2 ^ 32)
      (fun c => lintKind q 8 (kept c)) ∧
    MakesLinked (.beatReceive q src frame time asc ht vt pclk lag payload)
      (fun c => ¬mine (takeInbox 1 c)) (fun c => lintKind q 8 (takeInbox 1 c))) ∧
  MakesLinked .holdoverExpiry (fun c => c.link.align.st = .holdover ∧ c.link.node.parent = none)
    (fun c => setAlign .free (atTime (c.link.align.since + 240000000) c))

/-- What a core writes of a channel (R757, R758, R762, R777, Table 15.12): EN, the doorbell of the TX ring and the consumer of the RX ring;
`ch` is a local number, i the unit behind it. -/
def Obligations.LinkWindowRows : Prop :=
  ∀ (k : CoreId) (ch : Fin 32) (i : Nat),
    let mine (p : Nat) (c : Chip) := windowUnit c p .link ch = some i
    (∀ bulk mcast, WritesReg (.channelEnable k ch bulk mcast) k (0xA000 + 0x40 * ch.val) (fun p c => mine p c ∧ (linkChan c i).cfg.en = false)
      (fun _ c => openChan i (modChan i (fun x => { x with cfg := { x.cfg with bulk := bulk, mcast := mcast } }) c))) ∧
    (∀ bulk mcast, WritesReg (.channelEnable k ch bulk mcast) k (0xA000 + 0x40 * ch.val) (fun p c => mine p c ∧ (linkChan c i).cfg.en = true)
      (fun _ c => c)) ∧
    (∀ bulk mcast, WritesReg (.channelDisable k ch bulk mcast) k (0xA000 + 0x40 * ch.val) (fun p c => mine p c ∧ (linkChan c i).cfg.en = true)
      (fun _ c => closeChan i c)) ∧
    (∀ v : Word, WritesReg (.txProdWrite k ch v) k (0xA014 + 0x40 * ch.val) (fun p c => mine p c)
      (fun _ c => noteWait i (modChan i (fun x => { x with txProd := v.toNat }) c))) ∧
    (∀ v : Word, WritesReg (.rxConsWrite k ch v) k (0xA00E + 0x40 * ch.val)
      (fun p c => mine p c ∧ idxDiff v.toNat (linkChan (modChan i (fun x => { x with rxCons := v.toNat }) c) i).annCons
        < max 1 ((linkChan (modChan i (fun x => { x with rxCons := v.toNat }) c) i).cfg.slots / 4))
      (fun _ c => modChan i (fun x => { x with rxCons := v.toNat }) c))

/-- Channels (R757 to R762): a message goes out and comes in, credits are announced and taken, NAKs, CLOSE and the stall. -/
def Obligations.LinkChannelRows : Prop :=
  (∀ ch : LinkChanId,
    MakesLinked (.linkMessageSend ch)
      (fun c => (linkChan c ch).cfg.en = true ∧ (linkChan c ch).cfg.mcast = false ∧ (linkChan c ch).txNext ≠ (linkChan c ch).txProd ∧
        (linkChan c ch).credits = 0)
      (noteWait ch) ∧
    MakesLinked (.linkMessageSend ch)
      (fun c =>
        let x := linkChan c ch
        let a := x.cfg.slotAt x.cfg.txBase x.txNext
        let p := ownerOf c .link ch
        let d := readK p a 16 c
        let len := leNat (plain (d.1.take 2))
        x.cfg.en = true ∧ x.cfg.mcast = false ∧ x.txNext ≠ x.txProd ∧ x.credits ≠ 0 ∧ routeOf c x.cfg.node false none ≠ .lost ∧
          kRangeOk c p .r a 16 = true ∧ anyPoison (d.1.take 2) = false ∧ len ≤ x.cfg.slotBytes - 16 ∧
          kRangeOk d.2 p .r ((a + 16) % 2 ^ 24) len = true)
      (fun c =>
        let x := linkChan c ch
        let a := x.cfg.slotAt x.cfg.txBase x.txNext
        let p := ownerOf c .link ch
        let d := readK p a 16 c
        let e := readK p ((a + 16) % 2 ^ 24) (leNat (plain (d.1.take 2))) d.2
        let f := modChan ch (fun x =>
          { x with txNext := (x.txNext + 1) % 65536, txOut := x.txOut ++ [false], wait := none, credits := x.credits - 1 }) e.2
        noteWait ch ((msgPkts x.cfg f.link.node.id ch e.1).foldl (sendData x.cfg) f)) ∧
    MakesLinked (.creditAnnounceTimer ch) (fun c => (linkChan c ch).cfg.en = true ∧ (linkChan c ch).rxCons ≠ (linkChan c ch).annCons)
      (fun c => sendCtrl (linkChan c ch).cfg (.credit (linkChan c ch).free) (modChan ch (fun x => { x with annCons := x.rxCons }) c)) ∧
    (∀ t, MakesLinked (.channelStallTimeout ch) (fun c => (linkChan c ch).wait = some t)
      (fun c =>
        let d := modChan ch (fun x =>
          { x with dropped := satAdd 0xFFFF x.dropped (idxDiff x.txProd x.txCons), txCons := x.txProd, txNext := x.txProd, txOut := [],
                   wait := none, st := { x.st with stalled := true } }) (forgetMsgs ch (atTime (t + 2400000) c))
        sendCtrl (linkChan d ch).cfg (.nak .stalled) (lint 0x0F0C (chanUnit ch) 0xFF 0 d))) ∧
    (∀ (node : Word) (free : Fin 257),
      MakesLinked (.ctrlCredit node ch free) (fun c => hears (linkChan (takeInbox 7 c) ch) node.toNat = true)
        (fun c => noteWait ch (modChan ch (fun x => { x with credits := free, annFrom := some node.toNat }) (takeInbox 7 c))) ∧
      MakesLinked (.ctrlClose node ch) (fun c => hears (linkChan (takeInbox 7 c) ch) node.toNat = true)
        (fun c => noteWait ch (modChan ch (fun x =>
          { x with credits := 0, annFrom := none, st := if x.cfg.en then { x.st with peerClosed := true, opened := false } else x.st })
          (takeInbox 7 c))) ∧
      MakesLinked (.ctrlOpen node ch free)
        (fun c => (linkChan (ctrlCredits node.toNat ch free c) ch).cfg.en = true ∧ (linkChan (ctrlCredits node.toNat ch free c) ch).cfg.mcast = false ∧
          (linkChan (ctrlCredits node.toNat ch free c) ch).cfg.node = node.toNat)
        (fun c => modChSt ch (fun s => { s with opened := true }) (ctrlCredits node.toNat ch free c))) ∧
    MakesLinked (.ctrlNak (.channel ch) .unreachable) (fun _ => True)
      (fun c => noteWait ch (modChSt ch (fun s => { s with unreachable := true }) (takeInbox 7 c))) ∧
    MakesLinked (.ctrlNak (.channel ch) .stalled) (fun _ => True)
      (fun c => noteWait ch (modChSt ch (fun s => { s with stalled := true }) (takeInbox 7 c))) ∧
    MakesLinked (.ctrlNak (.channel ch) .closed) (fun _ => True)
      (fun c => noteWait ch (modChan ch (fun x => { x with credits := 0, st := { x.st with peerClosed := true } }) (takeInbox 7 c)))) ∧
  (∀ (node : Word) (x : Fin 8) (why : NakCause), MakesLinked (.ctrlNak (.block node x) why) (fun _ => True)
    (fun c => endBlock node.toNat x (nakStatus (nakOf why)) (takeInbox 7 c))) ∧
  (∀ node : Word, MakesLinked (.ctrlNak (.remote node) .unreachable) (fun _ => True)
    (fun c => endRemote node.toNat .unreachable 0 0 (takeInbox 7 c))) ∧
  (∀ (m : RxMsg) rest, MakesLinked .dataReceive (fun c => c.link.msgs = m :: rest ∧ m.group = none ∧
      let d := modLink (fun l => { l with msgs := rest }) c
      let x := linkChan d m.chan
      x.cfg.en = true ∧ x.cfg.mcast = false ∧ x.cfg.node = m.src ∧ x.free ≠ 0 ∧ m.bytes.length ≤ x.cfg.slotBytes - 16 ∧ anyPoison m.bytes = false)
    (fun c =>
      let d := modLink (fun l => { l with msgs := rest }) c
      putRx m.chan (rxHeader m.bytes.length m.src (linkChan d m.chan).cfg.rchan false d.beam.frame) m.bytes d)) ∧
  (∀ (m : RxMsg) rest, MakesLinked .dataReceive (fun c => c.link.msgs = m :: rest ∧ m.group = none ∧
      (linkChan (modLink (fun l => { l with msgs := rest }) c) m.chan).cfg.en = false)
    (fun c => nakMsg m .closed (lintKind m.port 13 (modLink (fun l => { l with msgs := rest }) c))))

/-- Block transfers and remote mailboxes (R245, R250, R763 to R767, Table 15.9). -/
def Obligations.LinkTransferRows : Prop :=
  (∀ (node : Word) (x : Fin 8) (data : List Byte) (poison : Bool) (e : Export) (r : RxBlock),
    let same (t : RxBlock) : Bool := t.node == node.toNat && t.x == x.val
    let lets (c : Chip) := exportOf (takeInbox 4 c) x = some e ∧ (takeInbox 4 c).link.rxBlocks.find? same = some r
    let fits (c : Chip) := e.lets node.toNat none = true ∧ r.off + r.len ≤ e.len ∧
      kRangeOk (takeInbox 4 c) e.part .w ((e.base + r.off) % 2 ^ 24) r.len = true ∧ r.got + data.length ≤ r.len
    let put (c : Chip) := writeK e.part ((e.base + r.off + r.got) % 2 ^ 24) (data.map fun b => (b, poison)) (takeInbox 4 c)
    let r' : RxBlock := { r with got := r.got + data.length, data := r.data ++ data, poison := r.poison || poison }
    MakesLinked (.blockReceive node none x none none data poison) (fun c => lets c ∧ fits c)
      (fun c => modLink (fun l => { l with rxBlocks := l.rxBlocks.filter (fun t => !same t) ++ [r'] }) (put c)) ∧
    (∀ crc : Long, MakesLinked (.blockReceive node none x none (some crc) data poison) (fun c => lets c ∧ fits c)
      (fun c => endTransfer e r' none crc.toNat (put c))) ∧
    MakesLinked (.blockReceive node none x none none data poison) (fun c => lets c ∧ ¬fits c)
      (fun c => refuseBlock node.toNat none x (takeInbox 4 c))) ∧
  (∀ (node : Word) (x : Fin 8) first last data poison,
    MakesLinked (.blockReceive node none x first last data poison) (fun c => exportOf (takeInbox 4 c) x = none)
      (fun c => refuseBlock node.toNat none x (takeInbox 4 c))) ∧
  (∀ (node : Word) (x : Fin 8), MakesLinked (.blockOkReceive node x) (fun _ => True) (fun c => endBlock node.toNat x .ok (takeInbox 7 c))) ∧
  (∀ b rest, MakesLinked .blockTimeout (fun c => c.link.blocks = b :: rest)
    (fun c => finish b.handle .timeout 0 0 (modLink (fun l => { l with blocks := rest }) (atTime (b.since + 24000000) c)))) ∧
  (∀ (q : LinkPortId) (node : Word) (rec' : BitVec 256) (poison : Bool), MakesLinked (.mgmtReceive q node rec' poison true)
    (fun c => isJoined (takeInbox 3 c) q = true ∧ (linkPort (takeInbox 3 c) q).authed = true ∧
      inFlight (takeInbox 3 c) (.link node.toNat) + ((takeInbox 3 c).linkRecs.filter (·.node == node.toNat)).length < 8)
    (fun c =>
      let d := takeInbox 3 c
      { modNode (fun n => { n with authNodes := if n.authNodes.contains node.toNat then n.authNodes else node.toNat :: n.authNodes }) d with
        linkRecs := d.linkRecs ++ [{ node := node.toNat, bytes := (leBytes 32 rec'.toNat).map fun b => (b, poison) }] })) ∧
  (∀ (node : Word) (h : Long) (data : List Byte) (poison : Bool),
    MakesLinked (.linkDataChunk node h data poison) (fun _ => data ≠ [] ∧ data.length ≤ 60)
      (fun c => (takeChunk (.link node.toNat) h.toNat (data.map fun b => (b, poison)) (takeInbox 3 c)).2) ∧
    MakesLinked (.linkDataChunk node h data poison) (fun _ => data = [] ∨ 60 < data.length)
      (fun c => lintBlock 0x040C 7 0 (takeInbox 3 c))) ∧
  (∀ (node : Word) (w : Long) (r : RemoteOp), MakesLinked (.remoteAnswerReceive node (.accepted w))
    (fun c => (takeInbox 3 c).link.remotes.find? (fun r => r.node == node.toNat && r.accepted.isNone) = some r)
    (fun c => remoteAccepted r w.toNat (takeInbox 3 c))) ∧
  (∀ (node : Word) (h : Long) (bs : List Byte) (r : RemoteOp), MakesLinked (.remoteAnswerReceive node (.result h bs))
    (fun c => (takeInbox 3 c).link.remotes.find? (fun r => r.node == node.toNat && r.accepted == some h.toNat) = some r)
    (fun c => setRemote r { r with block := (r.block ++ bs).take 1024 } (takeInbox 3 c))) ∧
  (∀ r, MakesLinked .remoteTimeout (fun c => firstRemote c.link.remotes = some r)
    (fun c => finish r.handle .timeout 0 0 (modLink (fun l => { l with remotes := delFirst (· == r) l.remotes }) (atTime r.ends c))))

/-- Commands of the vault (R783 to R797, R801, R807, R808): what the vault holds, the nonce, keys loaded, derived and destroyed, proofs,
images, the life-cycle, SERVICE and the rollback floor. -/
def Obligations.VaultCommands : Prop :=
  Answers 0x1001 .vltStatus (fun _ _ => True)
    (fun c _ => .res (slotMask c .loaded) ((lifeOf c).code + 2 ^ 8 * c.fuses.entries + 2 ^ 12 * c.fuses.floor)) (fun c _ => c) ∧
  (∀ p, Answers 0x1002 .vltSlotInfo (fun c m => m.org = .part p ∧ m.f 8 4 < 2 ^ 24 ∧ kRangeOk c p .w (m.f 8 4) 256 = true)
    (fun _ _ => .ok) (fun c m => writeK p (m.f 8 4) (clean ((List.range 16).flatMap (slotRecord c))) c)) ∧
  Answers 0x1002 .vltSlotInfo (fun _ m => m.org.external = true ∧ m.f 8 4 = 0)
    (fun c _ => .done .ok 0 0 ((List.range 16).flatMap (slotRecord c))) (fun c _ => c) ∧
  (∀ p, Answers 0x1003 .vltNonce (fun c m => m.org = .part p ∧ m.f 8 4 < 2 ^ 24 ∧ kRangeOk c p .w (m.f 8 4) 16 = true)
    (fun c m => (answerBlock m (m.f 8 4) 0 0 (entropy16 c).1
      (modVlt (fun v => { v with nonce := some ((entropy16 c).1, (entropy16 c).2.clk.qtime + 60 * 24000000) }) (entropy16 c).2)).1)
    (fun c m => (answerBlock m (m.f 8 4) 0 0 (entropy16 c).1
      (modVlt (fun v => { v with nonce := some ((entropy16 c).1, (entropy16 c).2.clk.qtime + 60 * 24000000) }) (entropy16 c).2)).2)) ∧
  Answers 0x1010 .vltLoad
    (fun c m => lifeOf c = .maker ∧ 1 ≤ m.b 8 ∧ m.b 8 ≤ 14 ∧ m.b 9 ∈ [3, 4, 5, 6] ∧ m.b 10 &&& usagePermitted (m.b 9) = m.b 10 ∧ m.b 11 &&& 0x81 = 0 ∧
      m.z 14 2 = true ∧ m.z 48 16 = true ∧ c.pwr.cls = 1 ∧ (slotOf c (m.b 8)).st = .empty)
    (fun _ _ => .ok) (fun c m => burnNow (.load (m.b 8) (loadedSlot m (pslice m.params 8 32))) c) ∧
  (∀ n k, Answers 0x1010 .vltLoad
    (fun c m => (lifeOf c = .field ∨ lifeOf c = .service) ∧ 1 ≤ m.b 8 ∧ m.b 8 ≤ 14 ∧ m.b 9 ∈ [3, 4, 6] ∧ m.b 10 &&& usagePermitted (m.b 9) = m.b 10 ∧
      m.b 11 &&& 0x81 = 0 ∧ m.z 14 2 = true ∧ c.pwr.cls = 1 ∧ (slotOf c (m.b 8)).st = .empty ∧ nonceOf c = some n ∧ unwrapKey m n c = some k)
    (fun _ _ => .ok) (fun c m => burnNow (.load (m.b 8) (loadedSlot m k)) (useNonce c))) ∧
  Answers 0x1010 .vltLoad
    (fun c m => (lifeOf c = .field ∨ lifeOf c = .service) ∧ 1 ≤ m.b 8 ∧ m.b 8 ≤ 14 ∧ m.b 9 ∈ [3, 4, 6] ∧ m.b 10 &&& usagePermitted (m.b 9) = m.b 10 ∧
      m.b 11 &&& 0x81 = 0 ∧ m.z 14 2 = true ∧ c.pwr.cls = 1 ∧ (slotOf c (m.b 8)).st = .empty ∧ nonceOf c = none)
    (fun _ _ => .fail .authFailed) (fun c m => lintBlock 0x1004 m.org.lintCode 0 c) ∧
  Answers 0x1011 .vltDerive
    (fun c m => 1 ≤ m.b 8 ∧ m.b 8 ≤ 14 ∧ (slotOf c (m.b 9)).cls = 1 ∧ (slotOf c (m.b 9)).allows 1 (lifeOf c) = true ∧ m.b 10 = 2 ∧
      (lifeOf c = .maker ∨ lifeOf c = .field ∨ lifeOf c = .service) ∧ m.b 11 &&& usagePermitted 6 = m.b 11 ∧ m.z 14 2 = true ∧ c.pwr.cls = 1 ∧
      (slotOf c (m.b 8)).st = .empty)
    (fun _ _ => .ok) (fun c m => burnNow (.load (m.b 8)
      { st := .loaded, cls := 6, usage := m.b 11, keyId := m.f 12 2,
        key := .bytes (hkdf (keyOf c (m.b 9)) (pslice m.params 8 16) (ascii "SUKEN-LINK") 32) }) c) ∧
  (∀ bad : BitVec 16, Answers 0x1012 (fun r => .vltDestroy r bad)
    (fun c m => bit (m.f 8 2) 0 = false ∧ bit (m.f 8 2) 15 = false ∧ c.pwr.cls = 1 ∧
      ∀ i < 16, bit (m.f 8 2) i = true → (slotOf c i).st = .loaded → bad.getLsbD i = false)
    (fun c m => .res (slotMask (((List.range 16).filter fun i => bit (m.f 8 2) i && (slotOf c i).st == .loaded).foldl
      (fun c i => destroySlot (!bad.getLsbD i) i c) c) .destroyed) 0)
    (fun c m => ((List.range 16).filter fun i => bit (m.f 8 2) i && (slotOf c i).st == .loaded).foldl
      (fun c i => destroySlot (!bad.getLsbD i) i c) c)) ∧
  (∀ p i, Answers 0x1020 .vltProve
    (fun c m => m.org = .part p ∧ m.f 8 4 < 2 ^ 24 ∧ kRangeOk c p .w (m.f 8 4) 16 = true ∧ (slotsFor c 2 0).head? = some i ∧
      (hmac16 (keyOf c i) (proveMsg c (pslice m.params 4 16))).length = 16)
    (fun _ _ => .ok) (fun c m => writeK p (m.f 8 4) (clean (hmac16 (keyOf c i) (proveMsg c (pslice m.params 4 16)))) c)) ∧
  (∀ keyId rollback owner, Answers 0x1021 .vltVerify
    (fun c m => m.b 8 ≤ 1 ∧ m.b 9 = 2 ∧ m.z 10 2 = true ∧ 256 ≤ m.f 16 4 ∧ m.f 16 4 ≤ 2 ^ 28 ∧ m.f 12 4 + m.f 16 4 ≤ 2 ^ 28 ∧
      isPegged c 0x0B (m.b 8) = false ∧ (m.b 8 = 1 → c.mem.cart ≠ .absent) ∧
      verifyImage c 2 0 (pfield (c.mem.bytes (flashBase + 0x10000000 * m.b 8 + m.f 12 4) (m.f 16 4)) 0x10 8)
        (c.mem.bytes (flashBase + 0x10000000 * m.b 8 + m.f 12 4) (m.f 16 4)) = .good keyId rollback owner)
    (fun _ _ => .res keyId rollback) (fun c _ => c)) ∧
  (∀ bad, Answers 0x1030 (fun r => .vltLifecycle r bad)
    (fun c m => m.b 8 = 2 ∧ m.b 9 = 0 ∧ m.z 10 2 = true ∧ m.f 12 4 < 2 ^ 24 ∧ (m.org.external = true → m.f 12 4 = 0) ∧ c.pwr.cls = 1 ∧ lifeOf c = .maker ∧
      slotsFor c 2 0 ≠ [] ∧ slotsFor c 3 2 ≠ [] ∧ c.pwr.imgOwner = true)
    (fun _ _ => .ok) (fun c _ => transition .field c)) ∧
  (∀ bad, Answers 0x1030 (fun r => .vltLifecycle r bad)
    (fun c m => m.b 8 = 4 ∧ m.b 9 = 0xA5 ∧ m.z 10 2 = true ∧ m.f 12 4 < 2 ^ 24 ∧ (m.org.external = true → m.f 12 4 = 0) ∧ c.pwr.cls = 1 ∧
      destDenied m c (m.f 12 4) 24 = false ∧ lifeOf c ≠ .scrap)
    (fun c m => (scrap bad m c).1) (fun c m => (scrap bad m c).2)) ∧
  (∀ n i, Answers 0x1031 .vltService
    (fun c m => m.b 8 = 1 ∧ m.z 9 1 = true ∧ 1 ≤ m.f 10 2 ∧ m.f 10 2 ≤ 1440 ∧ c.pwr.cls = 1 ∧ lifeOf c = .field ∧ c.fuses.entries ≠ 8 ∧ nonceOf c = some n ∧
      i ∈ slotsFor c 5 5 ∧ serviceToken c (keyOf c i) n (m.f 10 2) = pslice m.params 4 16)
    (fun _ _ => .ok) (fun c m => modVlt (fun v => { v with svcEnd := some ((useNonce c).clk.qtime + m.f 10 2 * 60 * 24000000) })
      (transition .entry (useNonce c)))) ∧
  Answers 0x1031 .vltService
    (fun c m => m.b 8 = 2 ∧ m.z 9 1 = true ∧ m.f 10 2 = 0 ∧ m.z 12 16 = true ∧ c.pwr.cls = 1 ∧ lifeOf c = .service)
    (fun _ _ => .ok) (fun c _ => leaveService c) ∧
  Answers 0x1031 .vltService
    (fun c m => m.b 8 = 1 ∧ m.z 9 1 = true ∧ 1 ≤ m.f 10 2 ∧ m.f 10 2 ≤ 1440 ∧ c.fuses.entries = 8)
    (fun _ _ => .fail .badState) (fun c _ => lintBlock 0x1007 0xFF 0 c) ∧
  Answers 0x1032 .vltFloor
    (fun c m => 1 ≤ m.b 8 ∧ m.b 8 ≤ 64 ∧ c.pwr.cls = 1 ∧ c.fuses.floor < m.b 8 ∧ m.b 8 ≤ c.pwr.imgRollback ∧ slotConfirmed c = true)
    (fun _ _ => .ok) (fun c m => lintBlock 0x1006 0xFF (m.b 8) (burnNow (.floor (m.b 8)) c))

/-- Commands of the service block (R816 to R842, R847 to R849): the unit registers, pegging and unit reset, sparing, external devices,
migration, the shadow check, reinstatement, images, restarts, the lint log and the slack trend. -/
def Obligations.ServiceCommands : Prop :=
  (∀ r, Answers 0x1101 .svcUnitStatus
    (fun c m => unitReg? c (unitOfCode (m.f 8 2)) = some r ∧ ∀ p, m.org = .part p → p = 0 ∨ unitOwner c (unitOfCode (m.f 8 2)) = p)
    (fun c m => .res (faultCount c (unitOfCode (m.f 8 2)))
      (r.st.code + 2 ^ 8 * r.gen + 2 ^ 16 * unitOwner c (unitOfCode (m.f 8 2)) + 2 ^ 24 * b2n r.admitBit)) (fun c _ => c)) ∧
  (∀ r, Answers 0x1111 .svcPeg
    (fun c m => unitReg? c (unitOfCode (m.f 8 2)) = some r ∧ r.gen ≠ m.b 10)
    (fun _ _ => .done .stale r.gen r.st.code []) (fun c m => lint 0x1102 (unitOfCode (m.f 8 2)).code m.org.lintCode 0 c)) ∧
  (∀ r, Answers 0x1111 .svcPeg
    (fun c m => unitReg? c (unitOfCode (m.f 8 2)) = some r ∧ r.gen = m.b 10 ∧ unitState c (unitOfCode (m.f 8 2)) = .active)
    (fun _ _ => .ok) (fun c m => lint 0x1103 (unitOfCode (m.f 8 2)).code m.org.lintCode 0 (pegAny (unitOfCode (m.f 8 2)) c))) ∧
  (∀ r, Answers 0x1110 .svcUnitReset
    (fun c m => unitReg? c (unitOfCode (m.f 8 2)) = some r ∧ r.gen = m.b 10 ∧ (unitState c (unitOfCode (m.f 8 2)) = .pegged ∨
      unitState c (unitOfCode (m.f 8 2)) = .active) ∧ (unitOfCode (m.f 8 2)).kind ≠ 11)
    (fun _ _ => .ok) (fun c m => unitBack (unitOfCode (m.f 8 2)) (resetUnit (unitOfCode (m.f 8 2)) (resetRunning (unitOfCode (m.f 8 2)) c)))) ∧
  (∀ r k, Answers 0x1112 .svcSpareMacro
    (fun c m => m.b 8 ≤ 31 ∧ isPegged c 2 (vget c.mem.patch (m.b 8)) = false ∧ unitReg? c ⟨2, vget c.mem.patch (m.b 8)⟩ = some r ∧ r.gen = m.b 9 ∧
      spareMacro c = some k ∧ c.mem.copy = none)
    (fun _ _ => .wait)
    (fun c m => setUnitState ⟨2, k⟩ .copying (modMem (fun x => { x with copy := some { logical := m.b 8, spare := k, handle := m.waitHandle } }) c))) ∧
  (∀ r, Answers 0x1112 .svcSpareMacro
    (fun c m => m.b 8 ≤ 31 ∧ isPegged c 2 (vget c.mem.patch (m.b 8)) = false ∧ unitReg? c ⟨2, vget c.mem.patch (m.b 8)⟩ = some r ∧ r.gen = m.b 9 ∧
      spareMacro c = none)
    (fun _ _ => .fail .badState) (fun c _ => lintBlock 0x1107 0xFF 0 c)) ∧
  (∀ r, Answers 0x1114 .svcXmem
    (fun c m => m.b 8 ≤ 5 ∧ m.b 10 = 1 ∧ m.b 11 ≤ 1 ∧ isPegged c 3 (m.b 8) = false ∧ unitReg? c ⟨3, m.b 8⟩ = some r ∧ r.gen = m.b 9 ∧
      unitState c ⟨3, m.b 8⟩ = .active ∧ (lastCheck c = true → bit (m.b 11) 0 = true))
    (fun _ _ => .ok) (fun c m => retireDevice (m.b 8) c)) ∧
  (∀ r, Answers 0x1114 .svcXmem
    (fun c m => m.b 8 ≤ 5 ∧ m.b 10 = 2 ∧ m.b 11 ≤ 1 ∧ isPegged c 3 (m.b 8) = false ∧ unitReg? c ⟨3, m.b 8⟩ = some r ∧ r.gen = m.b 9 ∧
      unitState c ⟨3, m.b 8⟩ = .retired ∧ c.mem.resilver = none)
    (fun c m => (startResilver m (m.b 8) c).1) (fun c m => (startResilver m (m.b 8) c).2)) ∧
  (∀ r k, Answers 0x1113 .svcMigrate
    (fun c m => m.b 8 ≤ 5 ∧ m.b 10 ≤ 1 ∧ isPegged c 1 (m.b 8) = false ∧ unitReg? c ⟨1, m.b 8⟩ = some r ∧ r.gen = m.b 9 ∧
      unitState c ⟨1, m.b 8⟩ = .active ∧ (coreOf c (m.b 8)).run ≠ .held ∧ spareCoreOf c = some k ∧ c.svc.migrations = [] ∧ c.svc.test = none)
    (fun _ _ => .wait)
    (fun c m => modSvc (fun s => { s with migrations :=
      [{ src := m.b 8, spare := k, retire := bit (m.b 10) 0, handle := m.waitHandle, byCmd := true }] }) c)) ∧
  Answers 0x1115 .svcShadow
    (fun c m => m.b 8 ≤ 1 ∧ m.z 9 1 = true ∧ 100 ≤ m.f 10 2 ∧ m.f 10 2 ≤ 60000 ∧ (m.b 8 = 0 → lifeOf c = .service))
    (fun _ _ => .ok)
    (fun c m => modSvc (fun s => { s with shadowEn := bit (m.b 8) 0, shadowMs := m.f 10 2, shadow := if m.b 8 = 0 then none else s.shadow }) c) ∧
  (∀ r, Answers 0x1116 .svcReinstate
    (fun c m => ((unitOfCode (m.f 8 2)).kind = 1 ∨ (unitOfCode (m.f 8 2)).kind = 2) ∧ unitReg? c (unitOfCode (m.f 8 2)) = some r ∧ r.gen = m.b 10 ∧
      unitState c (unitOfCode (m.f 8 2)) = .retired ∧ lifeOf c = .service ∧ c.svc.test = none)
    (fun _ _ => .wait)
    (fun c m => modSvc (fun s => { s with test := some (.reinstate (unitOfCode (m.f 8 2)).code m.waitHandle) }) c)) ∧
  (∀ p bs d, Answers 0x1120 .svcStage
    (fun c m => flashFree c = true ∧ m.org = .part p ∧ kRangeOk c p .r (m.f 12 4) (m.f 16 4) = true ∧ m.b 8 ≤ 1 ∧ m.z 9 3 = true ∧ m.f 12 4 < 2 ^ 24 ∧
      256 ≤ m.f 16 4 ∧ m.f 16 4 ≤ 458752 ∧ isPegged c 0x0B 0 = false ∧ m.b 8 ≠ c.pwr.slot ∧
      sourceData m (m.f 12 4) (m.f 16 4) c = (some bs, d))
    (fun _ _ => .wait)
    (fun c m =>
      let n := (m.f 16 4 + 4095) / 4096
      modMem (fun x => { x with
        flashOp := some { handle := m.waitHandle, kind := .stage (m.b 8) (m.f 20 4), cs := 0, offset := slotOffset d (m.b 8), left := n,
                          total := n, data := bs } })
        (modCmd m.handle (fun x => { x with dataSince := none }) d))) ∧
  Answers 0x1121 .svcSwap (fun c m => m.b 8 ≤ 1 ∧ slotEligible c (m.b 8) = true ∧ m.b 8 ≠ c.pwr.slot)
    (fun _ _ => .wait) (fun c m => startRestart (m.b 8) true (some m) (useAttempt (m.b 8) c)) ∧
  Answers 0x1122 .svcRestart (fun _ _ => True) (fun _ _ => .wait) (fun c m => startRestart c.pwr.slot false (some m) c) ∧
  Answers 0x1130 .svcLintRead (fun _ m => m.org.external = true ∧ m.f 8 2 ≤ 255 ∧ 1 ≤ m.f 10 2 ∧ m.f 10 2 ≤ 31 ∧ m.f 12 4 = 0)
    (fun c m => .done .ok 0 0 (c.lint.header ++ (List.range (m.f 10 2)).flatMap fun i => c.lint.place (m.f 8 2 + i))) (fun c _ => c) ∧
  Answers 0x1131 .svcLintCounts (fun _ m => m.org.external = true ∧ m.b 8 ≤ 0x11 ∧ m.z 9 3 = true ∧ m.f 12 4 = 0)
    (fun c m => .done .ok 0 0 ((List.range 31).flatMap fun i => leBytes 4 (sget 0 c.lint.counters (256 * m.b 8 + i + 1)))) (fun c _ => c) ∧
  Answers 0x1132 .svcLintClear (fun c _ => lifeOf c = .service) (fun _ _ => .ok) (fun c _ => { c with lint := {} }) ∧
  Answers 0x1133 .svcTrend (fun _ m => m.org.external = true ∧ m.b 8 = 0 ∧ m.z 9 1 = true ∧ 1 ≤ m.f 10 2 ∧ m.f 10 2 ≤ 64 ∧ m.f 12 4 = 0)
    (fun c m => .done .ok 0 0 ((lastN (m.f 10 2) c.svc.hours).flatMap HourRec.bytes)) (fun c _ => c)

/-- What ends in the vault and in the service block with time and by self-test (R795, R808, R821, R829, R833, R834, R848, R849). -/
def Obligations.VaultAndServiceRows : Prop :=
  (∀ n t, Makes .nonceExpiry (fun c => c.vlt.nonce = some (n, t)) (fun c => useNonce (atTime t c))) ∧
  (∀ t, Makes .serviceDurationEnd (fun c => c.vlt.svcEnd = some t ∧ lifeOf c = .service ∧ c.pwr.cls = 1) (fun c => leaveService (atTime t c))) ∧
  (∀ (unit : Word) r, Makes (.unitResetTimeout unit) (fun c => c.svc.resets.find? (·.1 == unit.toNat) = some r)
    (fun c => finish r.2 .hwFault 0 0 (lint 0x110B unit.toNat 0xFF 0
      (pegAny (unitOfCode unit.toNat) (modSvc (fun s => { s with resets := delFirst (· == r) s.resets }) c))))) ∧
  Makes .shadowRotate (fun c => c.svc.shadowEn = true ∧ (spareCoreOf c).isSome = true ∧ c.svc.shadow = none)
    (fun c => modSvc (fun s => { s with shadow := ((List.range 6).filter (shadowable c)).head?.map fun k => (k, c.clk.qtime) }) c) ∧
  (∀ b n h, Makes (.selfTestComplete true b) (fun c => c.svc.test = some (.reinstate n h))
    (fun c => finish h .ok 0 0 (setUnitState (unitOfCode n) .spare (modSvc (fun s => { s with test := none }) c)))) ∧
  (∀ b n h, Makes (.selfTestComplete false b) (fun c => c.svc.test = some (.reinstate n h))
    (fun c => finish h .hwFault 0 0 (modSvc (fun s => { s with test := none }) c))) ∧
  (∀ a b k t spare, Makes (.selfTestComplete a b) (fun c => c.svc.test = none ∧ c.svc.shadow = some (k, t) ∧ spareCoreOf c = some spare)
    (shadowMismatch k spare a b)) ∧
  (∀ (vcore : Word) (tj : Int) (slack : Byte), Makes (.trendHourly vcore tj slack) (fun _ => True)
    (fun c =>
      let h := c.clk.qtime / hourTicks
      let c := atTime ((h + 1) * hourTicks) c
      let r : HourRec := { hour := h, vcore := vcore.toNat, tj := tj, slack := slack.toNat, panics := min 0xFFFF c.gov.panics,
                           overruns := min 0xFFFF c.svc.overruns }
      modGov (fun g => { g with panics := 0 }) (modSvc (fun s => { s with hours := lastN 720 (s.hours ++ [r]), overruns := 0 }) c))) ∧
  Makes .trendMonthly (fun c => (monthOf c.svc).hours < 100)
    (fun c => modSvc (fun s => { s with months := lastN 12 (s.months ++ [monthOf c.svc]) }) c) ∧
  Makes .trendMonthly (fun c => 100 ≤ (monthOf c.svc).hours ∧ c.svc.baseline.length < 3)
    (fun c => modSvc (fun s => { s with baseline := s.baseline ++ [(monthOf c.svc).band] })
      (modSvc (fun s => { s with months := lastN 12 (s.months ++ [monthOf c.svc]) }) c))

/-- The two-operand instructions (R277, R280, Tables 05.3 and 05.11), every form: destination, flags and tags from the second operand, and
nothing else of the machine but PC and a load that lands. -/
def Obligations.TwoOperandInstructions : Prop :=
  ∀ (o : AluOp) (i : CoreId → AluForm → Instr),
    (o, i) ∈ [(AluOp.mov, Instr.mov), (.add, .add), (.adc, .adc), (.sub, .sub), (.sbc, .sbc), (.cmp, .cmp), (.and, .and), (.or, .or),
      (.xor, .xor), (.tst, .tst)] →
    ∀ k : CoreId,
      (∀ d w : Reg, Steps (i k (.reg d w)) k 1 fun x => shortAlu o d (x.reg w) (x.tag w) x) ∧
      (∀ (d : Reg) (v : Word), Steps (i k (.imm d v)) k 2 (shortAlu o d v.toNat false)) ∧
      (∀ (d : Reg) (n : Fin 8), Steps (i k (.small d n)) k 1 (shortAlu o d (n.val + 1) false)) ∧
      (∀ p q : Pair, Steps (i k (.pair p q)) k 1 (longAlu o p q))

/-- The shifts and multiplications (R278 to R280, Tables 05.3 and 05.11), every form: a long form is undefined, a multiplication into an odd
register faults ILLEGAL, and the product goes to the pair of the destination. The shift count is s[3:0]; in MODE 0b10 it is k. -/
def Obligations.ShiftsAndMultiplications : Prop :=
  (∀ (o : ShiftOp) (d : Reg) (v : Nat) (t : Bool) (x : Core), shiftBy o d v t x = shiftBy o d (v % 16) t x) ∧
  (∀ (o : ShiftOp) (i : CoreId → AluForm → Instr), (o, i) ∈ [(ShiftOp.shl, Instr.shl), (.shr, .shr), (.sar, .sar), (.ror, .ror)] →
    ∀ k : CoreId,
      (∀ d w : Reg, Steps (i k (.reg d w)) k 1 fun x => shiftBy o d (x.reg w) (x.tag w) x) ∧
      (∀ (d : Reg) (v : Word), Steps (i k (.imm d v)) k 2 (shiftBy o d v.toNat false)) ∧
      (∀ (d : Reg) (n : Fin 8), Steps (i k (.small d n)) k 1 (shiftBy o d (n.val + 1) false)) ∧
      (∀ p q : Pair, Faults (i k (.pair p q)) k 1 (fun _ => True) (.illegal 0x0501))) ∧
  (∀ (g : Bool) (i : CoreId → AluForm → Instr), (g, i) ∈ [(false, Instr.mulu), (true, Instr.muls)] → ∀ (k : CoreId) (d : Reg),
      (d.val % 2 = 0 →
        (∀ w : Reg, Steps (i k (.reg d w)) k 1 fun x => multiply g d (x.reg w) (x.tag w) x) ∧
        (∀ v : Word, Steps (i k (.imm d v)) k 2 (multiply g d v.toNat false)) ∧
        (∀ n : Fin 8, Steps (i k (.small d n)) k 1 (multiply g d (n.val + 1) false))) ∧
      (d.val % 2 = 1 →
        (∀ w : Reg, Faults (i k (.reg d w)) k 1 (fun _ => True) (.illegal 0x0501)) ∧
        (∀ v : Word, Faults (i k (.imm d v)) k 2 (fun _ => True) (.illegal 0x0501)) ∧
        (∀ n : Fin 8, Faults (i k (.small d n)) k 1 (fun _ => True) (.illegal 0x0501))) ∧
      (∀ p q : Pair, Faults (i k (.pair p q)) k 1 (fun _ => True) (.illegal 0x0501)))

/-- The unary instructions, the special registers and the immediates (R281, R291, R292, R343, R347, R348, Table 05.4), every form. -/
def Obligations.UnaryAndImmediates : Prop :=
  (∀ (o : UnaryOp) (i : CoreId → Reg → Instr),
    (o, i) ∈ [(UnaryOp.not, Instr.not), (.neg, .neg), (.inc, .inc), (.dec, .dec), (.sxt, .sxt), (.zxt, .zxt), (.swab, .swab)] →
    ∀ (k : CoreId) (d : Reg), Steps (i k d) k 1 (unary o d)) ∧
  (∀ k d, Steps (.clr k d) k 1 fun x => x.setReg d 0 false) ∧
  (∀ k d (e : Special), e ≠ 7 → Steps (.rds k d e) k 1 fun x => x.setReg d (specialRead e x).1 (specialRead e x).2) ∧
  (∀ k d, Faults (.rds k d 7) k 1 (fun _ => True) (.illegal 0x0501)) ∧
  (∀ k (e : Special) w, e ≠ 5 → e ≠ 7 →
    Does (.wrs k e w) k 1 (fun c => (coreOf c k).tag w = false ∨ e.val < 2 ∨ 4 < e.val)
      (modCore k fun x => { specialWrite e (x.reg w) (x.tag w) x with pc := x.next 1 })) ∧
  (∀ k (e : Special) w, 2 ≤ e.val → e.val ≤ 4 → Faults (.wrs k e w) k 1 (fun c => (coreOf c k).tag w = true) (.poison 2)) ∧
  (∀ k (e : Special) w, e = 5 ∨ e = 7 → Faults (.wrs k e w) k 1 (fun _ => True) (.illegal 0x0501)) ∧
  (∀ k d (v : Byte), Steps (.movi k d v) k 1 fun x => x.setReg d (narrow 16 v.toInt) false) ∧
  (∀ k (v : Byte), Steps (.movb k 0 v) k 1 (fun x => { x with db := v }) ∧ Steps (.movb k 1 v) k 1 (fun x => { x with xb := v }) ∧
    Steps (.movb k 2 v) k 1 (fun x => { x with sb := v })) ∧
  (∀ k (e : Fin 8) (v : Byte), 3 ≤ e.val → Faults (.movb k e v) k 1 (fun _ => True) (.illegal 0x0501)) ∧
  (∀ k d (v : Byte), Steps (.addi k d v) k 1 fun x =>
    setFlags (addFlags 16 (x.reg d) (narrow 16 v.toInt) 0) (x.tag d) (x.setReg d (addFlags 16 (x.reg d) (narrow 16 v.toInt) 0).res (x.tag d))) ∧
  (∀ k d (v : Byte), Steps (.cmpi k d v) k 1 fun x => setFlags (subFlags 16 (x.reg d) (narrow 16 v.toInt) 0) (x.tag d) x) ∧
  (∀ k (v : Byte), Steps (.addsp k v) k 1 fun x => { x with sp := BitVec.ofNat 16 (narrow 16 (x.sp.toNat + 2 * v.toInt)) }) ∧
  (∀ k, Steps (.nop k) k 1 id) ∧ (∀ k, Steps (.fence k) k 1 id) ∧
  (∀ k, Steps (.ei k) k 1 fun x => { x with fl := { x.fl with i := true } }) ∧
  (∀ k, Steps (.di k) k 1 fun x => { x with fl := { x.fl with i := false } })

/-- The loads and stores (R282 to R285, R294, R299, R342, R346): the value of a load waits to land with what undoing it restores, the base is
updated at once, and a store stores the value held before; an encoding that Table 05.7 does not define faults ILLEGAL. -/
def Obligations.LoadsAndStores : Prop :=
  let load (i : Instr) (k : CoreId) (z : Size) (r : Reg) (m : MemForm) (bank : Core → Byte) : Prop :=
    let adr (x : Core) := m.address (bank x) z.bytes x
    Does i k m.words
      (fun c => dataFault c k [{ right := .r, addr := (adr (coreOf c k)).1, size := z.bytes, tagged := (adr (coreOf c k)).2.1 }] = none)
      (fun c =>
        let got := coreLoad k (adr (coreOf c k)).1 z.bytes c
        let upd := (adr (coreOf c k)).2.2
        modCore k (fun x => { updateBase upd false x with
          pend := some { reg := if z = .l then 2 * r.val else r.val, long := z == .l,
                         value := BitVec.ofNat 32 (if got.1.2 then 0 else if z = .sb then narrow 16 (sext 8 got.1.1) else got.1.1),
                         tag := got.1.2, pc := x.pc, rf := x.fl.rf,
                         base := upd.map fun u => (u.1, BitVec.ofNat 16 (x.reg u.1), x.tag u.1) },
          pc := x.next m.words }) got.2)
  let store (i : Instr) (k : CoreId) (z : Size) (r : Reg) (m : MemForm) (bank : Core → Byte) : Prop :=
    let adr (x : Core) := m.address (bank x) z.bytes x
    Does i k m.words
      (fun c => dataFault c k [{ right := .w, addr := (adr (coreOf c k)).1, size := z.bytes, tagged := (adr (coreOf c k)).2.1,
                                 poisonStore := (dataReg z r (coreOf c k)).2 }] = none)
      (fun c =>
        modCore k (fun x => { updateBase (adr (coreOf c k)).2.2 (dataReg z r (coreOf c k)).2 x with pc := x.next m.words })
          (coreStore k (adr (coreOf c k)).1 z.bytes (dataReg z r (coreOf c k)).1 (dataReg z r (coreOf c k)).2 c))
  (∀ k z r m, ldDefined z r = true → load (.ld k z r m) k z r m (·.db)) ∧
  (∀ k z r m, ldDefined z r = true → extraMode m = true → load (.lde k z r m) k z r m (·.xb)) ∧
  (∀ k z r m, stDefined z r m = true → store (.st k z r m) k z r m (·.db)) ∧
  (∀ k z r m, stDefined z r m = true → extraMode m = true → store (.ste k z r m) k z r m (·.xb)) ∧
  (∀ k z r m, ldDefined z r = false → Faults (.ld k z r m) k 1 (fun _ => True) (.illegal 0x0501)) ∧
  (∀ k z r m, ldDefined z r = false ∨ extraMode m = false → Faults (.lde k z r m) k 1 (fun _ => True) (.illegal 0x0501)) ∧
  (∀ k z r m, stDefined z r m = false → Faults (.st k z r m) k 1 (fun _ => True) (.illegal 0x0501)) ∧
  (∀ k z r m, stDefined z r m = false ∨ extraMode m = false → Faults (.ste k z r m) k 1 (fun _ => True) (.illegal 0x0501))

/-- A load or store that is refused an access leaves no effect of its own and raises the first fault in the order of Table 06.4 (R271,
R299, R331). -/
def Obligations.RefusedAccesses : Prop :=
  (∀ k z r m f, ldDefined z r = true →
    Faults (.ld k z r m) k m.words
      (fun c => dataFault c k [{ right := .r, addr := (m.address (coreOf c k).db z.bytes (coreOf c k)).1, size := z.bytes,
                                 tagged := (m.address (coreOf c k).db z.bytes (coreOf c k)).2.1 }] = some f) f) ∧
  (∀ k z r m f, stDefined z r m = true →
    Faults (.st k z r m) k m.words
      (fun c => dataFault c k [{ right := .w, addr := (m.address (coreOf c k).db z.bytes (coreOf c k)).1, size := z.bytes,
                                 tagged := (m.address (coreOf c k).db z.bytes (coreOf c k)).2.1,
                                 poisonStore := (dataReg z r (coreOf c k)).2 }] = some f) f)

/-- Branches, jumps, calls and returns (R286 to R290, R347, Tables 05.8 and 05.9): where PC and CB go, what is pushed and popped, and the
branch that a tagged FL refuses. -/
def Obligations.ControlFlow : Prop :=
  (∀ k (cond : Fin 15) f, Does (.branch k cond f) k f.words (fun c => cond = 0 ∨ (coreOf c k).flTag = false)
    (modCore k fun x => if condTrue cond x.fl then { x with pc := BitVec.ofNat 16 (f.target x) } else { x with pc := x.next f.words })) ∧
  (∀ k (cond : Fin 15) f, cond ≠ 0 → Faults (.branch k cond f) k f.words (fun c => (coreOf c k).flTag = true) (.poison 3)) ∧
  (∀ k f, Does (.bsr k f) k f.words (fun c => dataFault c k [pushAcc (coreOf c k) 1 false] = none)
    (fun c => modCore k (fun x => { x with pc := BitVec.ofNat 16 (f.target x) }) (doPush k [(((coreOf c k).next f.words).toNat, false)] c))) ∧
  (∀ k f, Does (.jmp k f) k f.words (fun c => (f.target (coreOf c k)).2 = false ∧ (f.target (coreOf c k)).1 % 2 = 0)
    (fun c => modCore k (fun x => { x with pc := BitVec.ofNat 16 (f.target (coreOf c k)).1 }) c)) ∧
  (∀ k f, Does (.call k f) k f.words (fun c => (f.target (coreOf c k)).2 = false ∧ (f.target (coreOf c k)).1 % 2 = 0 ∧
      dataFault c k [pushAcc (coreOf c k) 1 false] = none)
    (fun c => modCore k (fun x => { x with pc := BitVec.ofNat 16 (f.target (coreOf c k)).1, cb := (coreOf c k).cb })
      (doPush k [(((coreOf c k).next f.words).toNat, false)] c))) ∧
  (∀ k f, Does (.jmpf k f) k f.words (fun c => (f.target (coreOf c k)).2 = false ∧ (f.target (coreOf c k)).1 % 2 = 0)
    (fun c => modCore k (fun x => { x with
      pc := BitVec.ofNat 16 ((f.target (coreOf c k)).1 % 65536), cb := BitVec.ofNat 8 ((f.target (coreOf c k)).1 / 65536) }) c)) ∧
  (∀ k f, Does (.callf k f) k f.words (fun c => (f.target (coreOf c k)).2 = false ∧ (f.target (coreOf c k)).1 % 2 = 0 ∧
      dataFault c k [pushAcc (coreOf c k) 1 false, pushAcc (coreOf c k) 2 false] = none)
    (fun c => modCore k (fun x => { x with
        pc := BitVec.ofNat 16 ((f.target (coreOf c k)).1 % 65536), cb := BitVec.ofNat 8 ((f.target (coreOf c k)).1 / 65536) })
      (doPush k [((coreOf c k).cb.toNat, false), (((coreOf c k).next f.words).toNat, false)] c))) ∧
  (∀ k pc, Does (.ret k) k 1 (fun c => dataFault c k [popAcc (coreOf c k) 0] = none ∧ (popWords k (coreOf c k) 1 0 c).1 = [(pc, false)] ∧ pc % 2 = 0)
    (fun c => modCore k (fun x => { x with pc := BitVec.ofNat 16 pc, cb := (coreOf c k).cb, sp := BitVec.ofNat 16 (x.sp.toNat + 2) })
      (popWords k (coreOf c k) 1 0 c).2)) ∧
  (∀ k pc cb, Does (.retf k) k 1 (fun c => dataFault c k [popAcc (coreOf c k) 0, popAcc (coreOf c k) 1] = none ∧
      (popWords k (coreOf c k) 2 0 c).1 = [(pc, false), (cb, false)] ∧ pc % 2 = 0)
    (fun c => modCore k (fun x => { x with pc := BitVec.ofNat 16 pc, cb := BitVec.ofNat 8 cb, sp := BitVec.ofNat 16 (x.sp.toNat + 4) })
      (popWords k (coreOf c k) 2 0 c).2))

/-- The stack instructions and RETI (R268, R290, R294, R326, R336, R337, R342, R346): what is pushed and popped, and what RETI restores. -/
def Obligations.StackAndReturn : Prop :=
  (∀ k r, Does (.push k r) k 1 (fun c => dataFault c k [pushAcc (coreOf c k) 1 ((coreOf c k).tag r)] = none)
    (fun c => modCore k (fun x => { x with pc := x.next 1 }) (doPush k [((coreOf c k).reg r, (coreOf c k).tag r)] c))) ∧
  (∀ k, Does (.pushf k) k 1 (fun c => dataFault c k [pushAcc (coreOf c k) 1 (coreOf c k).flTag] = none)
    (fun c => modCore k (fun x => { x with pc := x.next 1 }) (doPush k [((coreOf c k).fl.toWord.toNat, (coreOf c k).flTag)] c))) ∧
  (∀ k (r : Reg), Does (.pop k r) k 1 (fun c => dataFault c k [popAcc (coreOf c k) 0] = none)
    (fun c =>
      let got := coreLoad k (popAcc (coreOf c k) 0).addr 2 c
      modCore k (fun x => { x with
        pend := some { reg := r, value := BitVec.ofNat 32 (if got.1.2 then 0 else got.1.1), tag := got.1.2, pc := x.pc, rf := x.fl.rf,
                       sp := some (x.sp, x.spTag) },
        sp := BitVec.ofNat 16 (x.sp.toNat + 2), pc := x.next 1 }) got.2)) ∧
  (∀ k, Does (.popf k) k 1 (fun c => dataFault c k [popAcc (coreOf c k) 0] = none)
    (fun c =>
      let got := coreLoad k (popAcc (coreOf c k) 0).addr 2 c
      modCore k (fun x => { x with
        fl := x.fl.write (if got.1.2 then 0 else got.1.1), flTag := got.1.2, sp := BitVec.ofNat 16 (x.sp.toNat + 2), pc := x.next 1 }) got.2)) ∧
  (∀ k c0 a0 a1 pc cb fl sp sb flBad c1, DoesKeepRf (.reti k) k 1
    (fun c => (coreOf c k).fl.h = true ∧ dataFault c k (popAccs (coreOf c k) 8) = none ∧
      popWords k (coreOf c k) 8 0 c = ([c0, a0, a1, (pc, false), (cb, false), (fl, flBad), (sp, false), (sb, false)], c1) ∧ pc % 2 = 0)
    (fun _ => modCore k (fun x => { x with
      pc := BitVec.ofNat 16 pc, cb := BitVec.ofNat 8 cb,
      fl := { c := bit fl 0, z := bit fl 1, n := bit fl 2, v := bit fl 3, i := bit fl 4, h := bit fl 5, rf := bit fl 6 },
      flTag := flBad || bit fl 7, sp := BitVec.ofNat 16 sp, spTag := bit fl 8, sb := BitVec.ofNat 8 sb }) c1)) ∧
  (∀ (k : CoreId) s, canRun s.chip k = true → fetchFault (landNow k s.chip) k 1 = none → (coreOf (noLoad k (landNow k s.chip)) k).fl.h = false →
    exec (.reti k) s = .next (s.settle (raiseFault k (.priv 0) s.chip)))

/-- Waits, events and the trap (R53 to R58, R297, R312 to R316, R331): when each ends at once and when the core waits. -/
def Obligations.WaitsAndEvents : Prop :=
  (∀ k, DoesLanded (.waitf k) k 1 (fun c => (coreOf c k).latch = true)
    (fun c => modCore k (fun x => { x with
      latch := false, frameNo := c.beam.frame, waitfDone := true, refFrame := c.beam.frame, wait := none, pc := x.next 1,
      fl := { x.fl with rf := false } }) c)) ∧
  (∀ k, DoesLanded (.waitf k) k 1 (fun c => (coreOf c k).latch = false) (modCore k fun x => { x with wait := some .frame })) ∧
  (∀ k o, DoesLanded (.waitb k o) k (waitbWords o)
    (fun c => 0 < c.beam.vtotal ∧ (o.value (coreOf c k)).1 < c.beam.vtotal ∧ (o.value (coreOf c k)).2 = false ∧
      beamReached c (coreOf c k).refFrame (o.value (coreOf c k)).1 = true)
    (modCore k (Core.doneWait (waitbWords o)))) ∧
  (∀ k o, DoesLanded (.waitb k o) k (waitbWords o)
    (fun c => 0 < c.beam.vtotal ∧ (o.value (coreOf c k)).1 < c.beam.vtotal ∧ (o.value (coreOf c k)).2 = false ∧
      beamReached c (coreOf c k).refFrame (o.value (coreOf c k)).1 = false)
    (fun c => modCore k (fun x => { x with wait := some (.line (o.value (coreOf c k)).1 (waitbWords o) false) }) c)) ∧
  (∀ k o, DoesLanded (.waitb k o) k (waitbWords o) (fun c => c.beam.vtotal = 0 ∧ (o.value (coreOf c k)).2 = false)
    (fun c => modCore k (fun x => { x with wait := some (.line (o.value (coreOf c k)).1 (waitbWords o) true) }) c)) ∧
  (∀ (k : CoreId) o s, canRun s.chip k = true → fetchFault (landNow k s.chip) k (waitbWords o) = none → 0 < s.chip.beam.vtotal →
    s.chip.beam.vtotal ≤ (o.value (coreOf (noLoad k (landNow k s.chip)) k)).1 →
    exec (.waitb k o) s = .next (s.settle (raiseFault k (.illegal 0x0501) s.chip))) ∧
  (∀ k, DoesLanded (.waiti k) k 1 (fun c => (coreOf c k).fl.i = false ∧ requestPending c k = true) (modCore k (Core.doneWait 1))) ∧
  (∀ k, DoesLanded (.waiti k) k 1 (fun c => (coreOf c k).fl.i = true ∨ requestPending c k = false)
    (modCore k fun x => { x with wait := some .interrupt })) ∧
  (∀ k n, Does (.sev k n) k 1 (fun c => (n.value (coreOf c k)).2 = false)
    (fun c => fire (corePart c k) (64 + (n.value (coreOf c k)).1 % 32) (coreOf c k).localNo (modCore k (fun x => { x with pc := x.next 1 }) c))) ∧
  (∀ k n, Faults (.sev k n) k 1 (fun c => (n.value (coreOf c k)).2 = true) (.poison 4)) ∧
  (∀ k (n : Fin 64), DoesKeepRf (.trap k n) k 1 (fun _ => True) (fun c => (enter k 1 n.val ((coreOf c k).next 1).toNat c).2))

/-- The block instructions and the repeat prefixes (R301 to R311): one iteration without a prefix, the whole of it under REP, one at a time
under REPI, and the encodings and counts that fault. -/
def Obligations.BlocksAndRepeats : Prop :=
  let one (i : Instr) (k : CoreId) (o : BlockOp) : Prop :=
    (blockDefined o = false → Faults i k 1 (fun _ => True) (.illegal 0x0501)) ∧
    (blockDefined o = true → ∀ c' last, Does i k 1 (fun c => blockIter k false o c = .ok c' last)
      (fun _ => modCore k (fun x => { x with pc := x.next 1 }) c'))
  (∀ k w d r b, one (.xld k w d r b) k (.xld w d r b)) ∧
  (∀ k w d r, one (.bcpy k w d r) k (.bcpy w d r)) ∧
  (∀ k w d v, one (.bset k w d v) k (.bset w d v)) ∧
  (∀ k d v, one (.bfndW k d v) k (.bfnd d v)) ∧
  (∀ k d r, one (.mac k d r) k (.mac d r)) ∧
  (∀ k n o c', blockDefined o = true → DoesKeepRf (.rep k n (.block o)) k 2
    (fun c => (coreOf c k).fl.rf = false ∧ (n.value (coreOf c k)).2 = false ∧ 1 ≤ (n.value (coreOf c k)).1 ∧ (n.value (coreOf c k)).1 ≤ 64 ∧
      repeatRun k o (n.value (coreOf c k)).1 (modCore k (setCt (n.value (coreOf c k)).1) c) = .ok c')
    (fun _ => c')) ∧
  (∀ k n o c', blockDefined o = true → DoesKeepRf (.rep k n (.block o)) k 2
    (fun c => (coreOf c k).fl.rf = true ∧ (coreOf c k).ctTag = false ∧ repeatRun k o (coreOf c k).ct.toNat c = .ok c')
    (fun _ => c')) ∧
  (∀ k o, blockDefined o = true → DoesKeepRf (.repi k (.block o)) k 2
    (fun c => (coreOf c k).ctTag = false ∧ (coreOf c k).ct = 0)
    (modCore k repeatDone)) ∧
  (∀ k o c' last, blockDefined o = true → DoesKeepRf (.repi k (.block o)) k 2
    (fun c => (coreOf c k).ctTag = false ∧ (coreOf c k).ct ≠ 0 ∧ blockIter k true o c = .ok c' last ∧ (last = true ∨ (coreOf c k).ct = 1))
    (fun c => modCore k repeatDone (modCore k (setCt ((coreOf c k).ct.toNat - 1)) c'))) ∧
  (∀ k o c', blockDefined o = true → DoesKeepRf (.repi k (.block o)) k 2
    (fun c => (coreOf c k).ctTag = false ∧ 1 < (coreOf c k).ct.toNat ∧ blockIter k true o c = .ok c' false)
    (fun c => modCore k (fun x => { x with fl := { x.fl with rf := true } }) (modCore k (setCt ((coreOf c k).ct.toNat - 1)) c')))

/-- One iteration of each block instruction whose accesses are allowed (R309 to R311, R343): what is read and written, and how the pointers,
L0 and the flags change. -/
def Obligations.BlockIterations : Prop :=
  (∀ (k : CoreId) w (d s : Reg) c, dataFault c k [ptrAcc .r (coreOf c k).db s (elemSize w) (coreOf c k), ptrAcc .w (coreOf c k).xb d (elemSize w) (coreOf c k)] = none →
    let n := elemSize w
    let got := coreLoad k (kaddr (coreOf c k).db ((coreOf c k).reg s)) n c
    blockIter k false (.bcpy w d s) c = .ok (modCore k (fun x => advance d n false (advance s n false x))
      (coreStore k (kaddr (coreOf c k).xb ((coreOf c k).reg d)) n got.1.1 got.1.2 got.2)) false) ∧
  (∀ (k : CoreId) w (d v : Reg) c, dataFault c k [{ ptrAcc .w (coreOf c k).xb d (elemSize w) (coreOf c k) with poisonStore := (coreOf c k).tag v }] = none →
    blockIter k false (.bset w d v) c = .ok (modCore k (advance d (elemSize w) ((coreOf c k).tag v))
      (coreStore k (kaddr (coreOf c k).xb ((coreOf c k).reg d)) (elemSize w) ((coreOf c k).reg v) ((coreOf c k).tag v) c)) false) ∧
  (∀ (k : CoreId) (d v : Reg) c, dataFault c k [ptrAcc .r (coreOf c k).xb d 2 (coreOf c k)] = none →
    let got := coreLoad k (kaddr (coreOf c k).xb ((coreOf c k).reg d)) 2 c
    let r := subFlags 16 ((coreOf c k).reg v) got.1.1 0
    blockIter k false (.bfnd d v) c = .ok (modCore k (fun x => setFlags r ((coreOf c k).tag v || got.1.2) (advance d 2 ((coreOf c k).tag v) x)) got.2)
      (r.z == some true)) ∧
  (∀ (k : CoreId) (d s : Reg) c, dataFault c k [ptrAcc .r (coreOf c k).db s 2 (coreOf c k), ptrAcc .r (coreOf c k).xb d 2 (coreOf c k)] = none →
    let a := coreLoad k (kaddr (coreOf c k).db ((coreOf c k).reg s)) 2 c
    let b := coreLoad k (kaddr (coreOf c k).xb ((coreOf c k).reg d)) 2 a.2
    let r := macFlags ((coreOf c k).pair 0) a.1.1 b.1.1
    let t := (coreOf c k).pairTag 0
    blockIter k false (.mac d s) c = .ok (modCore k (fun x => setFlags r (t || a.1.2 || b.1.2)
      (advance d 2 t (advance s 2 t (x.setPair 0 r.res (t || a.1.2 || b.1.2))))) b.2) false) ∧
  (∀ (k : CoreId) w (d s b : Reg) c i c1, dataFault c k [ptrAcc .r (coreOf c k).db s (elemSize w) (coreOf c k)] = none →
    coreLoad k (kaddr (coreOf c k).db ((coreOf c k).reg s)) (elemSize w) c = ((i, false), c1) →
    dataFault c k [ptrAcc .r (coreOf c k).db s (elemSize w) (coreOf c k),
      { right := .r, addr := kaddr (coreOf c k).db (off16 ((coreOf c k).reg b) (i * elemSize w)), size := elemSize w, tagged := (coreOf c k).tag b },
      ptrAcc .w (coreOf c k).xb d (elemSize w) (coreOf c k)] = none →
    let got := coreLoad k (kaddr (coreOf c k).db (off16 ((coreOf c k).reg b) (i * elemSize w))) (elemSize w) c1
    blockIter k false (.xld w d s b) c = .ok (modCore k (fun x => advance d (elemSize w) false (advance s (elemSize w) false x))
      (coreStore k (kaddr (coreOf c k).xb ((coreOf c k).reg d)) (elemSize w) got.1.1 got.1.2 got.2)) false)

/-- Undefined encodings and extensions (R275, R276, R280): an encoding that no table defines faults ILLEGAL on every core, a steward
extension on K0 to K5, and on the steward core it stops by name, since its effect is not published. -/
def Obligations.UndefinedEncodings : Prop :=
  (∀ k w, Faults (.undefinedEncoding k w) k 1 (fun _ => True) (.illegal 0x0501)) ∧
  (∀ (k : CoreId) w, k.val < 6 → Faults (.stewardExtension k w) k 1 (fun _ => True) (.illegal 0x0503)) ∧
  (∀ (k : CoreId) w s, k.val = 6 → exec (.stewardExtension k w) s = .refused .unpublishedExtension)

/-- Interrupt entry (R315, R329, R391): with I = 1 the handler of cause 0 is entered and the ring's level goes on the running-priority stack;
with I = 0 a WAITI only completes. -/
def Obligations.InterruptEntry : Prop :=
  (∀ (k : CoreId) q c', Makes (.hamperInterruptEntry k)
    (fun c => topRequest c (corePart c k) k = some q ∧ atBoundary c k = true ∧ (coreOf c k).fl.i = true ∧
      enter k 0 0 (savedPc (coreOf c k)) c = (true, c'))
    (fun _ => modCore k (fun y => { y with prio := q :: y.prio }) c')) ∧
  (∀ (k : CoreId) q, Makes (.hamperInterruptEntry k)
    (fun c => topRequest c (corePart c k) k = some q ∧ atBoundary c k = true ∧ (coreOf c k).fl.i = false ∧ (coreOf c k).wait = some .interrupt)
    (modCore k (Core.doneWait 1))) ∧
  (∀ (k : CoreId), Makes (.hamperInterruptEntry k) (fun c => topRequest c (corePart c k) k = none) id)

/-- What entry to a handler leaves (R331, R338, R339): host mode with interrupts off, CB at the vector's bank and PC at an even vector, the
stack bank kept or taken from the host; an entry that is refused halts the core with the registers it had. -/
def Obligations.HandlerEntry : Prop :=
  (∀ (k : CoreId) cause addr pc c c', enter k cause addr pc c = (true, c') →
    let x := coreOf c k
    let y := coreOf c' k
    y.fl = { x.fl with h := true, i := false, rf := false } ∧ y.flTag = false ∧ y.cb = x.vecBank ∧ y.pc.toNat % 2 = 0 ∧ y.wait = none ∧
      y.sb = (if x.fl.h then x.sb else x.hostSb) ∧ (x.fl.h = true → y.spTag = x.spTag) ∧ (x.fl.h = false → y.spTag = false)) ∧
  (∀ (k : CoreId) cause addr pc c c', enter k cause addr pc c = (false, c') →
    coreOf c' k = { coreOf c k with halted := true })
end

