-- ==== Sys2Proof/Decode.lean ====
section
/-! DEFINITION. The command that a word spells: none, since the table of operations gives no row any bits. -/

namespace Sys2Proof

/-- No row of the table has bits, so no word spells a command. -/
def decodeTableWord (_nbits _w : Nat) : Option Instr := none

end Sys2Proof
end

