-- ==== Sys2Proof/Laws/State.lean ====
section
/-! SUPPORT. One lemma per field per update of the chip: a field that an update does not name is unchanged. -/

namespace Sys2Proof.Machine

@[simp] theorem settle_pending (s : State) (c : Chip) : (s.settle c).pending = s.pending := rfl
@[simp] theorem settle_chip (s : State) (c : Chip) : (s.settle c).chip = settleFuses s.chip.fuses c := rfl
@[simp] theorem answered_pending (s : State) (m : Cmd) (r : Reply) (c : Chip) : (s.answered m r c).pending = s.pending := rfl
@[simp] theorem modMem_mem (f : Mem → Mem) (c : Chip) : (modMem f c).mem = f c.mem := rfl
@[simp] theorem modHost_host (f : HostMbx → HostMbx) (c : Chip) : (modHost f c).host = f c.host := rfl
@[simp] theorem fire_edges (p src data : Nat) (c : Chip) : (fire p src data c).edges = c.edges ++ [⟨p, src, .one data⟩] := rfl
@[simp] theorem settleFuses_burns (old : Fuses) (c : Chip) : (settleFuses old c).burns = [] := rfl
@[simp] theorem settleFuses_fuses (old : Fuses) (c : Chip) : (settleFuses old c).fuses = c.burns.foldl Fuses.burn old := rfl

/-! ### settleFuses -/

@[simp] theorem settleFuses_board (old : Fuses) (c : Chip) : (settleFuses old c).board = c.board := rfl
@[simp] theorem settleFuses_clk (old : Fuses) (c : Chip) : (settleFuses old c).clk = c.clk := rfl
@[simp] theorem settleFuses_beam (old : Fuses) (c : Chip) : (settleFuses old c).beam = c.beam := rfl
@[simp] theorem settleFuses_gov (old : Fuses) (c : Chip) : (settleFuses old c).gov = c.gov := rfl
@[simp] theorem settleFuses_pwr (old : Fuses) (c : Chip) : (settleFuses old c).pwr = c.pwr := rfl
@[simp] theorem settleFuses_lint (old : Fuses) (c : Chip) : (settleFuses old c).lint = c.lint := rfl
@[simp] theorem settleFuses_units (old : Fuses) (c : Chip) : (settleFuses old c).units = c.units := rfl
@[simp] theorem settleFuses_edges (old : Fuses) (c : Chip) : (settleFuses old c).edges = c.edges := rfl
@[simp] theorem settleFuses_hmp (old : Fuses) (c : Chip) : (settleFuses old c).hmp = c.hmp := rfl
@[simp] theorem settleFuses_parts (old : Fuses) (c : Chip) : (settleFuses old c).parts = c.parts := rfl
@[simp] theorem settleFuses_own (old : Fuses) (c : Chip) : (settleFuses old c).own = c.own := rfl
@[simp] theorem settleFuses_ownRamp (old : Fuses) (c : Chip) : (settleFuses old c).ownRamp = c.ownRamp := rfl
@[simp] theorem settleFuses_focus (old : Fuses) (c : Chip) : (settleFuses old c).focus = c.focus := rfl
@[simp] theorem settleFuses_focusPending (old : Fuses) (c : Chip) : (settleFuses old c).focusPending = c.focusPending := rfl
@[simp] theorem settleFuses_seq (old : Fuses) (c : Chip) : (settleFuses old c).seq = c.seq := rfl
@[simp] theorem settleFuses_cmds (old : Fuses) (c : Chip) : (settleFuses old c).cmds = c.cmds := rfl
@[simp] theorem settleFuses_mbx (old : Fuses) (c : Chip) : (settleFuses old c).mbx = c.mbx := rfl
@[simp] theorem settleFuses_host (old : Fuses) (c : Chip) : (settleFuses old c).host = c.host := rfl
@[simp] theorem settleFuses_usb (old : Fuses) (c : Chip) : (settleFuses old c).usb = c.usb := rfl
@[simp] theorem settleFuses_linkRecs (old : Fuses) (c : Chip) : (settleFuses old c).linkRecs = c.linkRecs := rfl
@[simp] theorem settleFuses_linkCpls (old : Fuses) (c : Chip) : (settleFuses old c).linkCpls = c.linkCpls := rfl
@[simp] theorem settleFuses_linkSlot (old : Fuses) (c : Chip) : (settleFuses old c).linkSlot = c.linkSlot := rfl
@[simp] theorem settleFuses_stewDown (old : Fuses) (c : Chip) : (settleFuses old c).stewDown = c.stewDown := rfl
@[simp] theorem settleFuses_consent (old : Fuses) (c : Chip) : (settleFuses old c).consent = c.consent := rfl
@[simp] theorem settleFuses_cores (old : Fuses) (c : Chip) : (settleFuses old c).cores = c.cores := rfl
@[simp] theorem settleFuses_mem (old : Fuses) (c : Chip) : (settleFuses old c).mem = c.mem := rfl
@[simp] theorem settleFuses_diag (old : Fuses) (c : Chip) : (settleFuses old c).diag = c.diag := rfl
@[simp] theorem settleFuses_spool (old : Fuses) (c : Chip) : (settleFuses old c).spool = c.spool := rfl
@[simp] theorem settleFuses_lyr (old : Fuses) (c : Chip) : (settleFuses old c).lyr = c.lyr := rfl
@[simp] theorem settleFuses_lyrParts (old : Fuses) (c : Chip) : (settleFuses old c).lyrParts = c.lyrParts := rfl
@[simp] theorem settleFuses_cmp (old : Fuses) (c : Chip) : (settleFuses old c).cmp = c.cmp := rfl
@[simp] theorem settleFuses_cmpNext (old : Fuses) (c : Chip) : (settleFuses old c).cmpNext = c.cmpNext := rfl
@[simp] theorem settleFuses_frameQ (old : Fuses) (c : Chip) : (settleFuses old c).frameQ = c.frameQ := rfl
@[simp] theorem settleFuses_cmpTaken (old : Fuses) (c : Chip) : (settleFuses old c).cmpTaken = c.cmpTaken := rfl
@[simp] theorem settleFuses_scan (old : Fuses) (c : Chip) : (settleFuses old c).scan = c.scan := rfl
@[simp] theorem settleFuses_snd (old : Fuses) (c : Chip) : (settleFuses old c).snd = c.snd := rfl
@[simp] theorem settleFuses_inp (old : Fuses) (c : Chip) : (settleFuses old c).inp = c.inp := rfl
@[simp] theorem settleFuses_link (old : Fuses) (c : Chip) : (settleFuses old c).link = c.link := rfl
@[simp] theorem settleFuses_vlt (old : Fuses) (c : Chip) : (settleFuses old c).vlt = c.vlt := rfl
@[simp] theorem settleFuses_svc (old : Fuses) (c : Chip) : (settleFuses old c).svc = c.svc := rfl
@[simp] theorem settleFuses_lastCpl (old : Fuses) (c : Chip) : (settleFuses old c).lastCpl = c.lastCpl := rfl
@[simp] theorem settleFuses_memReply (old : Fuses) (c : Chip) : (settleFuses old c).memReply = c.memReply := rfl
@[simp] theorem settleFuses_freeCnt (old : Fuses) (c : Chip) : (settleFuses old c).freeCnt = c.freeCnt := rfl

/-! ### modPart -/

@[simp] theorem modPart_board (p : Nat) (f : Part → Part) (c : Chip) : (modPart p f c).board = c.board := rfl
@[simp] theorem modPart_clk (p : Nat) (f : Part → Part) (c : Chip) : (modPart p f c).clk = c.clk := rfl
@[simp] theorem modPart_beam (p : Nat) (f : Part → Part) (c : Chip) : (modPart p f c).beam = c.beam := rfl
@[simp] theorem modPart_gov (p : Nat) (f : Part → Part) (c : Chip) : (modPart p f c).gov = c.gov := rfl
@[simp] theorem modPart_pwr (p : Nat) (f : Part → Part) (c : Chip) : (modPart p f c).pwr = c.pwr := rfl
@[simp] theorem modPart_lint (p : Nat) (f : Part → Part) (c : Chip) : (modPart p f c).lint = c.lint := rfl
@[simp] theorem modPart_units (p : Nat) (f : Part → Part) (c : Chip) : (modPart p f c).units = c.units := rfl
@[simp] theorem modPart_edges (p : Nat) (f : Part → Part) (c : Chip) : (modPart p f c).edges = c.edges := rfl
@[simp] theorem modPart_hmp (p : Nat) (f : Part → Part) (c : Chip) : (modPart p f c).hmp = c.hmp := rfl
@[simp] theorem modPart_own (p : Nat) (f : Part → Part) (c : Chip) : (modPart p f c).own = c.own := rfl
@[simp] theorem modPart_ownRamp (p : Nat) (f : Part → Part) (c : Chip) : (modPart p f c).ownRamp = c.ownRamp := rfl
@[simp] theorem modPart_focus (p : Nat) (f : Part → Part) (c : Chip) : (modPart p f c).focus = c.focus := rfl
@[simp] theorem modPart_focusPending (p : Nat) (f : Part → Part) (c : Chip) : (modPart p f c).focusPending = c.focusPending := rfl
@[simp] theorem modPart_seq (p : Nat) (f : Part → Part) (c : Chip) : (modPart p f c).seq = c.seq := rfl
@[simp] theorem modPart_cmds (p : Nat) (f : Part → Part) (c : Chip) : (modPart p f c).cmds = c.cmds := rfl
@[simp] theorem modPart_mbx (p : Nat) (f : Part → Part) (c : Chip) : (modPart p f c).mbx = c.mbx := rfl
@[simp] theorem modPart_host (p : Nat) (f : Part → Part) (c : Chip) : (modPart p f c).host = c.host := rfl
@[simp] theorem modPart_usb (p : Nat) (f : Part → Part) (c : Chip) : (modPart p f c).usb = c.usb := rfl
@[simp] theorem modPart_linkRecs (p : Nat) (f : Part → Part) (c : Chip) : (modPart p f c).linkRecs = c.linkRecs := rfl
@[simp] theorem modPart_linkCpls (p : Nat) (f : Part → Part) (c : Chip) : (modPart p f c).linkCpls = c.linkCpls := rfl
@[simp] theorem modPart_linkSlot (p : Nat) (f : Part → Part) (c : Chip) : (modPart p f c).linkSlot = c.linkSlot := rfl
@[simp] theorem modPart_stewDown (p : Nat) (f : Part → Part) (c : Chip) : (modPart p f c).stewDown = c.stewDown := rfl
@[simp] theorem modPart_consent (p : Nat) (f : Part → Part) (c : Chip) : (modPart p f c).consent = c.consent := rfl
@[simp] theorem modPart_cores (p : Nat) (f : Part → Part) (c : Chip) : (modPart p f c).cores = c.cores := rfl
@[simp] theorem modPart_mem (p : Nat) (f : Part → Part) (c : Chip) : (modPart p f c).mem = c.mem := rfl
@[simp] theorem modPart_diag (p : Nat) (f : Part → Part) (c : Chip) : (modPart p f c).diag = c.diag := rfl
@[simp] theorem modPart_spool (p : Nat) (f : Part → Part) (c : Chip) : (modPart p f c).spool = c.spool := rfl
@[simp] theorem modPart_lyr (p : Nat) (f : Part → Part) (c : Chip) : (modPart p f c).lyr = c.lyr := rfl
@[simp] theorem modPart_lyrParts (p : Nat) (f : Part → Part) (c : Chip) : (modPart p f c).lyrParts = c.lyrParts := rfl
@[simp] theorem modPart_cmp (p : Nat) (f : Part → Part) (c : Chip) : (modPart p f c).cmp = c.cmp := rfl
@[simp] theorem modPart_cmpNext (p : Nat) (f : Part → Part) (c : Chip) : (modPart p f c).cmpNext = c.cmpNext := rfl
@[simp] theorem modPart_frameQ (p : Nat) (f : Part → Part) (c : Chip) : (modPart p f c).frameQ = c.frameQ := rfl
@[simp] theorem modPart_cmpTaken (p : Nat) (f : Part → Part) (c : Chip) : (modPart p f c).cmpTaken = c.cmpTaken := rfl
@[simp] theorem modPart_scan (p : Nat) (f : Part → Part) (c : Chip) : (modPart p f c).scan = c.scan := rfl
@[simp] theorem modPart_snd (p : Nat) (f : Part → Part) (c : Chip) : (modPart p f c).snd = c.snd := rfl
@[simp] theorem modPart_inp (p : Nat) (f : Part → Part) (c : Chip) : (modPart p f c).inp = c.inp := rfl
@[simp] theorem modPart_link (p : Nat) (f : Part → Part) (c : Chip) : (modPart p f c).link = c.link := rfl
@[simp] theorem modPart_vlt (p : Nat) (f : Part → Part) (c : Chip) : (modPart p f c).vlt = c.vlt := rfl
@[simp] theorem modPart_svc (p : Nat) (f : Part → Part) (c : Chip) : (modPart p f c).svc = c.svc := rfl
@[simp] theorem modPart_fuses (p : Nat) (f : Part → Part) (c : Chip) : (modPart p f c).fuses = c.fuses := rfl
@[simp] theorem modPart_burns (p : Nat) (f : Part → Part) (c : Chip) : (modPart p f c).burns = c.burns := rfl
@[simp] theorem modPart_lastCpl (p : Nat) (f : Part → Part) (c : Chip) : (modPart p f c).lastCpl = c.lastCpl := rfl
@[simp] theorem modPart_memReply (p : Nat) (f : Part → Part) (c : Chip) : (modPart p f c).memReply = c.memReply := rfl
@[simp] theorem modPart_freeCnt (p : Nat) (f : Part → Part) (c : Chip) : (modPart p f c).freeCnt = c.freeCnt := rfl

/-! ### modCore -/

@[simp] theorem modCore_board (k : Nat) (f : Core → Core) (c : Chip) : (modCore k f c).board = c.board := rfl
@[simp] theorem modCore_clk (k : Nat) (f : Core → Core) (c : Chip) : (modCore k f c).clk = c.clk := rfl
@[simp] theorem modCore_beam (k : Nat) (f : Core → Core) (c : Chip) : (modCore k f c).beam = c.beam := rfl
@[simp] theorem modCore_gov (k : Nat) (f : Core → Core) (c : Chip) : (modCore k f c).gov = c.gov := rfl
@[simp] theorem modCore_pwr (k : Nat) (f : Core → Core) (c : Chip) : (modCore k f c).pwr = c.pwr := rfl
@[simp] theorem modCore_lint (k : Nat) (f : Core → Core) (c : Chip) : (modCore k f c).lint = c.lint := rfl
@[simp] theorem modCore_units (k : Nat) (f : Core → Core) (c : Chip) : (modCore k f c).units = c.units := rfl
@[simp] theorem modCore_edges (k : Nat) (f : Core → Core) (c : Chip) : (modCore k f c).edges = c.edges := rfl
@[simp] theorem modCore_hmp (k : Nat) (f : Core → Core) (c : Chip) : (modCore k f c).hmp = c.hmp := rfl
@[simp] theorem modCore_parts (k : Nat) (f : Core → Core) (c : Chip) : (modCore k f c).parts = c.parts := rfl
@[simp] theorem modCore_own (k : Nat) (f : Core → Core) (c : Chip) : (modCore k f c).own = c.own := rfl
@[simp] theorem modCore_ownRamp (k : Nat) (f : Core → Core) (c : Chip) : (modCore k f c).ownRamp = c.ownRamp := rfl
@[simp] theorem modCore_focus (k : Nat) (f : Core → Core) (c : Chip) : (modCore k f c).focus = c.focus := rfl
@[simp] theorem modCore_focusPending (k : Nat) (f : Core → Core) (c : Chip) : (modCore k f c).focusPending = c.focusPending := rfl
@[simp] theorem modCore_seq (k : Nat) (f : Core → Core) (c : Chip) : (modCore k f c).seq = c.seq := rfl
@[simp] theorem modCore_cmds (k : Nat) (f : Core → Core) (c : Chip) : (modCore k f c).cmds = c.cmds := rfl
@[simp] theorem modCore_mbx (k : Nat) (f : Core → Core) (c : Chip) : (modCore k f c).mbx = c.mbx := rfl
@[simp] theorem modCore_host (k : Nat) (f : Core → Core) (c : Chip) : (modCore k f c).host = c.host := rfl
@[simp] theorem modCore_usb (k : Nat) (f : Core → Core) (c : Chip) : (modCore k f c).usb = c.usb := rfl
@[simp] theorem modCore_linkRecs (k : Nat) (f : Core → Core) (c : Chip) : (modCore k f c).linkRecs = c.linkRecs := rfl
@[simp] theorem modCore_linkCpls (k : Nat) (f : Core → Core) (c : Chip) : (modCore k f c).linkCpls = c.linkCpls := rfl
@[simp] theorem modCore_linkSlot (k : Nat) (f : Core → Core) (c : Chip) : (modCore k f c).linkSlot = c.linkSlot := rfl
@[simp] theorem modCore_stewDown (k : Nat) (f : Core → Core) (c : Chip) : (modCore k f c).stewDown = c.stewDown := rfl
@[simp] theorem modCore_consent (k : Nat) (f : Core → Core) (c : Chip) : (modCore k f c).consent = c.consent := rfl
@[simp] theorem modCore_mem (k : Nat) (f : Core → Core) (c : Chip) : (modCore k f c).mem = c.mem := rfl
@[simp] theorem modCore_diag (k : Nat) (f : Core → Core) (c : Chip) : (modCore k f c).diag = c.diag := rfl
@[simp] theorem modCore_spool (k : Nat) (f : Core → Core) (c : Chip) : (modCore k f c).spool = c.spool := rfl
@[simp] theorem modCore_lyr (k : Nat) (f : Core → Core) (c : Chip) : (modCore k f c).lyr = c.lyr := rfl
@[simp] theorem modCore_lyrParts (k : Nat) (f : Core → Core) (c : Chip) : (modCore k f c).lyrParts = c.lyrParts := rfl
@[simp] theorem modCore_cmp (k : Nat) (f : Core → Core) (c : Chip) : (modCore k f c).cmp = c.cmp := rfl
@[simp] theorem modCore_cmpNext (k : Nat) (f : Core → Core) (c : Chip) : (modCore k f c).cmpNext = c.cmpNext := rfl
@[simp] theorem modCore_frameQ (k : Nat) (f : Core → Core) (c : Chip) : (modCore k f c).frameQ = c.frameQ := rfl
@[simp] theorem modCore_cmpTaken (k : Nat) (f : Core → Core) (c : Chip) : (modCore k f c).cmpTaken = c.cmpTaken := rfl
@[simp] theorem modCore_scan (k : Nat) (f : Core → Core) (c : Chip) : (modCore k f c).scan = c.scan := rfl
@[simp] theorem modCore_snd (k : Nat) (f : Core → Core) (c : Chip) : (modCore k f c).snd = c.snd := rfl
@[simp] theorem modCore_inp (k : Nat) (f : Core → Core) (c : Chip) : (modCore k f c).inp = c.inp := rfl
@[simp] theorem modCore_link (k : Nat) (f : Core → Core) (c : Chip) : (modCore k f c).link = c.link := rfl
@[simp] theorem modCore_vlt (k : Nat) (f : Core → Core) (c : Chip) : (modCore k f c).vlt = c.vlt := rfl
@[simp] theorem modCore_svc (k : Nat) (f : Core → Core) (c : Chip) : (modCore k f c).svc = c.svc := rfl
@[simp] theorem modCore_fuses (k : Nat) (f : Core → Core) (c : Chip) : (modCore k f c).fuses = c.fuses := rfl
@[simp] theorem modCore_burns (k : Nat) (f : Core → Core) (c : Chip) : (modCore k f c).burns = c.burns := rfl
@[simp] theorem modCore_lastCpl (k : Nat) (f : Core → Core) (c : Chip) : (modCore k f c).lastCpl = c.lastCpl := rfl
@[simp] theorem modCore_memReply (k : Nat) (f : Core → Core) (c : Chip) : (modCore k f c).memReply = c.memReply := rfl
@[simp] theorem modCore_freeCnt (k : Nat) (f : Core → Core) (c : Chip) : (modCore k f c).freeCnt = c.freeCnt := rfl

/-! ### modMem -/

@[simp] theorem modMem_board (f : Mem → Mem) (c : Chip) : (modMem f c).board = c.board := rfl
@[simp] theorem modMem_clk (f : Mem → Mem) (c : Chip) : (modMem f c).clk = c.clk := rfl
@[simp] theorem modMem_beam (f : Mem → Mem) (c : Chip) : (modMem f c).beam = c.beam := rfl
@[simp] theorem modMem_gov (f : Mem → Mem) (c : Chip) : (modMem f c).gov = c.gov := rfl
@[simp] theorem modMem_pwr (f : Mem → Mem) (c : Chip) : (modMem f c).pwr = c.pwr := rfl
@[simp] theorem modMem_lint (f : Mem → Mem) (c : Chip) : (modMem f c).lint = c.lint := rfl
@[simp] theorem modMem_units (f : Mem → Mem) (c : Chip) : (modMem f c).units = c.units := rfl
@[simp] theorem modMem_edges (f : Mem → Mem) (c : Chip) : (modMem f c).edges = c.edges := rfl
@[simp] theorem modMem_hmp (f : Mem → Mem) (c : Chip) : (modMem f c).hmp = c.hmp := rfl
@[simp] theorem modMem_parts (f : Mem → Mem) (c : Chip) : (modMem f c).parts = c.parts := rfl
@[simp] theorem modMem_own (f : Mem → Mem) (c : Chip) : (modMem f c).own = c.own := rfl
@[simp] theorem modMem_ownRamp (f : Mem → Mem) (c : Chip) : (modMem f c).ownRamp = c.ownRamp := rfl
@[simp] theorem modMem_focus (f : Mem → Mem) (c : Chip) : (modMem f c).focus = c.focus := rfl
@[simp] theorem modMem_focusPending (f : Mem → Mem) (c : Chip) : (modMem f c).focusPending = c.focusPending := rfl
@[simp] theorem modMem_seq (f : Mem → Mem) (c : Chip) : (modMem f c).seq = c.seq := rfl
@[simp] theorem modMem_cmds (f : Mem → Mem) (c : Chip) : (modMem f c).cmds = c.cmds := rfl
@[simp] theorem modMem_mbx (f : Mem → Mem) (c : Chip) : (modMem f c).mbx = c.mbx := rfl
@[simp] theorem modMem_host (f : Mem → Mem) (c : Chip) : (modMem f c).host = c.host := rfl
@[simp] theorem modMem_usb (f : Mem → Mem) (c : Chip) : (modMem f c).usb = c.usb := rfl
@[simp] theorem modMem_linkRecs (f : Mem → Mem) (c : Chip) : (modMem f c).linkRecs = c.linkRecs := rfl
@[simp] theorem modMem_linkCpls (f : Mem → Mem) (c : Chip) : (modMem f c).linkCpls = c.linkCpls := rfl
@[simp] theorem modMem_linkSlot (f : Mem → Mem) (c : Chip) : (modMem f c).linkSlot = c.linkSlot := rfl
@[simp] theorem modMem_stewDown (f : Mem → Mem) (c : Chip) : (modMem f c).stewDown = c.stewDown := rfl
@[simp] theorem modMem_consent (f : Mem → Mem) (c : Chip) : (modMem f c).consent = c.consent := rfl
@[simp] theorem modMem_cores (f : Mem → Mem) (c : Chip) : (modMem f c).cores = c.cores := rfl
@[simp] theorem modMem_diag (f : Mem → Mem) (c : Chip) : (modMem f c).diag = c.diag := rfl
@[simp] theorem modMem_spool (f : Mem → Mem) (c : Chip) : (modMem f c).spool = c.spool := rfl
@[simp] theorem modMem_lyr (f : Mem → Mem) (c : Chip) : (modMem f c).lyr = c.lyr := rfl
@[simp] theorem modMem_lyrParts (f : Mem → Mem) (c : Chip) : (modMem f c).lyrParts = c.lyrParts := rfl
@[simp] theorem modMem_cmp (f : Mem → Mem) (c : Chip) : (modMem f c).cmp = c.cmp := rfl
@[simp] theorem modMem_cmpNext (f : Mem → Mem) (c : Chip) : (modMem f c).cmpNext = c.cmpNext := rfl
@[simp] theorem modMem_frameQ (f : Mem → Mem) (c : Chip) : (modMem f c).frameQ = c.frameQ := rfl
@[simp] theorem modMem_cmpTaken (f : Mem → Mem) (c : Chip) : (modMem f c).cmpTaken = c.cmpTaken := rfl
@[simp] theorem modMem_scan (f : Mem → Mem) (c : Chip) : (modMem f c).scan = c.scan := rfl
@[simp] theorem modMem_snd (f : Mem → Mem) (c : Chip) : (modMem f c).snd = c.snd := rfl
@[simp] theorem modMem_inp (f : Mem → Mem) (c : Chip) : (modMem f c).inp = c.inp := rfl
@[simp] theorem modMem_link (f : Mem → Mem) (c : Chip) : (modMem f c).link = c.link := rfl
@[simp] theorem modMem_vlt (f : Mem → Mem) (c : Chip) : (modMem f c).vlt = c.vlt := rfl
@[simp] theorem modMem_svc (f : Mem → Mem) (c : Chip) : (modMem f c).svc = c.svc := rfl
@[simp] theorem modMem_fuses (f : Mem → Mem) (c : Chip) : (modMem f c).fuses = c.fuses := rfl
@[simp] theorem modMem_burns (f : Mem → Mem) (c : Chip) : (modMem f c).burns = c.burns := rfl
@[simp] theorem modMem_lastCpl (f : Mem → Mem) (c : Chip) : (modMem f c).lastCpl = c.lastCpl := rfl
@[simp] theorem modMem_memReply (f : Mem → Mem) (c : Chip) : (modMem f c).memReply = c.memReply := rfl
@[simp] theorem modMem_freeCnt (f : Mem → Mem) (c : Chip) : (modMem f c).freeCnt = c.freeCnt := rfl

/-! ### modMbx -/

@[simp] theorem modMbx_board (p : Nat) (f : GMbx → GMbx) (c : Chip) : (modMbx p f c).board = c.board := rfl
@[simp] theorem modMbx_clk (p : Nat) (f : GMbx → GMbx) (c : Chip) : (modMbx p f c).clk = c.clk := rfl
@[simp] theorem modMbx_beam (p : Nat) (f : GMbx → GMbx) (c : Chip) : (modMbx p f c).beam = c.beam := rfl
@[simp] theorem modMbx_gov (p : Nat) (f : GMbx → GMbx) (c : Chip) : (modMbx p f c).gov = c.gov := rfl
@[simp] theorem modMbx_pwr (p : Nat) (f : GMbx → GMbx) (c : Chip) : (modMbx p f c).pwr = c.pwr := rfl
@[simp] theorem modMbx_lint (p : Nat) (f : GMbx → GMbx) (c : Chip) : (modMbx p f c).lint = c.lint := rfl
@[simp] theorem modMbx_units (p : Nat) (f : GMbx → GMbx) (c : Chip) : (modMbx p f c).units = c.units := rfl
@[simp] theorem modMbx_edges (p : Nat) (f : GMbx → GMbx) (c : Chip) : (modMbx p f c).edges = c.edges := rfl
@[simp] theorem modMbx_hmp (p : Nat) (f : GMbx → GMbx) (c : Chip) : (modMbx p f c).hmp = c.hmp := rfl
@[simp] theorem modMbx_parts (p : Nat) (f : GMbx → GMbx) (c : Chip) : (modMbx p f c).parts = c.parts := rfl
@[simp] theorem modMbx_own (p : Nat) (f : GMbx → GMbx) (c : Chip) : (modMbx p f c).own = c.own := rfl
@[simp] theorem modMbx_ownRamp (p : Nat) (f : GMbx → GMbx) (c : Chip) : (modMbx p f c).ownRamp = c.ownRamp := rfl
@[simp] theorem modMbx_focus (p : Nat) (f : GMbx → GMbx) (c : Chip) : (modMbx p f c).focus = c.focus := rfl
@[simp] theorem modMbx_focusPending (p : Nat) (f : GMbx → GMbx) (c : Chip) : (modMbx p f c).focusPending = c.focusPending := rfl
@[simp] theorem modMbx_seq (p : Nat) (f : GMbx → GMbx) (c : Chip) : (modMbx p f c).seq = c.seq := rfl
@[simp] theorem modMbx_cmds (p : Nat) (f : GMbx → GMbx) (c : Chip) : (modMbx p f c).cmds = c.cmds := rfl
@[simp] theorem modMbx_host (p : Nat) (f : GMbx → GMbx) (c : Chip) : (modMbx p f c).host = c.host := rfl
@[simp] theorem modMbx_usb (p : Nat) (f : GMbx → GMbx) (c : Chip) : (modMbx p f c).usb = c.usb := rfl
@[simp] theorem modMbx_linkRecs (p : Nat) (f : GMbx → GMbx) (c : Chip) : (modMbx p f c).linkRecs = c.linkRecs := rfl
@[simp] theorem modMbx_linkCpls (p : Nat) (f : GMbx → GMbx) (c : Chip) : (modMbx p f c).linkCpls = c.linkCpls := rfl
@[simp] theorem modMbx_linkSlot (p : Nat) (f : GMbx → GMbx) (c : Chip) : (modMbx p f c).linkSlot = c.linkSlot := rfl
@[simp] theorem modMbx_stewDown (p : Nat) (f : GMbx → GMbx) (c : Chip) : (modMbx p f c).stewDown = c.stewDown := rfl
@[simp] theorem modMbx_consent (p : Nat) (f : GMbx → GMbx) (c : Chip) : (modMbx p f c).consent = c.consent := rfl
@[simp] theorem modMbx_cores (p : Nat) (f : GMbx → GMbx) (c : Chip) : (modMbx p f c).cores = c.cores := rfl
@[simp] theorem modMbx_mem (p : Nat) (f : GMbx → GMbx) (c : Chip) : (modMbx p f c).mem = c.mem := rfl
@[simp] theorem modMbx_diag (p : Nat) (f : GMbx → GMbx) (c : Chip) : (modMbx p f c).diag = c.diag := rfl
@[simp] theorem modMbx_spool (p : Nat) (f : GMbx → GMbx) (c : Chip) : (modMbx p f c).spool = c.spool := rfl
@[simp] theorem modMbx_lyr (p : Nat) (f : GMbx → GMbx) (c : Chip) : (modMbx p f c).lyr = c.lyr := rfl
@[simp] theorem modMbx_lyrParts (p : Nat) (f : GMbx → GMbx) (c : Chip) : (modMbx p f c).lyrParts = c.lyrParts := rfl
@[simp] theorem modMbx_cmp (p : Nat) (f : GMbx → GMbx) (c : Chip) : (modMbx p f c).cmp = c.cmp := rfl
@[simp] theorem modMbx_cmpNext (p : Nat) (f : GMbx → GMbx) (c : Chip) : (modMbx p f c).cmpNext = c.cmpNext := rfl
@[simp] theorem modMbx_frameQ (p : Nat) (f : GMbx → GMbx) (c : Chip) : (modMbx p f c).frameQ = c.frameQ := rfl
@[simp] theorem modMbx_cmpTaken (p : Nat) (f : GMbx → GMbx) (c : Chip) : (modMbx p f c).cmpTaken = c.cmpTaken := rfl
@[simp] theorem modMbx_scan (p : Nat) (f : GMbx → GMbx) (c : Chip) : (modMbx p f c).scan = c.scan := rfl
@[simp] theorem modMbx_snd (p : Nat) (f : GMbx → GMbx) (c : Chip) : (modMbx p f c).snd = c.snd := rfl
@[simp] theorem modMbx_inp (p : Nat) (f : GMbx → GMbx) (c : Chip) : (modMbx p f c).inp = c.inp := rfl
@[simp] theorem modMbx_link (p : Nat) (f : GMbx → GMbx) (c : Chip) : (modMbx p f c).link = c.link := rfl
@[simp] theorem modMbx_vlt (p : Nat) (f : GMbx → GMbx) (c : Chip) : (modMbx p f c).vlt = c.vlt := rfl
@[simp] theorem modMbx_svc (p : Nat) (f : GMbx → GMbx) (c : Chip) : (modMbx p f c).svc = c.svc := rfl
@[simp] theorem modMbx_fuses (p : Nat) (f : GMbx → GMbx) (c : Chip) : (modMbx p f c).fuses = c.fuses := rfl
@[simp] theorem modMbx_burns (p : Nat) (f : GMbx → GMbx) (c : Chip) : (modMbx p f c).burns = c.burns := rfl
@[simp] theorem modMbx_lastCpl (p : Nat) (f : GMbx → GMbx) (c : Chip) : (modMbx p f c).lastCpl = c.lastCpl := rfl
@[simp] theorem modMbx_memReply (p : Nat) (f : GMbx → GMbx) (c : Chip) : (modMbx p f c).memReply = c.memReply := rfl
@[simp] theorem modMbx_freeCnt (p : Nat) (f : GMbx → GMbx) (c : Chip) : (modMbx p f c).freeCnt = c.freeCnt := rfl

/-! ### modHost -/

@[simp] theorem modHost_board (f : HostMbx → HostMbx) (c : Chip) : (modHost f c).board = c.board := rfl
@[simp] theorem modHost_clk (f : HostMbx → HostMbx) (c : Chip) : (modHost f c).clk = c.clk := rfl
@[simp] theorem modHost_beam (f : HostMbx → HostMbx) (c : Chip) : (modHost f c).beam = c.beam := rfl
@[simp] theorem modHost_gov (f : HostMbx → HostMbx) (c : Chip) : (modHost f c).gov = c.gov := rfl
@[simp] theorem modHost_pwr (f : HostMbx → HostMbx) (c : Chip) : (modHost f c).pwr = c.pwr := rfl
@[simp] theorem modHost_lint (f : HostMbx → HostMbx) (c : Chip) : (modHost f c).lint = c.lint := rfl
@[simp] theorem modHost_units (f : HostMbx → HostMbx) (c : Chip) : (modHost f c).units = c.units := rfl
@[simp] theorem modHost_edges (f : HostMbx → HostMbx) (c : Chip) : (modHost f c).edges = c.edges := rfl
@[simp] theorem modHost_hmp (f : HostMbx → HostMbx) (c : Chip) : (modHost f c).hmp = c.hmp := rfl
@[simp] theorem modHost_parts (f : HostMbx → HostMbx) (c : Chip) : (modHost f c).parts = c.parts := rfl
@[simp] theorem modHost_own (f : HostMbx → HostMbx) (c : Chip) : (modHost f c).own = c.own := rfl
@[simp] theorem modHost_ownRamp (f : HostMbx → HostMbx) (c : Chip) : (modHost f c).ownRamp = c.ownRamp := rfl
@[simp] theorem modHost_focus (f : HostMbx → HostMbx) (c : Chip) : (modHost f c).focus = c.focus := rfl
@[simp] theorem modHost_focusPending (f : HostMbx → HostMbx) (c : Chip) : (modHost f c).focusPending = c.focusPending := rfl
@[simp] theorem modHost_seq (f : HostMbx → HostMbx) (c : Chip) : (modHost f c).seq = c.seq := rfl
@[simp] theorem modHost_cmds (f : HostMbx → HostMbx) (c : Chip) : (modHost f c).cmds = c.cmds := rfl
@[simp] theorem modHost_mbx (f : HostMbx → HostMbx) (c : Chip) : (modHost f c).mbx = c.mbx := rfl
@[simp] theorem modHost_usb (f : HostMbx → HostMbx) (c : Chip) : (modHost f c).usb = c.usb := rfl
@[simp] theorem modHost_linkRecs (f : HostMbx → HostMbx) (c : Chip) : (modHost f c).linkRecs = c.linkRecs := rfl
@[simp] theorem modHost_linkCpls (f : HostMbx → HostMbx) (c : Chip) : (modHost f c).linkCpls = c.linkCpls := rfl
@[simp] theorem modHost_linkSlot (f : HostMbx → HostMbx) (c : Chip) : (modHost f c).linkSlot = c.linkSlot := rfl
@[simp] theorem modHost_stewDown (f : HostMbx → HostMbx) (c : Chip) : (modHost f c).stewDown = c.stewDown := rfl
@[simp] theorem modHost_consent (f : HostMbx → HostMbx) (c : Chip) : (modHost f c).consent = c.consent := rfl
@[simp] theorem modHost_cores (f : HostMbx → HostMbx) (c : Chip) : (modHost f c).cores = c.cores := rfl
@[simp] theorem modHost_mem (f : HostMbx → HostMbx) (c : Chip) : (modHost f c).mem = c.mem := rfl
@[simp] theorem modHost_diag (f : HostMbx → HostMbx) (c : Chip) : (modHost f c).diag = c.diag := rfl
@[simp] theorem modHost_spool (f : HostMbx → HostMbx) (c : Chip) : (modHost f c).spool = c.spool := rfl
@[simp] theorem modHost_lyr (f : HostMbx → HostMbx) (c : Chip) : (modHost f c).lyr = c.lyr := rfl
@[simp] theorem modHost_lyrParts (f : HostMbx → HostMbx) (c : Chip) : (modHost f c).lyrParts = c.lyrParts := rfl
@[simp] theorem modHost_cmp (f : HostMbx → HostMbx) (c : Chip) : (modHost f c).cmp = c.cmp := rfl
@[simp] theorem modHost_cmpNext (f : HostMbx → HostMbx) (c : Chip) : (modHost f c).cmpNext = c.cmpNext := rfl
@[simp] theorem modHost_frameQ (f : HostMbx → HostMbx) (c : Chip) : (modHost f c).frameQ = c.frameQ := rfl
@[simp] theorem modHost_cmpTaken (f : HostMbx → HostMbx) (c : Chip) : (modHost f c).cmpTaken = c.cmpTaken := rfl
@[simp] theorem modHost_scan (f : HostMbx → HostMbx) (c : Chip) : (modHost f c).scan = c.scan := rfl
@[simp] theorem modHost_snd (f : HostMbx → HostMbx) (c : Chip) : (modHost f c).snd = c.snd := rfl
@[simp] theorem modHost_inp (f : HostMbx → HostMbx) (c : Chip) : (modHost f c).inp = c.inp := rfl
@[simp] theorem modHost_link (f : HostMbx → HostMbx) (c : Chip) : (modHost f c).link = c.link := rfl
@[simp] theorem modHost_vlt (f : HostMbx → HostMbx) (c : Chip) : (modHost f c).vlt = c.vlt := rfl
@[simp] theorem modHost_svc (f : HostMbx → HostMbx) (c : Chip) : (modHost f c).svc = c.svc := rfl
@[simp] theorem modHost_fuses (f : HostMbx → HostMbx) (c : Chip) : (modHost f c).fuses = c.fuses := rfl
@[simp] theorem modHost_burns (f : HostMbx → HostMbx) (c : Chip) : (modHost f c).burns = c.burns := rfl
@[simp] theorem modHost_lastCpl (f : HostMbx → HostMbx) (c : Chip) : (modHost f c).lastCpl = c.lastCpl := rfl
@[simp] theorem modHost_memReply (f : HostMbx → HostMbx) (c : Chip) : (modHost f c).memReply = c.memReply := rfl
@[simp] theorem modHost_freeCnt (f : HostMbx → HostMbx) (c : Chip) : (modHost f c).freeCnt = c.freeCnt := rfl

/-! ### fire -/

@[simp] theorem fire_board (p src data : Nat) (c : Chip) : (fire p src data c).board = c.board := rfl
@[simp] theorem fire_clk (p src data : Nat) (c : Chip) : (fire p src data c).clk = c.clk := rfl
@[simp] theorem fire_beam (p src data : Nat) (c : Chip) : (fire p src data c).beam = c.beam := rfl
@[simp] theorem fire_gov (p src data : Nat) (c : Chip) : (fire p src data c).gov = c.gov := rfl
@[simp] theorem fire_pwr (p src data : Nat) (c : Chip) : (fire p src data c).pwr = c.pwr := rfl
@[simp] theorem fire_lint (p src data : Nat) (c : Chip) : (fire p src data c).lint = c.lint := rfl
@[simp] theorem fire_units (p src data : Nat) (c : Chip) : (fire p src data c).units = c.units := rfl
@[simp] theorem fire_hmp (p src data : Nat) (c : Chip) : (fire p src data c).hmp = c.hmp := rfl
@[simp] theorem fire_parts (p src data : Nat) (c : Chip) : (fire p src data c).parts = c.parts := rfl
@[simp] theorem fire_own (p src data : Nat) (c : Chip) : (fire p src data c).own = c.own := rfl
@[simp] theorem fire_ownRamp (p src data : Nat) (c : Chip) : (fire p src data c).ownRamp = c.ownRamp := rfl
@[simp] theorem fire_focus (p src data : Nat) (c : Chip) : (fire p src data c).focus = c.focus := rfl
@[simp] theorem fire_focusPending (p src data : Nat) (c : Chip) : (fire p src data c).focusPending = c.focusPending := rfl
@[simp] theorem fire_seq (p src data : Nat) (c : Chip) : (fire p src data c).seq = c.seq := rfl
@[simp] theorem fire_cmds (p src data : Nat) (c : Chip) : (fire p src data c).cmds = c.cmds := rfl
@[simp] theorem fire_mbx (p src data : Nat) (c : Chip) : (fire p src data c).mbx = c.mbx := rfl
@[simp] theorem fire_host (p src data : Nat) (c : Chip) : (fire p src data c).host = c.host := rfl
@[simp] theorem fire_usb (p src data : Nat) (c : Chip) : (fire p src data c).usb = c.usb := rfl
@[simp] theorem fire_linkRecs (p src data : Nat) (c : Chip) : (fire p src data c).linkRecs = c.linkRecs := rfl
@[simp] theorem fire_linkCpls (p src data : Nat) (c : Chip) : (fire p src data c).linkCpls = c.linkCpls := rfl
@[simp] theorem fire_linkSlot (p src data : Nat) (c : Chip) : (fire p src data c).linkSlot = c.linkSlot := rfl
@[simp] theorem fire_stewDown (p src data : Nat) (c : Chip) : (fire p src data c).stewDown = c.stewDown := rfl
@[simp] theorem fire_consent (p src data : Nat) (c : Chip) : (fire p src data c).consent = c.consent := rfl
@[simp] theorem fire_cores (p src data : Nat) (c : Chip) : (fire p src data c).cores = c.cores := rfl
@[simp] theorem fire_mem (p src data : Nat) (c : Chip) : (fire p src data c).mem = c.mem := rfl
@[simp] theorem fire_diag (p src data : Nat) (c : Chip) : (fire p src data c).diag = c.diag := rfl
@[simp] theorem fire_spool (p src data : Nat) (c : Chip) : (fire p src data c).spool = c.spool := rfl
@[simp] theorem fire_lyr (p src data : Nat) (c : Chip) : (fire p src data c).lyr = c.lyr := rfl
@[simp] theorem fire_lyrParts (p src data : Nat) (c : Chip) : (fire p src data c).lyrParts = c.lyrParts := rfl
@[simp] theorem fire_cmp (p src data : Nat) (c : Chip) : (fire p src data c).cmp = c.cmp := rfl
@[simp] theorem fire_cmpNext (p src data : Nat) (c : Chip) : (fire p src data c).cmpNext = c.cmpNext := rfl
@[simp] theorem fire_frameQ (p src data : Nat) (c : Chip) : (fire p src data c).frameQ = c.frameQ := rfl
@[simp] theorem fire_cmpTaken (p src data : Nat) (c : Chip) : (fire p src data c).cmpTaken = c.cmpTaken := rfl
@[simp] theorem fire_scan (p src data : Nat) (c : Chip) : (fire p src data c).scan = c.scan := rfl
@[simp] theorem fire_snd (p src data : Nat) (c : Chip) : (fire p src data c).snd = c.snd := rfl
@[simp] theorem fire_inp (p src data : Nat) (c : Chip) : (fire p src data c).inp = c.inp := rfl
@[simp] theorem fire_link (p src data : Nat) (c : Chip) : (fire p src data c).link = c.link := rfl
@[simp] theorem fire_vlt (p src data : Nat) (c : Chip) : (fire p src data c).vlt = c.vlt := rfl
@[simp] theorem fire_svc (p src data : Nat) (c : Chip) : (fire p src data c).svc = c.svc := rfl
@[simp] theorem fire_fuses (p src data : Nat) (c : Chip) : (fire p src data c).fuses = c.fuses := rfl
@[simp] theorem fire_burns (p src data : Nat) (c : Chip) : (fire p src data c).burns = c.burns := rfl
@[simp] theorem fire_lastCpl (p src data : Nat) (c : Chip) : (fire p src data c).lastCpl = c.lastCpl := rfl
@[simp] theorem fire_memReply (p src data : Nat) (c : Chip) : (fire p src data c).memReply = c.memReply := rfl
@[simp] theorem fire_freeCnt (p src data : Nat) (c : Chip) : (fire p src data c).freeCnt = c.freeCnt := rfl

/-! ### burnNow -/

@[simp] theorem burnNow_board (b : Burn) (c : Chip) : (burnNow b c).board = c.board := rfl
@[simp] theorem burnNow_clk (b : Burn) (c : Chip) : (burnNow b c).clk = c.clk := rfl
@[simp] theorem burnNow_beam (b : Burn) (c : Chip) : (burnNow b c).beam = c.beam := rfl
@[simp] theorem burnNow_gov (b : Burn) (c : Chip) : (burnNow b c).gov = c.gov := rfl
@[simp] theorem burnNow_pwr (b : Burn) (c : Chip) : (burnNow b c).pwr = c.pwr := rfl
@[simp] theorem burnNow_lint (b : Burn) (c : Chip) : (burnNow b c).lint = c.lint := rfl
@[simp] theorem burnNow_units (b : Burn) (c : Chip) : (burnNow b c).units = c.units := rfl
@[simp] theorem burnNow_edges (b : Burn) (c : Chip) : (burnNow b c).edges = c.edges := rfl
@[simp] theorem burnNow_hmp (b : Burn) (c : Chip) : (burnNow b c).hmp = c.hmp := rfl
@[simp] theorem burnNow_parts (b : Burn) (c : Chip) : (burnNow b c).parts = c.parts := rfl
@[simp] theorem burnNow_own (b : Burn) (c : Chip) : (burnNow b c).own = c.own := rfl
@[simp] theorem burnNow_ownRamp (b : Burn) (c : Chip) : (burnNow b c).ownRamp = c.ownRamp := rfl
@[simp] theorem burnNow_focus (b : Burn) (c : Chip) : (burnNow b c).focus = c.focus := rfl
@[simp] theorem burnNow_focusPending (b : Burn) (c : Chip) : (burnNow b c).focusPending = c.focusPending := rfl
@[simp] theorem burnNow_seq (b : Burn) (c : Chip) : (burnNow b c).seq = c.seq := rfl
@[simp] theorem burnNow_cmds (b : Burn) (c : Chip) : (burnNow b c).cmds = c.cmds := rfl
@[simp] theorem burnNow_mbx (b : Burn) (c : Chip) : (burnNow b c).mbx = c.mbx := rfl
@[simp] theorem burnNow_host (b : Burn) (c : Chip) : (burnNow b c).host = c.host := rfl
@[simp] theorem burnNow_usb (b : Burn) (c : Chip) : (burnNow b c).usb = c.usb := rfl
@[simp] theorem burnNow_linkRecs (b : Burn) (c : Chip) : (burnNow b c).linkRecs = c.linkRecs := rfl
@[simp] theorem burnNow_linkCpls (b : Burn) (c : Chip) : (burnNow b c).linkCpls = c.linkCpls := rfl
@[simp] theorem burnNow_linkSlot (b : Burn) (c : Chip) : (burnNow b c).linkSlot = c.linkSlot := rfl
@[simp] theorem burnNow_stewDown (b : Burn) (c : Chip) : (burnNow b c).stewDown = c.stewDown := rfl
@[simp] theorem burnNow_consent (b : Burn) (c : Chip) : (burnNow b c).consent = c.consent := rfl
@[simp] theorem burnNow_cores (b : Burn) (c : Chip) : (burnNow b c).cores = c.cores := rfl
@[simp] theorem burnNow_mem (b : Burn) (c : Chip) : (burnNow b c).mem = c.mem := rfl
@[simp] theorem burnNow_diag (b : Burn) (c : Chip) : (burnNow b c).diag = c.diag := rfl
@[simp] theorem burnNow_spool (b : Burn) (c : Chip) : (burnNow b c).spool = c.spool := rfl
@[simp] theorem burnNow_lyr (b : Burn) (c : Chip) : (burnNow b c).lyr = c.lyr := rfl
@[simp] theorem burnNow_lyrParts (b : Burn) (c : Chip) : (burnNow b c).lyrParts = c.lyrParts := rfl
@[simp] theorem burnNow_cmp (b : Burn) (c : Chip) : (burnNow b c).cmp = c.cmp := rfl
@[simp] theorem burnNow_cmpNext (b : Burn) (c : Chip) : (burnNow b c).cmpNext = c.cmpNext := rfl
@[simp] theorem burnNow_frameQ (b : Burn) (c : Chip) : (burnNow b c).frameQ = c.frameQ := rfl
@[simp] theorem burnNow_cmpTaken (b : Burn) (c : Chip) : (burnNow b c).cmpTaken = c.cmpTaken := rfl
@[simp] theorem burnNow_scan (b : Burn) (c : Chip) : (burnNow b c).scan = c.scan := rfl
@[simp] theorem burnNow_snd (b : Burn) (c : Chip) : (burnNow b c).snd = c.snd := rfl
@[simp] theorem burnNow_inp (b : Burn) (c : Chip) : (burnNow b c).inp = c.inp := rfl
@[simp] theorem burnNow_link (b : Burn) (c : Chip) : (burnNow b c).link = c.link := rfl
@[simp] theorem burnNow_vlt (b : Burn) (c : Chip) : (burnNow b c).vlt = c.vlt := rfl
@[simp] theorem burnNow_svc (b : Burn) (c : Chip) : (burnNow b c).svc = c.svc := rfl
@[simp] theorem burnNow_lastCpl (b : Burn) (c : Chip) : (burnNow b c).lastCpl = c.lastCpl := rfl
@[simp] theorem burnNow_memReply (b : Burn) (c : Chip) : (burnNow b c).memReply = c.memReply := rfl
@[simp] theorem burnNow_freeCnt (b : Burn) (c : Chip) : (burnNow b c).freeCnt = c.freeCnt := rfl

/-! ### modCmd -/

@[simp] theorem modCmd_board (h : Long) (f : Cmd → Cmd) (c : Chip) : (modCmd h f c).board = c.board := rfl
@[simp] theorem modCmd_clk (h : Long) (f : Cmd → Cmd) (c : Chip) : (modCmd h f c).clk = c.clk := rfl
@[simp] theorem modCmd_beam (h : Long) (f : Cmd → Cmd) (c : Chip) : (modCmd h f c).beam = c.beam := rfl
@[simp] theorem modCmd_gov (h : Long) (f : Cmd → Cmd) (c : Chip) : (modCmd h f c).gov = c.gov := rfl
@[simp] theorem modCmd_pwr (h : Long) (f : Cmd → Cmd) (c : Chip) : (modCmd h f c).pwr = c.pwr := rfl
@[simp] theorem modCmd_lint (h : Long) (f : Cmd → Cmd) (c : Chip) : (modCmd h f c).lint = c.lint := rfl
@[simp] theorem modCmd_units (h : Long) (f : Cmd → Cmd) (c : Chip) : (modCmd h f c).units = c.units := rfl
@[simp] theorem modCmd_edges (h : Long) (f : Cmd → Cmd) (c : Chip) : (modCmd h f c).edges = c.edges := rfl
@[simp] theorem modCmd_hmp (h : Long) (f : Cmd → Cmd) (c : Chip) : (modCmd h f c).hmp = c.hmp := rfl
@[simp] theorem modCmd_parts (h : Long) (f : Cmd → Cmd) (c : Chip) : (modCmd h f c).parts = c.parts := rfl
@[simp] theorem modCmd_own (h : Long) (f : Cmd → Cmd) (c : Chip) : (modCmd h f c).own = c.own := rfl
@[simp] theorem modCmd_ownRamp (h : Long) (f : Cmd → Cmd) (c : Chip) : (modCmd h f c).ownRamp = c.ownRamp := rfl
@[simp] theorem modCmd_focus (h : Long) (f : Cmd → Cmd) (c : Chip) : (modCmd h f c).focus = c.focus := rfl
@[simp] theorem modCmd_focusPending (h : Long) (f : Cmd → Cmd) (c : Chip) : (modCmd h f c).focusPending = c.focusPending := rfl
@[simp] theorem modCmd_seq (h : Long) (f : Cmd → Cmd) (c : Chip) : (modCmd h f c).seq = c.seq := rfl
@[simp] theorem modCmd_mbx (h : Long) (f : Cmd → Cmd) (c : Chip) : (modCmd h f c).mbx = c.mbx := rfl
@[simp] theorem modCmd_host (h : Long) (f : Cmd → Cmd) (c : Chip) : (modCmd h f c).host = c.host := rfl
@[simp] theorem modCmd_usb (h : Long) (f : Cmd → Cmd) (c : Chip) : (modCmd h f c).usb = c.usb := rfl
@[simp] theorem modCmd_linkRecs (h : Long) (f : Cmd → Cmd) (c : Chip) : (modCmd h f c).linkRecs = c.linkRecs := rfl
@[simp] theorem modCmd_linkCpls (h : Long) (f : Cmd → Cmd) (c : Chip) : (modCmd h f c).linkCpls = c.linkCpls := rfl
@[simp] theorem modCmd_linkSlot (h : Long) (f : Cmd → Cmd) (c : Chip) : (modCmd h f c).linkSlot = c.linkSlot := rfl
@[simp] theorem modCmd_stewDown (h : Long) (f : Cmd → Cmd) (c : Chip) : (modCmd h f c).stewDown = c.stewDown := rfl
@[simp] theorem modCmd_consent (h : Long) (f : Cmd → Cmd) (c : Chip) : (modCmd h f c).consent = c.consent := rfl
@[simp] theorem modCmd_cores (h : Long) (f : Cmd → Cmd) (c : Chip) : (modCmd h f c).cores = c.cores := rfl
@[simp] theorem modCmd_mem (h : Long) (f : Cmd → Cmd) (c : Chip) : (modCmd h f c).mem = c.mem := rfl
@[simp] theorem modCmd_diag (h : Long) (f : Cmd → Cmd) (c : Chip) : (modCmd h f c).diag = c.diag := rfl
@[simp] theorem modCmd_spool (h : Long) (f : Cmd → Cmd) (c : Chip) : (modCmd h f c).spool = c.spool := rfl
@[simp] theorem modCmd_lyr (h : Long) (f : Cmd → Cmd) (c : Chip) : (modCmd h f c).lyr = c.lyr := rfl
@[simp] theorem modCmd_lyrParts (h : Long) (f : Cmd → Cmd) (c : Chip) : (modCmd h f c).lyrParts = c.lyrParts := rfl
@[simp] theorem modCmd_cmp (h : Long) (f : Cmd → Cmd) (c : Chip) : (modCmd h f c).cmp = c.cmp := rfl
@[simp] theorem modCmd_cmpNext (h : Long) (f : Cmd → Cmd) (c : Chip) : (modCmd h f c).cmpNext = c.cmpNext := rfl
@[simp] theorem modCmd_frameQ (h : Long) (f : Cmd → Cmd) (c : Chip) : (modCmd h f c).frameQ = c.frameQ := rfl
@[simp] theorem modCmd_cmpTaken (h : Long) (f : Cmd → Cmd) (c : Chip) : (modCmd h f c).cmpTaken = c.cmpTaken := rfl
@[simp] theorem modCmd_scan (h : Long) (f : Cmd → Cmd) (c : Chip) : (modCmd h f c).scan = c.scan := rfl
@[simp] theorem modCmd_snd (h : Long) (f : Cmd → Cmd) (c : Chip) : (modCmd h f c).snd = c.snd := rfl
@[simp] theorem modCmd_inp (h : Long) (f : Cmd → Cmd) (c : Chip) : (modCmd h f c).inp = c.inp := rfl
@[simp] theorem modCmd_link (h : Long) (f : Cmd → Cmd) (c : Chip) : (modCmd h f c).link = c.link := rfl
@[simp] theorem modCmd_vlt (h : Long) (f : Cmd → Cmd) (c : Chip) : (modCmd h f c).vlt = c.vlt := rfl
@[simp] theorem modCmd_svc (h : Long) (f : Cmd → Cmd) (c : Chip) : (modCmd h f c).svc = c.svc := rfl
@[simp] theorem modCmd_fuses (h : Long) (f : Cmd → Cmd) (c : Chip) : (modCmd h f c).fuses = c.fuses := rfl
@[simp] theorem modCmd_burns (h : Long) (f : Cmd → Cmd) (c : Chip) : (modCmd h f c).burns = c.burns := rfl
@[simp] theorem modCmd_lastCpl (h : Long) (f : Cmd → Cmd) (c : Chip) : (modCmd h f c).lastCpl = c.lastCpl := rfl
@[simp] theorem modCmd_memReply (h : Long) (f : Cmd → Cmd) (c : Chip) : (modCmd h f c).memReply = c.memReply := rfl
@[simp] theorem modCmd_freeCnt (h : Long) (f : Cmd → Cmd) (c : Chip) : (modCmd h f c).freeCnt = c.freeCnt := rfl

/-- The partition that was changed, and the others. -/
theorem partOf_modPart (p q : Nat) (f : Part → Part) (c : Chip) :
    partOf (modPart p f c) q = if q = p ∧ p < 7 then f (partOf c p) else partOf c q := by
  simp only [modPart, partOf, vset, Vector.toList_setIfInBounds, List.getD_eq_getElem?_getD, List.getElem?_set, Vector.length_toList]
  by_cases hq : q = p <;> by_cases hp : p < 7 <;> simp [hq, hp, eq_comm (a := p)]

/-- The mailbox that was changed, and the others. -/
theorem mbxOf_modMbx (p q : Nat) (f : GMbx → GMbx) (c : Chip) :
    mbxOf (modMbx p f c) q = if q = p ∧ p < 7 then f (mbxOf c p) else mbxOf c q := by
  simp only [modMbx, mbxOf, vset, Vector.toList_setIfInBounds, List.getD_eq_getElem?_getD, List.getElem?_set, Vector.length_toList]
  by_cases hq : q = p <;> by_cases hp : p < 7 <;> simp [hq, hp, eq_comm (a := p)]

end Sys2Proof.Machine
end

