-- ==== Sys2Proof/Laws/Step.lean ====
section
/-! SUPPORT. What one step can do: the outcome of every meaning, said once. -/

namespace Sys2Proof.Machine

/-- A meaning over the whole chip answers the state settled on what it makes of the chip. -/
theorem onAlways_eq (f : Chip → Chip) (s : State) : onAlways f s = .next (s.settle (f s.chip)) := rfl

/-- An awake chip takes a meaning. -/
theorem onChip_eq {s : State} (h : asleep s.chip = false) (f : Chip → Chip) : onChip f s = .next (s.settle (f s.chip)) := by
  simp [onChip, onAlways_eq, h]

/-- A chip in phase `run` is awake. -/
theorem asleep_run {c : Chip} (h : awake c) : asleep c = false := by
  simp only [awake] at h
  simp [asleep, h]

/-- In phase `run` a meaning of either kind is taken. -/
theorem onRun_eq {s : State} (h : awake s.chip) (f : Chip → Chip) : onRun f s = .next (s.settle (f s.chip)) := by
  simp only [awake] at h
  simp [onRun, onChip_eq (asleep_run h), h]

/-- A sleeping chip stands still. -/
theorem onChip_asleep {s : State} (h : asleep s.chip = true) (f : Chip → Chip) : onChip f s = .next (s.settle s.chip) := by
  simp [onChip, onAlways_eq, h]

/-- A meaning over the whole chip settles the state on some chip. -/
theorem onAlways_next (f : Chip → Chip) (s : State) : ∃ c, onAlways f s = .next (s.settle c) := ⟨_, rfl⟩

/-- Every meaning settles the state on some chip, but for the one that stops. -/
theorem exec_cases (i : Instr) (s : State) :
    (∃ c, exec i s = .next (s.settle c)) ∨ (stops i = true ∧ exec i s = .refused .unpublishedExtension) := by
  cases i
  case stewardExtension k w =>
    by_cases h : k.val = 6
    · exact .inr ⟨by simp [stops, h], by simp [exec, execStewardExtension, h]⟩
    · exact .inl (by simp only [exec, execStewardExtension, h, if_false]; exact ⟨_, rfl⟩)
  case memoryRequest q => cases q <;> exact .inl ⟨_, rfl⟩
  all_goals exact .inl ⟨_, rfl⟩

/-- A step from a queue with command i in front runs i; on an empty queue it is a tick. -/
theorem step_cons (s : State) (i : Instr) (rest : List Instr) (h : s.pending = i :: rest) :
    step s = exec i { s with pending := rest } := by
  simp [step, h]

end Sys2Proof.Machine
end

