-- ==== Sys2Proof/Laws/Kuval.lean ====
section
/-! SUPPORT. What the shared operations of the Kuval cores do: changing a core, and running one instruction. -/

namespace Sys2Proof.Machine

/-- A core just changed is read back changed. -/
theorem coreOf_modCore_same {k : Nat} (h : k < 7) (f : Core → Core) (c : Chip) : coreOf (modCore k f c) k = f (coreOf c k) := by
  simp [coreOf, modCore, vset, List.getD_eq_getElem?_getD, h]

/-- Another core is unchanged. -/
theorem coreOf_modCore_other {j k : Nat} (h : j ≠ k) (f : Core → Core) (c : Chip) : coreOf (modCore k f c) j = coreOf c j := by
  simp [coreOf, modCore, vset, List.getD_eq_getElem?_getD, Ne.symm h]

/-- Two changes of one core are one. -/
theorem modCore_modCore (k : Nat) (f g : Core → Core) (c : Chip) : modCore k f (modCore k g c) = modCore k (fun x => f (g x)) c := by
  by_cases h : k < 7
  · simp only [modCore, coreOf, vset]
    congr 1
    apply Vector.ext
    intro i hi
    by_cases hik : k = i
    · subst hik; simp [h, List.getD_eq_getElem?_getD]
    · simp [hik]
  · have hx : ∀ (v : Vector Core 7) (x : Core), v.setIfInBounds k x = v := by
      intro v x
      apply Vector.ext
      intro i hi
      have : ¬ k = i := by omega
      simp [this]
    simp [modCore, vset, hx]

/-- A core that runs is in phase `run`. -/
theorem awake_of_canRun {c : Chip} {k : Nat} (h : canRun c k = true) : awake c := by
  simp only [canRun, Bool.and_eq_true, beq_iff_eq] at h
  exact h.1.1.1.1

/-- An instruction that is fetched and whose body completes. -/
theorem runInstr_ok {c c' : Chip} {k n : Nat} {keep : Bool} {body : Chip → Res} (h : Executes c k n) (hb : body (noLoad k c) = .ok c') :
    runInstr k n false keep body c =
      modCore k (fun x => if keep then landOld (coreOf c k).pend x else retired (coreOf c k).pend x) c' := by
  have hb' : body (modCore k (fun x => { x with pend := none }) c) = .ok c' := hb
  simp only [runInstr, h.1, h.2, hb', Bool.not_true, Bool.false_eq_true, if_false]
  cases keep <;> simp [retired]

/-- An instruction that is fetched and whose body faults. -/
theorem runInstr_fault {c : Chip} {k n : Nat} {keep : Bool} {f : Flt} {body : Chip → Res} (h : Executes c k n) (hb : body (noLoad k c) = .fault f) :
    runInstr k n false keep body c = raiseFault k f c := by
  have hb' : body (modCore k (fun x => { x with pend := none }) c) = .fault f := hb
  simp only [runInstr, h.1, h.2, hb', Bool.not_true, Bool.false_eq_true, if_false]

/-- As `runInstr_ok`, for an instruction that lands a waiting load first. -/
theorem runInstr_landed {c c' : Chip} {k n : Nat} {keep : Bool} {body : Chip → Res} (h : canRun c k = true)
    (hf : fetchFault (landNow k c) k n = none) (hb : body (noLoad k (landNow k c)) = .ok c') :
    runInstr k n true keep body c =
      modCore k (fun x => if keep then landOld (coreOf (landNow k c) k).pend x else retired (coreOf (landNow k c) k).pend x) c' := by
  have hb' : body (modCore k (fun x => { x with pend := none }) (landNow k c)) = .ok c' := hb
  simp only [runInstr, h, hf, hb', Bool.not_true, Bool.false_eq_true, if_false, if_true]
  cases keep <;> simp [retired]

/-- A register instruction does its effect and goes on. -/
theorem regInstr_ok {c : Chip} {k : Nat} {n : Nat} (h : Executes c k n) (f : Core → Core) :
    regInstr k n f c = modCore k (Core.after n f) c := by
  unfold regInstr
  rw [runInstr_ok (body := fun c => .ok (modCore k (fun x => { f x with pc := x.next n }) c)) h rfl]
  simp only [noLoad, modCore_modCore]
  have hg : (fun x : Core => if false = true then landOld (coreOf c k).pend { f { x with pend := none } with pc := x.next n }
      else retired (coreOf c k).pend { f { x with pend := none } with pc := x.next n }) =
      fun x => retired (coreOf c k).pend { f { x with pend := none } with pc := x.next n } := by simp
  have hx : ∀ g : Core → Core, (∀ x, x = coreOf c k → g x = Core.after n f x) → modCore k g c = modCore k (Core.after n f) c := by
    intro g hgx; simp [modCore, hgx _ rfl]
  apply hx
  intro x hxk
  subst hxk
  simp [Core.after, Core.next]

/-- A register instruction, as a row. -/
theorem steps_of_regInstr {i : Instr} {k : CoreId} {n : Nat} {f : Core → Core}
    (h : ∀ s, exec i s = onChip (regInstr k n f) s) : Steps i k n f := by
  intro s he
  rw [h, onChip_eq (asleep_run (awake_of_canRun he.1)), regInstr_ok he]

/-- An undefined encoding, as a row. -/
theorem faults_of_illegal {i : Instr} {k : CoreId} {n code : Nat} {pre : Chip → Prop}
    (h : ∀ s, Executes s.chip k n → pre (noLoad k s.chip) → exec i s = onChip (runInstr k n false false fun _ => .fault (.illegal code)) s) :
    Faults i k n pre (.illegal code) := by
  intro s he hp
  rw [h s he hp, onChip_eq (asleep_run (awake_of_canRun he.1)), runInstr_fault (body := fun _ => .fault (.illegal code)) he rfl]

/-- An instruction whose body completes, as a row. -/
theorem does_of {i : Instr} {k : CoreId} {n : Nat} {pre eff} (body : Chip → Res) (h : ∀ s, exec i s = onChip (runInstr k n false false body) s)
   (hb : ∀ c, pre c → body c = .ok (eff c)) : Does i k n pre eff := by
  intro s he hp
  rw [h, onChip_eq (asleep_run (awake_of_canRun he.1)), runInstr_ok he (hb _ hp)]; simp

/-- An instruction that keeps RF and whose body completes, as a row. -/
theorem doesKeep_of {i : Instr} {k : CoreId} {n : Nat} {pre eff} (body : Chip → Res) (h : ∀ s, exec i s = onChip (runInstr k n true true body) s)
   (hb : ∀ c, pre c → body c = .ok (eff c)) : DoesKeepRf i k n pre eff := by
  intro s he hf hp
  rw [h, onChip_eq (asleep_run (awake_of_canRun he)), runInstr_landed he hf (hb _ hp)]; simp

/-- An instruction that lands a waiting load first and whose body completes, as a row. -/
theorem doesLanded_of {i : Instr} {k : CoreId} {n : Nat} {pre eff} (body : Chip → Res) (h : ∀ s, exec i s = onChip (runInstr k n true false body) s)
   (hb : ∀ c, pre c → body c = .ok (eff c)) : DoesLanded i k n pre eff := by
  intro s he hf hp
  rw [h, onChip_eq (asleep_run (awake_of_canRun he)), runInstr_landed he hf (hb _ hp)]; simp

/-- An instruction whose body faults, as a row. -/
theorem faults_of {i : Instr} {k : CoreId} {n : Nat} {pre f} (body : Chip → Res) (h : ∀ s, exec i s = onChip (runInstr k n false false body) s)
   (hb : ∀ c, pre c → body c = .fault f) : Faults i k n pre f := by
  intro s he hp
  rw [h, onChip_eq (asleep_run (awake_of_canRun he.1)), runInstr_fault he (hb _ hp)]

end Sys2Proof.Machine
end

