-- ==== Sys2Proof/Laws/Lint.lean ====
section
/-! SUPPORT. What time, a line end and a lint entry leave of the chip: every field that they do not name. -/

namespace Sys2Proof.Machine

/-! ### advanceTime -/

@[simp] theorem advanceTime_board (n : Nat) (c : Chip) : (advanceTime n c).board = c.board := by unfold advanceTime; dsimp only
@[simp] theorem advanceTime_beam (n : Nat) (c : Chip) : (advanceTime n c).beam = c.beam := by unfold advanceTime; dsimp only
@[simp] theorem advanceTime_pwr (n : Nat) (c : Chip) : (advanceTime n c).pwr = c.pwr := by unfold advanceTime; dsimp only
@[simp] theorem advanceTime_lint (n : Nat) (c : Chip) : (advanceTime n c).lint = c.lint := by unfold advanceTime; dsimp only
@[simp] theorem advanceTime_units (n : Nat) (c : Chip) : (advanceTime n c).units = c.units := by unfold advanceTime; dsimp only
@[simp] theorem advanceTime_edges (n : Nat) (c : Chip) : (advanceTime n c).edges = c.edges := by unfold advanceTime; dsimp only
@[simp] theorem advanceTime_hmp (n : Nat) (c : Chip) : (advanceTime n c).hmp = c.hmp := by unfold advanceTime; dsimp only
@[simp] theorem advanceTime_parts (n : Nat) (c : Chip) : (advanceTime n c).parts = c.parts := by unfold advanceTime; dsimp only
@[simp] theorem advanceTime_own (n : Nat) (c : Chip) : (advanceTime n c).own = c.own := by unfold advanceTime; dsimp only
@[simp] theorem advanceTime_ownRamp (n : Nat) (c : Chip) : (advanceTime n c).ownRamp = c.ownRamp := by unfold advanceTime; dsimp only
@[simp] theorem advanceTime_focus (n : Nat) (c : Chip) : (advanceTime n c).focus = c.focus := by unfold advanceTime; dsimp only
@[simp] theorem advanceTime_focusPending (n : Nat) (c : Chip) : (advanceTime n c).focusPending = c.focusPending := by unfold advanceTime; dsimp only
@[simp] theorem advanceTime_seq (n : Nat) (c : Chip) : (advanceTime n c).seq = c.seq := by unfold advanceTime; dsimp only
@[simp] theorem advanceTime_cmds (n : Nat) (c : Chip) : (advanceTime n c).cmds = c.cmds := by unfold advanceTime; dsimp only
@[simp] theorem advanceTime_mbx (n : Nat) (c : Chip) : (advanceTime n c).mbx = c.mbx := by unfold advanceTime; dsimp only
@[simp] theorem advanceTime_host (n : Nat) (c : Chip) : (advanceTime n c).host = c.host := by unfold advanceTime; dsimp only
@[simp] theorem advanceTime_usb (n : Nat) (c : Chip) : (advanceTime n c).usb = c.usb := by unfold advanceTime; dsimp only
@[simp] theorem advanceTime_linkRecs (n : Nat) (c : Chip) : (advanceTime n c).linkRecs = c.linkRecs := by unfold advanceTime; dsimp only
@[simp] theorem advanceTime_linkCpls (n : Nat) (c : Chip) : (advanceTime n c).linkCpls = c.linkCpls := by unfold advanceTime; dsimp only
@[simp] theorem advanceTime_linkSlot (n : Nat) (c : Chip) : (advanceTime n c).linkSlot = c.linkSlot := by unfold advanceTime; dsimp only
@[simp] theorem advanceTime_stewDown (n : Nat) (c : Chip) : (advanceTime n c).stewDown = c.stewDown := by unfold advanceTime; dsimp only
@[simp] theorem advanceTime_consent (n : Nat) (c : Chip) : (advanceTime n c).consent = c.consent := by unfold advanceTime; dsimp only
@[simp] theorem advanceTime_cores (n : Nat) (c : Chip) : (advanceTime n c).cores = c.cores := by unfold advanceTime; dsimp only
@[simp] theorem advanceTime_mem (n : Nat) (c : Chip) : (advanceTime n c).mem = c.mem := by unfold advanceTime; dsimp only
@[simp] theorem advanceTime_diag (n : Nat) (c : Chip) : (advanceTime n c).diag = c.diag := by unfold advanceTime; dsimp only
@[simp] theorem advanceTime_spool (n : Nat) (c : Chip) : (advanceTime n c).spool = c.spool := by unfold advanceTime; dsimp only
@[simp] theorem advanceTime_lyr (n : Nat) (c : Chip) : (advanceTime n c).lyr = c.lyr := by unfold advanceTime; dsimp only
@[simp] theorem advanceTime_lyrParts (n : Nat) (c : Chip) : (advanceTime n c).lyrParts = c.lyrParts := by unfold advanceTime; dsimp only
@[simp] theorem advanceTime_cmp (n : Nat) (c : Chip) : (advanceTime n c).cmp = c.cmp := by unfold advanceTime; dsimp only
@[simp] theorem advanceTime_cmpNext (n : Nat) (c : Chip) : (advanceTime n c).cmpNext = c.cmpNext := by unfold advanceTime; dsimp only
@[simp] theorem advanceTime_frameQ (n : Nat) (c : Chip) : (advanceTime n c).frameQ = c.frameQ := by unfold advanceTime; dsimp only
@[simp] theorem advanceTime_cmpTaken (n : Nat) (c : Chip) : (advanceTime n c).cmpTaken = c.cmpTaken := by unfold advanceTime; dsimp only
@[simp] theorem advanceTime_scan (n : Nat) (c : Chip) : (advanceTime n c).scan = c.scan := by unfold advanceTime; dsimp only
@[simp] theorem advanceTime_snd (n : Nat) (c : Chip) : (advanceTime n c).snd = c.snd := by unfold advanceTime; dsimp only
@[simp] theorem advanceTime_inp (n : Nat) (c : Chip) : (advanceTime n c).inp = c.inp := by unfold advanceTime; dsimp only
@[simp] theorem advanceTime_link (n : Nat) (c : Chip) : (advanceTime n c).link = c.link := by unfold advanceTime; dsimp only
@[simp] theorem advanceTime_vlt (n : Nat) (c : Chip) : (advanceTime n c).vlt = c.vlt := by unfold advanceTime; dsimp only
@[simp] theorem advanceTime_svc (n : Nat) (c : Chip) : (advanceTime n c).svc = c.svc := by unfold advanceTime; dsimp only
@[simp] theorem advanceTime_fuses (n : Nat) (c : Chip) : (advanceTime n c).fuses = c.fuses := by unfold advanceTime; dsimp only
@[simp] theorem advanceTime_burns (n : Nat) (c : Chip) : (advanceTime n c).burns = c.burns := by unfold advanceTime; dsimp only
@[simp] theorem advanceTime_lastCpl (n : Nat) (c : Chip) : (advanceTime n c).lastCpl = c.lastCpl := by unfold advanceTime; dsimp only
@[simp] theorem advanceTime_memReply (n : Nat) (c : Chip) : (advanceTime n c).memReply = c.memReply := by unfold advanceTime; dsimp only
@[simp] theorem advanceTime_freeCnt (n : Nat) (c : Chip) : (advanceTime n c).freeCnt = c.freeCnt := by unfold advanceTime; dsimp only

theorem advanceTime_qtime (n : Nat) (c : Chip) : (advanceTime n c).clk.qtime = (c.clk.qtime + n) % 2 ^ 64 := by unfold advanceTime; dsimp only

/-! ### reachLineEnd -/

@[simp] theorem reachLineEnd_board (c : Chip) : (reachLineEnd c).board = c.board := by unfold reachLineEnd; dsimp only; rw [advanceTime_board]
@[simp] theorem reachLineEnd_pwr (c : Chip) : (reachLineEnd c).pwr = c.pwr := by unfold reachLineEnd; dsimp only; rw [advanceTime_pwr]
@[simp] theorem reachLineEnd_lint (c : Chip) : (reachLineEnd c).lint = c.lint := by unfold reachLineEnd; dsimp only; rw [advanceTime_lint]
@[simp] theorem reachLineEnd_units (c : Chip) : (reachLineEnd c).units = c.units := by unfold reachLineEnd; dsimp only; rw [advanceTime_units]
@[simp] theorem reachLineEnd_edges (c : Chip) : (reachLineEnd c).edges = c.edges := by unfold reachLineEnd; dsimp only; rw [advanceTime_edges]
@[simp] theorem reachLineEnd_hmp (c : Chip) : (reachLineEnd c).hmp = c.hmp := by unfold reachLineEnd; dsimp only; rw [advanceTime_hmp]
@[simp] theorem reachLineEnd_parts (c : Chip) : (reachLineEnd c).parts = c.parts := by unfold reachLineEnd; dsimp only; rw [advanceTime_parts]
@[simp] theorem reachLineEnd_own (c : Chip) : (reachLineEnd c).own = c.own := by unfold reachLineEnd; dsimp only; rw [advanceTime_own]
@[simp] theorem reachLineEnd_ownRamp (c : Chip) : (reachLineEnd c).ownRamp = c.ownRamp := by unfold reachLineEnd; dsimp only; rw [advanceTime_ownRamp]
@[simp] theorem reachLineEnd_focus (c : Chip) : (reachLineEnd c).focus = c.focus := by unfold reachLineEnd; dsimp only; rw [advanceTime_focus]
@[simp] theorem reachLineEnd_focusPending (c : Chip) : (reachLineEnd c).focusPending = c.focusPending := by unfold reachLineEnd; dsimp only; rw [advanceTime_focusPending]
@[simp] theorem reachLineEnd_seq (c : Chip) : (reachLineEnd c).seq = c.seq := by unfold reachLineEnd; dsimp only; rw [advanceTime_seq]
@[simp] theorem reachLineEnd_cmds (c : Chip) : (reachLineEnd c).cmds = c.cmds := by unfold reachLineEnd; dsimp only; rw [advanceTime_cmds]
@[simp] theorem reachLineEnd_mbx (c : Chip) : (reachLineEnd c).mbx = c.mbx := by unfold reachLineEnd; dsimp only; rw [advanceTime_mbx]
@[simp] theorem reachLineEnd_host (c : Chip) : (reachLineEnd c).host = c.host := by unfold reachLineEnd; dsimp only; rw [advanceTime_host]
@[simp] theorem reachLineEnd_usb (c : Chip) : (reachLineEnd c).usb = c.usb := by unfold reachLineEnd; dsimp only; rw [advanceTime_usb]
@[simp] theorem reachLineEnd_linkRecs (c : Chip) : (reachLineEnd c).linkRecs = c.linkRecs := by unfold reachLineEnd; dsimp only; rw [advanceTime_linkRecs]
@[simp] theorem reachLineEnd_linkCpls (c : Chip) : (reachLineEnd c).linkCpls = c.linkCpls := by unfold reachLineEnd; dsimp only; rw [advanceTime_linkCpls]
@[simp] theorem reachLineEnd_linkSlot (c : Chip) : (reachLineEnd c).linkSlot = c.linkSlot := by unfold reachLineEnd; dsimp only; rw [advanceTime_linkSlot]
@[simp] theorem reachLineEnd_stewDown (c : Chip) : (reachLineEnd c).stewDown = c.stewDown := by unfold reachLineEnd; dsimp only; rw [advanceTime_stewDown]
@[simp] theorem reachLineEnd_consent (c : Chip) : (reachLineEnd c).consent = c.consent := by unfold reachLineEnd; dsimp only; rw [advanceTime_consent]
@[simp] theorem reachLineEnd_cores (c : Chip) : (reachLineEnd c).cores = c.cores := by unfold reachLineEnd; dsimp only; rw [advanceTime_cores]
@[simp] theorem reachLineEnd_mem (c : Chip) : (reachLineEnd c).mem = c.mem := by unfold reachLineEnd; dsimp only; rw [advanceTime_mem]
@[simp] theorem reachLineEnd_diag (c : Chip) : (reachLineEnd c).diag = c.diag := by unfold reachLineEnd; dsimp only; rw [advanceTime_diag]
@[simp] theorem reachLineEnd_spool (c : Chip) : (reachLineEnd c).spool = c.spool := by unfold reachLineEnd; dsimp only; rw [advanceTime_spool]
@[simp] theorem reachLineEnd_lyr (c : Chip) : (reachLineEnd c).lyr = c.lyr := by unfold reachLineEnd; dsimp only; rw [advanceTime_lyr]
@[simp] theorem reachLineEnd_lyrParts (c : Chip) : (reachLineEnd c).lyrParts = c.lyrParts := by unfold reachLineEnd; dsimp only; rw [advanceTime_lyrParts]
@[simp] theorem reachLineEnd_cmp (c : Chip) : (reachLineEnd c).cmp = c.cmp := by unfold reachLineEnd; dsimp only; rw [advanceTime_cmp]
@[simp] theorem reachLineEnd_cmpNext (c : Chip) : (reachLineEnd c).cmpNext = c.cmpNext := by unfold reachLineEnd; dsimp only; rw [advanceTime_cmpNext]
@[simp] theorem reachLineEnd_frameQ (c : Chip) : (reachLineEnd c).frameQ = c.frameQ := by unfold reachLineEnd; dsimp only; rw [advanceTime_frameQ]
@[simp] theorem reachLineEnd_cmpTaken (c : Chip) : (reachLineEnd c).cmpTaken = c.cmpTaken := by unfold reachLineEnd; dsimp only; rw [advanceTime_cmpTaken]
@[simp] theorem reachLineEnd_scan (c : Chip) : (reachLineEnd c).scan = c.scan := by unfold reachLineEnd; dsimp only; rw [advanceTime_scan]
@[simp] theorem reachLineEnd_snd (c : Chip) : (reachLineEnd c).snd = c.snd := by unfold reachLineEnd; dsimp only; rw [advanceTime_snd]
@[simp] theorem reachLineEnd_inp (c : Chip) : (reachLineEnd c).inp = c.inp := by unfold reachLineEnd; dsimp only; rw [advanceTime_inp]
@[simp] theorem reachLineEnd_link (c : Chip) : (reachLineEnd c).link = c.link := by unfold reachLineEnd; dsimp only; rw [advanceTime_link]
@[simp] theorem reachLineEnd_vlt (c : Chip) : (reachLineEnd c).vlt = c.vlt := by unfold reachLineEnd; dsimp only; rw [advanceTime_vlt]
@[simp] theorem reachLineEnd_svc (c : Chip) : (reachLineEnd c).svc = c.svc := by unfold reachLineEnd; dsimp only; rw [advanceTime_svc]
@[simp] theorem reachLineEnd_fuses (c : Chip) : (reachLineEnd c).fuses = c.fuses := by unfold reachLineEnd; dsimp only; rw [advanceTime_fuses]
@[simp] theorem reachLineEnd_burns (c : Chip) : (reachLineEnd c).burns = c.burns := by unfold reachLineEnd; dsimp only; rw [advanceTime_burns]
@[simp] theorem reachLineEnd_lastCpl (c : Chip) : (reachLineEnd c).lastCpl = c.lastCpl := by unfold reachLineEnd; dsimp only; rw [advanceTime_lastCpl]
@[simp] theorem reachLineEnd_memReply (c : Chip) : (reachLineEnd c).memReply = c.memReply := by unfold reachLineEnd; dsimp only; rw [advanceTime_memReply]
@[simp] theorem reachLineEnd_freeCnt (c : Chip) : (reachLineEnd c).freeCnt = c.freeCnt := by unfold reachLineEnd; dsimp only; rw [advanceTime_freeCnt]
@[simp] theorem reachLineEnd_beam_frame (c : Chip) : (reachLineEnd c).beam.frame = c.beam.frame := by unfold reachLineEnd; dsimp only; rw [advanceTime_beam]
@[simp] theorem reachLineEnd_beam_line (c : Chip) : (reachLineEnd c).beam.line = c.beam.line := by unfold reachLineEnd; dsimp only; rw [advanceTime_beam]
@[simp] theorem reachLineEnd_beam_field (c : Chip) : (reachLineEnd c).beam.field = c.beam.field := by unfold reachLineEnd; dsimp only; rw [advanceTime_beam]
@[simp] theorem reachLineEnd_beam_hold (c : Chip) : (reachLineEnd c).beam.hold = c.beam.hold := by unfold reachLineEnd; dsimp only; rw [advanceTime_beam]
@[simp] theorem reachLineEnd_beam_htotal (c : Chip) : (reachLineEnd c).beam.htotal = c.beam.htotal := by unfold reachLineEnd; dsimp only; rw [advanceTime_beam]
@[simp] theorem reachLineEnd_beam_vtotal (c : Chip) : (reachLineEnd c).beam.vtotal = c.beam.vtotal := by unfold reachLineEnd; dsimp only; rw [advanceTime_beam]
@[simp] theorem reachLineEnd_beam_hactive (c : Chip) : (reachLineEnd c).beam.hactive = c.beam.hactive := by unfold reachLineEnd; dsimp only; rw [advanceTime_beam]
@[simp] theorem reachLineEnd_beam_vactive (c : Chip) : (reachLineEnd c).beam.vactive = c.beam.vactive := by unfold reachLineEnd; dsimp only; rw [advanceTime_beam]
@[simp] theorem reachLineEnd_beam_interlaced (c : Chip) : (reachLineEnd c).beam.interlaced = c.beam.interlaced := by unfold reachLineEnd; dsimp only; rw [advanceTime_beam]
@[simp] theorem reachLineEnd_beam_pclk (c : Chip) : (reachLineEnd c).beam.pclk = c.beam.pclk := by unfold reachLineEnd; dsimp only; rw [advanceTime_beam]
@[simp] theorem reachLineEnd_dot (c : Chip) : (reachLineEnd c).beam.dot = 0 := by unfold reachLineEnd; dsimp only
@[simp] theorem reachLineEnd_frac (c : Chip) : (reachLineEnd c).beam.frac = 0 := by unfold reachLineEnd; dsimp only

/-! ### lint -/

/-- A lint entry changes the log, and may fire an edge whose DATA is a free value. -/
theorem lintAs_shape (b : Bool) (code unit origin detail : Nat) (c : Chip) :
    ∃ l e n, lintAs b code unit origin detail c = { c with lint := l, edges := e, freeCnt := n } := by
  simp only [lintAs]
  split
  · split
    · exact ⟨_, _, _, rfl⟩
    · exact ⟨_, _, _, rfl⟩
  · exact ⟨_, _, _, rfl⟩

@[simp] theorem lintAs_board (b : Bool) (code unit origin detail : Nat) (c : Chip) : (lintAs b code unit origin detail c).board = c.board := by
  obtain ⟨_, _, _, h⟩ := lintAs_shape b code unit origin detail c; rw [h]
@[simp] theorem lint_board (code unit origin detail : Nat) (c : Chip) : (lint code unit origin detail c).board = c.board := lintAs_board ..
@[simp] theorem lintBlock_board (code origin detail : Nat) (c : Chip) : (lintBlock code origin detail c).board = c.board := lintAs_board ..
@[simp] theorem lintAs_clk (b : Bool) (code unit origin detail : Nat) (c : Chip) : (lintAs b code unit origin detail c).clk = c.clk := by
  obtain ⟨_, _, _, h⟩ := lintAs_shape b code unit origin detail c; rw [h]
@[simp] theorem lint_clk (code unit origin detail : Nat) (c : Chip) : (lint code unit origin detail c).clk = c.clk := lintAs_clk ..
@[simp] theorem lintBlock_clk (code origin detail : Nat) (c : Chip) : (lintBlock code origin detail c).clk = c.clk := lintAs_clk ..
@[simp] theorem lintAs_beam (b : Bool) (code unit origin detail : Nat) (c : Chip) : (lintAs b code unit origin detail c).beam = c.beam := by
  obtain ⟨_, _, _, h⟩ := lintAs_shape b code unit origin detail c; rw [h]
@[simp] theorem lint_beam (code unit origin detail : Nat) (c : Chip) : (lint code unit origin detail c).beam = c.beam := lintAs_beam ..
@[simp] theorem lintBlock_beam (code origin detail : Nat) (c : Chip) : (lintBlock code origin detail c).beam = c.beam := lintAs_beam ..
@[simp] theorem lintAs_gov (b : Bool) (code unit origin detail : Nat) (c : Chip) : (lintAs b code unit origin detail c).gov = c.gov := by
  obtain ⟨_, _, _, h⟩ := lintAs_shape b code unit origin detail c; rw [h]
@[simp] theorem lint_gov (code unit origin detail : Nat) (c : Chip) : (lint code unit origin detail c).gov = c.gov := lintAs_gov ..
@[simp] theorem lintBlock_gov (code origin detail : Nat) (c : Chip) : (lintBlock code origin detail c).gov = c.gov := lintAs_gov ..
@[simp] theorem lintAs_pwr (b : Bool) (code unit origin detail : Nat) (c : Chip) : (lintAs b code unit origin detail c).pwr = c.pwr := by
  obtain ⟨_, _, _, h⟩ := lintAs_shape b code unit origin detail c; rw [h]
@[simp] theorem lint_pwr (code unit origin detail : Nat) (c : Chip) : (lint code unit origin detail c).pwr = c.pwr := lintAs_pwr ..
@[simp] theorem lintBlock_pwr (code origin detail : Nat) (c : Chip) : (lintBlock code origin detail c).pwr = c.pwr := lintAs_pwr ..
@[simp] theorem lintAs_units (b : Bool) (code unit origin detail : Nat) (c : Chip) : (lintAs b code unit origin detail c).units = c.units := by
  obtain ⟨_, _, _, h⟩ := lintAs_shape b code unit origin detail c; rw [h]
@[simp] theorem lint_units (code unit origin detail : Nat) (c : Chip) : (lint code unit origin detail c).units = c.units := lintAs_units ..
@[simp] theorem lintBlock_units (code origin detail : Nat) (c : Chip) : (lintBlock code origin detail c).units = c.units := lintAs_units ..
@[simp] theorem lintAs_hmp (b : Bool) (code unit origin detail : Nat) (c : Chip) : (lintAs b code unit origin detail c).hmp = c.hmp := by
  obtain ⟨_, _, _, h⟩ := lintAs_shape b code unit origin detail c; rw [h]
@[simp] theorem lint_hmp (code unit origin detail : Nat) (c : Chip) : (lint code unit origin detail c).hmp = c.hmp := lintAs_hmp ..
@[simp] theorem lintBlock_hmp (code origin detail : Nat) (c : Chip) : (lintBlock code origin detail c).hmp = c.hmp := lintAs_hmp ..
@[simp] theorem lintAs_parts (b : Bool) (code unit origin detail : Nat) (c : Chip) : (lintAs b code unit origin detail c).parts = c.parts := by
  obtain ⟨_, _, _, h⟩ := lintAs_shape b code unit origin detail c; rw [h]
@[simp] theorem lint_parts (code unit origin detail : Nat) (c : Chip) : (lint code unit origin detail c).parts = c.parts := lintAs_parts ..
@[simp] theorem lintBlock_parts (code origin detail : Nat) (c : Chip) : (lintBlock code origin detail c).parts = c.parts := lintAs_parts ..
@[simp] theorem lintAs_own (b : Bool) (code unit origin detail : Nat) (c : Chip) : (lintAs b code unit origin detail c).own = c.own := by
  obtain ⟨_, _, _, h⟩ := lintAs_shape b code unit origin detail c; rw [h]
@[simp] theorem lint_own (code unit origin detail : Nat) (c : Chip) : (lint code unit origin detail c).own = c.own := lintAs_own ..
@[simp] theorem lintBlock_own (code origin detail : Nat) (c : Chip) : (lintBlock code origin detail c).own = c.own := lintAs_own ..
@[simp] theorem lintAs_ownRamp (b : Bool) (code unit origin detail : Nat) (c : Chip) : (lintAs b code unit origin detail c).ownRamp = c.ownRamp := by
  obtain ⟨_, _, _, h⟩ := lintAs_shape b code unit origin detail c; rw [h]
@[simp] theorem lint_ownRamp (code unit origin detail : Nat) (c : Chip) : (lint code unit origin detail c).ownRamp = c.ownRamp := lintAs_ownRamp ..
@[simp] theorem lintBlock_ownRamp (code origin detail : Nat) (c : Chip) : (lintBlock code origin detail c).ownRamp = c.ownRamp := lintAs_ownRamp ..
@[simp] theorem lintAs_focus (b : Bool) (code unit origin detail : Nat) (c : Chip) : (lintAs b code unit origin detail c).focus = c.focus := by
  obtain ⟨_, _, _, h⟩ := lintAs_shape b code unit origin detail c; rw [h]
@[simp] theorem lint_focus (code unit origin detail : Nat) (c : Chip) : (lint code unit origin detail c).focus = c.focus := lintAs_focus ..
@[simp] theorem lintBlock_focus (code origin detail : Nat) (c : Chip) : (lintBlock code origin detail c).focus = c.focus := lintAs_focus ..
@[simp] theorem lintAs_focusPending (b : Bool) (code unit origin detail : Nat) (c : Chip) : (lintAs b code unit origin detail c).focusPending = c.focusPending := by
  obtain ⟨_, _, _, h⟩ := lintAs_shape b code unit origin detail c; rw [h]
@[simp] theorem lint_focusPending (code unit origin detail : Nat) (c : Chip) : (lint code unit origin detail c).focusPending = c.focusPending := lintAs_focusPending ..
@[simp] theorem lintBlock_focusPending (code origin detail : Nat) (c : Chip) : (lintBlock code origin detail c).focusPending = c.focusPending := lintAs_focusPending ..
@[simp] theorem lintAs_seq (b : Bool) (code unit origin detail : Nat) (c : Chip) : (lintAs b code unit origin detail c).seq = c.seq := by
  obtain ⟨_, _, _, h⟩ := lintAs_shape b code unit origin detail c; rw [h]
@[simp] theorem lint_seq (code unit origin detail : Nat) (c : Chip) : (lint code unit origin detail c).seq = c.seq := lintAs_seq ..
@[simp] theorem lintBlock_seq (code origin detail : Nat) (c : Chip) : (lintBlock code origin detail c).seq = c.seq := lintAs_seq ..
@[simp] theorem lintAs_cmds (b : Bool) (code unit origin detail : Nat) (c : Chip) : (lintAs b code unit origin detail c).cmds = c.cmds := by
  obtain ⟨_, _, _, h⟩ := lintAs_shape b code unit origin detail c; rw [h]
@[simp] theorem lint_cmds (code unit origin detail : Nat) (c : Chip) : (lint code unit origin detail c).cmds = c.cmds := lintAs_cmds ..
@[simp] theorem lintBlock_cmds (code origin detail : Nat) (c : Chip) : (lintBlock code origin detail c).cmds = c.cmds := lintAs_cmds ..
@[simp] theorem lintAs_mbx (b : Bool) (code unit origin detail : Nat) (c : Chip) : (lintAs b code unit origin detail c).mbx = c.mbx := by
  obtain ⟨_, _, _, h⟩ := lintAs_shape b code unit origin detail c; rw [h]
@[simp] theorem lint_mbx (code unit origin detail : Nat) (c : Chip) : (lint code unit origin detail c).mbx = c.mbx := lintAs_mbx ..
@[simp] theorem lintBlock_mbx (code origin detail : Nat) (c : Chip) : (lintBlock code origin detail c).mbx = c.mbx := lintAs_mbx ..
@[simp] theorem lintAs_host (b : Bool) (code unit origin detail : Nat) (c : Chip) : (lintAs b code unit origin detail c).host = c.host := by
  obtain ⟨_, _, _, h⟩ := lintAs_shape b code unit origin detail c; rw [h]
@[simp] theorem lint_host (code unit origin detail : Nat) (c : Chip) : (lint code unit origin detail c).host = c.host := lintAs_host ..
@[simp] theorem lintBlock_host (code origin detail : Nat) (c : Chip) : (lintBlock code origin detail c).host = c.host := lintAs_host ..
@[simp] theorem lintAs_usb (b : Bool) (code unit origin detail : Nat) (c : Chip) : (lintAs b code unit origin detail c).usb = c.usb := by
  obtain ⟨_, _, _, h⟩ := lintAs_shape b code unit origin detail c; rw [h]
@[simp] theorem lint_usb (code unit origin detail : Nat) (c : Chip) : (lint code unit origin detail c).usb = c.usb := lintAs_usb ..
@[simp] theorem lintBlock_usb (code origin detail : Nat) (c : Chip) : (lintBlock code origin detail c).usb = c.usb := lintAs_usb ..
@[simp] theorem lintAs_linkRecs (b : Bool) (code unit origin detail : Nat) (c : Chip) : (lintAs b code unit origin detail c).linkRecs = c.linkRecs := by
  obtain ⟨_, _, _, h⟩ := lintAs_shape b code unit origin detail c; rw [h]
@[simp] theorem lint_linkRecs (code unit origin detail : Nat) (c : Chip) : (lint code unit origin detail c).linkRecs = c.linkRecs := lintAs_linkRecs ..
@[simp] theorem lintBlock_linkRecs (code origin detail : Nat) (c : Chip) : (lintBlock code origin detail c).linkRecs = c.linkRecs := lintAs_linkRecs ..
@[simp] theorem lintAs_linkCpls (b : Bool) (code unit origin detail : Nat) (c : Chip) : (lintAs b code unit origin detail c).linkCpls = c.linkCpls := by
  obtain ⟨_, _, _, h⟩ := lintAs_shape b code unit origin detail c; rw [h]
@[simp] theorem lint_linkCpls (code unit origin detail : Nat) (c : Chip) : (lint code unit origin detail c).linkCpls = c.linkCpls := lintAs_linkCpls ..
@[simp] theorem lintBlock_linkCpls (code origin detail : Nat) (c : Chip) : (lintBlock code origin detail c).linkCpls = c.linkCpls := lintAs_linkCpls ..
@[simp] theorem lintAs_linkSlot (b : Bool) (code unit origin detail : Nat) (c : Chip) : (lintAs b code unit origin detail c).linkSlot = c.linkSlot := by
  obtain ⟨_, _, _, h⟩ := lintAs_shape b code unit origin detail c; rw [h]
@[simp] theorem lint_linkSlot (code unit origin detail : Nat) (c : Chip) : (lint code unit origin detail c).linkSlot = c.linkSlot := lintAs_linkSlot ..
@[simp] theorem lintBlock_linkSlot (code origin detail : Nat) (c : Chip) : (lintBlock code origin detail c).linkSlot = c.linkSlot := lintAs_linkSlot ..
@[simp] theorem lintAs_stewDown (b : Bool) (code unit origin detail : Nat) (c : Chip) : (lintAs b code unit origin detail c).stewDown = c.stewDown := by
  obtain ⟨_, _, _, h⟩ := lintAs_shape b code unit origin detail c; rw [h]
@[simp] theorem lint_stewDown (code unit origin detail : Nat) (c : Chip) : (lint code unit origin detail c).stewDown = c.stewDown := lintAs_stewDown ..
@[simp] theorem lintBlock_stewDown (code origin detail : Nat) (c : Chip) : (lintBlock code origin detail c).stewDown = c.stewDown := lintAs_stewDown ..
@[simp] theorem lintAs_consent (b : Bool) (code unit origin detail : Nat) (c : Chip) : (lintAs b code unit origin detail c).consent = c.consent := by
  obtain ⟨_, _, _, h⟩ := lintAs_shape b code unit origin detail c; rw [h]
@[simp] theorem lint_consent (code unit origin detail : Nat) (c : Chip) : (lint code unit origin detail c).consent = c.consent := lintAs_consent ..
@[simp] theorem lintBlock_consent (code origin detail : Nat) (c : Chip) : (lintBlock code origin detail c).consent = c.consent := lintAs_consent ..
@[simp] theorem lintAs_cores (b : Bool) (code unit origin detail : Nat) (c : Chip) : (lintAs b code unit origin detail c).cores = c.cores := by
  obtain ⟨_, _, _, h⟩ := lintAs_shape b code unit origin detail c; rw [h]
@[simp] theorem lint_cores (code unit origin detail : Nat) (c : Chip) : (lint code unit origin detail c).cores = c.cores := lintAs_cores ..
@[simp] theorem lintBlock_cores (code origin detail : Nat) (c : Chip) : (lintBlock code origin detail c).cores = c.cores := lintAs_cores ..
@[simp] theorem lintAs_mem (b : Bool) (code unit origin detail : Nat) (c : Chip) : (lintAs b code unit origin detail c).mem = c.mem := by
  obtain ⟨_, _, _, h⟩ := lintAs_shape b code unit origin detail c; rw [h]
@[simp] theorem lint_mem (code unit origin detail : Nat) (c : Chip) : (lint code unit origin detail c).mem = c.mem := lintAs_mem ..
@[simp] theorem lintBlock_mem (code origin detail : Nat) (c : Chip) : (lintBlock code origin detail c).mem = c.mem := lintAs_mem ..
@[simp] theorem lintAs_diag (b : Bool) (code unit origin detail : Nat) (c : Chip) : (lintAs b code unit origin detail c).diag = c.diag := by
  obtain ⟨_, _, _, h⟩ := lintAs_shape b code unit origin detail c; rw [h]
@[simp] theorem lint_diag (code unit origin detail : Nat) (c : Chip) : (lint code unit origin detail c).diag = c.diag := lintAs_diag ..
@[simp] theorem lintBlock_diag (code origin detail : Nat) (c : Chip) : (lintBlock code origin detail c).diag = c.diag := lintAs_diag ..
@[simp] theorem lintAs_spool (b : Bool) (code unit origin detail : Nat) (c : Chip) : (lintAs b code unit origin detail c).spool = c.spool := by
  obtain ⟨_, _, _, h⟩ := lintAs_shape b code unit origin detail c; rw [h]
@[simp] theorem lint_spool (code unit origin detail : Nat) (c : Chip) : (lint code unit origin detail c).spool = c.spool := lintAs_spool ..
@[simp] theorem lintBlock_spool (code origin detail : Nat) (c : Chip) : (lintBlock code origin detail c).spool = c.spool := lintAs_spool ..
@[simp] theorem lintAs_lyr (b : Bool) (code unit origin detail : Nat) (c : Chip) : (lintAs b code unit origin detail c).lyr = c.lyr := by
  obtain ⟨_, _, _, h⟩ := lintAs_shape b code unit origin detail c; rw [h]
@[simp] theorem lint_lyr (code unit origin detail : Nat) (c : Chip) : (lint code unit origin detail c).lyr = c.lyr := lintAs_lyr ..
@[simp] theorem lintBlock_lyr (code origin detail : Nat) (c : Chip) : (lintBlock code origin detail c).lyr = c.lyr := lintAs_lyr ..
@[simp] theorem lintAs_lyrParts (b : Bool) (code unit origin detail : Nat) (c : Chip) : (lintAs b code unit origin detail c).lyrParts = c.lyrParts := by
  obtain ⟨_, _, _, h⟩ := lintAs_shape b code unit origin detail c; rw [h]
@[simp] theorem lint_lyrParts (code unit origin detail : Nat) (c : Chip) : (lint code unit origin detail c).lyrParts = c.lyrParts := lintAs_lyrParts ..
@[simp] theorem lintBlock_lyrParts (code origin detail : Nat) (c : Chip) : (lintBlock code origin detail c).lyrParts = c.lyrParts := lintAs_lyrParts ..
@[simp] theorem lintAs_cmp (b : Bool) (code unit origin detail : Nat) (c : Chip) : (lintAs b code unit origin detail c).cmp = c.cmp := by
  obtain ⟨_, _, _, h⟩ := lintAs_shape b code unit origin detail c; rw [h]
@[simp] theorem lint_cmp (code unit origin detail : Nat) (c : Chip) : (lint code unit origin detail c).cmp = c.cmp := lintAs_cmp ..
@[simp] theorem lintBlock_cmp (code origin detail : Nat) (c : Chip) : (lintBlock code origin detail c).cmp = c.cmp := lintAs_cmp ..
@[simp] theorem lintAs_cmpNext (b : Bool) (code unit origin detail : Nat) (c : Chip) : (lintAs b code unit origin detail c).cmpNext = c.cmpNext := by
  obtain ⟨_, _, _, h⟩ := lintAs_shape b code unit origin detail c; rw [h]
@[simp] theorem lint_cmpNext (code unit origin detail : Nat) (c : Chip) : (lint code unit origin detail c).cmpNext = c.cmpNext := lintAs_cmpNext ..
@[simp] theorem lintBlock_cmpNext (code origin detail : Nat) (c : Chip) : (lintBlock code origin detail c).cmpNext = c.cmpNext := lintAs_cmpNext ..
@[simp] theorem lintAs_frameQ (b : Bool) (code unit origin detail : Nat) (c : Chip) : (lintAs b code unit origin detail c).frameQ = c.frameQ := by
  obtain ⟨_, _, _, h⟩ := lintAs_shape b code unit origin detail c; rw [h]
@[simp] theorem lint_frameQ (code unit origin detail : Nat) (c : Chip) : (lint code unit origin detail c).frameQ = c.frameQ := lintAs_frameQ ..
@[simp] theorem lintBlock_frameQ (code origin detail : Nat) (c : Chip) : (lintBlock code origin detail c).frameQ = c.frameQ := lintAs_frameQ ..
@[simp] theorem lintAs_cmpTaken (b : Bool) (code unit origin detail : Nat) (c : Chip) : (lintAs b code unit origin detail c).cmpTaken = c.cmpTaken := by
  obtain ⟨_, _, _, h⟩ := lintAs_shape b code unit origin detail c; rw [h]
@[simp] theorem lint_cmpTaken (code unit origin detail : Nat) (c : Chip) : (lint code unit origin detail c).cmpTaken = c.cmpTaken := lintAs_cmpTaken ..
@[simp] theorem lintBlock_cmpTaken (code origin detail : Nat) (c : Chip) : (lintBlock code origin detail c).cmpTaken = c.cmpTaken := lintAs_cmpTaken ..
@[simp] theorem lintAs_scan (b : Bool) (code unit origin detail : Nat) (c : Chip) : (lintAs b code unit origin detail c).scan = c.scan := by
  obtain ⟨_, _, _, h⟩ := lintAs_shape b code unit origin detail c; rw [h]
@[simp] theorem lint_scan (code unit origin detail : Nat) (c : Chip) : (lint code unit origin detail c).scan = c.scan := lintAs_scan ..
@[simp] theorem lintBlock_scan (code origin detail : Nat) (c : Chip) : (lintBlock code origin detail c).scan = c.scan := lintAs_scan ..
@[simp] theorem lintAs_snd (b : Bool) (code unit origin detail : Nat) (c : Chip) : (lintAs b code unit origin detail c).snd = c.snd := by
  obtain ⟨_, _, _, h⟩ := lintAs_shape b code unit origin detail c; rw [h]
@[simp] theorem lint_snd (code unit origin detail : Nat) (c : Chip) : (lint code unit origin detail c).snd = c.snd := lintAs_snd ..
@[simp] theorem lintBlock_snd (code origin detail : Nat) (c : Chip) : (lintBlock code origin detail c).snd = c.snd := lintAs_snd ..
@[simp] theorem lintAs_inp (b : Bool) (code unit origin detail : Nat) (c : Chip) : (lintAs b code unit origin detail c).inp = c.inp := by
  obtain ⟨_, _, _, h⟩ := lintAs_shape b code unit origin detail c; rw [h]
@[simp] theorem lint_inp (code unit origin detail : Nat) (c : Chip) : (lint code unit origin detail c).inp = c.inp := lintAs_inp ..
@[simp] theorem lintBlock_inp (code origin detail : Nat) (c : Chip) : (lintBlock code origin detail c).inp = c.inp := lintAs_inp ..
@[simp] theorem lintAs_link (b : Bool) (code unit origin detail : Nat) (c : Chip) : (lintAs b code unit origin detail c).link = c.link := by
  obtain ⟨_, _, _, h⟩ := lintAs_shape b code unit origin detail c; rw [h]
@[simp] theorem lint_link (code unit origin detail : Nat) (c : Chip) : (lint code unit origin detail c).link = c.link := lintAs_link ..
@[simp] theorem lintBlock_link (code origin detail : Nat) (c : Chip) : (lintBlock code origin detail c).link = c.link := lintAs_link ..
@[simp] theorem lintAs_vlt (b : Bool) (code unit origin detail : Nat) (c : Chip) : (lintAs b code unit origin detail c).vlt = c.vlt := by
  obtain ⟨_, _, _, h⟩ := lintAs_shape b code unit origin detail c; rw [h]
@[simp] theorem lint_vlt (code unit origin detail : Nat) (c : Chip) : (lint code unit origin detail c).vlt = c.vlt := lintAs_vlt ..
@[simp] theorem lintBlock_vlt (code origin detail : Nat) (c : Chip) : (lintBlock code origin detail c).vlt = c.vlt := lintAs_vlt ..
@[simp] theorem lintAs_svc (b : Bool) (code unit origin detail : Nat) (c : Chip) : (lintAs b code unit origin detail c).svc = c.svc := by
  obtain ⟨_, _, _, h⟩ := lintAs_shape b code unit origin detail c; rw [h]
@[simp] theorem lint_svc (code unit origin detail : Nat) (c : Chip) : (lint code unit origin detail c).svc = c.svc := lintAs_svc ..
@[simp] theorem lintBlock_svc (code origin detail : Nat) (c : Chip) : (lintBlock code origin detail c).svc = c.svc := lintAs_svc ..
@[simp] theorem lintAs_fuses (b : Bool) (code unit origin detail : Nat) (c : Chip) : (lintAs b code unit origin detail c).fuses = c.fuses := by
  obtain ⟨_, _, _, h⟩ := lintAs_shape b code unit origin detail c; rw [h]
@[simp] theorem lint_fuses (code unit origin detail : Nat) (c : Chip) : (lint code unit origin detail c).fuses = c.fuses := lintAs_fuses ..
@[simp] theorem lintBlock_fuses (code origin detail : Nat) (c : Chip) : (lintBlock code origin detail c).fuses = c.fuses := lintAs_fuses ..
@[simp] theorem lintAs_burns (b : Bool) (code unit origin detail : Nat) (c : Chip) : (lintAs b code unit origin detail c).burns = c.burns := by
  obtain ⟨_, _, _, h⟩ := lintAs_shape b code unit origin detail c; rw [h]
@[simp] theorem lint_burns (code unit origin detail : Nat) (c : Chip) : (lint code unit origin detail c).burns = c.burns := lintAs_burns ..
@[simp] theorem lintBlock_burns (code origin detail : Nat) (c : Chip) : (lintBlock code origin detail c).burns = c.burns := lintAs_burns ..
@[simp] theorem lintAs_lastCpl (b : Bool) (code unit origin detail : Nat) (c : Chip) : (lintAs b code unit origin detail c).lastCpl = c.lastCpl := by
  obtain ⟨_, _, _, h⟩ := lintAs_shape b code unit origin detail c; rw [h]
@[simp] theorem lint_lastCpl (code unit origin detail : Nat) (c : Chip) : (lint code unit origin detail c).lastCpl = c.lastCpl := lintAs_lastCpl ..
@[simp] theorem lintBlock_lastCpl (code origin detail : Nat) (c : Chip) : (lintBlock code origin detail c).lastCpl = c.lastCpl := lintAs_lastCpl ..
@[simp] theorem lintAs_memReply (b : Bool) (code unit origin detail : Nat) (c : Chip) : (lintAs b code unit origin detail c).memReply = c.memReply := by
  obtain ⟨_, _, _, h⟩ := lintAs_shape b code unit origin detail c; rw [h]
@[simp] theorem lint_memReply (code unit origin detail : Nat) (c : Chip) : (lint code unit origin detail c).memReply = c.memReply := lintAs_memReply ..
@[simp] theorem lintBlock_memReply (code origin detail : Nat) (c : Chip) : (lintBlock code origin detail c).memReply = c.memReply := lintAs_memReply ..

end Sys2Proof.Machine
end

