-- ==== Sys2Proof/Laws/Mailbox.lean ====
section
/-! SUPPORT. What the shared operations of the mailbox do: serving a row, and completing a command. -/

namespace Sys2Proof.Machine

/-- A row that runs its command answers what its body makes of the chip. -/
theorem serve_of_runs {op : Nat} {s : State} {r : Req} {m : Cmd} (h : Runs op s r m) (body : Cmd → Chip → Reply × Chip) :
    onChip (serve op r body) s = .next (s.answered m (body m s.chip).1 (body m s.chip).2) := by
  obtain ⟨ha, ht, hd, hp, ho⟩ := h
  rw [onChip_eq (asleep_run ha)]
  cases hrow : Config.opRow op with
  | none => simp [hrow] at ho
  | some row =>
    have hph : s.chip.pwr.phase = .run := ha
    simp [hrow] at ho
    simp [serve, ht, hrow, hd, ho, hph, State.answered]
    simp at hp
    simp [hp]

/-- A mailbox row whose body, where pre holds, answers rep and makes eff. -/
theorem answers_of {op : Nat} {i : Req → Instr} {pre : Chip → Cmd → Prop} {rep : Chip → Cmd → Reply} {eff : Chip → Cmd → Chip}
    (body : Cmd → Chip → Reply × Chip) (h : ∀ r s, exec (i r) s = onChip (serve op r body) s)
    (hb : ∀ c m, awake c → pre c m → body m c = (rep c m, eff c m)) : Answers op i pre rep eff := by
  intro s r m hr hp
  rw [h, serve_of_runs hr, hb _ _ hr.1 hp]

/-- The same for a row that is served under a condition. -/
theorem answers_if {op : Nat} {i : Req → Instr} {pre : Chip → Cmd → Prop} {rep : Chip → Cmd → Reply} {eff : Chip → Cmd → Chip}
    (g : Chip → Bool) (body : Cmd → Chip → Reply × Chip) (h : ∀ r s, exec (i r) s = onChip (fun c => if g c then serve op r body c else c) s)
    (hg : ∀ c m, pre c m → g c = true) (hb : ∀ c m, awake c → pre c m → body m c = (rep c m, eff c m)) : Answers op i pre rep eff := by
  intro s r m hr hp
  rw [h, onChip_eq (asleep_run hr.1), hg _ _ hp, if_pos rfl, ← onChip_eq (asleep_run hr.1), serve_of_runs hr, hb _ _ hr.1 hp]

/-- What serving makes of a chip on which the command runs. -/
theorem serve_chip {op : Nat} {s : State} {r : Req} {m : Cmd} (h : Runs op s r m) (body : Cmd → Chip → Reply × Chip) :
    serve op r body s.chip = answer m (body m s.chip) := by
  obtain ⟨ha, ht, hd, hp, ho⟩ := h
  cases hrow : Config.opRow op with
  | none => simp [hrow] at ho
  | some row =>
    have hph : s.chip.pwr.phase = .run := ha
    simp [hrow] at ho
    simp [serve, ht, hrow, hd, ho, hph]
    simp at hp
    simp [hp]

/-- A mailbox row of the link. -/
theorem answersLinked_of {op : Nat} {i : Req → Instr} {pre : Chip → Cmd → Prop} {rep : Reply} {eff : Chip → Cmd → Chip}
    (body : Cmd → Chip → Reply × Chip) (h : ∀ r s, exec (i r) s = onLink (serve op r body) s)
    (hb : ∀ c m, awake c → pre c m → body m c = (rep, eff c m)) : AnswersLinked op i pre rep eff := by
  intro s r m hr hp
  have ha : awake s.chip := hr.1
  rw [h, onLink, onChip_eq (asleep_run ha)]
  show Host.Outcome.next (s.settle (linkFlush (serve op r body (linkQuiet s.chip)))) = _
  have := serve_chip hr body
  simp only at this
  rw [this, hb _ _ (show awake (linkQuiet s.chip) from ha) hp]

/-- No check is left: the effect. -/
@[simp] theorem checked_nil (eff : Chip → Reply × Chip) (c : Chip) : checked [] eff c = eff c := rfl

/-- The first failing check answers; a check that passes leaves the rest. -/
theorem checked_cons (b : Bool) (r : Reply) (l : List (Bool × Reply)) (eff : Chip → Reply × Chip) (c : Chip) :
    checked ((b, r) :: l) eff c = if b then (r, c) else checked l eff c := by
  cases b <;> rfl

/-- A check that passes. -/
@[simp] theorem checked_false (r : Reply) (l : List (Bool × Reply)) (eff : Chip → Reply × Chip) (c : Chip) :
    checked ((false, r) :: l) eff c = checked l eff c := rfl

/-- A check that fails. -/
@[simp] theorem checked_true (r : Reply) (l : List (Bool × Reply)) (eff : Chip → Reply × Chip) (c : Chip) :
    checked ((true, r) :: l) eff c = (r, c) := rfl

end Sys2Proof.Machine
end

