-- ==== Sys2Proof/Laws/Memory.lean ====
section
/-! SUPPORT. Every memory operation keeps the canonical form of stored bytes: addresses strictly rising, no entry equal to what an
unlisted address reads as. -/

namespace Sys2Proof.Machine

theorem srising_mono {α : Type} {a b : Nat} (h : a ≤ b) : ∀ {l : List (Nat × α)}, srising b l = true → srising a l = true
  | [], _ => rfl
  | (k, _) :: _, hl => by
    simp only [srising, Bool.and_eq_true, decide_eq_true_eq] at hl ⊢
    exact ⟨by omega, hl.2⟩

theorem ssorted_of_srising {α : Type} {b : Nat} : ∀ {l : List (Nat × α)}, srising b l = true → ssorted l = true
  | [], _ => rfl
  | (_, _) :: _, hl => (by simpa [srising, ssorted] using hl : _ ∧ _).2

theorem srising_filter {α : Type} (p : Nat × α → Bool) : ∀ (l : List (Nat × α)) (b : Nat), srising b l = true → srising b (l.filter p) = true
  | [], _, _ => rfl
  | (k, v) :: t, b, hl => by
    simp only [srising, Bool.and_eq_true, decide_eq_true_eq] at hl
    rw [List.filter_cons]
    split
    · simp only [srising, Bool.and_eq_true, decide_eq_true_eq]
      exact ⟨hl.1, srising_filter p t k hl.2⟩
    · exact srising_mono (by omega) (srising_filter p t k hl.2)

theorem srising_sdel {α : Type} : ∀ (l : List (Nat × α)) (b a : Nat), srising b l = true → srising b (sdel l a) = true
  | [], _, _, _ => rfl
  | (k, v) :: t, b, a, hl => by
    simp only [srising, Bool.and_eq_true, decide_eq_true_eq] at hl
    simp only [sdel]
    split
    · exact srising_mono (by omega) hl.2
    · split
      · simpa [srising] using hl
      · simp only [srising, Bool.and_eq_true, decide_eq_true_eq]
        exact ⟨hl.1, srising_sdel t k a hl.2⟩

theorem srising_sins {α : Type} (x : α) : ∀ (l : List (Nat × α)) (b a : Nat), b < a → srising b l = true → srising b (sins l a x) = true
  | [], _, _, h, _ => by simpa [sins, srising] using h
  | (k, v) :: t, b, a, h, hl => by
    simp only [srising, Bool.and_eq_true, decide_eq_true_eq] at hl
    simp only [sins]
    split
    · next e => subst e; simpa [srising] using ⟨h, hl.2⟩
    · split
      · next e => simp only [srising, Bool.and_eq_true, decide_eq_true_eq]; exact ⟨h, e, hl.2⟩
      · simp only [srising, Bool.and_eq_true, decide_eq_true_eq]
        exact ⟨hl.1, srising_sins x t k a (by omega) hl.2⟩

theorem sdel_mem {α : Type} {e : Nat × α} : ∀ (l : List (Nat × α)) (a : Nat), e ∈ sdel l a → e ∈ l
  | [], _, h => by simp [sdel] at h
  | (k, v) :: t, a, h => by
    simp only [sdel] at h
    split at h
    · exact List.mem_cons_of_mem _ h
    · split at h
      · exact h
      · rcases List.mem_cons.1 h with h | h
        · exact List.mem_cons.2 (.inl h)
        · exact List.mem_cons_of_mem _ (sdel_mem t a h)

theorem sins_mem {α : Type} {e : Nat × α} {x : α} : ∀ (l : List (Nat × α)) (a : Nat), e ∈ sins l a x → e = (a, x) ∨ e ∈ l
  | [], _, h => .inl (by simpa [sins] using h)
  | (k, v) :: t, a, h => by
    simp only [sins] at h
    split at h
    · rcases List.mem_cons.1 h with h | h
      · exact .inl h
      · exact .inr (List.mem_cons_of_mem _ h)
    · split at h
      · rcases List.mem_cons.1 h with h | h
        · exact .inl h
        · exact .inr h
      · rcases List.mem_cons.1 h with h | h
        · exact .inr (List.mem_cons.2 (.inl h))
        · exact (sins_mem t a h).imp id (List.mem_cons_of_mem _)

theorem ssorted_sdel {α : Type} : ∀ (l : List (Nat × α)) (a : Nat), ssorted l = true → ssorted (sdel l a) = true
  | [], _, _ => rfl
  | (k, v) :: t, a, hl => by
    simp only [ssorted] at hl
    simp only [sdel]
    split
    · exact ssorted_of_srising hl
    · split
      · exact hl
      · exact srising_sdel t k a hl

theorem ssorted_sins {α : Type} (x : α) : ∀ (l : List (Nat × α)) (a : Nat), ssorted l = true → ssorted (sins l a x) = true
  | [], _, _ => rfl
  | (k, v) :: t, a, hl => by
    simp only [ssorted] at hl
    simp only [sins]
    split
    · next e => subst e; exact hl
    · split
      · next e => simpa [ssorted, srising] using ⟨e, hl⟩
      · exact srising_sins x t k a (by omega) hl

/-- Giving a key a value keeps the canonical form. -/
theorem sput_swf {α : Type} [DecidableEq α] (d : Nat → α) (l : List (Nat × α)) (a : Nat) (x : α) (h : swf d l = true) :
    swf d (sput (d a) l a x) = true := by
  simp only [swf, Bool.and_eq_true, List.all_eq_true, decide_eq_true_eq] at h ⊢
  unfold sput
  split
  · exact ⟨ssorted_sdel l a h.1, fun e he => h.2 e (sdel_mem l a he)⟩
  · next hx =>
    refine ⟨ssorted_sins x l a h.1, fun e he => ?_⟩
    rcases sins_mem l a he with rfl | he
    · exact hx
    · exact h.2 e he

/-- Leaving out entries keeps the canonical form. -/
theorem filter_swf {α : Type} [DecidableEq α] (d : Nat → α) (p : Nat × α → Bool) (l : List (Nat × α)) (h : swf d l = true) :
    swf d (l.filter p) = true := by
  simp only [swf, Bool.and_eq_true, List.all_eq_true, decide_eq_true_eq] at h ⊢
  refine ⟨?_, fun e he => h.2 e (List.mem_filter.1 he).1⟩
  cases l with
  | nil => rfl
  | cons x t =>
    obtain ⟨k, v⟩ := x
    rw [List.filter_cons]
    split
    · exact srising_filter p t k h.1
    · exact ssorted_of_srising (srising_filter p t k h.1)

theorem sclear_swf {α : Type} [DecidableEq α] (d : Nat → α) (l : List (Nat × α)) (lo hi : Nat) (h : swf d l = true) :
    swf d (sclear l lo hi) = true := filter_swf d _ l h

/-- A stored byte keeps the canonical form (R413). -/
theorem Mem.setByte_wf (m : Mem) (pa : Nat) (b : Byte) (h : m.wf = true) : (m.setByte pa b).wf = true := by
  simp only [Mem.wf, Mem.setByte, Bool.and_eq_true] at h ⊢
  exact ⟨sput_swf unlisted m.cells pa b h.1, h.2⟩

/-- Stored bytes keep the canonical form. -/
theorem Mem.setBytes_wf : ∀ (bs : List Byte) (m : Mem) (pa : Nat), m.wf = true → (m.setBytes pa bs).wf = true
  | [], _, _, h => h
  | b :: bs, m, pa, h => Mem.setBytes_wf bs (m.setByte pa b) (pa + 1) (Mem.setByte_wf m pa b h)

/-- Bytes stored in the steward's private SRAM keep the canonical form. -/
theorem Mem.setStewBytes_wf : ∀ (bs : List Byte) (m : Mem) (a : Nat), m.wf = true → (m.setStewBytes a bs).wf = true
  | [], _, _, h => h
  | b :: bs, m, a, h => by
    refine Mem.setStewBytes_wf bs _ (a + 1) ?_
    simp only [Mem.wf, Bool.and_eq_true] at h ⊢
    exact ⟨h.1, sput_swf (fun _ => 0) m.stewCells a b h.2⟩

/-- A codeword of external memory keeps the canonical form. -/
theorem Mem.setSymbols_wf (m : Mem) (cw : Nat) (sym : List Nat) (h : m.wf = true) : (m.setSymbols cw sym).wf = true :=
  Mem.setBytes_wf _ m _ h

/-- A codeword stored with its own check symbols keeps the canonical form. -/
theorem Mem.setCodeword_wf (m : Mem) (cw : Nat) (d : List Nat) (h : m.wf = true) : (m.setCodeword cw d).wf = true :=
  Mem.setBytes_wf _ m _ h

/-- A frame that is scrubbed keeps the canonical form. -/
theorem scrubFrame_wf (f : Nat) (c : Chip) (h : c.mem.wf = true) : (scrubFrame f c).mem.wf = true := by
  simp only [Mem.wf, Bool.and_eq_true] at h ⊢
  exact ⟨filter_swf unlisted _ c.mem.cells h.1, h.2⟩

/-- What a cold start keeps of memory is in the canonical form. -/
theorem coldMem_wf (c : Chip) (h : c.mem.wf = true) : (coldMem c).wf = true := by
  simp only [Mem.wf, Bool.and_eq_true] at h ⊢
  refine ⟨filter_swf unlisted _ c.mem.cells h.1, ?_⟩
  unfold coldMem
  dsimp only
  split
  · exact filter_swf (fun _ => 0) _ c.mem.stewCells h.2
  · rfl

/-- An erased sector of flash keeps the canonical form (R453). -/
theorem eraseSector_wf (pa : Nat) (c : Chip) (h : c.mem.wf = true) : (eraseSector pa c).mem.wf = true := by
  simp only [Mem.wf, Bool.and_eq_true, eraseSector, modMem] at h ⊢
  exact ⟨sclear_swf unlisted c.mem.cells _ _ h.1, h.2⟩

/-- Memory after reset is in the canonical form. -/
theorem reset_memory_wf : State.reset.chip.mem.wf = true := by decide +kernel

end Sys2Proof.Machine
end

