-- ==== Sys2Proof/Laws/Windows.lean ====
section
/-! SUPPORT. What an access of a core to its windows does: which block a window offset belongs to, and rows that read or write one register. -/

namespace Sys2Proof.Machine

/-- A row that makes something of a chip in phase `run`. -/
theorem makes_of {i : Instr} {pre : Chip → Prop} {eff : Chip → Chip} (f : Chip → Chip) (h : ∀ s, exec i s = onChip f s)
    (hb : ∀ c, awake c → pre c → f c = eff c) : Makes i pre eff := by
  intro s ha hp
  rw [h, onChip_eq (asleep_run ha), hb _ ha hp]

/-- A row that is taken in whatever phase. -/
theorem makesIn_of {i : Instr} {pre : Chip → Prop} {eff : Chip → Chip} (f : Chip → Chip) (h : ∀ s, exec i s = onAlways f s)
    (hb : ∀ c, pre c → f c = eff c) : MakesIn i pre eff := by
  intro s hp
  rw [h, onAlways_eq, hb _ hp]

/-- A row that is taken in phase `run` but not before a resume has released the chip. -/
theorem makesRun_of {i : Instr} {pre : Chip → Prop} {eff : Chip → Chip} (f : Chip → Chip) (h : ∀ s, exec i s = onRun f s)
    (hb : ∀ c, awake c → pre c → f c = eff c) : Makes i pre eff := by
  intro s ha hp
  rw [h, onRun_eq ha, hb _ ha hp]

/-- A row of the link. -/
theorem makesLinked_of {i : Instr} {pre : Chip → Prop} {eff : Chip → Chip} (f : Chip → Chip) (h : ∀ s, exec i s = onLink f s)
    (hb : ∀ c, awake c → pre c → f c = eff c) : MakesLinked i pre eff := by
  intro s ha hp
  show exec i s = Host.Outcome.next (s.settle (linkFlush (eff (linkQuiet s.chip))))
  rw [← hb _ (by exact ha) hp, h, onLink, onChip_eq (asleep_run ha)]
  rfl

/-- A write that reaches its register is a write of the window. -/
theorem coreWrite_reg {c : Chip} {k off v : Nat} (h : Reaches c k .w off) (ho : off < 65536) (hv : v < 65536) :
    coreWrite k off v c = winWrite k (corePart c k) off v c := by
  obtain ⟨h1, h2, h3, _⟩ := h
  simp only [coreWrite, h1, h2, coreStore, h3, Bool.not_true, Bool.false_eq_true, if_false, if_true]
  have : (0xFF0000 + off) % 65536 = off := by omega
  simp [this, Nat.mod_eq_of_lt hv]

/-- A row that writes a register. -/
theorem writes_of {i : Instr} {k : CoreId} {off v : Nat} {pre : Nat → Chip → Prop} {eff : Nat → Chip → Chip} (ho : off < 65536) (hv : v < 65536)
    (h : ∀ s, exec i s = onChip (coreWrite k off v) s)
    (hb : ∀ c, winOpen c (corePart c k) off = true → pre (corePart c k) c → winWrite k (corePart c k) off v c = eff (corePart c k) c) :
    WritesReg i k off pre eff := by
  intro s hr hp
  rw [h, onChip_eq (asleep_run (awake_of_canRun hr.1)), coreWrite_reg hr ho hv, hb _ hr.2.2.2 hp]

/-- A row that reads a register. -/
theorem reads_of {i : Instr} {k : CoreId} {off : Nat} {val : Chip → Nat} {eff : Chip → Chip} (ho : off < 65536)
    (h : ∀ s, exec i s = onChip (coreRead k off) s)
    (hb : ∀ c, winOpen c (corePart c k) off = true → winRead k (corePart c k) off c = (val c, eff c)) : ReadsReg i k off val eff := by
  intro s hr
  obtain ⟨h1, h2, h3, h4⟩ := hr
  rw [h, onChip_eq (asleep_run (awake_of_canRun h1))]
  have : (0xFF0000 + off) % 65536 = off := by omega
  simp [coreRead, h1, h2, coreLoad, h3, this, hb _ h4]

/-- Window page 0. -/
theorem winWrite_hmp {k p off v : Nat} {c : Chip} (h : winOpen c p off = true) (hn : off / 4096 = 0) :
    winWrite k p off v c = hmpWrite k p off v c := by
  simp [winWrite, h, hn]

/-- Window page 0. -/
theorem winRead_hmp {k p off : Nat} {c : Chip} (h : winOpen c p off = true) (hn : off / 4096 = 0) :
    winRead k p off c = (hmpRead k p off c, c) := by
  simp [winRead, h, hn]

/-- Window page 1. -/
theorem winWrite_ctl {k p off v : Nat} {c : Chip} (h : winOpen c p off = true) (hn : off / 4096 = 1) :
    winWrite k p off v c = ctlWrite k (off - 0x1000) v c := by
  simp [winWrite, h, hn]

/-- Window page 1. -/
theorem winRead_ctl {k p off : Nat} {c : Chip} (h : winOpen c p off = true) (hn : off / 4096 = 1) :
    winRead k p off c = (ctlRead k (off - 0x1000) c, c) := by
  simp [winRead, h, hn]

/-- Window page 2. -/
theorem winWrite_spool {k p off v : Nat} {c : Chip} (h : winOpen c p off = true) (hn : off / 4096 = 2) :
    winWrite k p off v c = spoolWrite p (off - 0x2000) v c := by
  simp [winWrite, h, hn]

/-- Window page 2. -/
theorem winRead_spool {k p off : Nat} {c : Chip} (h : winOpen c p off = true) (hn : off / 4096 = 2) :
    winRead k p off c = (spoolRead p (off - 0x2000) c, c) := by
  simp [winRead, h, hn]

/-- Window page 3. -/
theorem winWrite_mbx {k p off v : Nat} {c : Chip} (h : winOpen c p off = true) (hn : off / 4096 = 3) :
    winWrite k p off v c = mbxWrite p (off - 0x3000) v c := by
  simp [winWrite, h, hn]

/-- Window page 3. -/
theorem winRead_mbx {k p off : Nat} {c : Chip} (h : winOpen c p off = true) (hn : off / 4096 = 3) :
    winRead k p off c = (mbxRead p (off - 0x3000) c, c) := by
  simp [winRead, h, hn]

/-- Window page 4. -/
theorem winWrite_lyr {k p off v : Nat} {c : Chip} (h : winOpen c p off = true) (hn : off / 4096 = 4) :
    winWrite k p off v c = lyrWrite p (off - 0x4000) v c := by
  simp [winWrite, h, hn]

/-- Window page 4. -/
theorem winRead_lyr {k p off : Nat} {c : Chip} (h : winOpen c p off = true) (hn : off / 4096 = 4) :
    winRead k p off c = (lyrRead p (off - 0x4000) c, c) := by
  simp [winRead, h, hn]

/-- Window page 5. -/
theorem winWrite_pal {k p off v : Nat} {c : Chip} (h : winOpen c p off = true) (hn : off / 4096 = 5) :
    winWrite k p off v c = lyrWrite p (off - 0x4000) v c := by
  simp [winWrite, h, hn]

/-- Window page 5. -/
theorem winRead_pal {k p off : Nat} {c : Chip} (h : winOpen c p off = true) (hn : off / 4096 = 5) :
    winRead k p off c = (lyrRead p (off - 0x4000) c, c) := by
  simp [winRead, h, hn]

/-- Window page 6. -/
theorem winWrite_stitch {k p off v : Nat} {c : Chip} (h : winOpen c p off = true) (hn : off / 4096 = 6) :
    winWrite k p off v c = stitchWrite p (off - 0x6000) v c := by
  simp [winWrite, h, hn]

/-- Window page 6. -/
theorem winRead_stitch {k p off : Nat} {c : Chip} (h : winOpen c p off = true) (hn : off / 4096 = 6) :
    winRead k p off c = (stitchRead p (off - 0x6000) c, c) := by
  simp [winRead, h, hn]

/-- Window page 7. -/
theorem winWrite_sound {k p off v : Nat} {c : Chip} (h : winOpen c p off = true) (hn : off / 4096 = 7) :
    winWrite k p off v c = soundWrite p off v c := by
  simp [winWrite, h, hn]

/-- Window page 7. -/
theorem winRead_sound {k p off : Nat} {c : Chip} (h : winOpen c p off = true) (hn : off / 4096 = 7) :
    winRead k p off c = soundRead k p off c := by
  simp [winRead, h, hn]

/-- Window page 9. -/
theorem winWrite_input {k p off v : Nat} {c : Chip} (h : winOpen c p off = true) (hn : off / 4096 = 9) :
    winWrite k p off v c = inputWrite p off v c := by
  simp [winWrite, h, hn]

/-- Window page 9. -/
theorem winRead_input {k p off : Nat} {c : Chip} (h : winOpen c p off = true) (hn : off / 4096 = 9) :
    winRead k p off c = inputRead p off c := by
  simp [winRead, h, hn]

/-- Window page 10. -/
theorem winWrite_link {k p off v : Nat} {c : Chip} (h : winOpen c p off = true) (hn : off / 4096 = 10) :
    winWrite k p off v c = linkWrite p (off - 0xA000) v c := by
  simp [winWrite, h, hn]

/-- Window page 10. -/
theorem winRead_link {k p off : Nat} {c : Chip} (h : winOpen c p off = true) (hn : off / 4096 = 10) :
    winRead k p off c = linkRead p (off - 0xA000) c := by
  simp [winRead, h, hn]

/-- Window page 11. -/
theorem winWrite_diag {k p off v : Nat} {c : Chip} (h : winOpen c p off = true) (hn : off / 4096 = 11) :
    winWrite k p off v c = diagWrite p (off - 0xB000) v c := by
  simp [winWrite, h, hn]

/-- Window page 11. -/
theorem winRead_diag {k p off : Nat} {c : Chip} (h : winOpen c p off = true) (hn : off / 4096 = 11) :
    winRead k p off c = (diagRead p (off - 0xB000) c, c) := by
  simp [winRead, h, hn]

/-- Window page 12. -/
theorem winRead_beam {k p off : Nat} {c : Chip} (h : winOpen c p off = true) (hn : off / 4096 = 12) :
    winRead k p off c = beamRead k p (off - 0xC000) c := by
  simp [winRead, h, hn]

end Sys2Proof.Machine
end

