-- ==== Sys2Proof/Tests/Slice0.lean ====
section
/-! SUPPORT. Tests of the model: ill-formed commands, the worked examples of the spec, and for every statement that has hypotheses a state and
operands that meet them. Each test says in its docstring where its expected value comes from. -/

namespace Sys2Proof.Tests

set_option Elab.async false

open Sys2Proof Sys2Proof.Machine

/-! ### States the tests start from -/

/-- The chip after reset. -/
def c0 : Chip := State.reset.chip

/-- A state with that chip and an empty queue. -/
def st (c : Chip) : State := { chip := c }

/-- Parameters of an opcode, filled up with zero bytes. -/
def par (op : Nat) (l : List Nat) : List Byte :=
  ((l.map (BitVec.ofNat 8)) ++ List.replicate 64 0).take (((Config.opRow op).map fun row : Config.OpRow => row.plen).getD 0)

/-- An accepted command of an origin. -/
def took (op : Nat) (o : Origin) (l : List Nat) : Cmd := { handle := 0x203F2105, org := o, op := op, params := par op l }

/-- Guest 1 runs core 0, in host mode, with frame 0 of user SRAM as its bank 0 and every right. -/
def cg : Chip :=
  let c := modPart 1 (fun _ =>
    { st := .running, gen := 1, rights := BitVec.allOnes 7, hasRun := true
      map := [(0, { frame := 0, v := true, r := true, w := true, x := true }), (0xFF, MapEntry.ownWindow)] }) c0
  modCore 0 (fun x => { x with run := .running }) (setOwner .core 0 1 c)

/-- The same guest with the last unit of every other kind. -/
def cgw : Chip :=
  { cg with own := { cores := cg.own.cores, layers := vset cg.own.layers 7 1, sprites := vset cg.own.sprites 31 1, voices := vset cg.own.voices 23 1,
                     tones := vset cg.own.tones 7 1, inputs := vset cg.own.inputs 4 1, spool := vset cg.own.spool 7 1, links := vset cg.own.links 31 1 } }

/-- The SCN.MODE of Example 12-1, and its mode. -/
def mode12 : List Nat :=
  [0x80, 0, 0xE0, 0x01, 0x13, 0x02, 0xE2, 0x01, 41, 10, 0x10, 0x01, 0x20, 0x01, 0x12, 0x01, 0x80, 0x02, 0x8C, 0x00, 0, 0, 0xE8, 0x03]
def md12 : Mode := { modeOf (took 0x0C10 .host mode12) with startHeld := false }

/-- Guest 1 with that display at dot 0 of a line. -/
def shows (line : Nat) (c : Chip) : Chip :=
  { c with
    scan := { c.scan with mode := some md12, pclkOut := md12.pclk }
    beam := { c.beam with frame := 0x100, hold := false, line := line, htotal := 531, vtotal := 288, hactive := 480, vactive := 272, pclk := md12.pclk } }

/-! ### When the hypotheses of a statement are met -/

def AnswersMet (op : Nat) (_ : Req → Instr) (pre : Chip → Cmd → Prop) : Prop := ∃ (s : State) (r : Req) (m : Cmd), Runs op s r m ∧ pre s.chip m
def AnswersLinkedMet (op : Nat) (_ : Req → Instr) (pre : Chip → Cmd → Prop) : Prop :=
  ∃ (s : State) (r : Req) (m : Cmd), Runs op { s with chip := linkQuiet s.chip } r m ∧ pre (linkQuiet s.chip) m
def MakesMet (_ : Instr) (pre : Chip → Prop) : Prop := ∃ c, awake c ∧ pre c
def MakesInMet (_ : Instr) (pre : Chip → Prop) : Prop := ∃ c, pre c
def MakesLinkedMet (_ : Instr) (pre : Chip → Prop) : Prop := ∃ c, awake c ∧ pre (linkQuiet c)
def WritesRegMet (_ : Instr) (k : CoreId) (off : Nat) (pre : Nat → Chip → Prop) : Prop := ∃ c, Reaches c k .w off ∧ pre (corePart c k) c
def ReadsRegMet (_ : Instr) (k : CoreId) (off : Nat) : Prop := ∃ c, Reaches c k .r off
def StepsMet (_ : Instr) (k : CoreId) (n : Nat) : Prop := ∃ c, Executes c k n
def DoesMet (_ : Instr) (k : CoreId) (n : Nat) (pre : Chip → Prop) : Prop := ∃ c, Executes c k n ∧ pre (noLoad k c)
def FaultsMet (_ : Instr) (k : CoreId) (n : Nat) (pre : Chip → Prop) : Prop := ∃ c, Executes c k n ∧ pre (noLoad k c)
def DoesLandedMet (_ : Instr) (k : CoreId) (n : Nat) (pre : Chip → Prop) : Prop :=
  ∃ c, canRun c k = true ∧ fetchFault (landNow k c) k n = none ∧ pre (noLoad k (landNow k c))
def DoesKeepRfMet (i : Instr) (k : CoreId) (n : Nat) (pre : Chip → Prop) : Prop := DoesLandedMet i k n pre

/-- Met by a command of Boroux. -/
theorem met_own {op : Nat} {i : Req → Instr} {pre : Chip → Cmd → Prop} (c : Chip) (l : List Nat)
    (h : Runs op (st c) (.own (par op l)) (ownCmd op (par op l)) ∧ pre c (ownCmd op (par op l))) : AnswersMet op i pre :=
  ⟨st c, _, _, h⟩

theorem met_own_linked {op : Nat} {i : Req → Instr} {pre : Chip → Cmd → Prop} (c : Chip) (l : List Nat)
    (h : Runs op (st (linkQuiet c)) (.own (par op l)) (ownCmd op (par op l)) ∧ pre (linkQuiet c) (ownCmd op (par op l))) :
    AnswersLinkedMet op i pre :=
  ⟨st c, _, _, h⟩

theorem met_cmd {op : Nat} {i : Req → Instr} {pre : Chip → Cmd → Prop} (c : Chip) (m : Cmd)
    (h : Runs op (st { c with cmds := [m] }) (.accepted m.handle) m ∧ pre { c with cmds := [m] } m) : AnswersMet op i pre :=
  ⟨st { c with cmds := [m] }, _, _, h⟩

theorem met_cmd_linked {op : Nat} {i : Req → Instr} {pre : Chip → Cmd → Prop} (c : Chip) (m : Cmd)
    (h : Runs op (st (linkQuiet { c with cmds := [m] })) (.accepted m.handle) m ∧ pre (linkQuiet { c with cmds := [m] }) m) :
    AnswersLinkedMet op i pre :=
  ⟨st { c with cmds := [m] }, _, _, h⟩

/-! ### Ill-formed commands -/

/-- Each check of `Instr.wf` refuses an ill-formed term. -/
theorem test_wf_refuses :
    ([.sysInfo (.own [0]), .vltLoad (.own []), .undefinedEncoding 0 0xF000, .stewardExtension 6 0xEFFF, .vwarnCrossing ⟨65536, 0, 0⟩, .class2Entry ⟨0, 65536, 0⟩,
      .class2End ⟨0, 0, 65536⟩, .class3Entry ⟨65536, 0, 0⟩, .retentionLost ⟨65536, 0, 0⟩,
      .resume { supply := ⟨0, 0, 0⟩, ticks := 0, ms := 0, vsysMin := 65536 }, .vbusOvervoltage ⟨0, 65536, 0⟩, .vbusOvervoltageClear ⟨0, 65536, 0⟩,
      .powerOnReset ⟨65536, 0, 0⟩, .vbatValid { supply := ⟨0, 0, 0⟩, vioA := 65536 }, .vbatValid { supply := ⟨0, 0, 0⟩, xmem := .full 9 },
      .memoryRequest (.read 0 0 0), .memoryRequest (.write 0 0 []), .cartInsertion (some []), .hostRead 0 0, .hostWrite 0 [], .hostQuadRead 0 0,
      .hostQuadWrite 0 []] : List Instr).all (fun i => !i.wf) = true := by decide +kernel
theorem test_wf_refuses_more :
    ([.usbDataItem 0 [], .usbTransferEnd [], .dfuDownload 0 [], .linkDataChunk 0 0 (List.replicate 61 0) false, .dcsReadAnswer false [],
      .i2sInputFrame [] 0, .linkPacketReceive 0 (List.replicate 75 0) false, .timeRequest 0 2 1, .timeReply 1 2 1 2,
      .beatReceive 0 0 0 0 0 0 0 0 0 [], .blockReceive 0 none 0 none none [] false, .remoteAnswerReceive 0 (.result 0 []),
      .i2cTransferEnd 0 (.done (List.replicate 256 0)), .spiTransferEnd [], .usbCommandRecord []] : List Instr).all (fun i => !i.wf) = true := by decide +kernel
/-- Well-formed neighbours of these are accepted. -/
theorem test_wf_accepts :
    ([.sysInfo (.own []), .undefinedEncoding 0 0xEFFF, .stewardExtension 6 0xF000, .vbatValid { supply := ⟨65535, 0, 0⟩, xmem := .full 64 },
      .memoryRequest (.write 0 0 (List.replicate 64 0)), .linkDataChunk 0 0 (List.replicate 60 0) false, .usbCommandRecord (List.replicate 32 0),
      .timeReply 1 2 2 2] : List Instr).all Instr.wf = true := by decide +kernel

/-- Example 00-1: what SYS.INFO reports of the SK40-Q176 and of a full SK40-B289. -/
def chipQ176 : Chip :=
  { c0 with board := { c0.board with q176 := true }, units := { c0.units with ports := #v[UnitReg.mkAbsent, {}, UnitReg.mkAbsent, {}] } }
theorem test_sys_info :
    [sysInfo (took 0x0001 .host []) chipQ176, sysInfo (took 0x0001 .host []) { c0 with mem := { c0.mem with xmem := .full } }].map
      (fun a => match a.1 with | .done _ info res _ => (info, res) | _ => (0, 0)) = [(0x0028, 0x030202B1), (0x003E, 0x030201B1)] := by decide +kernel

/-! ### The hypotheses of the statements, met -/

/-- The hypotheses of `Obligations.SysPwrCommands`. -/
theorem met_SysPwrCommands :
    (AnswersMet 0x0001 .sysInfo (fun _ _ => True)) ∧
    (AnswersMet 0x0002 .sysReset (fun c m => (m.b 8 = 1 ∨ m.b 8 = 2) ∧ c.pwr.deferred = none)) ∧
    (AnswersMet 0x0002 .sysReset (fun c m => (m.b 8 = 1 ∨ m.b 8 = 2) ∧ c.pwr.deferred.isSome)) ∧
    (AnswersMet 0x0003 .sysBootStatus (fun _ _ => True)) ∧
    (AnswersMet 0x0101 .pwrStatus (fun _ _ => True)) ∧
    (AnswersMet 0x0102 .pwrConfig (fun _ m => 2700 ≤ m.f 8 2 ∧ m.f 8 2 ≤ 4500 ∧ 1 ≤ m.b 10 ∧ m.b 10 ≤ 20 ∧ m.b 11 = 0 ∧ 1 ≤ m.f 12 2 ∧ m.f 12 2 ≤ 600)) ∧
    (AnswersMet 0x0103 .pwrResumeInfo (fun _ m => m.org.external = true ∧ m.f 8 4 = 0)) ∧
    (∃ p, AnswersMet 0x0103 .pwrResumeInfo (fun c m => m.org = .part p ∧ m.f 8 4 < 2 ^ 24 ∧ m.f 8 4 % 4 = 0 ∧ kRangeOk c p .w (m.f 8 4) 32 = true)) ∧
    (AnswersMet 0x0104 .pwrOff (fun c m => 1 ≤ m.b 8 ∧ m.b 8 ≤ 7 ∧ c.pwr.deferred = none)) :=
  ⟨met_own c0 [] (by decide +kernel),
   met_own c0 [1] (by decide +kernel),
   met_own { c0 with pwr := { c0.pwr with deferred := some .coldStart } } [2] (by decide +kernel),
   met_own c0 [] (by decide +kernel),
   met_own c0 [] (by decide +kernel),
   met_own c0 [0x8C, 0x0A, 1, 0, 0x58, 0x02] (by decide +kernel),
   met_cmd c0 (took 0x0103 .host []) (by decide +kernel),
   ⟨0, met_own c0 [] (by decide +kernel)⟩,
   met_own c0 [7] (by decide +kernel)⟩

/-- The hypotheses of `Obligations.GovTimeCommands`. -/
theorem met_GovTimeCommands :
    (∃ p, AnswersMet 0x0201 .govStatus (fun _ m => m.org = .part p ∧ p ≠ 0)) ∧
    (AnswersMet 0x0201 .govStatus (fun _ m => m.org.external = true)) ∧
    (AnswersMet 0x0202 .govLimits (fun c m => (limitsOf m).ok = true ∧ c.gov.oldVmax = none ∧ c.gov.output ≤ (limitsOf m).vmax)) ∧
    (AnswersMet 0x0202 .govLimits (fun c m => (limitsOf m).ok = true ∧ c.gov.oldVmax = none ∧ (limitsOf m).vmax < c.gov.output)) ∧
    (AnswersMet 0x0203 .govVote (fun _ m => m.b 8 ≤ 1)) ∧
    (AnswersMet 0x0210 .timeLineEvent (fun _ m => m.f 8 2 ≤ 2047 ∨ m.f 8 2 = 0xFFFF)) ∧
    (AnswersMet 0x0211 .timeDet (fun _ m => m.b 8 = 0)) ∧
    (AnswersMet 0x0211 .timeDet (fun _ m => m.b 8 = 1)) :=
  ⟨⟨1, met_cmd cg (took 0x0201 (.part 1) []) (by decide +kernel)⟩,
   met_cmd c0 (took 0x0201 .usb []) (by decide +kernel),
   met_own c0 [60, 95, 64, 128, 16, 3, 8, 64] (by decide +kernel),
   met_own c0 [60, 79, 64, 128, 16, 3, 8, 64] (by decide +kernel),
   met_cmd cg (took 0x0203 (.part 1) [1]) (by decide +kernel),
   met_cmd cg (took 0x0210 (.part 1) [0xFF, 0x07]) (by decide +kernel),
   met_cmd cg (took 0x0211 (.part 1) []) (by decide +kernel),
   met_cmd cg (took 0x0211 (.part 1) [1]) (by decide +kernel)⟩

/-- The hypotheses of `Obligations.PartitionCommands`. -/
theorem met_PartitionCommands :
    (AnswersMet 0x0301 .partStatus (fun c m => 1 ≤ statusPid m ∧ statusPid m ≤ 6 ∧ (m.org.external = true ∨ m.guest = 0 ∨ statusPid m = m.guest) ∧ m.b 10 = 0 ∧ m.b 11 = 0 ∧ m.f 12 4 = 0)) ∧
    (AnswersMet 0x0301 .partStatus (fun c m => 1 ≤ statusPid m ∧ statusPid m ≤ 6 ∧ (m.org.external = true ∨ m.guest = 0 ∨ statusPid m = m.guest) ∧ m.b 10 = 1 ∧ m.b 11 = 0 ∧ m.f 12 4 = 0)) ∧
    (AnswersMet 0x0310 .partCreate (fun c m => 1 ≤ m.b 8 ∧ m.b 8 ≤ 6 ∧ m.b 9 ≤ 63 ∧ 1 ≤ m.b 10 ∧ m.b 10 ≤ 64 ∧ 1 ≤ m.b 11 ∧ m.b 11 ≤ 64 ∧ m.f 12 2 ≤ 127 ∧ (c.scan.mode.isSome = true → m.f 14 2 ≤ admitCap c) ∧ (partOf c (m.b 8)).st = .empty ∧ otherShares c (m.b 8) + m.b 10 ≤ 64 ∧ overCeiling c (m.b 8) (m.f 14 2) = false ∧ ∀ k ∈ coresOf (m.b 9), isPegged c 1 k = false ∧ unitState c ⟨1, k⟩ ≠ .retired ∧ ownerOf c .core k = 0 ∧ isSpareCore c k = false)) ∧
    (AnswersMet 0x0315 .partStart (fun c m => 1 ≤ m.b 8 ∧ m.b 8 ≤ 6 ∧ m.z 10 2 = true ∧ m.f 12 4 < 2 ^ 24 ∧ m.b 9 = (partOf c (m.b 8)).gen ∧ (partOf c (m.b 8)).st = .stopped)) ∧
    (AnswersMet 0x0316 .partStop (fun c m => 1 ≤ m.b 8 ∧ m.b 8 ≤ 6 ∧ m.b 9 = (partOf c (m.b 8)).gen ∧ (partOf c (m.b 8)).st = .running)) ∧
    (AnswersMet 0x0318 .partQuota (fun c m => 1 ≤ m.b 8 ∧ m.b 8 ≤ 6 ∧ 1 ≤ m.b 10 ∧ m.b 10 ≤ 64 ∧ 1 ≤ m.b 11 ∧ m.b 11 ≤ 64 ∧ m.b 9 = (partOf c (m.b 8)).gen ∧ ((partOf c (m.b 8)).st = .stopped ∨ (partOf c (m.b 8)).st = .running) ∧ otherShares c (m.b 8) + m.b 10 ≤ 64 ∧ overCeiling c (m.b 8) (m.f 12 2) = false)) ∧
    (AnswersMet 0x0317 .partReset (fun c m => 1 ≤ m.b 8 ∧ m.b 8 ≤ 6 ∧ m.org = .part (m.b 8) ∧ m.b 10 ≤ 3 ∧ m.b 9 = (partOf c (m.b 8)).gen ∧ (partOf c (m.b 8)).st = .running)) ∧
    (AnswersMet 0x0317 .partReset (fun c m => 1 ≤ m.b 8 ∧ m.b 8 ≤ 6 ∧ m.org ≠ .part (m.b 8) ∧ (m.org.external = true ∨ m.guest = 0) ∧ m.b 10 ≤ 3 ∧ m.b 9 = (partOf c (m.b 8)).gen ∧ ((partOf c (m.b 8)).st = .running ∨ (partOf c (m.b 8)).st = .stopped))) ∧
    (AnswersMet 0x031A .partFocus (fun c m => m.b 8 ≤ 6 ∧ (m.b 8 = 0 ∨ (partOf c (m.b 8)).st = .running ∨ (partOf c (m.b 8)).st = .stopped))) :=
  ⟨met_own c0 [6] (by decide +kernel),
   met_cmd c0 (took 0x0301 .host [1, 0, 1]) (by decide +kernel),
   met_own c0 [6, 0x1F, 8, 64, 127, 0] (by decide +kernel),
   met_own { cg with parts := vset cg.parts 1 { partOf cg 1 with st := .stopped } } [1, 1, 0, 0, 0xFE, 0xFF, 0xFF, 0] (by decide +kernel),
   met_own cg [1, 1] (by decide +kernel),
   met_own cg [1, 1, 56, 64] (by decide +kernel),
   met_cmd cg (took 0x0317 (.part 1) [1, 1, 3]) (by decide +kernel),
   met_own cg [1, 1, 0] (by decide +kernel),
   met_own cg [1] (by decide +kernel)⟩

/-- That guest, stopped. -/
def cgAll : Chip := modPart 1 (fun q => { q with st := .stopped }) cgw

/-- The hypotheses of `Obligations.OwnershipCommands`. -/
theorem met_OwnershipCommands :
    (AnswersMet 0x0311 .partDestroy (fun c m => 1 ≤ m.b 8 ∧ m.b 8 ≤ 6 ∧ m.b 9 = (partOf c (m.b 8)).gen ∧ (partOf c (m.b 8)).st = .stopped)) ∧
    (AnswersMet 0x0312 .partMap (fun c m => 1 ≤ m.b 8 ∧ m.b 8 ≤ 6 ∧ m.b 9 = (partOf c (m.b 8)).gen ∧ ((partOf c (m.b 8)).st = .stopped ∨ (partOf c (m.b 8)).st = .running) ∧ 1 ≤ m.b 11 ∧ m.b 10 + m.b 11 ≤ 0xFF ∧ m.b 14 ≤ 31 ∧ m.b 15 = 0 ∧ bit (m.b 14) 0 = true ∧ (∀ i, i < m.b 11 → frameOk c (m.f 12 2 + i) (bit (m.b 14) 2) = true ∧ mappers c (m.b 8) (m.f 12 2 + i) = []))) ∧
    (AnswersMet 0x0312 .partMap (fun c m => 1 ≤ m.b 8 ∧ m.b 8 ≤ 6 ∧ m.b 9 = (partOf c (m.b 8)).gen ∧ ((partOf c (m.b 8)).st = .stopped ∨ (partOf c (m.b 8)).st = .running) ∧ 1 ≤ m.b 11 ∧ m.b 10 + m.b 11 ≤ 0xFF ∧ m.b 14 ≤ 31 ∧ m.b 15 = 0 ∧ bit (m.b 14) 0 = false)) ∧
    (∃ k : UnitKind, (k ≠ .layer) ∧ (k ≠ .sprite) ∧ AnswersMet 0x0313 .partAssign (fun c m => 1 ≤ m.b 8 ∧ m.b 8 ≤ 6 ∧ m.b 9 = (partOf c (m.b 8)).gen ∧ ((partOf c (m.b 8)).st = .stopped ∨ (k ≠ .core ∧ (partOf c (m.b 8)).st = .running)) ∧ kindOfCode (m.b 10) = some k ∧ 1 ≤ m.b 12 ∧ m.b 11 + m.b 12 ≤ (ownVec c k).length ∧ lacksUnitRight c (m.b 8) k (rangeOf m) = false ∧ (∀ i ∈ rangeOf m, kindPegged c k i = false ∧ ownerOf c k i = 0 ∧ futureOwner (afterChanges c) k i = 0 ∧ (k = .core → unitState c ⟨1, i⟩ ≠ .retired ∧ isSpareCore c i = false)))) ∧
    (∃ k : UnitKind, (k = .layer ∨ k = .sprite) ∧ AnswersMet 0x0313 .partAssign (fun c m => 1 ≤ m.b 8 ∧ m.b 8 ≤ 6 ∧ m.b 9 = (partOf c (m.b 8)).gen ∧ ((partOf c (m.b 8)).st = .stopped ∨ (partOf c (m.b 8)).st = .running) ∧ kindOfCode (m.b 10) = some k ∧ 1 ≤ m.b 12 ∧ m.b 11 + m.b 12 ≤ (ownVec c k).length ∧ (∀ i ∈ rangeOf m, kindPegged c k i = false ∧ futureOwner (afterChanges c) k i = 0))) ∧
    (∃ k : UnitKind, (k = .core ∨ k = .spool ∨ k = .link) ∧ AnswersMet 0x0314 .partRelease (fun c m => 1 ≤ m.b 8 ∧ m.b 8 ≤ 6 ∧ m.b 9 = (partOf c (m.b 8)).gen ∧ ((partOf c (m.b 8)).st = .stopped ∨ (k ≠ .core ∧ (partOf c (m.b 8)).st = .running)) ∧ kindOfCode (m.b 10) = some k ∧ 1 ≤ m.b 12 ∧ m.b 11 + m.b 12 ≤ (ownVec c k).length ∧ (∀ i ∈ rangeOf m, kindPegged c k i = false ∧ channelBusy c k i = false ∧ futureOwner (afterChanges c) k i = m.b 8 ∧ (k = .core → unitState c ⟨1, i⟩ ≠ .retired ∧ isSpareCore c i = false)))) ∧
    (∃ k : UnitKind, (k = .layer ∨ k = .sprite) ∧ AnswersMet 0x0314 .partRelease (fun c m => 1 ≤ m.b 8 ∧ m.b 8 ≤ 6 ∧ m.b 9 = (partOf c (m.b 8)).gen ∧ ((partOf c (m.b 8)).st = .stopped ∨ (partOf c (m.b 8)).st = .running) ∧ kindOfCode (m.b 10) = some k ∧ 1 ≤ m.b 12 ∧ m.b 11 + m.b 12 ≤ (ownVec c k).length ∧ (∀ i ∈ rangeOf m, kindPegged c k i = false ∧ futureOwner (afterChanges c) k i = m.b 8))) ∧
    (∃ k : UnitKind, (k = .voice ∨ k = .tone ∨ k = .input) ∧ AnswersMet 0x0314 .partRelease (fun c m => 1 ≤ m.b 8 ∧ m.b 8 ≤ 6 ∧ m.b 9 = (partOf c (m.b 8)).gen ∧ ((partOf c (m.b 8)).st = .stopped ∨ (partOf c (m.b 8)).st = .running) ∧ kindOfCode (m.b 10) = some k ∧ 1 ≤ m.b 12 ∧ m.b 11 + m.b 12 ≤ (ownVec c k).length ∧ (∀ i ∈ rangeOf m, kindPegged c k i = false ∧ futureOwner (afterChanges c) k i = m.b 8))) ∧
    (AnswersMet 0x0319 .partRights (fun c m => 1 ≤ m.b 8 ∧ m.b 8 ≤ 6 ∧ m.b 9 = (partOf c (m.b 8)).gen ∧ ((partOf c (m.b 8)).st = .stopped ∨ (partOf c (m.b 8)).st = .running) ∧ m.f 10 2 ≤ 127)) :=
  ⟨met_own cgAll [1, 1] (by decide +kernel),
   met_own cg [1, 1, 0xFE, 1, 1, 0, 7] (by decide +kernel),
   met_own cg [1, 1, 0, 0xFF] (by decide +kernel),
   ⟨.link, by decide, by decide, met_own cg [1, 1, 8, 31, 1] (by decide +kernel)⟩,
   ⟨.sprite, by decide, met_own cg [1, 1, 3, 31, 1] (by decide +kernel)⟩,
   ⟨.core, by decide, met_own cgAll [1, 1, 1, 0, 1] (by decide +kernel)⟩,
   ⟨.layer, by decide, met_own cgAll [1, 1, 2, 7, 1] (by decide +kernel)⟩,
   ⟨.input, by decide, met_own cgAll [1, 1, 6, 4, 1] (by decide +kernel)⟩,
   met_own cg [1, 1, 127] (by decide +kernel)⟩

/-- Guest 1 is being reset. -/
def cgReset (j : ResetJob) : Chip := modPart 1 (fun q => { q with st := .resetting, reset := some j }) cg

/-- The hypotheses of `Obligations.PartitionRows`. -/
theorem met_PartitionRows :
    (∃ (p : Fin 7), ∃ (j : ResetJob), MakesMet (.selfResetDelay p) (fun c => (partOf c p).reset = some j ∧ j.selfDelay = true)) ∧
    (∃ (p : Fin 7), ∃ (j : ResetJob), MakesMet (.partitionResetComplete p) (fun c => (partOf c p).reset = some j ∧ j.selfDelay = false)) ∧
    (∃ (p : Fin 7), ∃ (n : Word), ∃ (j : ResetJob), ∃ (k : UnitKind), MakesMet (.partitionResetOverrun p n) (fun c => (partOf c p).reset = some j ∧ j.selfDelay = false ∧ kindOfReg (unitOfCode n.toNat).kind = some k ∧ (unitReg? c (unitOfCode n.toNat)).isSome ∧ ownerOf c k (unitOfCode n.toNat).index = p.val ∧ isPegged c (unitOfCode n.toNat).kind (unitOfCode n.toNat).index = false)) ∧
    (∃ (n : Word), ∃ (o : OwnRamp), MakesMet (.unitReleaseRampEnd n) (fun c => (c.ownRamp.find? fun o => o.kind.reg == some (n.toNat / 256) && o.index == n.toNat % 256) = some o)) ∧
    (∃ (p : Fin 7), ∃ (t : Fin 3), MakesMet (.guestStallTimeout p t) (fun c => 1 ≤ p.val ∧ (partOf c p).st ≠ .empty)) :=
  ⟨⟨1, { selfDelay := true }, cgReset { selfDelay := true }, (by decide +kernel)⟩,
   ⟨1, {}, cgReset {}, (by decide +kernel)⟩,
   ⟨1, 0x0100, {}, .core, cgReset {}, (by decide +kernel)⟩,
   ⟨0x0717, ⟨.voice, 23, 0, none, true⟩, { cg with ownRamp := [⟨.voice, 23, 0, none, true⟩] }, (by decide +kernel)⟩,
   ⟨1, 2, cg, (by decide +kernel)⟩⟩

/-- A command of guest 1 that is outstanding. -/
def tg (op : Nat) (started : Bool) : Cmd := { handle := 0x20000005, org := .part 1, op := op, started := started }

/-- The hypotheses of `Obligations.MailboxAndReportCommands`, part 1. -/
theorem met_MailboxAndReportCommands_1 :
    (∃ t : Cmd, AnswersMet 0x0401 .mbxCancel (fun c m => foreignHandle c m.org (m.f 8 4) = false ∧ findCmd c (BitVec.ofNat 32 (m.f 8 4)) = some t ∧ t.op ≠ 0x0401 ∧ t.started = false)) ∧
    (∃ t : Cmd, AnswersMet 0x0401 .mbxCancel (fun c m => foreignHandle c m.org (m.f 8 4) = false ∧ findCmd c (BitVec.ofNat 32 (m.f 8 4)) = some t ∧ t.op ≠ 0x0401 ∧ t.op ≠ 0x0F20 ∧ t.started = true ∧ spoolUnqueue t.handle c = none ∧ (Config.opRow t.op).any (·.cancel) = true ∧ t.cancelBy = none ∧ t.dataSince = none)) ∧
    (AnswersMet 0x0402 .mbxStatus (fun _ _ => True)) ∧
    (AnswersMet 0x0403 .mbxConsent (fun _ m => m.b 8 ≤ 2 ∧ m.b 9 ≤ 1)) ∧
    (AnswersMet 0x0404 .mbxSync (fun _ _ => True)) ∧
    (∃ k, AnswersMet 0x0501 .kuvStatus (fun c m => namedCore m c (m.b 8) = some k)) ∧
    (AnswersMet 0x0502 .kuvRegs (fun c m => m.org = .part 0 ∧ m.b 8 ≤ 5 ∧ m.z 9 3 = true ∧ destOk m (m.f 12 4) = true ∧ 2 ≤ kuvState c (m.b 8) ∧ kuvState c (m.b 8) ≠ 5 ∧ kRangeOk c 0 .w (m.f 12 4) (kuvBlock (coreOf c (m.b 8))).length = true)) ∧
    (∃ k, AnswersMet 0x0601 .guardStatus (fun c m => namedCore m c (m.b 8) = some k)) ∧
    (∃ p, AnswersMet 0x0701 .hmpStatus (fun c m => hmpPid m c = .ok p ∧ m.b 9 ≤ 3)) ∧
    (∃ p, AnswersMet 0x0702 .hmpRaise (fun c m => hmpPid m c = .ok p ∧ 64 ≤ m.b 9 ∧ m.b 9 ≤ 95)) :=
  ⟨⟨tg 0x0404 false, met_own { cg with cmds := [tg 0x0404 false] } [5, 0, 0, 0x20] (by decide +kernel)⟩,
   ⟨tg 0x0813 true, met_own { cg with cmds := [tg 0x0813 true] } [5, 0, 0, 0x20] (by decide +kernel)⟩,
   met_own c0 [] (by decide +kernel),
   met_own c0 [2, 1] (by decide +kernel),
   met_cmd cg (took 0x0404 (.part 1) []) (by decide +kernel),
   ⟨0, met_cmd cg (took 0x0501 (.part 1) []) (by decide +kernel)⟩,
   met_own c0 [5 - 1] (by decide +kernel),
   ⟨4, met_own c0 [4] (by decide +kernel)⟩,
   ⟨1, met_cmd cg (took 0x0701 (.part 1) [0, 3]) (by decide +kernel)⟩,
   ⟨6, met_own c0 [6, 95] (by decide +kernel)⟩⟩

/-- The hypotheses of `Obligations.MailboxAndReportCommands`, part 2. -/
theorem met_MailboxAndReportCommands_2 :
    (∃ p, AnswersMet 0x0703 .hmpSetup (fun c m => hmpPid m c = .ok p ∧ m.b 10 ≤ 15 ∧ m.b 11 ≤ 1 ∧ m.f 12 4 < 2 ^ 24 ∧ 4 ≤ m.b 9 ∧ m.b 9 ≤ 12 ∧ m.f 12 4 % 16 = 0 ∧ (hmpOf c p).expert = false)) :=
  ⟨1, met_cmd cg (took 0x0703 (.part 1) [0, 12, 15, 1, 0x10, 0, 0]) (by decide +kernel)⟩

/-- Guest 1 with a mailbox. -/
def cgMbx (m : GMbx) : Chip := modMbx 1 (fun _ => m) cg

/-- The hypotheses of `Obligations.MailboxRows`, part 1. -/
theorem met_MailboxRows_1 :
    (∃ k ev, WritesRegMet (.mailboxEnable k ev) k 0x3000 (fun p c => (mbxOf c p).enable = false ∧ (mbxOf c p).ringsOk = true)) ∧
    (∃ k ev, WritesRegMet (.mailboxEnable k ev) k 0x3000 (fun p c => (mbxOf c p).enable = false ∧ (mbxOf c p).ringsOk = false)) ∧
    (∃ k ev, WritesRegMet (.mailboxDisable k ev) k 0x3000 (fun _ _ => True)) ∧
    (∃ k, ∃ (v : Word), WritesRegMet (.cmdProdWrite k v) k 0x3010 (fun p c => idxDiff (mbxOf c p).cmdProd (mbxOf c p).cmdCons + idxDiff v.toNat (mbxOf c p).cmdProd ≤ 2 ^ (mbxOf c p).cmdLog2)) ∧
    (∃ k, ∃ (v : Word), WritesRegMet (.cmdProdWrite k v) k 0x3010 (fun p c => 2 ^ (mbxOf c p).cmdLog2 < idxDiff (mbxOf c p).cmdProd (mbxOf c p).cmdCons + idxDiff v.toNat (mbxOf c p).cmdProd)) ∧
    (∃ k, ∃ (v : Word), WritesRegMet (.cplConsWrite k v) k 0x3016 (fun p c => idxDiff v.toNat (mbxOf c p).cplCons ≤ idxDiff (mbxOf c p).cplProd (mbxOf c p).cplCons)) ∧
    (∃ k, ∃ (v : Word), WritesRegMet (.cplConsWrite k v) k 0x3016 (fun p c => idxDiff (mbxOf c p).cplProd (mbxOf c p).cplCons < idxDiff v.toNat (mbxOf c p).cplCons)) ∧
    (∃ p : Fin 7, MakesLinkedMet (.recordAcceptance (.guest p)) (fun c => c.stewDown = false ∧ 1 ≤ p.val ∧ (mbxOf c p).enable = true ∧ (mbxOf c p).noRead = false ∧ (mbxOf c p).cmdProd ≠ (mbxOf c p).cmdCons ∧ kRangeOk c p .r ((mbxOf c p).cmdBase + 32 * ((mbxOf c p).cmdCons % 2 ^ (mbxOf c p).cmdLog2)) 32 = true ∧ kRangeOk c p .w ((mbxOf c p).cmdBase + 32 * ((mbxOf c p).cmdCons % 2 ^ (mbxOf c p).cmdLog2)) 4 = true)) ∧
    (∃ (p : Fin 7), ∃ h l, MakesLinkedMet (.postponedCompletionWrite (.guest p)) (fun c => c.stewDown = false ∧ (mbxOf c p).held = h :: l ∧ (mbxOf c p).cplOpen = true ∧ kRangeOk c p .w ((mbxOf c p).cplBase + 16 * ((mbxOf c p).cplProd % 2 ^ (mbxOf c p).cplLog2)) 16 = true)) ∧
    (∃ n : Fin 2, MakesMet (.resultBufferTimeout n) (fun c => vget c.host.resLen n ≠ 0)) :=
  ⟨⟨0, true, cgMbx { cmdBase := 0x1000, cplBase := 0x2000 }, (by decide +kernel)⟩,
   ⟨0, false, cgMbx { cmdLog2 := 15 }, (by decide +kernel)⟩,
   ⟨0, true, cg, (by decide +kernel)⟩,
   ⟨0, 16, cg, (by decide +kernel)⟩,
   ⟨0, 17, cg, (by decide +kernel)⟩,
   ⟨0, 3, cgMbx { cplProd := 3 }, (by decide +kernel)⟩,
   ⟨0, 4, cgMbx { cplProd := 3 }, (by decide +kernel)⟩,
   ⟨1, cgMbx { enable := true, cmdBase := 0x1000, cplBase := 0x2000, cmdProd := 1 }, (by decide +kernel)⟩,
   ⟨1, { cpl := {} }, [], cgMbx { enable := true, cmdBase := 0x1000, cplBase := 0x2000, held := [{ cpl := {} }] }, (by decide +kernel)⟩,
   ⟨1, { c0 with host := { resLen := #v[0, 1] } }, (by decide +kernel)⟩⟩

/-- The hypotheses of `Obligations.MailboxRows`, part 2. -/
theorem met_MailboxRows_2 :
    (∃ (h : Long), ∃ (m : Cmd), ∃ (t : Nat), MakesMet (.dataChunkTimeout h) (fun c => findCmd c h = some m ∧ m.dataSince = some t ∧ dataReady m = false)) :=
  ⟨0xE0000001, { handle := 0xE0000001, op := 0x0812, params := par 0x0812 [0, 0, 0, 1], dataSince := some 0 }, 0,
   { c0 with cmds := [{ handle := 0xE0000001, op := 0x0812, params := par 0x0812 [0, 0, 0, 1], dataSince := some 0 }] }, (by decide +kernel)⟩

/-- The hypotheses of `Obligations.HostPortRows`. -/
theorem met_HostPortRows :
    (∃ (a : Word), ∃ n, MakesInMet (.hostRead a n) (fun c => serving c = true ∧ a.toNat < 4096)) ∧
    (∃ (a : Word), ∃ n, MakesInMet (.hostQuadRead a n) (fun c => serving c = true ∧ a.toNat < 4096)) ∧
    (∃ (a : Word), ∃ n, MakesInMet (.hostRead a n) (fun c => serving c = false)) ∧
    (∃ (a : Word), ∃ b0 b1 b2 b3, MakesInMet (.hostWrite a [b0, b1, b2, b3]) (fun c => serving c = true ∧ a.toNat < 0x40 ∧ a.toNat % 4 = 0)) ∧
    (∃ (a : Word), ∃ b, MakesInMet (.hostWrite a [b]) (fun c => serving c = true ∧ 0x40 < a.toNat ∧ a.toNat < 4095)) ∧
    (∃ (a : Word), ∃ b, MakesInMet (.hostQuadWrite a [b]) (fun c => serving c = true ∧ 0x40 < a.toNat ∧ a.toNat < 4095)) ∧
    (∃ (a : Word), ∃ b0 b1 b2 b3, MakesInMet (.hostQuadWrite a [b0, b1, b2, b3]) (fun c => serving c = true ∧ a.toNat < 0x40 ∧ a.toNat % 4 = 0)) ∧
    (MakesInMet .hostPortReset (fun c => serving c = true)) ∧
    (MakesMet .hostBadTransaction (fun _ => True)) :=
  ⟨⟨0xFFF, 1, c0, (by decide +kernel)⟩,
   ⟨0, 4, c0, (by decide +kernel)⟩,
   ⟨0, 1, { c0 with pwr := { c0.pwr with phase := .off } }, (by decide +kernel)⟩,
   ⟨0x3C, 0, 0, 0, 0, c0, (by decide +kernel)⟩,
   ⟨0x41, 0, c0, (by decide +kernel)⟩,
   ⟨0xFFE, 0, c0, (by decide +kernel)⟩,
   ⟨0, 1, 0, 0, 0, c0, (by decide +kernel)⟩,
   ⟨c0, (by decide +kernel)⟩,
   ⟨c0, (by decide +kernel)⟩⟩

/-- A cartridge of one page whose header and CRC table are good: no flags, its table at 0x1000. The table's first bytes bring the CRC
register to a value that a byte of 0xFF keeps, so that the rest of the table may stand erased. -/
def cartHd : List Byte := (leBytes 4 0x54434B53 ++ leBytes 2 1 ++ leBytes 2 0 ++ leBytes 4 4096 ++ leBytes 4 4096 ++ List.replicate 60 0).take 0x3C
def cartTab : List Byte := [0xC0, 0xFD, 0xD0, 0xB6]
def crcKept : Nat := 0xB6D0FDC0

/-- The cartridge is inserted. -/
def cCart : Chip :=
  modMem (fun m => { (((m.setBytes 0x30000000 (cartHd ++ leBytes 4 (crc32 cartHd))).setBytes 0x30001000 cartTab).setBytes 0x30001FFC
    (leBytes 4 (crcKept ^^^ 0xFFFFFFFF))) with cart := .inserted }) c0

theorem sfind_none {l : List (Nat × Byte)} {a : Nat} (h : ∀ e ∈ l, e.1 ≠ a) : sfind l a = none := by
  induction l with
  | nil => rfl
  | cons e t ih =>
    obtain ⟨k, v⟩ := e
    have hk : a ≠ k := fun he => h (k, v) (by simp) he.symm
    simp only [sfind, if_neg hk]
    split
    · rfl
    · exact ih fun e he => h e (by simp [he])

theorem cCart_erased (i : Nat) (h : i < 4088) : cCart.mem.byte (0x30001004 + i) = 0xFF := by
  have hc : ∀ e ∈ cCart.mem.cells, e.1 < 0x30001004 ∨ 0x30001FFC ≤ e.1 := by decide +kernel
  rw [Mem.byte, sget, sfind_none fun e he => by have := hc e he; omega]
  simp only [Option.getD_none, unlisted]
  exact if_pos (by omega)

/-- One byte of `crc32`. -/
def crcByte (acc : Nat) (b : Byte) : Nat := (List.range 8).foldl (fun a _ => if a % 2 = 1 then (a / 2) ^^^ 0xEDB88320 else a / 2) (acc ^^^ b.toNat)

theorem crc_kept (f : Nat → Byte) (n : Nat) (h : ∀ i < n, f i = 0xFF) : ((List.range n).map f).foldl crcByte crcKept = crcKept := by
  induction n with
  | zero => rfl
  | succ n ih =>
    rw [List.range_succ, List.map_append, List.foldl_append, ih fun i hi => h i (by omega)]
    simp only [List.map_cons, List.map_nil, List.foldl_cons, List.foldl_nil, h n (by omega)]
    decide +kernel

theorem bytes_split (m : Mem) (pa a b : Nat) : m.bytes pa (a + b) = m.bytes pa a ++ m.bytes (pa + a) b := by
  simp only [Mem.bytes, List.range_add, List.map_append, List.map_map]
  congr 1
  exact List.map_congr_left fun i _ => by simp [Nat.add_assoc]

theorem cCart_table : crc32 ((cCart.mem.bytes 0x30001000 4096).take 4092) = leNat ((cCart.mem.bytes 0x30001000 4096).drop 4092) := by
  have hs : cCart.mem.bytes 0x30001000 4096 = cCart.mem.bytes 0x30001000 4092 ++ cCart.mem.bytes 0x30001FFC 4 := bytes_split _ _ 4092 4
  have hl : (cCart.mem.bytes 0x30001000 4092).length = 4092 := by simp [Mem.bytes]
  have ht : cCart.mem.bytes 0x30001000 4092 = cCart.mem.bytes 0x30001000 4 ++ cCart.mem.bytes 0x30001004 4088 := bytes_split _ _ 4 4088
  have h4 : (cCart.mem.bytes 0x30001000 4).foldl crcByte 0xFFFFFFFF = crcKept := by decide +kernel
  rw [hs, List.take_left' hl, List.drop_left' hl, ht, show ∀ bs, crc32 bs = bs.foldl crcByte 0xFFFFFFFF ^^^ 0xFFFFFFFF by intro _; rfl,
    List.foldl_append, h4, show (cCart.mem.bytes 0x30001004 4088) = (List.range 4088).map (fun i => cCart.mem.byte (0x30001004 + i)) from rfl,
    crc_kept _ _ cCart_erased]
  decide +kernel

/-- The hypotheses of `Obligations.MemoryCommands`. -/
theorem met_MemoryCommands :
    (AnswersMet 0x0801 .memStatus (fun _ _ => True)) ∧
    (AnswersMet 0x0820 .memRinse (fun _ m => m.b 8 ≠ 0 ∧ 16 ≤ m.f 10 2 ∧ m.f 10 2 ≤ 4096 ∧ m.z 9 1 = true)) ∧
    (∃ p, AnswersMet 0x0812 .memFlashProgram (fun c m => flashFree c = true ∧ m.org = .part p ∧ srcDenied m c (m.f 16 4) (m.f 10 2) = false ∧ flashDenied m c (m.b 8) (m.f 12 4) (m.f 10 2) = false ∧ m.b 8 ≤ 1 ∧ 256 ≤ m.f 10 2 ∧ m.f 10 2 ≤ 4096 ∧ m.f 10 2 % 256 = 0 ∧ m.f 12 4 % 256 = 0 ∧ m.f 16 4 < 2 ^ 24 ∧ m.z 9 1 = true ∧ isPegged c 0x0B (m.b 8) = false ∧ (m.b 8 = 1 → c.mem.cart ≠ .absent) ∧ anyPoison (readK p (m.f 16 4) (m.f 10 2) c).1 = false)) ∧
    (AnswersMet 0x0812 .memFlashProgram (fun c m => flashFree c = true ∧ m.org.external = true ∧ flashDenied m c (m.b 8) (m.f 12 4) (m.f 10 2) = false ∧ m.b 8 ≤ 1 ∧ 256 ≤ m.f 10 2 ∧ m.f 10 2 ≤ 4096 ∧ m.f 10 2 % 256 = 0 ∧ m.f 12 4 % 256 = 0 ∧ m.f 16 4 = 0 ∧ m.z 9 1 = true ∧ isPegged c 0x0B (m.b 8) = false ∧ (m.b 8 = 1 → c.mem.cart ≠ .absent) ∧ dataReady m = true ∧ m.dataPoison = false)) ∧
    (AnswersMet 0x0813 .memFlashErase (fun c m => flashFree c = true ∧ flashDenied m c (m.b 8) (m.f 12 4) (4096 * m.b 9) = false ∧ m.b 8 ≤ 1 ∧ m.b 9 ≠ 0 ∧ m.f 12 4 % 4096 = 0 ∧ m.z 10 2 = true ∧ isPegged c 0x0B (m.b 8) = false ∧ (m.b 8 = 1 → c.mem.cart ≠ .absent))) ∧
    (AnswersMet 0x0810 .memCartMount (fun c _ =>
      let hd := c.mem.bytes 0x30000000 64
      let table := c.mem.bytes (0x30000000 + (headerOf hd).crcTable) 4096
      isPegged c 0x0B 1 = false ∧ c.mem.cart ≠ .absent ∧ pfield hd 0 4 = 0x54434B53 ∧ pfield hd 4 2 = 1 ∧ crc32 (hd.take 0x3C) = pfield hd 0x3C 4 ∧
        crc32 (table.take 4092) = leNat (table.drop 4092) ∧
        (bit (headerOf hd).flags 1 = true →
          ∃ a b d, verifyImage c 2 0 (headerOf hd).titleId (c.mem.bytes 0x30000000 (headerOf hd).imageLen) = .good a b d) ∧
        (bit (headerOf hd).flags 0 = true → (contentSlot c (headerOf hd).titleId).isSome = true ∧ (lifeOf c = .maker ∨ lifeOf c = .field)))) ∧
    (AnswersMet 0x0811 .memCartUnmount (fun c _ => isPegged c 0x0B 1 = false ∧ c.mem.cart ≠ .absent)) :=
  ⟨met_own c0 [] (by decide +kernel),
   met_own c0 [1, 0, 0x00, 0x10] (by decide +kernel),
   ⟨0, met_own c0 [0, 0, 0, 1] (by decide +kernel)⟩,
   met_cmd { c0 with consent := #v[true, true, true] } { took 0x0812 .usb [1, 0, 0, 1] with params := par 0x0812 [0, 0, 0, 1], data := List.replicate 256 0 } (by decide +kernel),
   met_own c0 [0, 255] (by decide +kernel),
   met_own cCart [] ⟨by decide +kernel, by decide +kernel, by decide +kernel, by decide +kernel, by decide +kernel, by decide +kernel,
    (congrArg (fun t => crc32 ((cCart.mem.bytes (0x30000000 + t) 4096).take 4092) = leNat ((cCart.mem.bytes (0x30000000 + t) 4096).drop 4092))
      (show (headerOf (cCart.mem.bytes 0x30000000 64)).crcTable = 0x1000 by decide +kernel)).mpr cCart_table,
    fun h => absurd h (by decide +kernel), fun h => absurd h (by decide +kernel)⟩,
   met_own { c0 with mem := { c0.mem with cart := .mounted } } [] (by decide +kernel)⟩

/-- Memory with the Rinse at work, external memory fitted and a mounted cartridge whose page 0 is its save region. -/
def cRinse : Chip :=
  modMem (fun m => { m with rinseOn := true, xmem := .full, density := 8, cart := .mounted,
                            cartHdr := { flags := 4, imageLen := 4096, crcTable := 8192, saveOffset := 0, saveLen := 4096 } }) c0

/-- Guest 1 darns at the first word of its bank 0. -/
def cgDarn : Chip := { cg with diag := vset cg.diag 1 { darnEn := true } }

/-- The hypotheses of `Obligations.MemoryRequestRows`, part 1. -/
theorem met_MemoryRequestRows_1 :
    (∃ (u : Word), ∃ (a : BitVec 24), ∃ n p cls, MakesMet (.memoryRequest (.read u a n)) (fun c => n.val ≠ 0 ∧ requester c (unitOfCode u.toNat) = some (p, cls, true) ∧ kRangeOk c p .r a.toNat n.val = true)) ∧
    (∃ (u : Word), ∃ (a : BitVec 24), ∃ bs p, MakesMet (.memoryRequest (.write u a bs)) (fun c => bs ≠ [] ∧ bs.length < 64 ∧ requester c (unitOfCode u.toNat) = some (p, .guest, true) ∧ kRangeOk c p .w a.toNat bs.length = true)) ∧
    (∃ (u : Word), ∃ (a : BitVec 24), ∃ n p cls, MakesMet (.memoryRequest (.read u a n)) (fun c => n.val ≠ 0 ∧ requester c (unitOfCode u.toNat) = some (p, cls, false))) ∧
    (∃ (line : Long), ∃ e, MakesMet (.mergeEntryEvict false line) (fun c => (c.mem.buf .sram).find? (·.line == line.toNat) = some e)) ∧
    (∃ (line : Long), ∃ e, MakesMet (.mergeEntryEvict true line) (fun c => (c.mem.buf .xmem).find? (·.line == line.toNat) = some e)) ∧
    (MakesMet (.rinseVisit .sram) (fun c => c.mem.rinseOn = true)) ∧
    (MakesMet (.rinseVisit .xmem) (fun c => c.mem.rinseOn = true ∧ c.mem.xmem ≠ .none ∧ c.mem.zeroPtr ≤ c.mem.rinseX.pos)) ∧
    (MakesMet (.rinseVisit .cart) (fun c => c.mem.rinseOn = true ∧ c.mem.cart = .mounted ∧ isPegged c 0x0B 1 = false ∧ cartPageGood c.mem c.mem.rinsePage = true)) ∧
    (MakesMet (.rinsePassLate .sram) (fun c => c.mem.rinseOn = true ∧ c.mem.rinseS.late = false)) ∧
    (∃ k, WritesRegMet (.darnReadRaw k) k 0xB012 (fun p c => darnRefused c p .readRaw = true)) :=
  ⟨⟨0x0100, 0xFFF0, 16, 1, .guest, cg, (by decide +kernel)⟩,
   ⟨0x0100, 0xFFFF, [7], 1, cg, (by decide +kernel)⟩,
   ⟨0x0100, 0, 1, 1, .guest, { cg with units := { cg.units with cores := vset cg.units.cores 0 { admitBit := false } } }, (by decide +kernel)⟩,
   ⟨3, { line := 3 }, modMem (fun m => { m with bufSram := [{ line := 3 }] }) c0, (by decide +kernel)⟩,
   ⟨0x400003, { line := 0x400003 }, modMem (fun m => { m with bufXmem := [{ line := 0x400003 }] }) c0, (by decide +kernel)⟩,
   ⟨cRinse, (by decide +kernel)⟩,
   ⟨cRinse, (by decide +kernel)⟩,
   ⟨cRinse, (by decide +kernel)⟩,
   ⟨cRinse, (by decide +kernel)⟩,
   ⟨0, cg, (by decide +kernel)⟩⟩

/-- The hypotheses of `Obligations.MemoryRequestRows`, part 2. -/
theorem met_MemoryRequestRows_2 :
    (∃ k, WritesRegMet (.darnReadRaw k) k 0xB012 (fun p c => darnRefused c p .readRaw = false ∧ c.mem.region (kPhys c p (diagOf c p).addr / 8 * 8) = .sram)) ∧
    (∃ k, WritesRegMet (.darnWriteRaw k) k 0xB012 (fun p c => darnRefused c p .writeRaw = false ∧ c.mem.region (kPhys c p (diagOf c p).addr / 8 * 8) = .sram)) ∧
    (∃ k, WritesRegMet (.darnWriteCheck k) k 0xB012 (fun p c => darnRefused c p .writeCheck = false ∧ c.mem.region (kPhys c p (diagOf c p).addr / 8 * 8) = .sram)) :=
  ⟨⟨0, cgDarn, (by decide +kernel)⟩,
   ⟨0, cgDarn, (by decide +kernel)⟩,
   ⟨0, cgDarn, (by decide +kernel)⟩⟩

/-- A macro is being copied to the spare. -/
def cCopy (row : Nat) : Chip :=
  setUnitState ⟨2, 32⟩ .copying (modMem (fun m => { m with copy := some { logical := 31, spare := 32, row := row } }) c0)

/-- External memory with a walk, and a flash operation. -/
def cWalk (r : Resilver) : Chip := modMem (fun m => { m with xmem := .full, density := 8, resilver := some r }) c0
def cFlash (k : FlashKind) (left : Nat) : Chip := modMem (fun m => { m with flashOp := some ⟨none, k, 0, 0, left, 2, [], true⟩ }) c0

/-- The hypotheses of `Obligations.MemoryDeviceRows`, part 1. -/
theorem met_MemoryDeviceRows_1 :
    (∃ d : Fin 6, MakesMet (.externalDeviceLost d) (fun c => fitted c d = true ∧ c.mem.resilver = none ∧ c.mem.erased.toList.getD d false = false ∧ ∀ j, j < 6 → j ≠ d.val → c.mem.erased.toList.getD j false = false)) ∧
    (∃ r : Resilver, MakesMet .resilverLine (fun c => c.mem.resilver = some r ∧ r.aborted = true)) ∧
    (∃ r : Resilver, MakesMet .resilverLine (fun c => c.mem.resilver = some r ∧ r.aborted = false ∧ (readLine r.ptr (evictLine .xmem (0x400000 + r.ptr) c)).2.mem.resilver = some r)) ∧
    (∃ k : MacroCopy, MakesMet (.macroCopyRow true) (fun c => c.mem.copy = some k ∧ unitState (copyRow k c) ⟨2, k.spare⟩ = .copying)) ∧
    (∃ k : MacroCopy, MakesMet (.macroCopyRow false) (fun c => c.mem.copy = some k ∧ k.row < 2047 ∧ unitState (copyRow k c) ⟨2, k.spare⟩ = .copying)) ∧
    (∃ k : MacroCopy, MakesMet (.macroCopyRow false) (fun c => c.mem.copy = some k ∧ k.row = 2047 ∧ unitState (copyRow k c) ⟨2, k.spare⟩ = .copying)) ∧
    (∃ o : FlashOp, MakesMet .flashOpComplete (fun c => c.mem.flashOp = some o ∧ o.kind = .program ∧ o.busy = true ∧ 1 < o.left)) ∧
    (∃ o : FlashOp, MakesMet .flashOpComplete (fun c => c.mem.flashOp = some o ∧ o.kind = .erase ∧ o.busy = true ∧ o.left = 1)) ∧
    (∃ o : FlashOp, MakesMet .flashOpTimeout (fun c => c.mem.flashOp = some o ∧ o.busy = true)) ∧
    (∃ (page : Word), ∃ bs, MakesMet (.cartPageFill page) (fun c => c.mem.cart = .mounted ∧ isPegged c 0x0B 1 = false ∧ c.mem.cache.any (·.page == page.toNat) = false ∧ cartPageGood c.mem page.toNat = true ∧ (if bit c.mem.cartHdr.flags 0 then cartPlain c page.toNat (c.mem.bytes (0x30000000 + 4096 * page.toNat) 4096) else some (c.mem.bytes (0x30000000 + 4096 * page.toNat) 4096)) = some bs)) :=
  ⟨⟨5, modMem (fun m => { m with xmem := .full, density := 8 }) c0, by decide +kernel, by decide +kernel, by decide +kernel, by decide +kernel, by decide +kernel⟩,
   ⟨{ dev := 5, aborted := true }, cWalk { dev := 5, aborted := true }, (by decide +kernel)⟩,
   ⟨{ dev := 0, ptr := 524287 }, cWalk { dev := 0, ptr := 524287 }, (by decide +kernel)⟩,
   ⟨{ logical := 31, spare := 32 }, cCopy 0, (by decide +kernel)⟩,
   ⟨{ logical := 31, spare := 32, row := 2046 }, cCopy 2046, (by decide +kernel)⟩,
   ⟨{ logical := 31, spare := 32, row := 2047 }, cCopy 2047, (by decide +kernel)⟩,
   ⟨⟨none, .program, 0, 0, 2, 2, [], true⟩, cFlash .program 2, (by decide +kernel)⟩,
   ⟨⟨none, .erase, 0, 0, 1, 2, [], true⟩, cFlash .erase 1, (by decide +kernel)⟩,
   ⟨⟨none, .erase, 0, 0, 1, 2, [], true⟩, cFlash .erase 1, (by decide +kernel)⟩,
   ⟨0, cRinse.mem.bytes 0x30000000 4096, cRinse, (by decide +kernel), (by decide +kernel), (by decide +kernel), (by decide +kernel), (by decide +kernel), (if_neg (by decide +kernel)).trans rfl⟩⟩

/-- The hypotheses of `Obligations.MemoryDeviceRows`, part 2. -/
theorem met_MemoryDeviceRows_2 :
    (MakesMet .cartRemoval (fun c => c.mem.cart ≠ .absent ∧ c.mem.flashOp = none)) ∧
    (MakesMet (.cartInsertion none) (fun c => c.mem.cart = .absent)) ∧
    (∃ bs, MakesMet (.cartInsertion (some bs)) (fun c => c.mem.cart = .absent ∧ bs.length ≤ 2 ^ 28)) :=
  ⟨⟨cRinse, (by decide +kernel)⟩,
   ⟨c0, (by decide +kernel)⟩,
   ⟨[], c0, (by decide +kernel)⟩⟩

/-- Guest 1's Spool channel is in some state. -/
def cgCh (x : SpoolCh) : Chip := { cgw with spool := vset cgw.spool 7 x }

/-- A descriptor that copies one byte from 0x000000 to 0x000010. -/
def copyDesc : List Byte := [1, 0, 0, 0, 0, 0, 0, 0, 0, 0, 0, 0, 0x10, 0, 0, 0, 1] ++ List.replicate 15 0

/-- The channel performs it, for a command that a CANCEL has or has not asked to stop. -/
def chCopy : SpoolCh := { st := .running, queue := [{ first := 0x20, handle := some 1 }], loaded := some copyDesc }
def cgCancel : Chip := { cgCh chCopy with cmds := [{ handle := 1, op := 0x0910, started := true, cancelBy := some 2 }] }

theorem elem_ok {r : ElemRes} (h : (match r with | .ok _ => true | _ => false) = true) : ∃ d, r = .ok d := by
  cases r <;> simp_all

/-- The hypotheses of `Obligations.SpoolCommandsAndRows`, part 1. -/
theorem met_SpoolCommandsAndRows_1 :
    (∃ ch, AnswersMet 0x0901 .splStatus (fun c m => spoolTarget m c = some ch ∧ isPegged c 4 ch = false)) ∧
    (∃ ch, AnswersMet 0x0910 .splSubmit (fun c m => spoolTarget m c = some ch ∧ isPegged c 4 ch = false ∧ m.b 9 ≤ 1 ∧ m.z 10 2 = true ∧ m.f 12 4 < 2 ^ 24 ∧ m.f 12 4 % 32 = 0 ∧ (chOf c ch).queue.length < 4)) ∧
    (∃ ch, AnswersMet 0x0911 .splResume (fun c m => spoolTarget m c = some ch ∧ isPegged c 4 ch = false ∧ (chOf c ch).st = .parked ∧ (chOf c ch).queue = [])) ∧
    (∃ k, ∃ (n : Fin 8), ∃ bulk ev ch, WritesRegMet (.spoolStart k n bulk ev) k (0x2000 + 0x20 * n.val) (fun p c => windowUnit c p .spool n = some ch ∧ (chOf c ch).free = true ∧ (chOf c ch).queue = [])) ∧
    (∃ k, ∃ (n : Fin 8), ∃ bulk ev ch, WritesRegMet (.spoolAbort k n bulk ev) k (0x2000 + 0x20 * n.val) (fun p c => windowUnit c p .spool n = some ch ∧ (chOf c ch).st = .running)) ∧
    (∃ k, ∃ (n : Fin 8), ∃ bulk ev ch, WritesRegMet (.spoolResumeWrite k n bulk ev) k (0x2000 + 0x20 * n.val) (fun p c => windowUnit c p .spool n = some ch ∧ (chOf c ch).st = .parked ∧ (chOf c ch).queue = [])) ∧
    (∃ k, ∃ (n : Fin 8), ∃ bulk ev ch, WritesRegMet (.spoolClear k n bulk ev) k (0x2000 + 0x20 * n.val) (fun p c => windowUnit c p .spool n = some ch ∧ (chOf c ch).st = .parked)) ∧
    (∃ k, ∃ (n : Fin 8), ∃ resume bulk ev ch, WritesRegMet (.spoolCancelBeforeStart k n resume bulk ev) k (0x2000 + 0x20 * n.val) (fun p c => windowUnit c p .spool n = some ch ∧ (chOf c ch).free = true)) ∧
    (∃ (ch : Fin 8), ∃ q l, MakesMet (.spoolChainStart ch) (fun c => (chOf c ch).free = true ∧ (chOf c ch).queue = q :: l)) ∧
    (∃ (ch : Fin 8), ∃ bs x d, MakesMet (.spoolElement ch) (fun c => (chOf c ch).st = .running ∧ isPegged c 4 ch = false ∧ cancelWaits ((chOf c ch).queue.head?.getD default).handle c = false ∧ (chOf c ch).loaded = some bs ∧ parseDesc bs (chOf c ch).curIdx = some x ∧ spElem (ownerOf c .spool ch) ((chOf c ch).bulk || ((chOf c ch).queue.head?.getD default).bulk) x (chOf c ch).curElem c = .ok d)) :=
  ⟨⟨7, met_cmd cgw (took 0x0901 (.part 1) []) (by decide +kernel)⟩,
   ⟨7, met_cmd cgw (took 0x0910 (.part 1) [0, 1, 0, 0, 0xE0, 0xFF, 0xFF]) (by decide +kernel)⟩,
   ⟨7, met_cmd (cgCh { st := .parked }) (took 0x0911 (.part 1) []) (by decide +kernel)⟩,
   ⟨0, 0, true, true, 7, cgCh { st := .parked }, (by decide +kernel)⟩,
   ⟨0, 0, true, true, 7, cgCh { st := .running }, (by decide +kernel)⟩,
   ⟨0, 0, true, true, 7, cgCh { st := .parked }, (by decide +kernel)⟩,
   ⟨0, 0, true, true, 7, cgCh { st := .parked }, (by decide +kernel)⟩,
   ⟨0, 0, true, true, true, 7, cgw, (by decide +kernel)⟩,
   ⟨7, { first := 0 }, [], cgCh { queue := [{ first := 0 }] }, (by decide +kernel)⟩,
   (elem_ok (r := spElem (ownerOf (cgCh chCopy) .spool 7) ((chOf (cgCh chCopy) 7).bulk || ((chOf (cgCh chCopy) 7).queue.head?.getD default).bulk)
      ((parseDesc copyDesc 0).get (by decide +kernel)) (chOf (cgCh chCopy) 7).curElem (cgCh chCopy)) (by decide +kernel)).elim
    fun d h => ⟨7, copyDesc, (parseDesc copyDesc 0).get (by decide +kernel), d, cgCh chCopy, (by decide +kernel), (by decide +kernel), (by decide +kernel), (by decide +kernel), (by decide +kernel), (by decide +kernel), h⟩⟩

/-- The hypotheses of `Obligations.SpoolCommandsAndRows`, part 2. -/
theorem met_SpoolCommandsAndRows_2 :
    (∃ (ch : Fin 8), MakesMet (.spoolElement ch) (fun c => (chOf c ch).st = .running ∧ isPegged c 4 ch = false ∧ cancelWaits ((chOf c ch).queue.head?.getD default).handle c = true)) ∧
    (∃ ch : Fin 8, MakesMet (.spoolStall ch) (fun c => (chOf c ch).st = .running)) :=
  ⟨⟨7, cgCancel, (by decide +kernel)⟩,
   ⟨7, cgCh { st := .running }, (by decide +kernel)⟩⟩

/-- Guest 1 with a beam budget. -/
def cgBud : Chip := modPart 1 (fun q => { q with budget := 128 }) cgw

/-- Guest 1 with bytes of a layer image at 0x000100: W and H 1, every other register 0. -/
def cgImg : Chip := modMem (fun m => m.setBytes 0x100 ([0, 0, 0, 0, 0, 0, 0, 0, 1, 0, 1, 0] ++ List.replicate 52 0)) cgw

/-- A CMP.TONE whose table was read at acceptance. -/
def tone (mode n : Nat) : Cmd := { took 0x0B12 (.part 0) [mode] with srcRead := true, data := List.replicate n 0 }

/-- The hypotheses of `Obligations.LayerAndComposeCommands`, part 1. -/
theorem met_LayerAndComposeCommands_1 :
    (∃ hw, AnswersMet 0x0A01 .lyrStatus (fun c m => lunitOf c m.part (m.b 8) = some (.layer hw) ∧ isPegged c 6 hw = false)) ∧
    (∃ hw img d, AnswersMet 0x0A10 .lyrSetup (fun c m => kRangeOk c m.part .r (m.f 12 4) 64 = true ∧ m.f 12 4 < 2 ^ 24 ∧ readKFree m.part (m.f 12 4) 64 c = (img, d) ∧ m.b 8 < 8 ∧ layerOfLocal (afterChanges c) m.part (m.b 8) = some hw ∧ anyPoison img = false ∧ m.z 9 3 = true ∧ (setupRegs (plain img)).all (fun w => blockValid (kindOf hw) w.1 w.2) = true ∧ isPegged (afterChanges c) 6 hw = false ∧ ((setupRegs (plain img)).foldl (fun r w => r.write (kindOf hw) w.1 w.2) (layerOf (afterChanges c) hw).r).en = false)) ∧
    (∃ hw, AnswersMet 0x0A11 .lyrEnable (fun c m => m.b 8 ≠ 0x81 ∧ lunitOf (afterChanges c) m.part (m.b 8) = some (.layer hw) ∧ bit (m.b 9) 7 = false ∧ bit (m.b 9) 3 = false ∧ isPegged (afterChanges c) 6 hw = false ∧ (bit (m.b 9) 0 = true → admission (afterChanges c) m.part (loadOf (modLayer hw (fun l => { l with r := { l.r with en := false } }) (afterChanges c)) m.part) (layerCost (afterChanges c) hw (layerOf (afterChanges c) hw).r) false ≠ .refused))) ∧
    (AnswersMet 0x0A12 .lyrPalette (fun c m => 1 ≤ m.f 10 2 ∧ m.f 10 2 ≤ 1024 ∧ m.f 12 4 < 2 ^ 24 ∧ kRangeOk c m.part .r (m.f 12 4) (4 * m.f 10 2) = true ∧ anyPoison (readKFree m.part (m.f 12 4) (4 * m.f 10 2) c).1 = false ∧ m.f 8 2 + m.f 10 2 ≤ 64 * (palBanks (afterChanges c).lyr m.part).length)) ∧
    (AnswersMet 0x0A13 .lyrGrant (fun c m => 1 ≤ m.b 8 ∧ m.b 8 ≤ 6 ∧ m.b 10 ≤ 15 ∧ m.b 11 ≤ 16 ∧ (0 < m.b 11 → m.b 10 + m.b 11 ≤ 16) ∧ m.b 12 ≤ 64 ∧ m.b 12 ≤ 8 * (ownedUnits (afterChanges c) (m.b 8) .sprite).length ∧ m.b 9 = (partOf c (m.b 8)).gen ∧ ((partOf c (m.b 8)).st = .stopped ∨ (partOf c (m.b 8)).st = .running) ∧ (∀ b, m.b 10 ≤ b → b < m.b 10 + m.b 11 → b < 16 → vget (afterChanges c).lyr.palOwner b = 0 ∨ vget (afterChanges c).lyr.palOwner b = m.b 8) ∧ ((List.range 7).map fun i => if i = m.b 8 then m.b 12 else (groupOf (afterChanges c) i).quota).sum ≤ 64 ∧ m.b 12 ≤ (groupOf (afterChanges c) (m.b 8)).quota)) ∧
    (AnswersMet 0x0A20 .stchSet (fun c m => m.f 8 4 < 2 ^ 24 ∧ m.f 8 4 % 8 = 0 ∧ 1 ≤ m.f 12 2 ∧ m.f 12 2 ≤ 4096 ∧ 1 ≤ m.b 14 ∧ m.b 14 ≤ 16 ∧ m.b 15 ≤ 1 ∧ (m.b 15 = 1 → admission (afterChanges c) m.part (loadOf (modStitch m.part (fun s => { s with en := false }) (afterChanges c)) m.part) (8 * m.b 14) false ≠ .refused))) ∧
    (AnswersMet 0x0B01 .cmpStatus (fun _ m => m.org = .part 0)) ∧
    (∃ hw, AnswersMet 0x0B10 .cmpBlend (fun c m => m.b 8 < 8 ∧ layerOfLocal (afterChanges c) m.part (m.b 8) = some hw ∧ m.b 9 % 4 ≠ 3 ∧ m.b 9 < 8 ∧ m.b 10 ≤ 7 ∧ isPegged (afterChanges c) 6 hw = false)) ∧
    (AnswersMet 0x0B11 .cmpBackground (fun _ m => m.f 8 2 ≤ 8191 ∧ m.f 10 2 ≤ 8191 ∧ m.f 12 2 ≤ 8191)) ∧
    (AnswersMet 0x0B12 .cmpTone (fun _ m => m.b 8 = 0 ∧ m.z 9 3 = true ∧ m.srcDenied = false ∧ m.dataPoison = false)) :=
  ⟨⟨7, met_cmd cgw (took 0x0A01 (.part 1) []) (by decide +kernel)⟩,
   ⟨7, (readKFree 1 0x100 64 cgImg).1, (readKFree 1 0x100 64 { cgImg with cmds := [took 0x0A10 (.part 1) [0, 0, 0, 0, 0, 1]] }).2,
    met_cmd cgImg (took 0x0A10 (.part 1) [0, 0, 0, 0, 0, 1])
      ⟨by decide +kernel, by decide +kernel, by decide +kernel, rfl, by decide +kernel, by decide +kernel, by decide +kernel, by decide +kernel,
       by decide +kernel, by decide +kernel, by decide +kernel⟩⟩,
   ⟨7, met_cmd cgBud (took 0x0A11 (.part 1) [0, 1]) (by decide +kernel)⟩,
   met_own c0 [0, 0, 0x00, 0x04] (by decide +kernel),
   met_own cgw [1, 1, 15, 1, 0] ⟨by decide +kernel, by decide +kernel, by decide +kernel, by decide +kernel, by decide +kernel, by decide +kernel,
    by decide +kernel, by decide +kernel, by decide +kernel, by decide +kernel,
    fun b _ _ h => (by decide +kernel : ∀ b, b < 16 → vget (afterChanges cgw).lyr.palOwner b = 0 ∨ vget (afterChanges cgw).lyr.palOwner b = _) b h,
    by decide +kernel, by decide +kernel⟩,
   met_cmd cgBud (took 0x0A20 (.part 1) [0xF8, 0xFF, 0xFF, 0, 0, 0x10, 16, 1]) (by decide +kernel),
   met_own c0 [] (by decide +kernel),
   ⟨7, met_own c0 [7, 6, 7] (by decide +kernel)⟩,
   met_own c0 [0xFF, 0x1F, 0xFF, 0x1F, 0xFF, 0x1F] (by decide +kernel),
   met_own c0 [] (by decide +kernel)⟩

/-- The hypotheses of `Obligations.LayerAndComposeCommands`, part 2. -/
theorem met_LayerAndComposeCommands_2 :
    (∃ v, AnswersMet 0x0B12 .cmpTone (fun _ m => 1 ≤ m.b 8 ∧ m.b 8 ≤ 3 ∧ m.z 9 3 = true ∧ m.srcRead = true ∧ m.srcDenied = false ∧ m.f 12 4 < 2 ^ 24 ∧ m.org.external = false ∧ m.dataPoison = false ∧ toneTables (m.b 8) m.data = some v ∧ v.toList.any (fun t => t.any (4096 ≤ ·)) = false)) ∧
    (AnswersMet 0x0B13 .cmpDither (fun _ m => m.b 8 ≤ 2 ∧ depthOk (m.b 9) = true ∧ depthOk (m.b 10) = true ∧ depthOk (m.b 11) = true)) :=
  ⟨⟨Vector.replicate 3 (List.replicate 129 0), met_cmd c0 (tone 3 258) (by decide +kernel)⟩,
   met_own c0 [2, 8, 5, 6] (by decide +kernel)⟩

/-- Guest 1 with the palette bank 15 and its layer window held or not. -/
def cgPal (held : Bool) : Chip :=
  modLp 1 (fun l => { l with hold := held }) { cgw with lyr := { cgw.lyr with palOwner := vset cgw.lyr.palOwner 15 1 } }

/-- A line of a display of one layer, which P0 owns and which was admitted. -/
def shown : Lyr := { layers := vset ({} : Lyr).layers 7 { r := { en := true }, m := { admitted := true } } }
def slot0 (f : Option (List UnitLine)) : LineSlot := { line := 0, snap := shown, cmp := {}, frame := 0, fetched := f }
def cLine (f : Option (List UnitLine)) : Chip := { c0 with scan := { c0.scan with lines := [slot0 f] } }

/-- The hypotheses of `Obligations.LayerAndLineRows`, part 1. -/
theorem met_LayerAndLineRows_1 :
    (∃ k f, WritesRegMet (.layerHoldRelease k f) k 0x4480 (fun p c => (lpOf c p).hold = true)) ∧
    (∃ k, ∃ (e : Fin 1024), ∃ (v : Word), ∃ h, WritesRegMet (.paletteLowWrite k e v) k (0x5000 + 4 * e.val) (fun p c => (lpOf c p).hold = false ∧ palEntry c.lyr p e = some h)) ∧
    (∃ k, ∃ (e : Fin 1024), ∃ (v : Word), ∃ h, WritesRegMet (.paletteHighWrite k e v) k (0x5002 + 4 * e.val) (fun p c => (lpOf c p).hold = false ∧ palEntry c.lyr p e = some h)) ∧
    (∃ k, ∃ (n : Fin 2048), ∃ (v : Word), ∃ x, WritesRegMet (.layerEnableWrite k n v) k (0x4000 + 2 * n.val) (fun p c => n.val ≠ 0x240 ∧ (lpOf c p).hold = true ∧ lregAt c p (2 * n.val) = some x ∧ x.writable = true ∧ x.valid v.toNat = true)) ∧
    (∃ k, ∃ (n : Fin 2048), ∃ (v : Word), ∃ x, WritesRegMet (.layerEnableWrite k n v) k (0x4000 + 2 * n.val) (fun p c => n.val ≠ 0x240 ∧ (lpOf c p).hold = false ∧ lregAt c p (2 * n.val) = some x ∧ x.writable = true ∧ x.valid v.toNat = true)) ∧
    (∃ k, ∃ (n : Fin 2048), ∃ (v : Word), ∃ x, WritesRegMet (.layerEnableWrite k n v) k (0x4000 + 2 * n.val) (fun p c => n.val ≠ 0x240 ∧ lregAt c p (2 * n.val) = some x ∧ x.writable = true ∧ x.valid v.toNat = false)) ∧
    (∃ k, ∃ (v : Word), WritesRegMet (.stitchEnableWrite k v) k 0x6000 (fun _ _ => bit v.toNat 0 = false)) ∧
    (∃ k, ∃ (v : Word), ∃ a, WritesRegMet (.stitchEnableWrite k v) k 0x6000 (fun p c => bit v.toNat 0 = true ∧ a ≠ .refused ∧ admission c p (loadOf (modStitch p (fun x => { x with en := false }) c) p) (stitchCost { (lpOf c p).stitch with en := true, slots := bits v.toNat 11 8 + 1 }) true = a)) ∧
    (∃ (n : Fin 2048), ∃ (dots : Fin 8192), ∃ s, MakesMet (.fetchComplete n dots) (fun c => (c.scan.lines.find? fun s => s.line == n.val && s.fetched.isNone) = some s ∧ s.missed = false)) ∧
    (∃ (n : Fin 2048), ∃ ml mg s, MakesMet (.fetchDeadline n ml mg) (fun c => (c.scan.lines.find? fun s => s.line == n.val && s.fetched.isNone) = some s ∧ missing c s ml mg ≠ ([], []) ∧ (∀ hw ∈ (missing c s ml mg).1, essEff (s.snap.layers.toList.getD hw {}).r.ess (layerOf c hw).m = false) ∧ (∀ p ∈ (missing c s ml mg).2, essEff (s.snap.groups.toList.getD p {}).ess (groupOf c p).m = false))) :=
  ⟨⟨0, true, cgPal true, (by decide +kernel)⟩,
   ⟨0, 63, 0, 1023, cgPal false, (by decide +kernel)⟩,
   ⟨0, 0, 0, 960, cgPal false, (by decide +kernel)⟩,
   ⟨0, 0x17, 0, .block 7 0x2E, cgPal true, (by decide +kernel)⟩,
   ⟨0, 0, 1, .block 7 0x00, cgPal false, (by decide +kernel)⟩,
   ⟨0, 4, 0, .block 7 0x08, cgPal true, (by decide +kernel)⟩,
   ⟨0, 0, cgw, (by decide +kernel)⟩,
   ⟨0, 0x0F01, _, cgw, by decide +kernel, by decide +kernel, by decide +kernel, rfl⟩,
   ⟨0, 0, slot0 none, cLine none, (by decide +kernel)⟩,
   ⟨0, 0x80, 0, slot0 none, cLine none, (by decide +kernel)⟩⟩

/-- The hypotheses of `Obligations.LayerAndLineRows`, part 2. -/
theorem met_LayerAndLineRows_2 :
    (∃ (n : Fin 2048), ∃ s us, MakesMet (.lineCompose n) (fun c => (c.scan.lines.find? fun s => s.line == n.val && s.composed.isNone) = some s ∧ s.fetched = some us ∧ fullSlots c < 4)) ∧
    (∃ (p : Fin 7), ∃ t, MakesMet (.stormHoldEnd p) (fun c => (lpOf c p).storm = some t)) :=
  ⟨⟨0, slot0 (some []), [], cLine (some []), (by decide +kernel)⟩,
   ⟨1, 5, modLp 1 (fun l => { l with storm := some 5 }) cg, (by decide +kernel)⟩⟩

/-- Guest 1's Hamper and the running-priority stack of core 0. -/
def cgHmp (h : Hmp) (prio : List Nat) : Chip := modCore 0 (fun x => { x with prio := prio }) (modHmp 1 (fun _ => h) cg)

/-- The hypotheses of `Obligations.HamperWindowRows`. -/
theorem met_HamperWindowRows :
    (∃ (k : CoreId), ∃ (n : Fin 128), (96 ≤ n.val) ∧ WritesRegMet (.eoi k n) k 0x004 (fun _ _ => True)) ∧
    (∃ (k : CoreId), ∃ (n : Fin 128), (n.val < 96) ∧ WritesRegMet (.eoi k n) k 0x004 (fun p c => (hmpOf (modCore k (fun x => { x with prio := x.prio.drop 1 }) c) p).pend.getLsbD n = false)) ∧
    (∃ (k : CoreId), ∃ (n : Fin 128), (n.val < 96) ∧ (isLevelSrc n = false) ∧ WritesRegMet (.eoi k n) k 0x004 (fun p c =>
      let h := hmpOf (modCore k (fun x => { x with prio := x.prio.drop 1 }) c) p
      h.pend.getLsbD n = true ∧ sget 0 h.counts n = 0)) ∧
    (∃ (k : CoreId), ∃ (n : Fin 32), WritesRegMet (.swRaise k n) k 0x006 (fun _ _ => True)) ∧
    (∃ (k : CoreId), ∃ (l : Fin 4), WritesRegMet (.priRaise k l) k 0x00A (fun _ c => (coreOf c k).prio.length < 8)) ∧
    (∃ (k : CoreId), ∃ (l : Fin 4), WritesRegMet (.priRaise k l) k 0x00A (fun _ c => 8 ≤ (coreOf c k).prio.length)) ∧
    (∃ (k : CoreId), ∃ (q : Fin 4), ∃ (routeEn : Bool), ∃ (route : Fin 8), ∃ (size : Fin 16), WritesRegMet (.ringEnable k q routeEn route size) k (0x20 + 16 * q.val) (fun p c => ((hmpOf c p).ring q).enable = false ∧ ((hmpOf c p).ring q).sizeLog2 = size.val ∧ (q = 0 ∨ (hmpOf c p).expert = true))) ∧
    (∃ (k : CoreId), ∃ (q : Fin 4), ∃ (routeEn : Bool), ∃ (route : Fin 8), ∃ (size : Fin 16), WritesRegMet (.ringDisable k q routeEn route size) k (0x20 + 16 * q.val) (fun p c => ((hmpOf c p).ring q).enable = true ∧ ((hmpOf c p).ring q).sizeLog2 = size.val)) ∧
    (∃ (k : CoreId), ∃ (q : Fin 4), ∃ (v : Word), WritesRegMet (.ringConsWrite k q v) k (0x28 + 16 * q.val) (fun p c => 2 ^ ((hmpOf c p).ring q).sizeLog2 < idxDiff ((hmpOf c p).ring q).prod v.toNat)) ∧
    (∃ (k : CoreId), ∃ (q : Fin 4), ∃ (v : Word), WritesRegMet (.ringConsWrite k q v) k (0x28 + 16 * q.val) (fun p c => idxDiff ((hmpOf c p).ring q).prod v.toNat ≤ 2 ^ ((hmpOf c p).ring q).sizeLog2)) :=
  ⟨⟨0, 96, (by decide +kernel), cg, (by decide +kernel)⟩,
   ⟨0, 95, (by decide +kernel), cg, (by decide +kernel)⟩,
   ⟨0, 64, (by decide +kernel), (by decide +kernel), cgHmp { pend := 1#96 <<< 64 } [1], (by decide +kernel)⟩,
   ⟨0, 31, cg, (by decide +kernel)⟩,
   ⟨0, 3, cgHmp {} (List.replicate 7 3), (by decide +kernel)⟩,
   ⟨0, 3, cgHmp {} (List.replicate 8 3), (by decide +kernel)⟩,
   ⟨0, 0, true, 7, 4, cg, (by decide +kernel)⟩,
   ⟨0, 0, true, 7, 4, cgHmp { rings := Vector.replicate 4 { enable := true } } [], (by decide +kernel)⟩,
   ⟨0, 3, 17, cgHmp { rings := Vector.replicate 4 { enable := true, prod := 0 } } [], (by decide +kernel)⟩,
   ⟨0, 3, 0xFFF0, cgHmp { rings := Vector.replicate 4 { enable := true, prod := 0 } } [], (by decide +kernel)⟩⟩

/-- An edge of software event 0 of guest 1 waits. -/
def cgEdge (h : Hmp) : Chip := { modHmp 1 (fun _ => h) cg with edges := [⟨1, 64, .one 5⟩] }
def openRings : Vector Ring 4 := Vector.replicate 4 { enable := true }

/-- The hypotheses of `Obligations.HamperRows`. -/
theorem met_HamperRows :
    (∃ (p : Fin 7), ∃ (src : Fin 96), 
    let first (e : Edge) (c : Chip) : Prop := c.edges.find? (fun e => e.part == p.val && e.src == src.val) = some e
    ∃ e, MakesMet (.hamperEdge p src) (fun c => first e c ∧ (hmpOf c p).srcEn.getLsbD src = false)) ∧
    (∃ (p : Fin 7), ∃ (src : Fin 96), 
    let first (e : Edge) (c : Chip) : Prop := c.edges.find? (fun e => e.part == p.val && e.src == src.val) = some e
    ∃ e, MakesMet (.hamperEdge p src) (fun c => first e c ∧ (hmpOf c p).srcEn.getLsbD src = true ∧ ((hmpOf c p).ring ((hmpOf c p).ringOf src)).enable = false)) ∧
    (∃ (p : Fin 7), ∃ (src : Fin 96), 
    let first (e : Edge) (c : Chip) : Prop := c.edges.find? (fun e => e.part == p.val && e.src == src.val) = some e
    ∃ e, MakesMet (.hamperEdge p src) (fun c => first e c ∧ (hmpOf c p).srcEn.getLsbD src = true ∧ ((hmpOf c p).ring ((hmpOf c p).ringOf src)).enable = true ∧ (hmpOf c p).posted src = false ∧ (hmpOf c p).pend.getLsbD src = true)) ∧
    (∃ (p : Fin 7), ∃ (src : Fin 96), 
    let first (e : Edge) (c : Chip) : Prop := c.edges.find? (fun e => e.part == p.val && e.src == src.val) = some e
    ∃ e, MakesMet (.hamperEdge p src) (fun c => first e c ∧ (hmpOf c p).srcEn.getLsbD src = true ∧ ((hmpOf c p).ring ((hmpOf c p).ringOf src)).enable = true ∧ (hmpOf c p).posted src = false ∧ (hmpOf c p).pend.getLsbD src = false)) ∧
    (∃ (p : Fin 7), ∃ (src : Fin 96), MakesMet (.hamperLevelAssert p src) (fun c => isLevelSrc src = true ∧ levelOf c p src = true ∧ (hmpOf c p).srcEn.getLsbD src = true ∧ ((hmpOf c p).ring ((hmpOf c p).ringOf src)).enable = true ∧ (hmpOf c p).pend.getLsbD src = false ∧ (hmpOf c p).posted src = false)) ∧
    (∃ (p : Fin 7), ∃ (src : Fin 96), ∃ q : Fin 4, MakesMet (.postponedRecordWrite p q) (fun _ => True)) :=
  ⟨⟨1, 64, ⟨1, 64, .one 5⟩, cgEdge { srcEn := 0 }, (by decide +kernel)⟩,
   ⟨1, 64, ⟨1, 64, .one 5⟩, cgEdge {}, (by decide +kernel)⟩,
   ⟨1, 64, ⟨1, 64, .one 5⟩, cgEdge { rings := openRings, pend := 1#96 <<< 64 }, (by decide +kernel)⟩,
   ⟨1, 64, ⟨1, 64, .one 5⟩, cgEdge { rings := openRings }, (by decide +kernel)⟩,
   ⟨0, 49, { modHmp 0 (fun h => { h with rings := openRings }) c0 with inp := { c0.inp with i2c := Vector.replicate 2 { svc := true } } }, (by decide +kernel)⟩,
   ⟨1, 0, 3, cg, (by decide +kernel)⟩⟩

/-- Core 0 with a guard region. -/
def cgGuard (r : GuardRegion) : Chip := modCore 0 (fun x => { x with guard := { x.guard with regions := vset x.guard.regions 7 r } }) cg

/-- The hypotheses of `Obligations.GuardAndRegisterRows`. -/
theorem met_GuardAndRegisterRows :
    (∃ (k : CoreId), ∃ (background clearErr : Bool), WritesRegMet (.guardEnable k background clearErr) k 0x1002 (fun _ c => (coreOf c k).guard.en = false ∧ ∀ r ∈ (coreOf c k).guard.regions.toList, r.en = true → r.configOk = true)) ∧
    (∃ (k : CoreId), ∃ (background clearErr : Bool), WritesRegMet (.guardEnable k background clearErr) k 0x1002 (fun _ c => (coreOf c k).guard.en = false ∧ ∃ r ∈ (coreOf c k).guard.regions.toList, r.en = true ∧ r.configOk = false)) ∧
    (∃ (k : CoreId), ∃ (background clearErr : Bool), WritesRegMet (.guardDisable k background clearErr) k 0x1002 (fun _ _ => True)) ∧
    (∃ (k : CoreId), ∃ (g : Fin 8), ∃ (reg : Fin 4), ∃ (v : Word), WritesRegMet (.guardRegionWrite k g reg v) k (0x1010 + 8 * g.val + 2 * reg.val) (fun _ c => (coreOf c k).guard.en = false)) ∧
    (∃ (k : CoreId), ∃ (off v : Word), WritesRegMet (.registerWrite k off v) k off.toNat (fun _ _ => True)) :=
  ⟨⟨0, true, true, cgGuard { base := 0x100, sizeLog2 := 8, r := true, en := true }, by decide +kernel, by decide +kernel, by decide +kernel⟩,
   ⟨0, true, true, cgGuard { base := 0x80, sizeLog2 := 8, r := true, en := true }, by decide +kernel, by decide +kernel, by decide +kernel⟩,
   ⟨0, true, true, cg, (by decide +kernel)⟩,
   ⟨0, 7, 3, 0xFFFF, cg, (by decide +kernel)⟩,
   ⟨0, 0x004, 0, cg, (by decide +kernel)⟩⟩

/-- A scan-out block in some state, without and with a DSI panel. -/
def cScan (s : Scan) : Chip := { c0 with scan := s }
def dsi (hold : Bool) : Chip := { cScan { mode := some { md12 with iface := 1 } } with beam := { c0.beam with hold := hold } }

/-- A read and a write of the DCS link, and a panel sequence. -/
def rd : Dcs := { kind := 2, vc := 0 }
def wr : Dcs := { kind := 0, vc := 0, data := [0x11] }
def seq1 (stage : Nat) : PanelSeq := { action := 1, stage := stage }

/-- The hypotheses of `Obligations.ScanOut`, part 1. -/
theorem met_ScanOut_1 :
    (AnswersMet 0x0C01 .scnStatus (fun _ m => m.org = .part 0)) ∧
    (AnswersMet 0x0C02 .scnSelStatus (fun _ m => m.b 8 ≤ 3)) ∧
    (AnswersMet 0x0C02 .scnSelStatus (fun _ m => m.b 8 = 0xFF)) ∧
    (AnswersMet 0x0C10 .scnMode (fun c m => bits (m.b 8) 6 5 = 0 ∧ (modeOf m).ok = true ∧ budgetSum c ≤ admitCapOf (modeOf m) ∧ modeUnreleased c.scan = false ∧ c.scan.modeQ = [])) ∧
    (AnswersMet 0x0C10 .scnMode (fun c m => bits (m.b 8) 6 5 = 0 ∧ (modeOf m).ok = true ∧ budgetSum c ≤ admitCapOf (modeOf m) ∧ (modeUnreleased c.scan = true ∨ c.scan.modeQ ≠ []))) ∧
    (AnswersMet 0x0C11 .scnPanel (fun c m => 1 ≤ m.b 8 ∧ m.b 8 ≤ 4 ∧ m.b 12 ≤ 1 ∧ c.scan.panel.seq = none ∧ panelInOrder c.scan (m.b 8) = true)) ∧
    (AnswersMet 0x0C12 .scnDcs (fun c m => m.b 8 ≤ 1 ∧ 1 ≤ m.b 9 ∧ m.b 9 ≤ 12 ∧ (m.b 8 = 0 → m.b 9 ≤ 2) ∧ m.b 10 ≤ 3 ∧ m.b 11 = 0 ∧ c.scan.mode.any (·.iface == 1) = true ∧ c.beam.hold = true)) ∧
    (AnswersMet 0x0C12 .scnDcs (fun c m => m.b 8 ≤ 1 ∧ 1 ≤ m.b 9 ∧ m.b 9 ≤ 12 ∧ (m.b 8 = 0 → m.b 9 ≤ 2) ∧ m.b 10 ≤ 3 ∧ m.b 11 = 0 ∧ c.scan.mode.any (·.iface == 1) = true ∧ c.beam.hold = false)) ∧
    (AnswersMet 0x0C12 .scnDcs (fun c m => m.b 8 = 2 ∧ m.b 9 = 1 ∧ m.b 10 ≤ 3 ∧ m.b 11 = 0 ∧ c.scan.mode.any (·.iface == 1) = true ∧ c.beam.hold = true ∧ c.scan.dcs.read = none)) ∧
    (AnswersMet 0x0C13 .scnSelenite (fun _ m => m.b 8 ≤ 3 ∧ m.b 9 ≤ 3 ∧ m.f 10 2 ≤ 1279 ∧ m.f 12 2 ≤ 799 ∧ 1 ≤ m.f 14 2 ∧ m.f 14 2 ≤ 1280 ∧ 1 ≤ m.f 16 2 ∧ m.f 16 2 ≤ 800 ∧ 1 ≤ m.b 18 ∧ m.b 19 = 0)) :=
  ⟨met_own c0 [] (by decide +kernel),
   met_own c0 [3] (by decide +kernel),
   met_own c0 [0xFF] (by decide +kernel),
   met_own c0 mode12 (by decide +kernel),
   met_own (cScan { h := { startHeld := true } }) mode12 (by decide +kernel),
   met_own c0 [1] (by decide +kernel),
   met_own (dsi true) [0, 2, 3] (by decide +kernel),
   met_own (dsi false) [1, 12] (by decide +kernel),
   met_own (dsi true) [2, 1] (by decide +kernel),
   met_own c0 [3, 3, 0xFF, 4, 0x1F, 3, 0, 5, 0x20, 3, 1] (by decide +kernel)⟩

/-- The hypotheses of `Obligations.ScanOut`, part 2. -/
theorem met_ScanOut_2 :
    (∃ r : Relock, MakesMet .synthLock (fun c => c.scan.relock = some r ∧ c.beam.hold = true ∧ c.scan.h.cutLock = false ∧ c.scan.h.startHeld = false ∧ c.scan.h.videoOff = false)) ∧
    (∃ r : Relock, MakesMet .lockTimeout (fun c => c.scan.relock = some r ∧ r.timedOut = false)) ∧
    (∃ r : Relock, MakesMet .lockRetry (fun c => c.scan.relock = some r ∧ r.timedOut = true)) ∧
    (∃ (hz : Long), ∃ m, MakesMet (.overshootCut false hz) (fun c => c.scan.mode = some m ∧ m.pclkMax * 101 < hz.toNat * 100 ∧ (c.scan.h.cuts.filter fun t => c.clk.qtime ≤ t + 24000000).length ≤ 1)) ∧
    (∃ (d : Dcs), ∃ l, MakesMet .dcsWriteSend (fun c => c.scan.dcs.waiting = d :: l ∧ c.beam.hold = false ∧ c.beam.vactive ≤ c.beam.line ∧ c.scan.dcs.line ≠ some (c.beam.frame, c.beam.line))) ∧
    (∃ (d : Dcs), ∃ bs, MakesMet (.dcsReadAnswer false bs) (fun c => c.scan.dcs.read = some d)) ∧
    (∃ (d : Dcs), ∃ bs, MakesMet (.dcsReadAnswer true bs) (fun c => c.scan.dcs.read = some d)) ∧
    (∃ d : Dcs, MakesMet .dcsReadTimeout (fun c => c.scan.dcs.read = some d)) ∧
    (∃ q : PanelSeq, MakesMet .panelSequenceWait (fun c => c.scan.panel.seq = some q ∧ q.action = 1 ∧ q.stage = 0)) ∧
    (∃ q : PanelSeq, MakesMet .panelSequenceWait (fun c => c.scan.panel.seq = some q ∧ q.action = 1 ∧ q.stage ≠ 0)) :=
  ⟨⟨{ mode := md12 }, cScan { relock := some { mode := md12 } }, (by decide +kernel)⟩,
   ⟨{ mode := md12 }, cScan { relock := some { mode := md12 } }, (by decide +kernel)⟩,
   ⟨{ mode := md12, timedOut := true }, cScan { relock := some { mode := md12, timedOut := true } }, (by decide +kernel)⟩,
   ⟨10100001, md12, shows 0 c0, (by decide +kernel)⟩,
   ⟨wr, [], shows 272 (cScan { dcs := { waiting := [wr] } }), (by decide +kernel)⟩,
   ⟨rd, [1], cScan { dcs := { read := some rd } }, (by decide +kernel)⟩,
   ⟨rd, [1], cScan { dcs := { read := some rd } }, (by decide +kernel)⟩,
   ⟨rd, cScan { dcs := { read := some rd } }, (by decide +kernel)⟩,
   ⟨seq1 0, cScan { panel := { seq := some (seq1 0) } }, (by decide +kernel)⟩,
   ⟨seq1 1, cScan { panel := { seq := some (seq1 1) } }, (by decide +kernel)⟩⟩

/-- The hypotheses of `Obligations.SoundCommands`, part 1. -/
theorem met_SoundCommands_1 :
    (AnswersMet 0x0D01 .sndStatus (fun _ _ => True)) ∧
    (∃ v, AnswersMet 0x0D10 .sndVoice (fun c m => windowUnit c m.part .voice (m.b 8) = some v ∧ bit (m.b 9) 7 = false ∧ (bits (m.b 9) 6 5 = 3 → m.part = 0) ∧ m.b 10 ≤ 2 ∧ m.z 29 1 = true ∧ voiceFieldsOk (bits (m.b 9) 4 3) (m.f 12 4) (m.f 16 4) (m.f 20 4) (m.f 24 2) (m.f 26 2) (m.b 28) = true ∧ isPegged c 7 v = false)) ∧
    (∃ v, AnswersMet 0x0D11 .sndEnv (fun c m => m.b 9 = 0 ∧ windowUnit c m.part .voice (m.b 8) = some v ∧ m.f 16 4 ≤ 2 ^ 23 ∧ isPegged c 7 v = false)) ∧
    (∃ n, AnswersMet 0x0D11 .sndEnv (fun c m => m.b 9 = 1 ∧ windowUnit c m.part .tone (m.b 8) = some n ∧ m.f 16 4 ≤ 2 ^ 23 ∧ isPegged c 8 n = false)) ∧
    (∃ n, AnswersMet 0x0D12 .sndTone (fun c m => windowUnit c m.part .tone (m.b 8) = some n ∧ m.b 9 < 64 ∧ (bits (m.b 9) 5 4 = 3 → m.part = 0) ∧ m.b 10 ≤ 2 ∧ m.f 12 4 < 2 ^ 24 ∧ m.b 17 ≤ 128 ∧ m.f 18 2 ≤ 8192 ∧ isPegged c 8 n = false)) ∧
    (∃ i, AnswersMet 0x0D13 .sndStream (fun c m => windowUnit c m.part .input (m.b 8) = some i ∧ i < 2 ∧ bit (m.b 9) 3 = false ∧ m.b 9 < 64 ∧ (bits (m.b 9) 5 4 = 3 → m.part = 0) ∧ 4000 ≤ m.f 12 4 ∧ m.f 12 4 ≤ 48000 ∧ ringFieldsOk (m.f 16 4) (m.b 20) = true ∧ m.b 21 ≤ 128 ∧ m.f 22 2 ≤ 8192 ∧ isPegged c 9 i = false)) ∧
    (∃ i, AnswersMet 0x0D14 .sndCapture (fun c m => windowUnit c m.part .input (m.b 8) = some i ∧ 2 ≤ i ∧ bit (m.b 9) 3 = false ∧ m.b 9 < 64 ∧ (bits (m.b 9) 5 4 = 3 → m.part = 0) ∧ ringFieldsOk (m.f 12 4) (m.b 16) = true ∧ m.b 17 ≤ 7 ∧ m.f 18 2 ≤ 8192 ∧ m.b 20 ≤ 128 ∧ isPegged c 9 i = false)) ∧
    (∃ own, AnswersMet 0x0D15 .sndGain (fun c m => consentOf c m.org = true ∧ gainStage (m.b 8) = some own ∧ (own = true → m.org.external = true ∨ m.part = 0) ∧ m.b 10 ≤ 2 ∧ m.z 11 1 = true ∧ m.f 12 2 ≤ 8192)) ∧
    (AnswersMet 0x0D16 .sndCap (fun c m => m.b 8 = 0 ∧ m.z 9 1 = true ∧ (m.org = .part 0 ∨ m.f 10 2 ≤ c.snd.mix.spkLim.cap))) ∧
    (AnswersMet 0x0D16 .sndCap (fun c m => m.b 8 = 1 ∧ m.z 9 1 = true ∧ (m.org = .part 0 ∨ m.f 10 2 ≤ c.snd.mix.i2sLim.cap))) :=
  ⟨met_own c0 [] (by decide +kernel),
   ⟨23, met_cmd cgw (took 0x0D10 (.part 1) [0, 0x00, 2, 0, 0, 0, 0, 0, 1, 0, 0, 0, 0, 0, 0, 0, 1, 0, 0, 0x20, 128]) (by decide +kernel)⟩,
   ⟨23, met_cmd cgw (took 0x0D11 (.part 1) [0, 0, 0, 0, 0, 0, 0, 0, 0, 0, 0x80]) (by decide +kernel)⟩,
   ⟨7, met_cmd cgw (took 0x0D11 (.part 1) [0, 1]) (by decide +kernel)⟩,
   ⟨7, met_cmd cgw (took 0x0D12 (.part 1) [0, 0x2F, 2, 0, 0xFF, 0xFF, 0xFF, 0, 0, 128, 0, 0x20]) (by decide +kernel)⟩,
   ⟨1, met_own c0 [1, 0x37, 0, 0, 0x80, 0xBB, 0, 0, 0, 0, 0, 0, 8] (by decide +kernel)⟩,
   ⟨4, met_cmd cgw (took 0x0D14 (.part 1) [0, 0x23, 0, 0, 0, 0, 0, 0, 8]) (by decide +kernel)⟩,
   ⟨true, met_own c0 [0x22, 0, 2, 0, 0, 0x20] (by decide +kernel)⟩,
   met_own c0 [0, 0, 0xFF, 0xFF] (by decide +kernel),
   met_cmd cg (took 0x0D16 .host [1, 0, 0, 0x40]) (by decide +kernel)⟩

/-- The hypotheses of `Obligations.SoundCommands`, part 2. -/
theorem met_SoundCommands_2 :
    (AnswersMet 0x0D17 .sndOutput (fun c m => m.b 8 ≤ 1 ∧ 4 ≤ m.b 9 ∧ m.b 9 ≤ 14 ∧ 2000 ≤ m.f 14 2 ∧ m.f 14 2 ≤ 5000 ∧ m.f 16 4 < 2 ^ 11 ∧ (i2sOf m).fmt ≠ 3 ∧ (i2sOf m).width ≠ 3 ∧ (∀ k, k < 8 → bits (m.f 20 4) (4 * k + 3) (4 * k) ≤ 5) ∧ bit (m.b 24) 3 = false ∧ bit (m.b 24) 7 = false ∧ m.b 25 ≤ 2 ∧ c.snd.bridge.fault = false ∧ i2sOf m = c.snd.i2s.cfg)) :=
  met_own c0 ([1, 14, 0, 0, 0, 0, 0x88, 0x13] ++ List.replicate 8 0 ++ [0, 0]) (by decide +kernel)

/-- The sound block in some state. -/
def cSnd (f : Sound → Sound) : Chip := { cgw with snd := f cgw.snd }
def cIn (i : Nat) (x : SndIn) : Chip := cSnd fun s => { s with ins := vset s.ins i x }

/-- The hypotheses of `Obligations.SoundRows`, part 1. -/
theorem met_SoundRows_1 :
    (∃ lv ls, MakesMet (.mixSample lv ls) (fun c => c.snd.started = true ∧ c.snd.out.fifo.length < 16)) ∧
    (∃ lv ls, MakesMet (.mixSample lv ls) (fun c => c.snd.started = true ∧ 16 ≤ c.snd.out.fifo.length ∧ c.snd.out.fifo.length < 256)) ∧
    (∃ x l, MakesMet .audioSamplePeriod (fun c => c.snd.started = true ∧ c.snd.locked = true ∧ c.snd.out.fifo = x :: l ∧ c.snd.i2s.cfg.en = false ∧ c.snd.i2s.next = none ∧ c.snd.i2s.clockLost = false ∧ (inOf c 4).lossRamp = 0)) ∧
    (MakesMet .audioSynthLock (fun c => c.snd.locked = false)) ∧
    (MakesMet .bridgeOvercurrent (fun c => c.snd.bridge.n ≠ 0 ∧ c.snd.bridge.tripped = none)) ∧
    (∃ t, MakesMet .bridgeRestart (fun c => c.snd.bridge.tripped = some t ∧ c.snd.bridge.fault = false)) ∧
    (∃ (mic : Fin 2), ∃ bs, MakesMet (.micSample mic bs) (fun c => (inOf c (2 + mic)).cfg.en = true ∧ (inOf c (2 + mic)).st.stuck = false)) ∧
    (∃ mic : Fin 2, MakesMet (.micStuck mic) (fun c => (inOf c (2 + mic)).cfg.en = true ∧ 1024 ≤ (inOf c (2 + mic)).cic.run ∧ (inOf c (2 + mic)).st.stuck = false)) ∧
    (∃ slots rate, MakesMet (.i2sInputFrame slots rate) (fun c => c.snd.i2s.cfg.en = true ∧ c.snd.i2s.clockLost = false ∧ c.snd.i2s.cfg.master = true ∧ ((inOf c 4).cfg.en = true ∨ (inOf c 4).cfg.mon = true))) ∧
    (MakesMet .i2sClockLost (fun c => c.snd.i2s.cfg.en = true ∧ c.snd.i2s.cfg.master = false ∧ c.snd.i2s.clockLost = false)) :=
  ⟨⟨0, 0, cSnd fun s => { s with out := { s.out with fifo := List.replicate 15 {} } }, (by decide +kernel)⟩,
   ⟨0, 0, cSnd fun s => { s with out := { s.out with fifo := List.replicate 255 {} } }, (by decide +kernel)⟩,
   ⟨{}, [], cSnd fun s => { s with out := { s.out with fifo := [{}] }, ins := vset s.ins 4 { lossRamp := 0 } }, (by decide +kernel)⟩,
   ⟨cSnd fun s => { s with locked := false }, (by decide +kernel)⟩,
   ⟨cSnd fun s => { s with bridge := { en := true, n := 96 } }, (by decide +kernel)⟩,
   ⟨7, cSnd fun s => { s with bridge := { en := true, tripped := some 7 } }, (by decide +kernel)⟩,
   ⟨1, 0, cIn 3 { cfg := { en := true } }, (by decide +kernel)⟩,
   ⟨1, cIn 3 { cfg := { en := true }, cic := { run := 1024 } }, (by decide +kernel)⟩,
   ⟨[], 48000, cSnd fun s => { s with i2s := { cfg := { en := true, master := true } }, ins := vset s.ins 4 { cfg := { mon := true } } }, (by decide +kernel)⟩,
   ⟨cSnd fun s => { s with i2s := { cfg := { en := true } } }, (by decide +kernel)⟩⟩

/-- The hypotheses of `Obligations.SoundRows`, part 2. -/
theorem met_SoundRows_2 :
    (MakesMet .i2sClockRecovered (fun c => c.snd.i2s.clockLost = true)) ∧
    (∃ k, ∃ (n : Fin 24), ∃ (v : Word), ∃ u, WritesRegMet (.voiceKeyOn k n v) k (0x7000 + 32 * n.val) (fun p c => windowUnit c p .voice n = some u ∧ sndWriteBad p (.voice u 0) (v.toNat ||| 1) = false ∧ (vget c.snd.parts p).hold = false)) ∧
    (∃ k, ∃ (n : Fin 24), ∃ (v : Word), ∃ u, WritesRegMet (.voiceKeyOff k n v) k (0x7000 + 32 * n.val) (fun p c => windowUnit c p .voice n = some u ∧ sndWriteBad p (.voice u 0) (v.toNat / 4 * 4 + 2) = false ∧ (vget c.snd.parts p).hold = false)) ∧
    (∃ k, ∃ (n : Fin 8), ∃ (v : Word), ∃ u, WritesRegMet (.toneKeyOn k n v) k (0x7400 + 32 * n.val) (fun p c => windowUnit c p .tone n = some u ∧ sndWriteBad p (.tone u 0) (v.toNat ||| 1) = false ∧ (vget c.snd.parts p).hold = false)) ∧
    (∃ k, ∃ (n : Fin 8), ∃ (v : Word), ∃ u, WritesRegMet (.toneKeyOff k n v) k (0x7400 + 32 * n.val) (fun p c => windowUnit c p .tone n = some u ∧ sndWriteBad p (.tone u 0) (v.toNat / 4 * 4 + 2) = false ∧ (vget c.snd.parts p).hold = true)) ∧
    (∃ k, ∃ (w : Fin 4), WritesRegMet (.soundHoldRelease k w) k 0x770A (fun p c => (vget c.snd.parts p).hold = true ∧ (vget c.snd.parts p).staged ≠ [])) ∧
    (∃ k, ReadsRegMet (.ascLoRead k) k 0x7712) :=
  ⟨⟨cSnd fun s => { s with i2s := { cfg := { en := true }, clockLost := true } }, (by decide +kernel)⟩,
   ⟨0, 0, 0, 23, cgw, (by decide +kernel)⟩,
   ⟨0, 0, 0, 23, cgw, (by decide +kernel)⟩,
   ⟨0, 0, 0, 7, cgw, (by decide +kernel)⟩,
   ⟨0, 0, 0, 7, cSnd fun s => { s with parts := vset s.parts 1 { hold := true } }, (by decide +kernel)⟩,
   ⟨0, 3, cSnd fun s => { s with parts := vset s.parts 1 { hold := true, staged := [.voice 23 0 1] } }, (by decide +kernel)⟩,
   ⟨0, cgw, (by decide +kernel)⟩⟩

/-- The hypotheses of `Obligations.BeamRows`. -/
theorem met_BeamRows :
    (∃ o, MakesMet (.frameStart o) (fun c => beamMoves c = true ∧ c.scan.h.due = false ∧ c.beam.line + 1 = c.beam.vtotal)) ∧
    (MakesMet .lineStart (fun c => beamMoves c = true ∧ c.scan.h.due = false ∧ c.beam.line + 1 < c.beam.vtotal ∧ abortJumpDue c = false ∧ phaseJumpDue c = none)) ∧
    (MakesMet .abortRasterJump (fun c => abortJumpDue c = true ∧ c.scan.h.due = false)) ∧
    (∃ k, MakesMet .phaseJump (fun c => phaseJumpDue c = some k ∧ c.scan.h.due = false)) ∧
    (MakesMet .clockReferenceFallback (fun c => c.clk.rcFallback = false)) ∧
    (MakesMet .clockReferenceReturn (fun c => c.clk.rcFallback = true)) :=
  ⟨⟨{}, shows 287 c0, (by decide +kernel)⟩,
   ⟨shows 286 c0, (by decide +kernel)⟩,
   ⟨{ shows 199 c0 with scan := { (shows 199 c0).scan with abort := some { line := 200 } } }, (by decide +kernel)⟩,
   ⟨13, { shows 260 c0 with link := { c0.link with align := { c0.link.align with jump := some 13 } } }, (by decide +kernel)⟩,
   ⟨c0, (by decide +kernel)⟩,
   ⟨{ c0 with clk := { c0.clk with rcFallback := true } }, (by decide +kernel)⟩⟩

/-- The hypotheses of `Obligations.GovernorRows`. -/
theorem met_GovernorRows :
    (∃ tj, MakesMet (.thermalCap tj) (fun c => 110 < tj ∧ c.gov.thermCap = false)) ∧
    (∃ tj, MakesMet (.thermalCap tj) (fun _ => tj ≤ 110)) ∧
    (∃ out : Fin 256, MakesMet (.vcoreFollowFault out) (fun c => (outTarget c + 3 < out.val ∨ out.val + 3 < outTarget c) ∧ c.gov.followHold = false)) ∧
    (∃ out : Fin 256, MakesMet (.vcoreFollowRecovery out) (fun c => out.val ≤ outTarget c + 1 ∧ outTarget c ≤ out.val + 1)) ∧
    (∃ old h, MakesMet .vcoreTargetReached (fun c => c.gov.oldVmax = some (old, h))) ∧
    (∃ k, ReadsRegMet (.beamLineRead k) k 0xC000) ∧
    (∃ k, ReadsRegMet (.qtime0Read k) k 0xC014) ∧
    (∃ k, ReadsRegMet (.govStateRead k 0) k 0xC020) ∧
    (∃ k, ReadsRegMet (.govStateRead k 1) k 0xC022) ∧
    (∃ k, ReadsRegMet (.govStateRead k 2) k 0xC024) :=
  ⟨⟨111, c0, (by decide +kernel)⟩,
   ⟨25, c0, (by decide +kernel)⟩,
   ⟨84, c0, (by decide +kernel)⟩,
   ⟨81, c0, (by decide +kernel)⟩,
   ⟨90, none, { c0 with gov := { c0.gov with oldVmax := some (90, none) } }, (by decide +kernel)⟩,
   ⟨0, cg, (by decide +kernel)⟩,
   ⟨0, cg, (by decide +kernel)⟩,
   ⟨0, cg, (by decide +kernel)⟩,
   ⟨0, cg, (by decide +kernel)⟩,
   ⟨0, cg, (by decide +kernel)⟩⟩

/-- The chip with a supply state, and a supply that only VBUS or VBAT gives. -/
def cp (f : Power → Power) (c : Chip) : Chip := { c with pwr := f c.pwr }

/-- The hypotheses of `Obligations.SupplyRows`, part 1. -/
theorem met_SupplyRows_1 :
    (∃ v, MakesInMet (.vwarnCrossing v) (fun c => c.pwr.phase = .run ∧ c.pwr.warn = false ∧ v.vsys < c.pwr.vwarn)) ∧
    (∃ v, MakesInMet (.vwarnCrossing v) (fun c => c.pwr.phase = .run ∧ c.pwr.warn = true ∧ c.pwr.vwarn + 100 ≤ v.vsys)) ∧
    (∃ v, MakesMet (.class2Entry v) (fun c => c.pwr.cls = 1 ∧ 2300 ≤ v.vsys ∧ (v.vsys < 2600 ∨ hasSource v = false))) ∧
    (∃ v, MakesMet (.class2End v) (fun c => c.pwr.cls = 2 ∧ 2650 ≤ v.vsys ∧ hasSource v = true)) ∧
    (∃ t, MakesMet .class1Restore (fun c => c.pwr.c2end = some t ∧ c.pwr.cls = 1 ∧ c.pwr.reduced = true)) ∧
    (MakesMet .rideMsExpiry (fun c => c.pwr.cls = 2)) ∧
    (∃ v, MakesMet (.class3Entry v) (fun _ => v.vsys < 2300)) ∧
    (∃ v, MakesInMet (.retentionLost v) (fun c => c.pwr.phase = .retention ∧ v.vsys < 1900)) ∧
    (MakesInMet .resumeWindowExpiry (fun c => c.pwr.phase = .retention ∧ c.pwr.windowOpen = true)) ∧
    (∃ tj, MakesInMet (.thermalShutdown tj) (fun c => 125 < tj ∧ c.pwr.phase = .run)) :=
  ⟨⟨⟨3099, 5000, 0⟩, c0, (by decide +kernel)⟩,
   ⟨⟨3200, 5000, 0⟩, cp (fun p => { p with warn := true }) c0, (by decide +kernel)⟩,
   ⟨⟨2599, 0, 0⟩, c0, (by decide +kernel)⟩,
   ⟨⟨2650, 5000, 0⟩, cp (fun p => { p with cls := 2 }) c0, (by decide +kernel)⟩,
   ⟨0, cp (fun p => { p with c2end := some 0, reduced := true }) c0, (by decide +kernel)⟩,
   ⟨cp (fun p => { p with cls := 2 }) c0, (by decide +kernel)⟩,
   ⟨⟨2299, 0, 0⟩, c0, (by decide +kernel)⟩,
   ⟨⟨1899, 0, 0⟩, cp (fun p => { p with phase := .retention }) c0, (by decide +kernel)⟩,
   ⟨cp (fun p => { p with phase := .retention, windowOpen := true }) c0, (by decide +kernel)⟩,
   ⟨126, c0, (by decide +kernel)⟩⟩

/-- The hypotheses of `Obligations.SupplyRows`, part 2. -/
theorem met_SupplyRows_2 :
    (MakesInMet .buckCurrentLimit (fun c => c.pwr.phase = .run ∧ c.pwr.buckStopped = false)) ∧
    (MakesInMet .buckCurrentLimit (fun c => c.pwr.phase = .waitVbat ∧ c.pwr.buckStopped = false ∧ c.pwr.causeLatch = 9 ∧ 2 ≤ c.pwr.buckFails)) ∧
    (MakesInMet .buckRestart (fun _ => True)) ∧
    (∃ (b : Fin 4), MakesInMet (.vioBankLost b) (fun c => vget c.pwr.banks b ≠ .off ∧ vget c.pwr.banks b ≠ .lost)) ∧
    (∃ v, MakesInMet (.vbusOvervoltage v) (fun c => 6000 < v.vbus ∧ c.pwr.vbusOpen = false)) ∧
    (∃ v, MakesInMet (.vbusOvervoltageClear v) (fun c => v.vbus < 5800 ∧ c.pwr.vbusOpen = true)) :=
  ⟨⟨c0, (by decide +kernel)⟩,
   ⟨cp (fun p => { p with phase := .waitVbat, causeLatch := 9, buckFails := 2 }) c0, (by decide +kernel)⟩,
   ⟨c0, trivial⟩,
   ⟨3, c0, (by decide +kernel)⟩,
   ⟨⟨4500, 6001, 4500⟩, c0, (by decide +kernel)⟩,
   ⟨⟨4500, 5799, 4500⟩, cp (fun p => { p with vbusOpen := true }) c0, (by decide +kernel)⟩⟩

/-- A boot directory that lists slot A: an image of 256 bytes at 0x1_0000, version 1, confirmed or with all attempts left. -/
def dirA (confirmed : Nat) : List Byte :=
  let d := leBytes 4 0x44424B53 ++ leBytes 4 1 ++ leBytes 4 0x10000 ++ leBytes 4 256 ++ leBytes 4 1 ++ List.replicate 56 0xFF
  d ++ leBytes 4 (crc32 d) ++ [7, BitVec.ofNat 8 confirmed, 0xFF]
def cDir (confirmed : Nat) (c : Chip) : Chip := { c with mem := c.mem.setBytes 0x20000000 (dirA confirmed) }

/-- A signed image of 256 bytes: 128 of 0xFF, then the signature block of Table 16.8. -/
def imgA : List Byte :=
  List.replicate 128 0xFF ++ leBytes 4 0x47534B53 ++ leBytes 2 1 ++ [1, 0] ++ leBytes 2 (slotOf c0 15).keyId ++ [0, 0] ++ leBytes 4 0 ++ leBytes 4 1 ++
    List.replicate 44 0 ++ List.replicate 64 0xFF
/-- The chip with that image, which a warm restart is to load. -/
def cImg : Chip :=
  { cDir 0 c0 with mem := (cDir 0 c0).mem.setBytes 0x20010000 imgA, svc := { c0.svc with restart := some { slot := 0 } } }

/-- What the signature block of an image says of its form (Table 16.8). -/
def formOk (kind version title : Nat) (img : List Byte) : Bool :=
  let blk := img.drop (img.length - 128)
  256 ≤ img.length && pfield blk 0 4 == 0x47534B53 && pfield blk 4 2 == 1 && pbyte blk 6 == kind && pzero blk 7 1 && pzero blk 0x0A 2
    && pzero blk 0x1C 36 && decide (pfield blk 0x0C 4 ≤ 64) && pfield blk 0x10 4 == version && pfield blk 0x14 8 == title
    && (kind == 1 || pfield blk 0x0C 4 == 0)

/-- What an image needs to verify but for its signature, which the model does not compute (log entry 2). -/
theorem verify_good {c : Chip} {kind version title : Nat} {img : List Byte} {i : Nat} (h : ∀ k m s, Config.ed25519Verify k m s = true)
    (hf : formOk kind version title img = true)
    (hk : (slotsFor c 1 2 ++ slotsFor c 3 2).find? (fun i => (slotOf c i).keyId == pfield (img.drop (img.length - 128)) 0x08 2) = some i)
    (hr : ¬(kind = 1 ∧ pfield (img.drop (img.length - 128)) 0x0C 4 < c.fuses.floor)) :
    ∃ a b d, verifyImage c kind version title img = .good a b d := by
  have hk' : (slotsFor c 1 2 ++ slotsFor c 3 2).find? (fun i => (slotOf c i).keyId == pfield (img.drop (img.length - 128)) 0x08 2 &&
      Config.ed25519Verify (keyOf c i) (img.take (img.length - 128) ++ (img.drop (img.length - 128)).take 64) ((img.drop (img.length - 128)).drop 64))
      = some i := by
    rw [← hk]; congr 1; funext j; rw [h, Bool.and_true]
  unfold formOk at hf
  unfold verifyImage
  dsimp only at hf ⊢
  rw [hk', hf]
  exact ⟨_, _, _, if_neg hr⟩

theorem cImg_img : cImg.mem.bytes (0x20000000 + 0x10000) 256 = imgA := by decide +kernel

theorem slotGood_cImg (h : ∀ k m s, Config.ed25519Verify k m s = true) : ∃ r, slotGood cImg 0 = some r := by
  have hb : bootSlot cImg 0 = some { offset := 0x10000, length := 256, version := 1, attempts := 7, confirmed := true, revoked := false } := by
    decide +kernel
  obtain ⟨a, b, d, hv⟩ := verify_good (c := cImg) (kind := 1) (version := 1) (title := 0) (img := imgA) (i := 15) h
    (by decide +kernel) (by decide +kernel) (by decide +kernel)
  refine ⟨(b, d), ?_⟩
  rw [slotGood, hb]
  show imageGood cImg 0x10000 256 1 = _
  rw [imageGood, flashBase, cImg_img, hv]

/-- The hypotheses of `Obligations.ResetAndResumeRows`, part 1. -/
theorem met_ResetAndResumeRows_1 :
    (∃ v, MakesInMet (.powerOnReset v) (fun _ => v.vsys < 1500)) ∧
    (MakesInMet .resetNAssert (fun c => c.pwr.phase = .run ∧ c.pwr.buckStopped = false)) ∧
    (∃ src, MakesInMet (.wakeFromOff src) (fun c => c.pwr.phase = .off ∧ wakes c.pwr src = true)) ∧
    (MakesInMet (.testPinHigh true) (fun _ => True)) ∧
    (MakesInMet (.testPinHigh false) (fun _ => True)) ∧
    (MakesMet .deferredResetStart (fun c => c.pwr.deferred = some .coldStart)) ∧
    (∃ w, MakesMet .deferredResetStart (fun c => c.pwr.deferred = some (.off w))) ∧
    (∃ o, MakesInMet (.resume o) (fun c => c.pwr.phase = .retention ∧ resumeMet o.supply = true ∧ c.pwr.causeLatch ≠ 8 ∧ c.pwr.windowOpen = true ∧ o.ticks ≤ c.pwr.resumeMax * 2400000)) ∧
    (∃ o, MakesInMet (.resume o) (fun c => c.pwr.phase = .retention ∧ resumeMet o.supply = true ∧ c.pwr.causeLatch = 8)) ∧
    (MakesInMet .resumeRelease (fun c => c.pwr.phase = .resuming ∧ c.scan.relock = none ∧ c.beam.hold = false ∧ c.beam.line + 1 = c.beam.vtotal ∧ c.beam.htotal ≠ 0 ∧ c.scan.mode.isSome)) :=
  ⟨⟨⟨1499, 0, 0⟩, c0, (by decide +kernel)⟩,
   ⟨c0, (by decide +kernel)⟩,
   ⟨.vbus, cp (fun p => { p with phase := .off, wakeRule := .selected }) c0, (by decide +kernel)⟩,
   ⟨c0, trivial⟩,
   ⟨c0, trivial⟩,
   ⟨cp (fun p => { p with deferred := some .coldStart }) c0, (by decide +kernel)⟩,
   ⟨5, cp (fun p => { p with deferred := some (.off 5) }) c0, (by decide +kernel)⟩,
   ⟨{ supply := ⟨4500, 0, 4500⟩, ticks := 48000000, ms := 2000, vsysMin := 2000 }, cp (fun p => { p with phase := .retention, windowOpen := true }) c0, (by decide +kernel)⟩,
   ⟨{ supply := ⟨4500, 0, 4500⟩, ticks := 48000000, ms := 2000, vsysMin := 2000 }, cp (fun p => { p with phase := .retention, causeLatch := 8 }) c0, (by decide +kernel)⟩,
   ⟨cp (fun p => { p with phase := .resuming }) (shows 287 c0), (by decide +kernel)⟩⟩

/-- The hypotheses of `Obligations.ResetAndResumeRows`, part 2. -/
theorem met_ResetAndResumeRows_2 :
    (∃ o, MakesInMet (.vbatValid o) (fun c => c.pwr.phase = .waitVbat ∧ c.pwr.testHigh = false ∧ c.pwr.buckStopped = false ∧ resumeMet o.supply = true)) ∧
    (MakesMet .watchdogExpiry (fun c => ∃ t, c.pwr.wdFirst = some t ∧ c.clk.qtime ≤ t + 240000000)) ∧
    (MakesMet .watchdogExpiry (fun c => c.pwr.wdFirst = none ∧ slotConfirmed c = true)) ∧
    ((∀ k m s, Config.ed25519Verify k m s = true) → (∃ r rb own, MakesMet .borouxStart (fun c => c.svc.restart = some r ∧ slotGood c r.slot = some (rb, own)))) :=
  ⟨⟨{ supply := ⟨4500, 0, 4500⟩ }, cp (fun p => { p with phase := .waitVbat }) c0, (by decide +kernel)⟩,
   ⟨cp (fun p => { p with wdFirst := some 0 }) c0, (by decide +kernel), 0, (by decide +kernel)⟩,
   ⟨cDir 0 c0, (by decide +kernel)⟩,
   fun h => (slotGood_cImg h).elim fun r hr => ⟨{ slot := 0 }, r.1, r.2, cImg, (by decide +kernel), (by decide +kernel), hr⟩⟩

/-- The hypotheses of `Obligations.InputAndPortCommands`, part 1. -/
theorem met_InputAndPortCommands_1 :
    (AnswersMet 0x0E10 .inpSnapshot (fun c m => m.f 8 4 < 2 ^ 24 ∧ m.f 8 4 % 32 = 0 ∧ (m.f 8 4 ≠ 0 → kRangeOk c m.part .w (m.f 8 4) 32 = true))) ∧
    (AnswersMet 0x0E11 .inpConfig (fun c m => m.b 8 ≤ 3 ∧ 1 ≤ m.b 9 ∧ m.b 9 ≤ 31 ∧ 4 ≤ m.b 10 ∧ m.b 10 ≤ 63 ∧ m.b 11 ≤ 1 ∧ 60 ≤ m.f 12 2 ∧ m.f 12 2 ≤ 960 ∧ 1 ≤ m.b 14 ∧ m.z 15 1 = true ∧ 50 ≤ m.f 16 2 ∧ m.f 16 2 ≤ 5000 ∧ 100 ≤ m.f 18 2 ∧ m.f 18 2 ≤ 20000 ∧ c.inp.keys.gpioMode = bit (m.b 8) 0)) ∧
    (AnswersMet 0x0E12 .inpTouchCal (fun _ _ => True)) ∧
    (AnswersMet 0x0E20 .ioGpio (fun c m => m.f 8 4 < 2 ^ 24 ∧ m.f 12 4 < 2 ^ 24 ∧ m.f 16 4 < 2 ^ 24 ∧ BitVec.ofNat 24 (m.f 8 4) &&& c.inp.keys.matrixPins = 0)) ∧
    (AnswersMet 0x0E24 .ioPwm (fun _ m => m.b 8 = 0 ∧ m.f 10 2 ≤ 1000 ∧ 100 ≤ m.f 12 4 ∧ m.f 12 4 ≤ 100000)) ∧
    (AnswersMet 0x0E24 .ioPwm (fun _ m => m.b 8 = 1 ∧ m.f 10 2 ≤ 1000 ∧ 100 ≤ m.f 12 4 ∧ m.f 12 4 ≤ 100000 ∧ 100 ≤ m.f 16 2 ∧ m.f 16 2 ≤ 10000)) ∧
    (AnswersMet 0x0E25 .ioRumble (fun c m => m.f 8 2 ≤ 1000 ∧ m.f 10 2 ≤ 10000 ∧ (m.part = 0 ∨ c.focus = m.part))) ∧
    (AnswersMet 0x0E26 .ioAdc (fun _ m => m.b 8 ≤ 3)) ∧
    (∃ lines, (lines ≠ .stuck) ∧ AnswersMet 0x0E21 (fun r => .ioI2c r lines) (fun c m => m.b 8 ≤ 3 ∧ m.b 9 ≤ 127 ∧ m.b 10 ≤ 12 ∧ m.f 12 4 < 2 ^ 24 ∧ (m.f 12 4 ≠ 0 → kRangeOk c 0 .w (m.f 12 4) (m.b 11) = true) ∧ (m.f 12 4 = 0 → m.b 11 ≤ 4) ∧ (vget c.inp.i2c (m.b 8 % 2)).op = none)) ∧
    (AnswersMet 0x0E22 .ioSpi (fun c m => m.b 8 ≤ 1 ∧ m.b 9 ≤ 7 ∧ 1 ≤ m.f 10 2 ∧ m.f 10 2 ≤ 4096 ∧ m.f 12 4 < 2 ^ 24 ∧ m.f 16 4 < 2 ^ 24 ∧ 100000 ≤ m.f 20 4 ∧ m.f 20 4 ≤ 24000000 ∧ kRangeOk c 0 .r (m.f 12 4) (m.f 10 2) = true ∧ (m.f 16 4 ≠ 0 → kRangeOk c 0 .w (m.f 16 4) (m.f 10 2) = true) ∧ c.inp.spi.op = none ∧ anyPoison (readK 0 (m.f 12 4) (m.f 10 2) c).1 = false)) :=
  ⟨met_own c0 [0, 0, 0, 0] (by decide +kernel),
   met_own c0 [0, 5, 20, 0, 240, 0, 20, 0, 0x58, 0x02, 0xDC, 0x05] (by decide +kernel),
   met_own c0 [] (by decide +kernel),
   met_own c0 [] (by decide +kernel),
   met_own c0 [0, 0, 0xE8, 0x03, 0x20, 0x4E] (by decide +kernel),
   met_own c0 [1, 0, 0xE8, 0x03, 0x20, 0x4E, 0, 0, 100] (by decide +kernel),
   met_own c0 [0xE8, 0x03, 0x10, 0x27] (by decide +kernel),
   met_own c0 [3] (by decide +kernel),
   ⟨.high, by decide, met_own c0 [3, 127, 12, 4] (by decide +kernel)⟩,
   met_own c0 [1, 7, 1, 0, 0x00, 0x00, 0x00, 0, 0, 0, 0, 0, 0x00, 0x36, 0x6E, 1] (by decide +kernel)⟩

/-- The hypotheses of `Obligations.InputAndPortCommands`, part 2. -/
theorem met_InputAndPortCommands_2 :
    (AnswersMet 0x0E23 .ioUart (fun _ m => 300 ≤ m.f 8 4 ∧ m.f 8 4 ≤ 3000000 ∧ m.b 12 < 32 ∧ m.b 12 % 4 ≠ 3)) :=
  met_own c0 [0, 0xC2, 1, 0, 16] (by decide +kernel)

/-- The hypotheses of `Obligations.InputAndPortRows`, part 1. -/
theorem met_InputAndPortRows_1 :
    (∃ x1 x2 x3 y1 y2 y3 z1 z2 : Fin 4096, MakesMet (.touchSample true x1 x2 x3 y1 y2 y3 z1 z2) (fun c => c.inp.touchCfg.en = true ∧ (median3 x1 x2 x3 = 0 ∨ median3 x1 x2 x3 = 4095 ∨ median3 y1 y2 y3 = 0 ∨ median3 y1 y2 y3 = 4095))) ∧
    (∃ x1 x2 x3 y1 y2 y3 z1 z2 : Fin 4096, MakesMet (.touchSample false x1 x2 x3 y1 y2 y3 z1 z2) (fun c => c.inp.touchCfg.en = true)) ∧
    (∃ x1 x2 x3 y1 y2 y3 z1 z2 : Fin 4096, MakesMet (.touchSample true x1 x2 x3 y1 y2 y3 z1 z2) (fun c => c.inp.touchCfg.en = true ∧ 0 < median3 x1 x2 x3 ∧ median3 x1 x2 x3 < 4095 ∧ 0 < median3 y1 y2 y3 ∧ median3 y1 y2 y3 < 4095 ∧ touchContact c.inp.touchCfg true (median3 x1 x2 x3) z1 z2 = true)) ∧
    (∃ keys pins, MakesMet (.keyScan keys pins) (fun c => c.inp.keys.ghost = true ∨ (c.inp.keys.scan keys pins).ghost = false)) ∧
    (∃ keys pins, MakesMet (.keyScan keys pins) (fun c => c.inp.keys.ghost = false ∧ (c.inp.keys.scan keys pins).ghost = true)) ∧
    (MakesMet .homeKeyPress (fun c => c.inp.homeDown = false)) ∧
    (MakesMet .homeKeyRelease (fun c => c.inp.homeDown = true)) ∧
    (MakesMet .homeKeyHold (fun c => c.inp.homeDown = true)) ∧
    (∃ (ch : Fin 4), ∃ (v : Fin 4096), MakesMet (.auxConversion ch v) (fun _ => True)) ∧
    (∃ p d t, MakesMet .rumbleDurationEnd (fun c => c.inp.rumble.req = some (p, d, t))) :=
  ⟨⟨0, 0, 0, 1, 1, 1, 1, 1, c0, (by decide +kernel)⟩,
   ⟨0, 0, 0, 1, 1, 1, 1, 1, c0, (by decide +kernel)⟩,
   ⟨1, 1, 4095, 4094, 4095, 4094, 1, 1, c0, (by decide +kernel)⟩,
   ⟨0x40, 0, c0, (by decide +kernel)⟩,
   ⟨0x43, 0, c0, (by decide +kernel)⟩,
   ⟨c0, (by decide +kernel)⟩,
   ⟨{ c0 with inp := { c0.inp with homeDown := true } }, (by decide +kernel)⟩,
   ⟨{ c0 with inp := { c0.inp with homeDown := true } }, (by decide +kernel)⟩,
   ⟨3, 4095, c0, (by decide +kernel)⟩,
   ⟨1, 1000, 0, { c0 with inp := { c0.inp with rumble := { req := some (1, 1000, 0) } } }, (by decide +kernel)⟩⟩

/-- The hypotheses of `Obligations.InputAndPortRows`, part 2. -/
theorem met_InputAndPortRows_2 :
    (∃ t, MakesMet .rumbleTimeout (fun c => c.inp.rumble.since = some t)) ∧
    (∃ (b : Fin 2), ∃ o bs, MakesMet (.i2cTransferEnd b (.done bs)) (fun c => (vget c.inp.i2c b).op = some o ∧ o.dest = 0)) ∧
    (∃ (b : Fin 2), ∃ o, ∃ (n : Byte), MakesMet (.i2cTransferEnd b (.nackAddress n)) (fun c => (vget c.inp.i2c b).op = some o)) ∧
    (∃ (b : Fin 2), ∃ o, ∃ (n : Byte), MakesMet (.i2cStretchTimeout b n true) (fun c => (vget c.inp.i2c b).op = some o)) ∧
    (∃ o bs, MakesMet (.spiTransferEnd bs) (fun c => c.inp.spi.op = some o ∧ o.dest ≠ 0)) ∧
    (∃ b, MakesMet (.uartRxByte b false false false) (fun c => c.inp.uart.on = true ∧ c.inp.uart.rx.length < 64)) ∧
    (∃ b, MakesMet (.uartRxByte b false false false) (fun c => c.inp.uart.on = true ∧ 64 ≤ c.inp.uart.rx.length)) ∧
    (∃ b l, MakesMet (.uartTxByte true) (fun c => c.inp.uart.on = true ∧ c.inp.uart.tx = b :: l)) ∧
    (∃ k, ∃ (b : Byte), WritesRegMet (.uartDataWrite k b) k 0x9110 (fun p c => p = 0 ∧ c.inp.uart.tx.length < 64)) ∧
    (∃ k, ReadsRegMet (.uartDataRead k) k 0x9110) :=
  ⟨⟨0, { c0 with inp := { c0.inp with rumble := { since := some 0 } } }, (by decide +kernel)⟩,
   ⟨1, ⟨none, 127, [], 1, 0⟩, [5], { c0 with inp := { c0.inp with i2c := Vector.replicate 2 { op := some ⟨none, 127, [], 1, 0⟩ } } }, (by decide +kernel)⟩,
   ⟨1, ⟨none, 127, [], 1, 0⟩, 0, { c0 with inp := { c0.inp with i2c := Vector.replicate 2 { op := some ⟨none, 127, [], 1, 0⟩ } } }, (by decide +kernel)⟩,
   ⟨1, ⟨none, 127, [], 1, 0⟩, 0, { c0 with inp := { c0.inp with i2c := Vector.replicate 2 { op := some ⟨none, 127, [], 1, 0⟩ } } }, (by decide +kernel)⟩,
   ⟨⟨none, 1, 3, 1, [7], 64⟩, [9], { c0 with inp := { c0.inp with spi := { op := some ⟨none, 1, 3, 1, [7], 64⟩ } } }, (by decide +kernel)⟩,
   ⟨5, { c0 with inp := { c0.inp with uart := { format := 16, rx := List.replicate 63 0 } } }, (by decide +kernel)⟩,
   ⟨5, { c0 with inp := { c0.inp with uart := { format := 16, rx := List.replicate 64 0 } } }, (by decide +kernel)⟩,
   ⟨5, [], { c0 with inp := { c0.inp with uart := { format := 16, tx := [5] } } }, (by decide +kernel)⟩,
   ⟨6, 5, { c0 with inp := { c0.inp with uart := { tx := List.replicate 63 0 } } }, (by decide +kernel)⟩,
   ⟨0, cg, (by decide +kernel)⟩⟩

/-- A host is attached over USB and has configured the device. -/
def usb0 : Chip := { c0 with usb := { c0.usb with attached := true, config := 1, suspended := false } }

/-- The hypotheses of `Obligations.UsbAndDfuRows`, part 1. -/
theorem met_UsbAndDfuRows_1 :
    (∃ bs, MakesMet (.usbCommandRecord bs) (fun c => usbOn c = true ∧ bs.length = 32 ∧ pfield bs 0 2 ≠ 0xFFFF ∧ c.usb.halted.contains 0x01 = false)) ∧
    (∃ (h : Long), ∃ bs, MakesMet (.usbDataItem h bs) (fun c => usbOn c = true ∧ bs ≠ [] ∧ bs.length ≤ 1024 ∧ c.usb.halted.contains 0x01 = false)) ∧
    (∃ bs, MakesMet (.usbTransferEnd bs) (fun _ => True)) ∧
    (MakesMet .usbInPacketAck (fun c => usbOn c = true ∧ c.usb.halted.contains 0x81 = false)) ∧
    (MakesMet .usbBusReset (fun c => c.usb.attached = true)) ∧
    (MakesMet (.usbVbusChange true) (fun _ => True)) ∧
    (MakesMet (.usbVbusChange false) (fun c => c.usb.attached = true)) ∧
    (MakesMet .usbUnsupportedRequest (fun c => c.usb.attached = true)) ∧
    (MakesMet .usbSuspend (fun c => c.usb.attached = true)) ∧
    (MakesMet .usbResume (fun _ => True)) :=
  ⟨⟨[1] ++ List.replicate 31 0, usb0, (by decide +kernel)⟩,
   ⟨0x203F2105, [1, 2], usb0, (by decide +kernel)⟩,
   ⟨[], c0, (by decide +kernel)⟩,
   ⟨usb0, (by decide +kernel)⟩,
   ⟨usb0, (by decide +kernel)⟩,
   ⟨c0, (by decide +kernel)⟩,
   ⟨usb0, (by decide +kernel)⟩,
   ⟨usb0, (by decide +kernel)⟩,
   ⟨usb0, (by decide +kernel)⟩,
   ⟨usb0, (by decide +kernel)⟩⟩

/-- The hypotheses of `Obligations.UsbAndDfuRows`, part 2. -/
theorem met_UsbAndDfuRows_2 :
    (∃ i l, MakesMet .usbInUnread (fun c => c.usb.items = i :: l)) ∧
    (∃ a, MakesMet (.usbStandardRequest (.setAddress a)) (fun c => c.usb.attached = true)) ∧
    (∃ n : Byte, MakesMet (.usbStandardRequest (.setConfiguration n)) (fun c => c.usb.attached = true ∧ n.toNat ≤ 1)) ∧
    (MakesMet (.usbStandardRequest .getConfiguration) (fun c => c.usb.attached = true)) ∧
    (∃ n : Byte, MakesMet (.usbStandardRequest (.setConfiguration n)) (fun c => c.usb.attached = true ∧ 1 < n.toNat)) ∧
    (MakesMet .dfuDetach (fun c => c.usb.attached = true ∧ consentOf c .usb = true)) ∧
    (MakesMet .dfuDetach (fun c => c.usb.attached = true ∧ consentOf c .usb = false)) ∧
    (MakesMet .dfuUpload (fun c => c.usb.attached = true)) :=
  ⟨⟨default, [], { usb0 with usb := { usb0.usb with items := [default] } }, (by decide +kernel)⟩,
   ⟨3, usb0, (by decide +kernel)⟩,
   ⟨1, usb0, (by decide +kernel)⟩,
   ⟨usb0, (by decide +kernel)⟩,
   ⟨2, usb0, (by decide +kernel)⟩,
   ⟨{ usb0 with consent := #v[false, true, false] }, (by decide +kernel)⟩,
   ⟨usb0, (by decide +kernel)⟩,
   ⟨usb0, (by decide +kernel)⟩⟩

/-- The chip, or guest 1, with a link block; all four ports alike; a node that knows its place. -/
def lk (f : Link → Link) (c : Chip) : Chip := { c with link := f c.link }
def allPorts (p : LPort) (l : Link) : Link := { l with ports := Vector.replicate 4 p }
def inNode (n : LinkNode) (l : Link) : Link := { l with node := n }
def allChans (x : LChan) (l : Link) : Link := { l with chans := Vector.replicate 32 x }
/-- Node 1 of a mode, its ports joined, with node 5 next to port 1, which leads to the root. -/
def node1 : LinkNode :=
  { cfg := { on := true, mode := 1, ports := 15 }, id := 1, enumerated := true, routes := [(5, 1)], parent := some 1, rootId := some 2 }
def joined1 : Link → Link := fun l => inNode node1 (allPorts { st := .joined, nbr := some 5, serial := some 9, authed := true } l)

/-- The hypotheses of `Obligations.LinkCommands`, part 1. -/
theorem met_LinkCommands_1 :
    (AnswersMet 0x0F01 .lnkStatus (fun _ m => m.b 8 = 0xFF)) ∧
    (AnswersMet 0x0F01 .lnkStatus (fun _ m => m.b 8 ≤ 3)) ∧
    (AnswersLinkedMet 0x0F10 .lnkConfig (fun _ m => m.b 8 < 8 ∧ 1 ≤ m.b 9 ∧ m.b 9 ≤ 3 ∧ m.b 11 < 16 ∧ 1 ≤ m.b 14 ∧ m.b 14 ≤ 8)) ∧
    (∃ ch, AnswersLinkedMet 0x0F11 .lnkChannel (fun c m => windowUnit c m.pno .link (m.b 8) = some ch ∧ m.b 9 < 8 ∧ m.b 12 < 32 ∧ m.z 14 2 = true ∧ m.chanCfg.ok = true ∧ m.f 16 4 < 2 ^ 24 ∧ m.f 20 4 < 2 ^ 24 ∧ isPegged c 0x0A ch = false ∧ ¬(bit (m.b 9) 0 = true ∧ (linkChan c ch).cfg.en = true))) ∧
    (AnswersLinkedMet 0x0F12 .lnkGroup (fun _ _ => True)) ∧
    (AnswersLinkedMet 0x0F20 .lnkRemote (fun c m => m.f 12 4 < 2 ^ 24 ∧ m.f 10 2 ≠ 0 ∧ m.f 48 4 < 2 ^ 24 ∧ m.f 52 4 ≤ 458752 ∧ (0 < m.f 52 4 → kRangeOk c m.pno .r (m.f 48 4) (m.f 52 4) = true) ∧ routeOf c (m.f 8 2) false none ≠ .lost)) ∧
    (AnswersLinkedMet 0x0F21 .lnkExport (fun c m => bits (m.b 8) 6 3 = 0 ∧ bit (m.b 8) 7 = true ∧ ∀ e, exportOf c (m.b 8 % 8) = some e → e.part = m.pno)) ∧
    (AnswersLinkedMet 0x0F21 .lnkExport (fun c m => bits (m.b 8) 6 3 = 0 ∧ bit (m.b 8) 7 = false ∧ bits (m.b 9) 6 5 = 0 ∧ (bit (m.b 9) 7 = true → (windowUnit c m.pno .link (m.b 9 % 32)).isSome = true) ∧ m.f 12 4 < 2 ^ 24 ∧ m.f 16 4 ≠ 0 ∧ m.f 16 4 ≤ 2 ^ 24 ∧ (bit (m.f 10 2) 15 = true → m.f 10 2 ≤ 32768 + 63) ∧ ∀ e, exportOf c (m.b 8 % 8) = some e → e.part = m.pno)) ∧
    (AnswersLinkedMet 0x0F22 .lnkBlock (fun c m => bit (m.f 8 2) 15 = false ∧ m.b 10 < 8 ∧ m.z 11 1 = true ∧ m.f 12 4 < 2 ^ 24 ∧ m.f 20 4 ≠ 0 ∧ m.f 20 4 ≤ 65536 ∧ kRangeOk c m.pno .r (m.f 12 4) (m.f 20 4) = true ∧ routeOf c (m.f 8 2) false none ≠ .lost)) ∧
    (AnswersLinkedMet 0x0F22 .lnkBlock (fun c m => bit (m.f 8 2) 15 = true ∧ m.f 8 2 ≤ 32768 + 63 ∧ m.b 10 < 8 ∧ m.z 11 1 = true ∧ m.f 12 4 < 2 ^ 24 ∧ m.f 20 4 ≠ 0 ∧ m.f 20 4 ≤ 65536 ∧ kRangeOk c m.pno .r (m.f 12 4) (m.f 20 4) = true ∧ treePorts (readK m.pno (m.f 12 4) (m.f 20 4) c).2 ≠ [])) :=
  ⟨met_own c0 [0xFF] (by decide +kernel),
   met_own c0 [3] (by decide +kernel),
   met_own_linked c0 [7, 3, 0, 15, 0, 0, 8] (by decide +kernel),
   ⟨31, met_cmd_linked cgw (took 0x0F11 (.part 1) [0, 7, 5, 0, 31, 1]) (by decide +kernel)⟩,
   met_own_linked c0 [] (by decide +kernel),
   met_own_linked (lk joined1 c0) [5, 0, 0x01, 0x01] (by decide +kernel),
   met_own_linked c0 [0x80] ⟨by decide +kernel, by decide +kernel, by decide +kernel, by decide +kernel⟩,
   met_cmd_linked cgw (took 0x0F21 (.part 1) [7, 0x80, 63, 0x80, 0xE0, 0xFF, 0xFF, 0, 0, 0, 0, 1])
    ⟨by decide +kernel, by decide +kernel, by decide +kernel, by decide +kernel, by decide +kernel, by decide +kernel, by decide +kernel, by decide +kernel,
     by decide +kernel, by decide +kernel⟩,
   met_cmd_linked (lk joined1 cg) (took 0x0F22 (.part 1) [5, 0, 7, 0, 0, 0, 0, 0, 0, 0, 0, 0, 0, 0, 1, 0]) (by decide +kernel),
   met_cmd_linked (lk joined1 cg) (took 0x0F22 (.part 1) [63, 0x80, 7, 0, 0, 0, 0, 0, 0, 0, 0, 0, 1, 0, 0, 0]) (by decide +kernel)⟩

/-- The hypotheses of `Obligations.LinkCommands`, part 2. -/
theorem met_LinkCommands_2 :
    (AnswersLinkedMet 0x0F23 .lnkBeatTx (fun c m => m.b 8 ≤ 32 ∧ m.z 9 7 = true ∧ c.link.node.root = true)) ∧
    (AnswersLinkedMet 0x0F24 .lnkBeatRx (fun c m => m.f 8 4 < 2 ^ 24 ∧ m.f 8 4 % 64 = 0 ∧ (m.f 8 4 ≠ 0 → kRangeOk c m.pno .w (m.f 8 4) 64 = true))) :=
  ⟨met_own_linked (lk (fun l => inNode { node1 with root := true } l) c0) [32] (by decide +kernel),
   met_own_linked c0 [64] (by decide +kernel)⟩

/-- A key to authenticate with: an emptied slot 5 holds a LINK key. -/
def keyed (c : Chip) : Chip :=
  { c with fuses := { c.fuses with slots := vset c.fuses.slots 5 { st := .loaded, cls := 6, usage := 16, key := .bytes (List.replicate 32 7) } } }

theorem leBytes_take (n m x : Nat) (h : m ≤ n) : (leBytes n x).take m = leBytes m x := by
  induction m generalizing n x with
  | zero => simp [leBytes]
  | succ m ih => obtain ⟨n, rfl⟩ : ∃ k, n = k + 1 := ⟨n - 1, by omega⟩; simp [leBytes, ih n (x / 256) (by omega)]

theorem leBytes_mod (n x : Nat) : leBytes n (x % 256 ^ n) = leBytes n x := by
  induction n generalizing x with
  | zero => simp [leBytes]
  | succ n ih =>
    have h : x % 256 ^ (n + 1) / 256 = x / 256 % 256 ^ n := by rw [Nat.pow_succ', Nat.mod_mul_right_div_self]
    simp only [leBytes, h, ih, List.cons.injEq, and_true]
    apply BitVec.eq_of_toNat_eq
    simp only [BitVec.toNat_ofNat]
    exact Nat.mod_mod_of_dvd _ (Dvd.intro_left (256 ^ n) rfl)

/-- A MAC of sixteen bytes, as the row carries it. -/
theorem bytes16_mac (key msg : List Byte) : ∃ m : BitVec 128, bytes16 m = hmac16 key msg := by
  refine ⟨BitVec.ofNat 128 (Config.hmacSha256 key msg).toNat, ?_⟩
  simp only [bytes16, hmac16, hmac, BitVec.toNat_ofNat]
  rw [leBytes_take _ _ _ (by omega)]
  exact leBytes_mod 16 _

theorem linkMac_keyed {c : Chip} (h : (slotsFor c 6 4).head? = some 5) (msg : List Byte) : linkMac c msg = some (hmac16 (keyOf c 5) msg) := by
  simp [linkMac, h]

def at' (st : PortSt) (n : LinkNode) : Chip := lk (fun l => inNode n (allPorts { st := st } l)) c0
def hopAt (h : PortHop) : Chip := lk (fun l => inNode node1 (allPorts { st := .joined, hop := h } l)) c0
def authAt (t : PortTrain) : Chip := lk (fun l => inNode node1 (allPorts { st := .auth, serial := some 9, tr := t } l)) (keyed c0)

/-- The hypotheses of `Obligations.LinkPortRows`, part 1. -/
theorem met_LinkPortRows_1 :
    (∃ q : LinkPortId, MakesLinkedMet (.portPresenceDetect q) (fun c => portRuns c q = true ∧ (linkPort c q).st = .down ∧ (linkPort c q).tr.until_ = none)) ∧
    (∃ q : LinkPortId, ∃ a b : Byte, MakesLinkedMet (.trainLcw q a b) (fun c => (linkPort c q).st = .train ∧ b.toNat = c.link.node.cfg.mode ∧ 1 ≤ a.toNat ∧ a.toNat ≤ 3)) ∧
    (∃ q : LinkPortId, ∃ b : Byte, MakesLinkedMet (.trainLcw q 0xFF b) (fun c => (linkPort c q).st = .train ∧ b.toNat = c.link.node.cfg.mode)) ∧
    (∃ q : LinkPortId, ∃ a b : Byte, MakesLinkedMet (.trainLcw q a b) (fun c => (linkPort c q).st = .train ∧ b.toNat ≠ c.link.node.cfg.mode)) ∧
    (∃ q : LinkPortId, MakesLinkedMet (.trainSymbolCount q) (fun c => (linkPort c q).st = .train ∧ (linkPort c q).tr.agreed = true ∧ (linkPort c q).tr.ready = false)) ∧
    (∃ q : LinkPortId, ∃ t, MakesLinkedMet (.trainingHoldoffEnd q) (fun c => (linkPort c q).st = .down ∧ (linkPort c q).tr.until_ = some t)) ∧
    (∃ q : LinkPortId, MakesLinkedMet (.symbolError q) (fun c => (linkPort c q).st = .train ∧ (linkPort c q).rate ≤ 1)) ∧
    (∃ q : LinkPortId, MakesLinkedMet (.symbolError q) (fun c => (linkPort c q).st = .train ∧ 1 < (linkPort c q).rate)) ∧
    (∃ q : LinkPortId, MakesLinkedMet (.symbolError q) (fun c => (linkPort c q).st = .joined ∧ ((linkPort c q).hop.symErrs.filter (c.clk.qtime < · + 24000)).length < 255)) ∧
    (∃ q : LinkPortId, MakesLinkedMet (.presenceLoss q) (fun c => (linkPort c q).st ≠ .down)) :=
  ⟨⟨3, at' .down node1, (by decide +kernel)⟩,
   ⟨3, 1, 1, at' .train node1, (by decide +kernel)⟩,
   ⟨3, 1, at' .train node1, (by decide +kernel)⟩,
   ⟨3, 1, 2, at' .train node1, (by decide +kernel)⟩,
   ⟨3, lk (fun l => inNode node1 (allPorts { st := .train, tr := { agreed := true } } l)) c0, (by decide +kernel)⟩,
   ⟨3, 0, lk (fun l => inNode node1 (allPorts { tr := { until_ := some 0 } } l)) c0, (by decide +kernel)⟩,
   ⟨3, at' .train node1, (by decide +kernel)⟩,
   ⟨3, lk (fun l => inNode node1 (allPorts { st := .train, rate := 2 } l)) c0, (by decide +kernel)⟩,
   ⟨3, at' .joined node1, (by decide +kernel)⟩,
   ⟨3, at' .joined node1, (by decide +kernel)⟩⟩

/-- The hypotheses of `Obligations.LinkPortRows`, part 2. -/
theorem met_LinkPortRows_2 :
    (∃ q : LinkPortId, ∃ cause : Byte, MakesLinkedMet (.departLcw q cause) (fun c => (linkPort c q).st ≠ .down)) ∧
    (∃ q : LinkPortId, ∃ (serial : BitVec 64), ∃ (id : Word), MakesLinkedMet (.helloReceive q serial id false) (fun c => (linkPort (takeInbox 6 c) q).st = .hello ∧ (takeInbox 6 c).link.node.cfg.authReq = false)) ∧
    (∃ q : LinkPortId, ∃ (n : BitVec 128), ∃ (serial : BitVec 64), ∃ (mac : List Byte), MakesLinkedMet (.authChal q n serial) (fun c => (linkPort (takeInbox 6 c) q).st = .auth ∧ (linkPort (takeInbox 6 c) q).tr.init = false ∧ hopMac (entropy16 (takeInbox 6 c)).2 serial.toNat (entropy16 (takeInbox 6 c)).2.fuses.serial (bytes16 n) (entropy16 (takeInbox 6 c)).1 0x52 = some mac)) ∧
    (∃ q : LinkPortId, ∃ (n : BitVec 128), ∃ (serial : BitVec 64), ∃ (mac : BitVec 128), ∃ (f : List Byte), MakesLinkedMet (.authResp q n serial mac) (fun c =>
        let c := takeInbox 6 c
        let p := linkPort c q
        p.st = .auth ∧ p.tr.init = true ∧ hopMac c c.fuses.serial serial.toNat p.tr.nI (bytes16 n) 0x52 = some (bytes16 mac) ∧
          hopMac c c.fuses.serial serial.toNat p.tr.nI (bytes16 n) 0x49 = some f)) ∧
    (∃ q : LinkPortId, ∃ (mac : BitVec 128), MakesLinkedMet (.authFin q mac) (fun c =>
        let c := takeInbox 6 c
        let p := linkPort c q
        p.st = .auth ∧ p.tr.init = false ∧ p.tr.nR ≠ [] ∧
          hopMac c (p.serial.getD 0) c.fuses.serial p.tr.nI p.tr.nR 0x49 = some (bytes16 mac))) ∧
    (∃ q : LinkPortId, MakesLinkedMet (.authTimeout q) (fun c => (linkPort c q).st = .auth)) ∧
    (∃ q : LinkPortId, MakesLinkedMet (.quarantineExpiry q) (fun c => (linkPort c q).st = .quarantined)) ∧
    (∃ q : LinkPortId, ∃ (seq : Byte), ∃ i, MakesLinkedMet (.ackLcw q seq) (fun c => (linkPort c q).hop.replay.findIdx? (·.seq == seq.toNat) = some i)) ∧
    (∃ q : LinkPortId, ∃ (seq : Byte), ∃ i, MakesLinkedMet (.nakLcw q seq) (fun c => (linkPort c q).hop.replay.findIdx? (·.seq == seq.toNat) = some i)) ∧
    (∃ q : LinkPortId, MakesLinkedMet (.retransmitTimeout q) (fun c => (linkPort c q).hop.replay ≠ [])) :=
  ⟨⟨3, 0, at' .joined node1, (by decide +kernel)⟩,
   ⟨3, 9, 5, at' .hello node1, (by decide +kernel)⟩,
   ⟨3, 1, 9, _, authAt {}, by decide +kernel, by decide +kernel, by decide +kernel, linkMac_keyed (by decide +kernel) _⟩,
   (bytes16_mac (keyOf (authAt { init := true, nI := [1] }) 5)
      (ascii "EMGEVA-HOP" ++ leBytes 8 (authAt { init := true, nI := [1] }).fuses.serial ++ leBytes 8 (9 : BitVec 64).toNat ++ [1] ++ bytes16 1 ++ [0x52])).elim
    fun m h => ⟨3, 1, 9, m, _, authAt { init := true, nI := [1] }, by decide +kernel, by decide +kernel, by decide +kernel,
      (linkMac_keyed (by decide +kernel) _).trans (congrArg some h.symm), linkMac_keyed (by decide +kernel) _⟩,
   (bytes16_mac (keyOf (authAt { nI := [1], nR := [2] }) 5)
      (ascii "EMGEVA-HOP" ++ leBytes 8 9 ++ leBytes 8 (authAt { nI := [1], nR := [2] }).fuses.serial ++ [1] ++ [2] ++ [0x49])).elim
    fun m h => ⟨3, m, authAt { nI := [1], nR := [2] }, by decide +kernel, by decide +kernel, by decide +kernel, by decide +kernel,
      (linkMac_keyed (by decide +kernel) _).trans (congrArg some h.symm)⟩,
   ⟨3, at' .auth node1, (by decide +kernel)⟩,
   ⟨3, at' .quarantined node1, (by decide +kernel)⟩,
   ⟨3, 7, 0, hopAt { replay := [{ seq := 7 }] }, (by decide +kernel)⟩,
   ⟨3, 7, 0, hopAt { replay := [{ seq := 7 }] }, (by decide +kernel)⟩,
   ⟨3, hopAt { replay := [{ seq := 7 }] }, (by decide +kernel)⟩⟩

/-- The hypotheses of `Obligations.LinkPortRows`, part 3. -/
theorem met_LinkPortRows_3 :
    (∃ q : LinkPortId, ∃ (vc : Fin 4), ∃ (n : Byte), ∃ (full : Bool), MakesLinkedMet (.creditLcw q vc n full) (fun c => (linkPort c q).st = .joined ∧ (if full then n.toNat else vget (linkPort c q).hop.credits vc + n.toNat) ≤ vcBuffers vc)) ∧
    (∃ q : LinkPortId, ∃ (vc : Fin 4), ∃ (n : Byte), ∃ (full : Bool), MakesLinkedMet (.creditLcw q vc n full) (fun c => (linkPort c q).st = .joined ∧ vcBuffers vc < (if full then n.toNat else vget (linkPort c q).hop.credits vc + n.toNat))) ∧
    (∃ q : LinkPortId, MakesLinkedMet (.ackDelayExpiry q) (fun c => 0 < (linkPort c q).hop.acks)) ∧
    (∃ q : LinkPortId, MakesLinkedMet (.creditStateRepeat q) (fun c => (linkPort c q).st = .joined)) :=
  ⟨⟨3, 0, 4, true, hopAt {}, (by decide +kernel)⟩,
   ⟨3, 0, 5, true, hopAt {}, (by decide +kernel)⟩,
   ⟨3, hopAt { acks := 1 }, (by decide +kernel)⟩,
   ⟨3, hopAt {}, (by decide +kernel)⟩⟩

/-- A packet with its CRC-16. -/
def withCrc (bs : List Byte) : List Byte := bs ++ leBytes 2 (crc16 bs)

/-- Port 3 is joined and awaits packet 7. -/
def awaits (used : Nat) : Chip := hopAt { rxSeq := 7, used := Vector.replicate 4 used }

/-- The hypotheses of `Obligations.LinkPacketReceive`. -/
theorem met_LinkPacketReceive :
    (∃ (q : LinkPortId), ∃ (raw : List Byte), 
    let bs := raw.take (raw.length - 2)
    
    let sound := 10 ≤ raw.length ∧ crc16 bs = leNat (raw.drop (raw.length - 2))
    MakesLinkedMet (.linkPacketReceive q raw false) (fun c => (linkPort c q).st = .joined ∧ ¬sound)) ∧
    (∃ (q : LinkPortId), ∃ (raw : List Byte), 
    let bs := raw.take (raw.length - 2)
    
    let k := parsePkt bs
    
    let sound := 10 ≤ raw.length ∧ crc16 bs = leNat (raw.drop (raw.length - 2))
    MakesLinkedMet (.linkPacketReceive q raw false) (fun c => (linkPort c q).st = .joined ∧ sound ∧ 0 < ((linkPort c q).hop.rxSeq + 256 - k.seq) % 256 ∧ ((linkPort c q).hop.rxSeq + 256 - k.seq) % 256 ≤ 128)) ∧
    (∃ (q : LinkPortId), ∃ (raw : List Byte), 
    let bs := raw.take (raw.length - 2)
    
    let k := parsePkt bs
    
    let sound := 10 ≤ raw.length ∧ crc16 bs = leNat (raw.drop (raw.length - 2))
    MakesLinkedMet (.linkPacketReceive q raw false) (fun c => (linkPort c q).st = .joined ∧ sound ∧ ((linkPort c q).hop.rxSeq + 256 - k.seq) % 256 = 0 ∧ malformed bs = true)) ∧
    (∃ (q : LinkPortId), ∃ (raw : List Byte), 
    let bs := raw.take (raw.length - 2)
    
    let k := parsePkt bs
    
    let sound := 10 ≤ raw.length ∧ crc16 bs = leNat (raw.drop (raw.length - 2))
    MakesLinkedMet (.linkPacketReceive q raw false) (fun c => (linkPort c q).st = .joined ∧ sound ∧ ((linkPort c q).hop.rxSeq + 256 - k.seq) % 256 = 0 ∧ malformed bs = false ∧ vcBuffers k.vc ≤ vget (linkPort c q).hop.used k.vc)) ∧
    (∃ (q : LinkPortId), ∃ (raw : List Byte), 
    let bs := raw.take (raw.length - 2)
    
    let k := parsePkt bs
    
    let sound := 10 ≤ raw.length ∧ crc16 bs = leNat (raw.drop (raw.length - 2))
    MakesLinkedMet (.linkPacketReceive q raw false) (fun c => (linkPort c q).st = .joined ∧ sound ∧ ((linkPort c q).hop.rxSeq + 256 - k.seq) % 256 = 0 ∧ malformed bs = false ∧ vget (linkPort c q).hop.used k.vc < vcBuffers k.vc)) :=
  ⟨⟨3, [], awaits 0, (by decide +kernel)⟩,
   ⟨3, withCrc [0, 6, 0, 0, 0, 0, 0, 0], awaits 0, (by decide +kernel)⟩,
   ⟨3, withCrc [0, 7, 0, 0, 0, 0, 0, 1], awaits 0, (by decide +kernel)⟩,
   ⟨3, withCrc [0, 7, 0, 0, 0, 0, 0, 0], awaits 4, (by decide +kernel)⟩,
   ⟨3, withCrc [0, 7, 0, 0, 0, 0, 0, 0], awaits 3, (by decide +kernel)⟩⟩

/-- Node 1, joined on all ports, with other settings. -/
def nodeIs (n : LinkNode) : Chip := lk (fun l => inNode n (allPorts { st := .joined, authed := true } l)) c0
def timeIs (t : LinkTime) : Chip := lk (fun l => { l with time := t }) (nodeIs node1)
def alignIs (a : Align) : Chip := lk (fun l => { l with align := a }) (nodeIs node1)

/-- The hypotheses of `Obligations.LinkNodeRows`, part 1. -/
theorem met_LinkNodeRows_1 :
    (∃ (q : LinkPortId), ∃ (pri : Byte), ∃ (serial : BitVec 64), ∃ (hops : Word), MakesLinkedMet (.topoAdvertisement q pri serial hops) (fun c => isJoined (takeInbox 5 c) q = true ∧ hops.toNat < 511)) ∧
    (∃ (q : LinkPortId), ∃ (pri : Byte), ∃ (serial : BitVec 64), ∃ (hops : Word), MakesLinkedMet (.topoAdvertisement q pri serial hops) (fun c => isJoined (takeInbox 5 c) q = true ∧ 511 ≤ hops.toNat)) ∧
    (MakesLinkedMet .topoAdvertiseTimer (fun c => c.link.node.best = none)) ∧
    (∃ b, MakesLinkedMet .topoAdvertiseTimer (fun c => c.link.node.best = some b)) ∧
    (∃ (q : LinkPortId), ∃ a, MakesLinkedMet (.advertisementExpiry q) (fun c => (linkPort c q).adv = some a)) ∧
    (MakesLinkedMet .rootElectionTimeout (fun c => c.link.node.cfg.on = true ∧ c.link.node.root = false ∧ c.link.node.best = none)) ∧
    (∃ (q a : LinkPortId), ∃ (id : Word), MakesLinkedMet (.gridIdOffer q a id) (fun c => isJoined (takeInbox 5 c) q = true ∧ (takeInbox 5 c).link.node.cfg.mode = 3 ∧ (takeInbox 5 c).link.node.enumerated = false)) ∧
    (∃ (q a : LinkPortId), ∃ (id : Word), MakesLinkedMet (.gridIdOffer q a id) (fun c => isJoined (takeInbox 5 c) q = true ∧ (takeInbox 5 c).link.node.cfg.mode = 3 ∧ (takeInbox 5 c).link.node.enumerated = true ∧ gridIdFrom a id.toNat ≠ (takeInbox 5 c).link.node.id)) ∧
    (∃ (q : LinkPortId), ∃ (serial : BitVec 64), MakesLinkedMet (.idRequest q serial) (fun c => isJoined (takeInbox 5 c) q = true ∧ (takeInbox 5 c).link.node.cfg.mode ≠ 3 ∧ (takeInbox 5 c).link.node.root = true ∧ (rootAssign serial.toNat (takeInbox 5 c).link.node).1 = none)) ∧
    (∃ (q : LinkPortId), ∃ (serial : BitVec 64), ∃ i, MakesLinkedMet (.idRequest q serial) (fun c => isJoined (takeInbox 5 c) q = true ∧ (takeInbox 5 c).link.node.cfg.mode ≠ 3 ∧ (takeInbox 5 c).link.node.root = true ∧ (rootAssign serial.toNat (takeInbox 5 c).link.node).1 = some i)) :=
  ⟨⟨3, 0, 5, 510, nodeIs node1, (by decide +kernel)⟩,
   ⟨3, 0, 5, 511, nodeIs node1, (by decide +kernel)⟩,
   ⟨nodeIs node1, (by decide +kernel)⟩,
   ⟨{}, nodeIs { node1 with best := some {} }, (by decide +kernel)⟩,
   ⟨3, {}, lk (fun l => allPorts { adv := some {} } l) c0, (by decide +kernel)⟩,
   ⟨nodeIs node1, (by decide +kernel)⟩,
   ⟨3, 0, 256, nodeIs { node1 with cfg := { mode := 3 }, enumerated := false }, (by decide +kernel)⟩,
   ⟨3, 0, 258, nodeIs { node1 with cfg := { mode := 3 } }, (by decide +kernel)⟩,
   ⟨3, 5, nodeIs { node1 with root := true, idTable := (List.range 4096).map fun i => (i + 6, i + 1) }, (by decide +kernel)⟩,
   ⟨3, 5, 1, nodeIs { node1 with root := true }, (by decide +kernel)⟩⟩

/-- The hypotheses of `Obligations.LinkNodeRows`, part 2. -/
theorem met_LinkNodeRows_2 :
    (∃ (q : LinkPortId), ∃ (serial : BitVec 64), ∃ up : Nat, MakesLinkedMet (.idRequest q serial) (fun c => isJoined (takeInbox 5 c) q = true ∧ (takeInbox 5 c).link.node.cfg.mode ≠ 3 ∧ (takeInbox 5 c).link.node.root = false ∧ (takeInbox 5 c).link.node.parent = some up)) ∧
    (∃ (q : LinkPortId), ∃ (serial : BitVec 64), ∃ i : Word, MakesLinkedMet (.idReply q serial (some i)) (fun c => isJoined (takeInbox 5 c) q = true ∧ serial.toNat = (takeInbox 5 c).fuses.serial)) ∧
    (∃ (q : LinkPortId), ∃ (serial : BitVec 64), MakesLinkedMet (.idReply q serial none) (fun c => isJoined (takeInbox 5 c) q = true ∧ serial.toNat = (takeInbox 5 c).fuses.serial)) ∧
    (∃ q, MakesLinkedMet .timeExchangeTimer (fun c => c.link.node.root = false ∧ c.link.node.parent = some q ∧ c.link.node.enumerated = true)) ∧
    (∃ (q : LinkPortId), ∃ t2 t3, MakesLinkedMet (.timeRequest q t2 t3) (fun c => isJoined (takeInbox 2 c) q = true)) ∧
    (∃ (q : Nat), ∃ (t1 t2 t3 t4 : Nat), 
    let a : Int := (t2 : Int) - t1
    
    let b : Int := (t4 : Int) - t3
    MakesLinkedMet (.timeReply t1 t2 t3 t4) (fun c => (takeInbox 2 c).link.time.asked = true ∧ (takeInbox 2 c).link.node.parent = some q ∧ (a + b < 0 ∨ 128000 < a + b))) ∧
    (∃ (q : Nat), ∃ (t1 t2 t3 t4 : Nat), 
    let a : Int := (t2 : Int) - t1
    
    let b : Int := (t4 : Int) - t3
    MakesLinkedMet (.timeReply t1 t2 t3 t4) (fun c => (takeInbox 2 c).link.time.asked = true ∧ (takeInbox 2 c).link.node.parent = some q ∧ 0 ≤ a + b ∧ a + b ≤ 128000 ∧ (takeInbox 2 c).link.time.locked = true)) ∧
    (∃ (q : LinkPortId), ∃ (src : Word), ∃ (frame : Long), ∃ (time : Nat), ∃ (asc : Long), ∃ (ht vt : Word), ∃ (pclk : Long), ∃ (lag : Byte), ∃ (payload : List Byte), 
    let b : Beat := { frame := frame.toNat, time := time, asc := asc.toNat, htotal := ht.toNat, vtotal := vt.toNat, pclk := pclk.toNat, lag := lag.toNat, payload := payload.take 32 }
    
    let mine (c : Chip) := c.link.node.root = false ∧ (c.link.node.rootId = none ∨ c.link.node.rootId = some src.toNat)
    MakesLinkedMet (.beatReceive q src frame time asc ht vt pclk lag payload) (fun c => mine (takeInbox 1 c) ∧ ∀ f, (takeInbox 1 c).link.align.lastFrame = some f → b.frame = (f + 1) % 2 ^ 32)) ∧
    (∃ (q : LinkPortId), ∃ (src : Word), ∃ (frame : Long), ∃ (time : Nat), ∃ (asc : Long), ∃ (ht vt : Word), ∃ (pclk : Long), ∃ (lag : Byte), ∃ (payload : List Byte), 
    let b : Beat := { frame := frame.toNat, time := time, asc := asc.toNat, htotal := ht.toNat, vtotal := vt.toNat, pclk := pclk.toNat, lag := lag.toNat, payload := payload.take 32 }
    
    let mine (c : Chip) := c.link.node.root = false ∧ (c.link.node.rootId = none ∨ c.link.node.rootId = some src.toNat)
    MakesLinkedMet (.beatReceive q src frame time asc ht vt pclk lag payload) (fun c => mine (takeInbox 1 c) ∧ ∃ f, (takeInbox 1 c).link.align.lastFrame = some f ∧ b.frame ≠ (f + 1) % 2 ^ 32)) ∧
    (∃ (q : LinkPortId), ∃ (src : Word), ∃ (frame : Long), ∃ (time : Nat), ∃ (asc : Long), ∃ (ht vt : Word), ∃ (pclk : Long), ∃ (lag : Byte), ∃ (payload : List Byte), 
    let b : Beat := { frame := frame.toNat, time := time, asc := asc.toNat, htotal := ht.toNat, vtotal := vt.toNat, pclk := pclk.toNat, lag := lag.toNat, payload := payload.take 32 }
    
    let mine (c : Chip) := c.link.node.root = false ∧ (c.link.node.rootId = none ∨ c.link.node.rootId = some src.toNat)
    MakesLinkedMet (.beatReceive q src frame time asc ht vt pclk lag payload) (fun c => ¬mine (takeInbox 1 c))) :=
  ⟨⟨3, 5, 1, nodeIs node1, (by decide +kernel)⟩,
   ⟨3, 0, 9, nodeIs node1, (by decide +kernel)⟩,
   ⟨3, 0, nodeIs node1, (by decide +kernel)⟩,
   ⟨1, nodeIs node1, (by decide +kernel)⟩,
   ⟨3, 0, 0, nodeIs node1, (by decide +kernel)⟩,
   ⟨1, 1, 0, 0, 0, timeIs { asked := true }, (by decide +kernel)⟩,
   ⟨1, 0, 64000, 0, 64000, timeIs { asked := true, locked := true }, (by decide +kernel)⟩,
   ⟨3, 2, 0, 0, 0, 531, 288, 10, 2, [], alignIs { lastFrame := some 0xFFFFFFFF }, by decide +kernel, by decide +kernel,
    fun f h => by simp [alignIs, nodeIs, lk, takeInbox, linkQuiet, modLink, inNode, allPorts, c0, State.reset] at h; subst h; rfl⟩,
   ⟨3, 2, 2, 0, 0, 531, 288, 10, 2, [], alignIs { lastFrame := some 0 }, by decide +kernel, by decide +kernel, 0, by decide +kernel, by decide +kernel⟩,
   ⟨3, 3, 0, 0, 0, 531, 288, 10, 2, [], nodeIs node1, (by decide +kernel)⟩⟩

/-- The hypotheses of `Obligations.LinkNodeRows`, part 3. -/
theorem met_LinkNodeRows_3 :
    (MakesLinkedMet .holdoverExpiry (fun c => c.link.align.st = .holdover ∧ c.link.node.parent = none)) :=
  ⟨lk (fun l => { l with align := { st := .holdover } }) c0, (by decide +kernel)⟩

/-- The hypotheses of `Obligations.LinkWindowRows`. -/
theorem met_LinkWindowRows :
    (∃ (k : CoreId), ∃ (ch : Fin 32), ∃ (i : Nat), 
    let mine (p : Nat) (c : Chip) := windowUnit c p .link ch = some i
    ∃ bulk mcast, WritesRegMet (.channelEnable k ch bulk mcast) k (0xA000 + 0x40 * ch.val) (fun p c => mine p c ∧ (linkChan c i).cfg.en = false)) ∧
    (∃ (k : CoreId), ∃ (ch : Fin 32), ∃ (i : Nat), 
    let mine (p : Nat) (c : Chip) := windowUnit c p .link ch = some i
    ∃ bulk mcast, WritesRegMet (.channelEnable k ch bulk mcast) k (0xA000 + 0x40 * ch.val) (fun p c => mine p c ∧ (linkChan c i).cfg.en = true)) ∧
    (∃ (k : CoreId), ∃ (ch : Fin 32), ∃ (i : Nat), 
    let mine (p : Nat) (c : Chip) := windowUnit c p .link ch = some i
    ∃ bulk mcast, WritesRegMet (.channelDisable k ch bulk mcast) k (0xA000 + 0x40 * ch.val) (fun p c => mine p c ∧ (linkChan c i).cfg.en = true)) ∧
    (∃ (k : CoreId), ∃ (ch : Fin 32), ∃ (i : Nat), 
    let mine (p : Nat) (c : Chip) := windowUnit c p .link ch = some i
    ∃ v : Word, WritesRegMet (.txProdWrite k ch v) k (0xA014 + 0x40 * ch.val) (fun p c => mine p c)) ∧
    (∃ (k : CoreId), ∃ (ch : Fin 32), ∃ (i : Nat), 
    let mine (p : Nat) (c : Chip) := windowUnit c p .link ch = some i
    ∃ v : Word, WritesRegMet (.rxConsWrite k ch v) k (0xA00E + 0x40 * ch.val) (fun p c => mine p c ∧ idxDiff v.toNat (linkChan (modChan i (fun x => { x with rxCons := v.toNat }) c) i).annCons < max 1 ((linkChan (modChan i (fun x => { x with rxCons := v.toNat }) c) i).cfg.slots / 4))) :=
  ⟨⟨0, 0, 31, true, true, cgw, (by decide +kernel)⟩,
   ⟨0, 0, 31, true, true, lk (allChans { cfg := { en := true } }) cgw, (by decide +kernel)⟩,
   ⟨0, 0, 31, true, true, lk (allChans { cfg := { en := true } }) cgw, (by decide +kernel)⟩,
   ⟨0, 0, 31, 0xFFFF, cgw, (by decide +kernel)⟩,
   ⟨0, 0, 31, 1, lk (allChans { cfg := { en := true, sizeLog2 := 8 }, rxProd := 2 }) cgw, (by decide +kernel)⟩⟩

/-- Node 1 with guest 1, whose channel has these rings; a message that has arrived. -/
def chIs (x : LChan) : Chip := lk (fun l => allChans x (joined1 l)) cgw
def gotMsg (x : LChan) (m : RxMsg) : Chip := lk (fun l => { l with msgs := [m] }) (chIs x)

/-- The hypotheses of `Obligations.LinkChannelRows`, part 1. -/
theorem met_LinkChannelRows_1 :
    (∃ ch : LinkChanId, MakesLinkedMet (.linkMessageSend ch) (fun c => (linkChan c ch).cfg.en = true ∧ (linkChan c ch).cfg.mcast = false ∧ (linkChan c ch).txNext ≠ (linkChan c ch).txProd ∧ (linkChan c ch).credits = 0)) ∧
    (∃ ch : LinkChanId, MakesLinkedMet (.linkMessageSend ch) (fun c =>
        let x := linkChan c ch
        let a := x.cfg.slotAt x.cfg.txBase x.txNext
        let p := ownerOf c .link ch
        let d := readK p a 16 c
        let len := leNat (plain (d.1.take 2))
        x.cfg.en = true ∧ x.cfg.mcast = false ∧ x.txNext ≠ x.txProd ∧ x.credits ≠ 0 ∧ routeOf c x.cfg.node false none ≠ .lost ∧
          kRangeOk c p .r a 16 = true ∧ anyPoison (d.1.take 2) = false ∧ len ≤ x.cfg.slotBytes - 16 ∧
          kRangeOk d.2 p .r ((a + 16) % 2 ^ 24) len = true)) ∧
    (∃ ch : LinkChanId, MakesLinkedMet (.creditAnnounceTimer ch) (fun c => (linkChan c ch).cfg.en = true ∧ (linkChan c ch).rxCons ≠ (linkChan c ch).annCons)) ∧
    (∃ ch : LinkChanId, ∃ t, MakesLinkedMet (.channelStallTimeout ch) (fun c => (linkChan c ch).wait = some t)) ∧
    (∃ ch : LinkChanId, ∃ (node : Word), ∃ (free : Fin 257), MakesLinkedMet (.ctrlCredit node ch free) (fun c => hears (linkChan (takeInbox 7 c) ch) node.toNat = true)) ∧
    (∃ ch : LinkChanId, ∃ (node : Word), ∃ (free : Fin 257), MakesLinkedMet (.ctrlClose node ch) (fun c => hears (linkChan (takeInbox 7 c) ch) node.toNat = true)) ∧
    (∃ ch : LinkChanId, ∃ (node : Word), ∃ (free : Fin 257), MakesLinkedMet (.ctrlOpen node ch free) (fun c => (linkChan (ctrlCredits node.toNat ch free c) ch).cfg.en = true ∧ (linkChan (ctrlCredits node.toNat ch free c) ch).cfg.mcast = false ∧ (linkChan (ctrlCredits node.toNat ch free c) ch).cfg.node = node.toNat)) ∧
    (∃ ch : LinkChanId, MakesLinkedMet (.ctrlNak (.channel ch) .unreachable) (fun _ => True)) ∧
    (∃ ch : LinkChanId, MakesLinkedMet (.ctrlNak (.channel ch) .stalled) (fun _ => True)) ∧
    (∃ ch : LinkChanId, MakesLinkedMet (.ctrlNak (.channel ch) .closed) (fun _ => True)) :=
  ⟨⟨31, chIs { cfg := { en := true }, txProd := 1 }, (by decide +kernel)⟩,
   ⟨31, chIs { cfg := { en := true, node := 5 }, txProd := 1, credits := 1 }, (by decide +kernel)⟩,
   ⟨31, chIs { cfg := { en := true }, rxCons := 1 }, (by decide +kernel)⟩,
   ⟨31, 0, chIs { wait := some 0 }, (by decide +kernel)⟩,
   ⟨31, 5, 256, chIs { cfg := { en := true, node := 5 } }, (by decide +kernel)⟩,
   ⟨31, 5, 0, chIs { cfg := { en := true, node := 5 } }, (by decide +kernel)⟩,
   ⟨31, 5, 256, chIs { cfg := { en := true, node := 5 } }, (by decide +kernel)⟩,
   ⟨31, c0, (by decide +kernel)⟩,
   ⟨31, c0, (by decide +kernel)⟩,
   ⟨31, c0, (by decide +kernel)⟩⟩

/-- The hypotheses of `Obligations.LinkChannelRows`, part 2. -/
theorem met_LinkChannelRows_2 :
    (∃ (node : Word), ∃ (x : Fin 8), ∃ (why : NakCause), MakesLinkedMet (.ctrlNak (.block node x) why) (fun _ => True)) ∧
    (∃ node : Word, MakesLinkedMet (.ctrlNak (.remote node) .unreachable) (fun _ => True)) ∧
    (∃ (m : RxMsg), ∃ rest, MakesLinkedMet .dataReceive (fun c => c.link.msgs = m :: rest ∧ m.group = none ∧
      let d := modLink (fun l => { l with msgs := rest }) c
      let x := linkChan d m.chan
      x.cfg.en = true ∧ x.cfg.mcast = false ∧ x.cfg.node = m.src ∧ x.free ≠ 0 ∧ m.bytes.length ≤ x.cfg.slotBytes - 16 ∧ anyPoison m.bytes = false)) ∧
    (∃ (m : RxMsg), ∃ rest, MakesLinkedMet .dataReceive (fun c => c.link.msgs = m :: rest ∧ m.group = none ∧ (linkChan (modLink (fun l => { l with msgs := rest }) c) m.chan).cfg.en = false)) :=
  ⟨⟨5, 7, .denied, c0, (by decide +kernel)⟩,
   ⟨5, c0, (by decide +kernel)⟩,
   ⟨{ src := 5, chan := 31, group := none }, [], gotMsg { cfg := { en := true, node := 5 } } { src := 5, chan := 31, group := none }, (by decide +kernel)⟩,
   ⟨{ src := 5, chan := 31, group := none }, [], gotMsg {} { src := 5, chan := 31, group := none }, (by decide +kernel)⟩⟩

/-- Export 7 gives node 5 the last bytes of guest 1's bank 0; a block of two bytes arrives there. -/
def xp : Export := { part := 1, allow := 5, notify := none, base := 0x00FFF0, len := 16 }
def xb (len : Nat) : RxBlock := { node := 5, x := 7, off := 14, len := len }
def xpIs (len : Nat) : Chip := lk (fun l => { l with exports := Vector.replicate 8 (some xp), rxBlocks := [xb len] }) (lk joined1 cg)
def remote1 (acc : Option Nat) : RemoteOp := { handle := none, part := 0, node := 5, dest := 0, dsrc := 0, dlen := 0, ends := 0, accepted := acc }
def rems (acc : Option Nat) : Chip := lk (fun l => { l with remotes := [remote1 acc] }) (lk joined1 c0)

/-- The hypotheses of `Obligations.LinkTransferRows`, part 1. -/
theorem met_LinkTransferRows_1 :
    (∃ (node : Word), ∃ (x : Fin 8), ∃ (data : List Byte), ∃ (poison : Bool), ∃ (e : Export), ∃ (r : RxBlock), 
    let same (t : RxBlock) : Bool := t.node == node.toNat && t.x == x.val
    
    let lets (c : Chip) := exportOf (takeInbox 4 c) x = some e ∧ (takeInbox 4 c).link.rxBlocks.find? same = some r
    
    let fits (c : Chip) := e.lets node.toNat none = true ∧ r.off + r.len ≤ e.len ∧ kRangeOk (takeInbox 4 c) e.part .w ((e.base + r.off) % 2 ^ 24) r.len = true ∧ r.got + data.length ≤ r.len
    MakesLinkedMet (.blockReceive node none x none none data poison) (fun c => lets c ∧ fits c)) ∧
    (∃ (node : Word), ∃ (x : Fin 8), ∃ (data : List Byte), ∃ (poison : Bool), ∃ (e : Export), ∃ (r : RxBlock), 
    let same (t : RxBlock) : Bool := t.node == node.toNat && t.x == x.val
    
    let lets (c : Chip) := exportOf (takeInbox 4 c) x = some e ∧ (takeInbox 4 c).link.rxBlocks.find? same = some r
    
    let fits (c : Chip) := e.lets node.toNat none = true ∧ r.off + r.len ≤ e.len ∧ kRangeOk (takeInbox 4 c) e.part .w ((e.base + r.off) % 2 ^ 24) r.len = true ∧ r.got + data.length ≤ r.len
    ∃ crc : Long, MakesLinkedMet (.blockReceive node none x none (some crc) data poison) (fun c => lets c ∧ fits c)) ∧
    (∃ (node : Word), ∃ (x : Fin 8), ∃ (data : List Byte), ∃ (poison : Bool), ∃ (e : Export), ∃ (r : RxBlock), 
    let same (t : RxBlock) : Bool := t.node == node.toNat && t.x == x.val
    
    let lets (c : Chip) := exportOf (takeInbox 4 c) x = some e ∧ (takeInbox 4 c).link.rxBlocks.find? same = some r
    
    let fits (c : Chip) := e.lets node.toNat none = true ∧ r.off + r.len ≤ e.len ∧ kRangeOk (takeInbox 4 c) e.part .w ((e.base + r.off) % 2 ^ 24) r.len = true ∧ r.got + data.length ≤ r.len
    MakesLinkedMet (.blockReceive node none x none none data poison) (fun c => lets c ∧ ¬fits c)) ∧
    (∃ (node : Word), ∃ (x : Fin 8), ∃ first last data poison, MakesLinkedMet (.blockReceive node none x first last data poison) (fun c => exportOf (takeInbox 4 c) x = none)) ∧
    (∃ (node : Word), ∃ (x : Fin 8), MakesLinkedMet (.blockOkReceive node x) (fun _ => True)) ∧
    (∃ b rest, MakesLinkedMet .blockTimeout (fun c => c.link.blocks = b :: rest)) ∧
    (∃ (q : LinkPortId), ∃ (node : Word), ∃ (rec' : BitVec 256), ∃ (poison : Bool), MakesLinkedMet (.mgmtReceive q node rec' poison true) (fun c => isJoined (takeInbox 3 c) q = true ∧ (linkPort (takeInbox 3 c) q).authed = true ∧ inFlight (takeInbox 3 c) (.link node.toNat) + ((takeInbox 3 c).linkRecs.filter (·.node == node.toNat)).length < 8)) ∧
    (∃ (node : Word), ∃ (h : Long), ∃ (data : List Byte), ∃ (poison : Bool), MakesLinkedMet (.linkDataChunk node h data poison) (fun _ => data ≠ [] ∧ data.length ≤ 60)) ∧
    (∃ (node : Word), ∃ (h : Long), ∃ (data : List Byte), ∃ (poison : Bool), MakesLinkedMet (.linkDataChunk node h data poison) (fun _ => data = [] ∨ 60 < data.length)) ∧
    (∃ (node : Word), ∃ (w : Long), ∃ (r : RemoteOp), MakesLinkedMet (.remoteAnswerReceive node (.accepted w)) (fun c => (takeInbox 3 c).link.remotes.find? (fun r => r.node == node.toNat && r.accepted.isNone) = some r)) :=
  ⟨⟨5, 7, [1, 2], false, xp, xb 2, xpIs 2, (by decide +kernel)⟩,
   ⟨5, 7, [1, 2], false, xp, xb 2, 0, xpIs 2, (by decide +kernel)⟩,
   ⟨5, 7, [1, 2], false, xp, xb 3, xpIs 3, (by decide +kernel)⟩,
   ⟨5, 7, none, none, [1], false, c0, (by decide +kernel)⟩,
   ⟨5, 7, c0, (by decide +kernel)⟩,
   ⟨⟨none, 5, 7, 0⟩, [], lk (fun l => { l with blocks := [⟨none, 5, 7, 0⟩] }) c0, (by decide +kernel)⟩,
   ⟨3, 5, 0, false, lk joined1 c0, (by decide +kernel)⟩,
   ⟨5, 1, [1], false, c0, (by decide +kernel)⟩,
   ⟨5, 1, [], false, c0, (by decide +kernel)⟩,
   ⟨5, 1, remote1 none, rems none, (by decide +kernel)⟩⟩

/-- The hypotheses of `Obligations.LinkTransferRows`, part 2. -/
theorem met_LinkTransferRows_2 :
    (∃ (node : Word), ∃ (h : Long), ∃ (bs : List Byte), ∃ (r : RemoteOp), MakesLinkedMet (.remoteAnswerReceive node (.result h bs)) (fun c => (takeInbox 3 c).link.remotes.find? (fun r => r.node == node.toNat && r.accepted == some h.toNat) = some r)) ∧
    (∃ r, MakesLinkedMet .remoteTimeout (fun c => firstRemote c.link.remotes = some r)) :=
  ⟨⟨5, 1, [], remote1 (some 1), rems (some 1), (by decide +kernel)⟩,
   ⟨remote1 none, rems none, (by decide +kernel)⟩⟩

/-- Key slots and life-cycle states. -/
def cf (f : Fuses → Fuses) (c : Chip) : Chip := { c with fuses := f c.fuses }
def slotIs (i cls usage : Nat) (c : Chip) : Chip :=
  cf (fun f => { f with slots := vset f.slots i { st := .loaded, cls := cls, usage := usage, key := .bytes (List.replicate 32 7) } }) c
def inField (c : Chip) : Chip := cf (fun f => { f with field := true }) c
def inService (c : Chip) : Chip := cf (fun f => { f with field := true, entries := 1 }) c
def nonced (c : Chip) : Chip := { c with vlt := { c.vlt with nonce := some (List.replicate 16 1, 1000) } }

theorem leBytes_length (n x : Nat) : (leBytes n x).length = n := by
  induction n generalizing x <;> simp_all [leBytes]

theorem hmac16_length (k msg : List Byte) : (hmac16 k msg).length = 16 := by simp [hmac16, hmac, leBytes_length]

theorem pslice_tail (l r : List Byte) : pslice (l ++ r) l.length r.length = r := by
  apply List.ext_getElem
  · simp [pslice]
  · intro i h₁ h₂; simp [pslice, List.getElem?_append_right, h₂]

/-- VLT.LOAD into slot 3 of a CONTENT key in the field, its MAC made with the slot the loader shares. -/
def wrapChip : Chip := nonced (inField (slotIs 2 2 64 c0))
def loadHead : List Byte := ([3, 4, 8, 0, 0, 0, 0, 0] : List Byte) ++ List.replicate 32 9
def loadOkm : List Byte := hkdf (keyOf wrapChip 2) (List.replicate 16 1) (ascii "SUKEN-WRAP" ++ pslice loadHead 0 6) 64
def loadMac : List Byte :=
  hmac16 (loadOkm.drop 32) (ascii "SUKEN-LOAD" ++ serialBytes wrapChip ++ List.replicate 16 1 ++ pslice loadHead 0 6 ++ pslice loadHead 8 32)
def loadPar : List Byte := loadHead ++ loadMac

theorem load_unwraps : ∃ k, unwrapKey (ownCmd 0x1010 loadPar) (List.replicate 16 1) wrapChip = some k := by
  have hs : (slotsFor wrapChip 2 6).head? = some 2 := by decide +kernel
  have hf : loadFields (ownCmd 0x1010 loadPar) = pslice loadHead 0 6 := rfl
  have hw : pslice (ownCmd 0x1010 loadPar).params 8 32 = pslice loadHead 8 32 := rfl
  have hm : pslice (ownCmd 0x1010 loadPar).params 40 16 = loadMac := by
    have h := pslice_tail loadHead loadMac
    rwa [show loadMac.length = 16 from hmac16_length _ _, show loadHead.length = 40 from rfl] at h
  simp only [unwrapKey, hs, hf, hw, hm]
  exact ⟨_, if_pos rfl⟩

/-- VLT.SERVICE for one minute, its token made with the service key. -/
def svcChip : Chip := nonced (inField (slotIs 4 5 32 c0))
def svcHead : List Byte := [1, 0, 1, 0]
def svcTok : List Byte := serviceToken svcChip (keyOf svcChip 4) (List.replicate 16 1) 1
def svcPar : List Byte := svcHead ++ svcTok

theorem svc_token : svcTok = pslice (ownCmd 0x1031 svcPar).params 4 16 := by
  have h := pslice_tail svcHead svcTok
  rw [show svcTok.length = 16 from hmac16_length _ _, show svcHead.length = 4 from rfl] at h
  exact h.symm

/-- A signed cartridge of title 0xFFFFFFFFFFFFFFFF in system flash. -/
def signedCart : List Byte :=
  List.replicate 128 0xFF ++ leBytes 4 0x47534B53 ++ leBytes 2 1 ++ [2, 0] ++ leBytes 2 0 ++ [0, 0] ++ leBytes 4 0 ++ leBytes 4 0 ++ List.replicate 8 0xFF ++
    List.replicate 36 0 ++ List.replicate 64 0xFF

def cSigned : Chip := { c0 with mem := c0.mem.setBytes 0x20020000 signedCart }

theorem cSigned_img : cSigned.mem.bytes (0x20000000 + 0x10000000 * 0 + 0x20000) 256 = signedCart := by decide +kernel
def verifyPar : List Byte := par 0x1021 [0, 2, 0, 0, 0, 0, 2, 0, 0, 1, 0, 0]

theorem signed_good (h : ∀ k m s, Config.ed25519Verify k m s = true) : ∃ a b d,
    verifyImage cSigned 2 0 (pfield (cSigned.mem.bytes (flashBase + 0x10000000 * (ownCmd 0x1021 verifyPar).b 8 + (ownCmd 0x1021 verifyPar).f 12 4)
      ((ownCmd 0x1021 verifyPar).f 16 4)) 0x10 8) (cSigned.mem.bytes (flashBase + 0x10000000 * (ownCmd 0x1021 verifyPar).b 8 +
      (ownCmd 0x1021 verifyPar).f 12 4) ((ownCmd 0x1021 verifyPar).f 16 4)) = .good a b d := by
  rw [show (ownCmd 0x1021 verifyPar).b 8 = 0 from rfl, show (ownCmd 0x1021 verifyPar).f 12 4 = 0x20000 by decide +kernel,
    show (ownCmd 0x1021 verifyPar).f 16 4 = 256 by decide +kernel, flashBase, cSigned_img]
  exact verify_good (i := 15) h (by decide +kernel) (by decide +kernel) (by decide +kernel)

/-- A USB host with consent. -/
def usbc : Chip := { c0 with consent := #v[true, true, true] }

/-- The hypotheses of `Obligations.VaultCommands`, part 1. -/
theorem met_VaultCommands_1 :
    (AnswersMet 0x1001 .vltStatus (fun _ _ => True)) ∧
    (∃ p, AnswersMet 0x1002 .vltSlotInfo (fun c m => m.org = .part p ∧ m.f 8 4 < 2 ^ 24 ∧ kRangeOk c p .w (m.f 8 4) 256 = true)) ∧
    (AnswersMet 0x1002 .vltSlotInfo (fun _ m => m.org.external = true ∧ m.f 8 4 = 0)) ∧
    (∃ p, AnswersMet 0x1003 .vltNonce (fun c m => m.org = .part p ∧ m.f 8 4 < 2 ^ 24 ∧ kRangeOk c p .w (m.f 8 4) 16 = true)) ∧
    (AnswersMet 0x1010 .vltLoad (fun c m => lifeOf c = .maker ∧ 1 ≤ m.b 8 ∧ m.b 8 ≤ 14 ∧ m.b 9 ∈ [3, 4, 5, 6] ∧ m.b 10 &&& usagePermitted (m.b 9) = m.b 10 ∧ m.b 11 &&& 0x81 = 0 ∧ m.z 14 2 = true ∧ m.z 48 16 = true ∧ c.pwr.cls = 1 ∧ (slotOf c (m.b 8)).st = .empty)) ∧
    (∃ n k, AnswersMet 0x1010 .vltLoad (fun c m => (lifeOf c = .field ∨ lifeOf c = .service) ∧ 1 ≤ m.b 8 ∧ m.b 8 ≤ 14 ∧ m.b 9 ∈ [3, 4, 6] ∧ m.b 10 &&& usagePermitted (m.b 9) = m.b 10 ∧ m.b 11 &&& 0x81 = 0 ∧ m.z 14 2 = true ∧ c.pwr.cls = 1 ∧ (slotOf c (m.b 8)).st = .empty ∧ nonceOf c = some n ∧ unwrapKey m n c = some k)) ∧
    (AnswersMet 0x1010 .vltLoad (fun c m => (lifeOf c = .field ∨ lifeOf c = .service) ∧ 1 ≤ m.b 8 ∧ m.b 8 ≤ 14 ∧ m.b 9 ∈ [3, 4, 6] ∧ m.b 10 &&& usagePermitted (m.b 9) = m.b 10 ∧ m.b 11 &&& 0x81 = 0 ∧ m.z 14 2 = true ∧ c.pwr.cls = 1 ∧ (slotOf c (m.b 8)).st = .empty ∧ nonceOf c = none)) ∧
    (AnswersMet 0x1011 .vltDerive (fun c m => 1 ≤ m.b 8 ∧ m.b 8 ≤ 14 ∧ (slotOf c (m.b 9)).cls = 1 ∧ (slotOf c (m.b 9)).allows 1 (lifeOf c) = true ∧ m.b 10 = 2 ∧ (lifeOf c = .maker ∨ lifeOf c = .field ∨ lifeOf c = .service) ∧ m.b 11 &&& usagePermitted 6 = m.b 11 ∧ m.z 14 2 = true ∧ c.pwr.cls = 1 ∧ (slotOf c (m.b 8)).st = .empty)) ∧
    (∃ bad : BitVec 16, AnswersMet 0x1012 (fun r => .vltDestroy r bad) (fun c m => bit (m.f 8 2) 0 = false ∧ bit (m.f 8 2) 15 = false ∧ c.pwr.cls = 1 ∧ ∀ i < 16, bit (m.f 8 2) i = true → (slotOf c i).st = .loaded → bad.getLsbD i = false)) ∧
    (∃ p i, AnswersMet 0x1020 .vltProve (fun c m => m.org = .part p ∧ m.f 8 4 < 2 ^ 24 ∧ kRangeOk c p .w (m.f 8 4) 16 = true ∧ (slotsFor c 2 0).head? = some i ∧ (hmac16 (keyOf c i) (proveMsg c (pslice m.params 4 16))).length = 16)) :=
  ⟨met_own c0 [] (by decide +kernel),
   ⟨0, met_own c0 [0, 0xFF] (by decide +kernel)⟩,
   met_cmd usbc (took 0x1002 .usb []) (by decide +kernel),
   ⟨0, met_own c0 [0xF0, 0xFF] (by decide +kernel)⟩,
   met_own c0 [14, 6, 16, 0x7E] (by decide +kernel),
   load_unwraps.elim fun k h => ⟨_, k, st wrapChip, .own loadPar, ownCmd 0x1010 loadPar,
    ⟨by decide +kernel, rfl, by decide +kernel, by decide +kernel, by decide +kernel⟩, by decide +kernel, by decide +kernel, by decide +kernel,
    by decide +kernel, by decide +kernel, by decide +kernel, by decide +kernel, by decide +kernel, by decide +kernel, rfl, h⟩,
   met_own (inField c0) [14, 6, 16, 0x7E] (by decide +kernel),
   met_own c0 [14, 0, 2, 16] (by decide +kernel),
   ⟨0x7FFF, met_own c0 [2, 0] ⟨by decide +kernel, by decide +kernel, by decide +kernel, by decide +kernel, by decide +kernel⟩⟩,
   ⟨1, 2, met_cmd (slotIs 2 2 1 cg) (took 0x1020 (.part 1) [])
    ⟨by decide +kernel, by decide +kernel, by decide +kernel, by decide +kernel, by decide +kernel, hmac16_length _ _⟩⟩⟩

/-- The hypotheses of `Obligations.VaultCommands`, part 2. -/
theorem met_VaultCommands_2 :
    ((∀ k m s, Config.ed25519Verify k m s = true) → (∃ keyId rollback owner, AnswersMet 0x1021 .vltVerify (fun c m => m.b 8 ≤ 1 ∧ m.b 9 = 2 ∧ m.z 10 2 = true ∧ 256 ≤ m.f 16 4 ∧ m.f 16 4 ≤ 2 ^ 28 ∧ m.f 12 4 + m.f 16 4 ≤ 2 ^ 28 ∧ isPegged c 0x0B (m.b 8) = false ∧ (m.b 8 = 1 → c.mem.cart ≠ .absent) ∧ verifyImage c 2 0 (pfield (c.mem.bytes (flashBase + 0x10000000 * m.b 8 + m.f 12 4) (m.f 16 4)) 0x10 8) (c.mem.bytes (flashBase + 0x10000000 * m.b 8 + m.f 12 4) (m.f 16 4)) = .good keyId rollback owner))) ∧
    (∃ bad, AnswersMet 0x1030 (fun r => .vltLifecycle r bad) (fun c m => m.b 8 = 2 ∧ m.b 9 = 0 ∧ m.z 10 2 = true ∧ m.f 12 4 < 2 ^ 24 ∧ (m.org.external = true → m.f 12 4 = 0) ∧ c.pwr.cls = 1 ∧ lifeOf c = .maker ∧ slotsFor c 2 0 ≠ [] ∧ slotsFor c 3 2 ≠ [] ∧ c.pwr.imgOwner = true)) ∧
    (∃ bad, AnswersMet 0x1030 (fun r => .vltLifecycle r bad) (fun c m => m.b 8 = 4 ∧ m.b 9 = 0xA5 ∧ m.z 10 2 = true ∧ m.f 12 4 < 2 ^ 24 ∧ (m.org.external = true → m.f 12 4 = 0) ∧ c.pwr.cls = 1 ∧ destDenied m c (m.f 12 4) 24 = false ∧ lifeOf c ≠ .scrap)) ∧
    (∃ n i, AnswersMet 0x1031 .vltService (fun c m => m.b 8 = 1 ∧ m.z 9 1 = true ∧ 1 ≤ m.f 10 2 ∧ m.f 10 2 ≤ 1440 ∧ c.pwr.cls = 1 ∧ lifeOf c = .field ∧ c.fuses.entries ≠ 8 ∧ nonceOf c = some n ∧ i ∈ slotsFor c 5 5 ∧ serviceToken c (keyOf c i) n (m.f 10 2) = pslice m.params 4 16)) ∧
    (AnswersMet 0x1031 .vltService (fun c m => m.b 8 = 2 ∧ m.z 9 1 = true ∧ m.f 10 2 = 0 ∧ m.z 12 16 = true ∧ c.pwr.cls = 1 ∧ lifeOf c = .service)) ∧
    (AnswersMet 0x1031 .vltService (fun c m => m.b 8 = 1 ∧ m.z 9 1 = true ∧ 1 ≤ m.f 10 2 ∧ m.f 10 2 ≤ 1440 ∧ c.fuses.entries = 8)) ∧
    (AnswersMet 0x1032 .vltFloor (fun c m => 1 ≤ m.b 8 ∧ m.b 8 ≤ 64 ∧ c.pwr.cls = 1 ∧ c.fuses.floor < m.b 8 ∧ m.b 8 ≤ c.pwr.imgRollback ∧ slotConfirmed c = true)) :=
  ⟨fun h => (signed_good h).elim fun a ⟨b, d, hv⟩ => ⟨a, b, d, met_own cSigned [0, 2, 0, 0, 0, 0, 2, 0, 0, 1, 0, 0]
    ⟨by decide +kernel, by decide +kernel, by decide +kernel, by decide +kernel, by decide +kernel, by decide +kernel, by decide +kernel, by decide +kernel,
     by decide +kernel, hv⟩⟩,
   ⟨0, met_own (slotIs 3 3 4 (slotIs 2 2 1 (cp (fun p => { p with imgOwner := true }) c0))) [2] (by decide +kernel)⟩,
   ⟨0, met_own (inField c0) [4, 0xA5] (by decide +kernel)⟩,
   ⟨List.replicate 16 1, 4, st svcChip, .own svcPar, ownCmd 0x1031 svcPar,
    ⟨by decide +kernel, rfl, by decide +kernel, by decide +kernel, by decide +kernel⟩, by decide +kernel, by decide +kernel, by decide +kernel,
    by decide +kernel, by decide +kernel, by decide +kernel, by decide +kernel, rfl, by decide +kernel, svc_token⟩,
   met_own (inService c0) [2] (by decide +kernel),
   met_own (cf (fun f => { f with entries := 8 }) c0) [1, 0, 0xA0, 0x05] (by decide +kernel),
   met_own (cp (fun p => { p with imgRollback := 64 }) (cDir 0 c0)) [64] (by decide +kernel)⟩

/-- Unit registers and memory devices. -/
def cu (f : UnitTable → UnitTable) (c : Chip) : Chip := { c with units := f c.units }
def psram (st : UnitState) (c : Chip) : Chip :=
  { cu (fun u => { u with psram := Vector.replicate 6 { st := st } }) c with mem := { c.mem with xmem := .full } }
/-- Slot B lists an unconfirmed image with attempts left. -/
def dirB : List Byte :=
  let d := leBytes 4 0x44424B53 ++ leBytes 4 1 ++ List.replicate 12 0xFF ++ leBytes 4 0x20000 ++ leBytes 4 256 ++ leBytes 4 1 ++ List.replicate 44 0xFF
  d ++ leBytes 4 (crc32 d) ++ [0xFF, 0xFF, 0xFF, 0xFF, 0xFF, 0xFF, 0xFF, 0xFF, 7, 0xFF, 0xFF]
/-- SVC.STAGE of 256 bytes from address 0 into slot B. -/
def stagePar : List Byte := par 0x1120 [1, 0, 0, 0, 0, 0, 0, 0, 0, 1, 0, 0]

theorem src_ok {α β : Type} {x : Option α × β} (h : x.1.isSome = true) : ∃ a b, x = (some a, b) :=
  ⟨x.1.get h, x.2, by simp⟩

/-- The hypotheses of `Obligations.ServiceCommands`, part 1. -/
theorem met_ServiceCommands_1 :
    (∃ r, AnswersMet 0x1101 .svcUnitStatus (fun c m => unitReg? c (unitOfCode (m.f 8 2)) = some r ∧ ∀ p, m.org = .part p → p = 0 ∨ unitOwner c (unitOfCode (m.f 8 2)) = p)) ∧
    (∃ r, AnswersMet 0x1111 .svcPeg (fun c m => unitReg? c (unitOfCode (m.f 8 2)) = some r ∧ r.gen ≠ m.b 10)) ∧
    (∃ r, AnswersMet 0x1111 .svcPeg (fun c m => unitReg? c (unitOfCode (m.f 8 2)) = some r ∧ r.gen = m.b 10 ∧ unitState c (unitOfCode (m.f 8 2)) = .active)) ∧
    (∃ r, AnswersMet 0x1110 .svcUnitReset (fun c m => unitReg? c (unitOfCode (m.f 8 2)) = some r ∧ r.gen = m.b 10 ∧ (unitState c (unitOfCode (m.f 8 2)) = .pegged ∨ unitState c (unitOfCode (m.f 8 2)) = .active) ∧ (unitOfCode (m.f 8 2)).kind ≠ 11)) ∧
    (∃ r k, AnswersMet 0x1112 .svcSpareMacro (fun c m => m.b 8 ≤ 31 ∧ isPegged c 2 (vget c.mem.patch (m.b 8)) = false ∧ unitReg? c ⟨2, vget c.mem.patch (m.b 8)⟩ = some r ∧ r.gen = m.b 9 ∧ spareMacro c = some k ∧ c.mem.copy = none)) ∧
    (∃ r, AnswersMet 0x1112 .svcSpareMacro (fun c m => m.b 8 ≤ 31 ∧ isPegged c 2 (vget c.mem.patch (m.b 8)) = false ∧ unitReg? c ⟨2, vget c.mem.patch (m.b 8)⟩ = some r ∧ r.gen = m.b 9 ∧ spareMacro c = none)) ∧
    (∃ r, AnswersMet 0x1114 .svcXmem (fun c m => m.b 8 ≤ 5 ∧ m.b 10 = 1 ∧ m.b 11 ≤ 1 ∧ isPegged c 3 (m.b 8) = false ∧ unitReg? c ⟨3, m.b 8⟩ = some r ∧ r.gen = m.b 9 ∧ unitState c ⟨3, m.b 8⟩ = .active ∧ (lastCheck c = true → bit (m.b 11) 0 = true))) ∧
    (∃ r, AnswersMet 0x1114 .svcXmem (fun c m => m.b 8 ≤ 5 ∧ m.b 10 = 2 ∧ m.b 11 ≤ 1 ∧ isPegged c 3 (m.b 8) = false ∧ unitReg? c ⟨3, m.b 8⟩ = some r ∧ r.gen = m.b 9 ∧ unitState c ⟨3, m.b 8⟩ = .retired ∧ c.mem.resilver = none)) ∧
    (∃ r k, AnswersMet 0x1113 .svcMigrate (fun c m => m.b 8 ≤ 5 ∧ m.b 10 ≤ 1 ∧ isPegged c 1 (m.b 8) = false ∧ unitReg? c ⟨1, m.b 8⟩ = some r ∧ r.gen = m.b 9 ∧ unitState c ⟨1, m.b 8⟩ = .active ∧ (coreOf c (m.b 8)).run ≠ .held ∧ spareCoreOf c = some k ∧ c.svc.migrations = [] ∧ c.svc.test = none)) ∧
    (AnswersMet 0x1115 .svcShadow (fun c m => m.b 8 ≤ 1 ∧ m.z 9 1 = true ∧ 100 ≤ m.f 10 2 ∧ m.f 10 2 ≤ 60000 ∧ (m.b 8 = 0 → lifeOf c = .service))) :=
  ⟨⟨{}, met_own c0 [4, 1] ⟨by decide +kernel, by decide +kernel, fun p h => by cases h; exact .inl rfl⟩⟩,
   ⟨{}, met_own c0 [4, 1, 0] (by decide +kernel)⟩,
   ⟨{}, met_own c0 [4, 1, 1] (by decide +kernel)⟩,
   ⟨{}, met_own c0 [4, 1, 1] (by decide +kernel)⟩,
   ⟨{}, 32, met_own c0 [31, 1] (by decide +kernel)⟩,
   ⟨{}, met_own (cu (fun u => { u with macros := Vector.replicate 34 {} }) c0) [31, 1] (by decide +kernel)⟩,
   ⟨{}, met_own (psram .active c0) [5, 1, 1, 0] (by decide +kernel)⟩,
   ⟨{ st := .retired }, met_own (psram .retired c0) [5, 1, 2, 0] (by decide +kernel)⟩,
   ⟨{}, 5, met_own (modCore 4 (fun x => { x with run := .running }) c0) [4, 1, 1] (by decide +kernel)⟩,
   met_own c0 [1, 0, 100, 0] (by decide +kernel)⟩

/-- The hypotheses of `Obligations.ServiceCommands`, part 2. -/
theorem met_ServiceCommands_2 :
    (∃ r, AnswersMet 0x1116 .svcReinstate (fun c m => ((unitOfCode (m.f 8 2)).kind = 1 ∨ (unitOfCode (m.f 8 2)).kind = 2) ∧ unitReg? c (unitOfCode (m.f 8 2)) = some r ∧ r.gen = m.b 10 ∧ unitState c (unitOfCode (m.f 8 2)) = .retired ∧ lifeOf c = .service ∧ c.svc.test = none)) ∧
    (∃ p bs d, AnswersMet 0x1120 .svcStage (fun c m => flashFree c = true ∧ m.org = .part p ∧ kRangeOk c p .r (m.f 12 4) (m.f 16 4) = true ∧ m.b 8 ≤ 1 ∧ m.z 9 3 = true ∧ m.f 12 4 < 2 ^ 24 ∧ 256 ≤ m.f 16 4 ∧ m.f 16 4 ≤ 458752 ∧ isPegged c 0x0B 0 = false ∧ m.b 8 ≠ c.pwr.slot ∧ sourceData m (m.f 12 4) (m.f 16 4) c = (some bs, d))) ∧
    (AnswersMet 0x1121 .svcSwap (fun c m => m.b 8 ≤ 1 ∧ slotEligible c (m.b 8) = true ∧ m.b 8 ≠ c.pwr.slot)) ∧
    (AnswersMet 0x1122 .svcRestart (fun _ _ => True)) ∧
    (AnswersMet 0x1130 .svcLintRead (fun _ m => m.org.external = true ∧ m.f 8 2 ≤ 255 ∧ 1 ≤ m.f 10 2 ∧ m.f 10 2 ≤ 31 ∧ m.f 12 4 = 0)) ∧
    (AnswersMet 0x1131 .svcLintCounts (fun _ m => m.org.external = true ∧ m.b 8 ≤ 0x11 ∧ m.z 9 3 = true ∧ m.f 12 4 = 0)) ∧
    (AnswersMet 0x1132 .svcLintClear (fun c _ => lifeOf c = .service)) ∧
    (AnswersMet 0x1133 .svcTrend (fun _ m => m.org.external = true ∧ m.b 8 = 0 ∧ m.z 9 1 = true ∧ 1 ≤ m.f 10 2 ∧ m.f 10 2 ≤ 64 ∧ m.f 12 4 = 0)) :=
  ⟨⟨{ st := .retired }, met_own (inService (cu (fun u => { u with cores := Vector.replicate 6 { st := .retired } }) c0)) [4, 1, 1] (by decide +kernel)⟩,
   (src_ok (x := sourceData (ownCmd 0x1120 stagePar) 0 256 c0) (by decide +kernel)).elim fun bs h => h.elim fun d h => ⟨0, bs, d, st c0, .own stagePar, ownCmd 0x1120 stagePar,
    by decide +kernel, by decide +kernel, by decide +kernel, by decide +kernel, by decide +kernel, by decide +kernel, by decide +kernel, by decide +kernel,
    by decide +kernel, by decide +kernel, by decide +kernel, h⟩,
   met_own { c0 with mem := c0.mem.setBytes 0x20000000 dirB } [1] (by decide +kernel),
   met_own c0 [] (by decide +kernel),
   met_cmd usbc (took 0x1130 .usb [255, 0, 31, 0]) (by decide +kernel),
   met_cmd usbc (took 0x1131 .usb [17]) (by decide +kernel),
   met_own (inService c0) [] (by decide +kernel),
   met_cmd usbc (took 0x1133 .usb [0, 0, 64, 0]) (by decide +kernel)⟩

/-- The hypotheses of `Obligations.VaultAndServiceRows`. -/
theorem met_VaultAndServiceRows :
    (∃ n t, MakesMet .nonceExpiry (fun c => c.vlt.nonce = some (n, t))) ∧
    (∃ t, MakesMet .serviceDurationEnd (fun c => c.vlt.svcEnd = some t ∧ lifeOf c = .service ∧ c.pwr.cls = 1)) ∧
    (∃ (unit : Word), ∃ r, MakesMet (.unitResetTimeout unit) (fun c => c.svc.resets.find? (·.1 == unit.toNat) = some r)) ∧
    (MakesMet .shadowRotate (fun c => c.svc.shadowEn = true ∧ (spareCoreOf c).isSome = true ∧ c.svc.shadow = none)) ∧
    (∃ b n h, MakesMet (.selfTestComplete true b) (fun c => c.svc.test = some (.reinstate n h))) ∧
    (∃ b n h, MakesMet (.selfTestComplete false b) (fun c => c.svc.test = some (.reinstate n h))) ∧
    (∃ a b k t spare, MakesMet (.selfTestComplete a b) (fun c => c.svc.test = none ∧ c.svc.shadow = some (k, t) ∧ spareCoreOf c = some spare)) ∧
    (∃ (vcore : Word), ∃ (tj : Int), ∃ (slack : Byte), MakesMet (.trendHourly vcore tj slack) (fun _ => True)) ∧
    (MakesMet .trendMonthly (fun c => (monthOf c.svc).hours < 100)) ∧
    (MakesMet .trendMonthly (fun c => 100 ≤ (monthOf c.svc).hours ∧ c.svc.baseline.length < 3)) :=
  ⟨⟨[], 0, { c0 with vlt := { nonce := some ([], 0) } }, (by decide +kernel)⟩,
   ⟨0, { inService c0 with vlt := { svcEnd := some 0 } }, (by decide +kernel)⟩,
   ⟨0x0104, (0x0104, none), { c0 with svc := { c0.svc with resets := [(0x0104, none)] } }, (by decide +kernel)⟩,
   ⟨c0, (by decide +kernel)⟩,
   ⟨false, 0x0104, none, { c0 with svc := { c0.svc with test := some (.reinstate 0x0104 none) } }, (by decide +kernel)⟩,
   ⟨false, 0x0104, none, { c0 with svc := { c0.svc with test := some (.reinstate 0x0104 none) } }, (by decide +kernel)⟩,
   ⟨true, false, 0, 0, 5, { c0 with svc := { c0.svc with shadow := some (0, 0) } }, (by decide +kernel)⟩,
   ⟨800, 50, 64, c0, (by decide +kernel)⟩,
   ⟨c0, (by decide +kernel)⟩,
   ⟨{ c0 with svc := { c0.svc with hours := List.replicate 100 { tj := 50, vcore := 800 } } }, (by decide +kernel)⟩⟩

/-- The hypotheses of `Obligations.TwoOperandInstructions`. -/
theorem met_TwoOperandInstructions :
    (∃ (o : AluOp), ∃ (i : CoreId → AluForm → Instr), ∃ k : CoreId, ∃ d w : Reg, ((o, i) ∈ [(AluOp.mov, Instr.mov), (.add, .add), (.adc, .adc), (.sub, .sub), (.sbc, .sbc), (.cmp, .cmp), (.and, .and), (.or, .or),
      (.xor, .xor), (.tst, .tst)]) ∧ StepsMet (i k (.reg d w)) k 1) ∧
    (∃ (o : AluOp), ∃ (i : CoreId → AluForm → Instr), ∃ k : CoreId, ∃ (d : Reg), ∃ (v : Word), ((o, i) ∈ [(AluOp.mov, Instr.mov), (.add, .add), (.adc, .adc), (.sub, .sub), (.sbc, .sbc), (.cmp, .cmp), (.and, .and), (.or, .or),
      (.xor, .xor), (.tst, .tst)]) ∧ StepsMet (i k (.imm d v)) k 2) ∧
    (∃ (o : AluOp), ∃ (i : CoreId → AluForm → Instr), ∃ k : CoreId, ∃ (d : Reg), ∃ (n : Fin 8), ((o, i) ∈ [(AluOp.mov, Instr.mov), (.add, .add), (.adc, .adc), (.sub, .sub), (.sbc, .sbc), (.cmp, .cmp), (.and, .and), (.or, .or),
      (.xor, .xor), (.tst, .tst)]) ∧ StepsMet (i k (.small d n)) k 1) ∧
    (∃ (o : AluOp), ∃ (i : CoreId → AluForm → Instr), ∃ k : CoreId, ∃ p q : Pair, ((o, i) ∈ [(AluOp.mov, Instr.mov), (.add, .add), (.adc, .adc), (.sub, .sub), (.sbc, .sbc), (.cmp, .cmp), (.and, .and), (.or, .or),
      (.xor, .xor), (.tst, .tst)]) ∧ StepsMet (i k (.pair p q)) k 1) :=
  ⟨⟨.mov, .mov, 0, 7, 0, by simp, cg, (by decide +kernel)⟩,
   ⟨.adc, .adc, 0, 7, 0xFFFF, by simp, cg, (by decide +kernel)⟩,
   ⟨.tst, .tst, 0, 7, 7, by simp, cg, (by decide +kernel)⟩,
   ⟨.sbc, .sbc, 0, 3, 0, by simp, cg, (by decide +kernel)⟩⟩

/-- The hypotheses of `Obligations.ShiftsAndMultiplications`, part 1. -/
theorem met_ShiftsAndMultiplications_1 :
    (∃ (o : ShiftOp), ∃ (i : CoreId → AluForm → Instr), ∃ k : CoreId, ∃ d w : Reg, ((o, i) ∈ [(ShiftOp.shl, Instr.shl), (.shr, .shr), (.sar, .sar), (.ror, .ror)]) ∧ StepsMet (i k (.reg d w)) k 1) ∧
    (∃ (o : ShiftOp), ∃ (i : CoreId → AluForm → Instr), ∃ k : CoreId, ∃ (d : Reg), ∃ (v : Word), ((o, i) ∈ [(ShiftOp.shl, Instr.shl), (.shr, .shr), (.sar, .sar), (.ror, .ror)]) ∧ StepsMet (i k (.imm d v)) k 2) ∧
    (∃ (o : ShiftOp), ∃ (i : CoreId → AluForm → Instr), ∃ k : CoreId, ∃ (d : Reg), ∃ (n : Fin 8), ((o, i) ∈ [(ShiftOp.shl, Instr.shl), (.shr, .shr), (.sar, .sar), (.ror, .ror)]) ∧ StepsMet (i k (.small d n)) k 1) ∧
    (∃ (o : ShiftOp), ∃ (i : CoreId → AluForm → Instr), ∃ k : CoreId, ∃ p q : Pair, ((o, i) ∈ [(ShiftOp.shl, Instr.shl), (.shr, .shr), (.sar, .sar), (.ror, .ror)]) ∧ FaultsMet (i k (.pair p q)) k 1 (fun _ => True)) ∧
    (∃ (g : Bool), ∃ (i : CoreId → AluForm → Instr), ∃ (k : CoreId), ∃ (d : Reg), ∃ w : Reg, ((g, i) ∈ [(false, Instr.mulu), (true, Instr.muls)]) ∧ (d.val % 2 = 0) ∧ StepsMet (i k (.reg d w)) k 1) ∧
    (∃ (g : Bool), ∃ (i : CoreId → AluForm → Instr), ∃ (k : CoreId), ∃ (d : Reg), ∃ v : Word, ((g, i) ∈ [(false, Instr.mulu), (true, Instr.muls)]) ∧ (d.val % 2 = 0) ∧ StepsMet (i k (.imm d v)) k 2) ∧
    (∃ (g : Bool), ∃ (i : CoreId → AluForm → Instr), ∃ (k : CoreId), ∃ (d : Reg), ∃ n : Fin 8, ((g, i) ∈ [(false, Instr.mulu), (true, Instr.muls)]) ∧ (d.val % 2 = 0) ∧ StepsMet (i k (.small d n)) k 1) ∧
    (∃ (g : Bool), ∃ (i : CoreId → AluForm → Instr), ∃ (k : CoreId), ∃ (d : Reg), ∃ w : Reg, ((g, i) ∈ [(false, Instr.mulu), (true, Instr.muls)]) ∧ (d.val % 2 = 1) ∧ FaultsMet (i k (.reg d w)) k 1 (fun _ => True)) ∧
    (∃ (g : Bool), ∃ (i : CoreId → AluForm → Instr), ∃ (k : CoreId), ∃ (d : Reg), ∃ v : Word, ((g, i) ∈ [(false, Instr.mulu), (true, Instr.muls)]) ∧ (d.val % 2 = 1) ∧ FaultsMet (i k (.imm d v)) k 2 (fun _ => True)) ∧
    (∃ (g : Bool), ∃ (i : CoreId → AluForm → Instr), ∃ (k : CoreId), ∃ (d : Reg), ∃ n : Fin 8, ((g, i) ∈ [(false, Instr.mulu), (true, Instr.muls)]) ∧ (d.val % 2 = 1) ∧ FaultsMet (i k (.small d n)) k 1 (fun _ => True)) :=
  ⟨⟨.shl, .shl, 0, 7, 0, by simp, cg, (by decide +kernel)⟩,
   ⟨.ror, .ror, 0, 7, 16, by simp, cg, (by decide +kernel)⟩,
   ⟨.sar, .sar, 0, 7, 7, by simp, cg, (by decide +kernel)⟩,
   ⟨.shr, .shr, 0, 3, 0, by simp, cg, (by decide +kernel)⟩,
   ⟨false, .mulu, 0, 6, 0, by simp, by decide, cg, (by decide +kernel)⟩,
   ⟨true, .muls, 0, 6, 0x8000, by simp, by decide, cg, (by decide +kernel)⟩,
   ⟨true, .muls, 0, 6, 7, by simp, by decide, cg, (by decide +kernel)⟩,
   ⟨false, .mulu, 0, 7, 0, by simp, by decide, cg, (by decide +kernel)⟩,
   ⟨false, .mulu, 0, 7, 0, by simp, by decide, cg, (by decide +kernel)⟩,
   ⟨false, .mulu, 0, 7, 0, by simp, by decide, cg, (by decide +kernel)⟩⟩

/-- The hypotheses of `Obligations.ShiftsAndMultiplications`, part 2. -/
theorem met_ShiftsAndMultiplications_2 :
    (∃ (g : Bool), ∃ (i : CoreId → AluForm → Instr), ∃ (k : CoreId), ∃ (d : Reg), ∃ p q : Pair, ((g, i) ∈ [(false, Instr.mulu), (true, Instr.muls)]) ∧ FaultsMet (i k (.pair p q)) k 1 (fun _ => True)) :=
  ⟨true, .muls, 0, 0, 3, 0, by simp, cg, (by decide +kernel)⟩

/-- The core of guest 1 in some state. -/
def cx (f : Core → Core) : Chip := modCore 0 f cg
/-- All its working registers are tagged. -/
def cTag : Chip := cx fun x => { x with wTag := 255 }

/-- The hypotheses of `Obligations.UnaryAndImmediates`, part 1. -/
theorem met_UnaryAndImmediates_1 :
    (∃ (o : UnaryOp), ∃ (i : CoreId → Reg → Instr), ∃ (k : CoreId), ∃ (d : Reg), ((o, i) ∈ [(UnaryOp.not, Instr.not), (.neg, .neg), (.inc, .inc), (.dec, .dec), (.sxt, .sxt), (.zxt, .zxt), (.swab, .swab)]) ∧ StepsMet (i k d) k 1) ∧
    (∃ k d, StepsMet (.clr k d) k 1) ∧
    (∃ k d, ∃ (e : Special), (e ≠ 7) ∧ StepsMet (.rds k d e) k 1) ∧
    (∃ k d, FaultsMet (.rds k d 7) k 1 (fun _ => True)) ∧
    (∃ k, ∃ (e : Special), ∃ w, (e ≠ 5) ∧ (e ≠ 7) ∧ DoesMet (.wrs k e w) k 1 (fun c => (coreOf c k).tag w = false ∨ e.val < 2 ∨ 4 < e.val)) ∧
    (∃ k, ∃ (e : Special), ∃ w, (2 ≤ e.val) ∧ (e.val ≤ 4) ∧ FaultsMet (.wrs k e w) k 1 (fun c => (coreOf c k).tag w = true)) ∧
    (∃ k, ∃ (e : Special), ∃ w, (e = 5 ∨ e = 7) ∧ FaultsMet (.wrs k e w) k 1 (fun _ => True)) ∧
    (∃ k d, ∃ (v : Byte), StepsMet (.movi k d v) k 1) ∧
    (∃ k, ∃ (v : Byte), StepsMet (.movb k 0 v) k 1) ∧
    (∃ k, ∃ (v : Byte), StepsMet (.movb k 1 v) k 1) :=
  ⟨⟨.neg, .neg, 0, 7, by simp, cg, (by decide +kernel)⟩,
   ⟨0, 7, cg, (by decide +kernel)⟩,
   ⟨0, 7, 6, by decide, cg, (by decide +kernel)⟩,
   ⟨0, 7, cg, (by decide +kernel)⟩,
   ⟨0, 4, 7, by decide, by decide, cg, (by decide +kernel)⟩,
   ⟨0, 4, 7, by decide, by decide, cTag, (by decide +kernel)⟩,
   ⟨0, 7, 0, by decide, cg, (by decide +kernel)⟩,
   ⟨0, 7, 0xFF, cg, (by decide +kernel)⟩,
   ⟨0, 0xFF, cg, (by decide +kernel)⟩,
   ⟨0, 0xFF, cg, (by decide +kernel)⟩⟩

/-- The hypotheses of `Obligations.UnaryAndImmediates`, part 2. -/
theorem met_UnaryAndImmediates_2 :
    (∃ k, ∃ (v : Byte), StepsMet (.movb k 2 v) k 1) ∧
    (∃ k, ∃ (e : Fin 8), ∃ (v : Byte), (3 ≤ e.val) ∧ FaultsMet (.movb k e v) k 1 (fun _ => True)) ∧
    (∃ k d, ∃ (v : Byte), StepsMet (.addi k d v) k 1) ∧
    (∃ k d, ∃ (v : Byte), StepsMet (.cmpi k d v) k 1) ∧
    (∃ k, ∃ (v : Byte), StepsMet (.addsp k v) k 1) ∧
    (∃ k, StepsMet (.nop k) k 1) ∧
    (∃ k, StepsMet (.fence k) k 1) ∧
    (∃ k, StepsMet (.ei k) k 1) ∧
    (∃ k, StepsMet (.di k) k 1) :=
  ⟨⟨0, 0xFF, cg, (by decide +kernel)⟩,
   ⟨0, 3, 0, by decide, cg, (by decide +kernel)⟩,
   ⟨0, 7, 0x80, cg, (by decide +kernel)⟩,
   ⟨0, 7, 0x80, cg, (by decide +kernel)⟩,
   ⟨0, 0x80, cg, (by decide +kernel)⟩,
   ⟨0, cg, (by decide +kernel)⟩,
   ⟨0, cg, (by decide +kernel)⟩,
   ⟨0, cg, (by decide +kernel)⟩,
   ⟨0, cg, (by decide +kernel)⟩⟩

/-- A load of each kind of memory form, and a store, that the guard and the map allow. -/
theorem met_loads_stores :
    (∃ k z r m, ldDefined z r = true ∧ DoesMet (.ld k z r m) k m.words
      (fun c => dataFault c k [{ right := .r, addr := (m.address (coreOf c k).db z.bytes (coreOf c k)).1, size := z.bytes,
                                 tagged := (m.address (coreOf c k).db z.bytes (coreOf c k)).2.1 }] = none)) ∧
    (∃ k z r m, ldDefined z r = true ∧ extraMode m = true ∧ DoesMet (.lde k z r m) k m.words
      (fun c => dataFault c k [{ right := .r, addr := (m.address (coreOf c k).xb z.bytes (coreOf c k)).1, size := z.bytes,
                                 tagged := (m.address (coreOf c k).xb z.bytes (coreOf c k)).2.1 }] = none)) ∧
    (∃ k z r m, stDefined z r m = true ∧ DoesMet (.st k z r m) k m.words
      (fun c => dataFault c k [{ right := .w, addr := (m.address (coreOf c k).db z.bytes (coreOf c k)).1, size := z.bytes,
                                 tagged := (m.address (coreOf c k).db z.bytes (coreOf c k)).2.1, poisonStore := (dataReg z r (coreOf c k)).2 }] = none)) ∧
    (∃ k z r m, stDefined z r m = true ∧ extraMode m = true ∧ DoesMet (.ste k z r m) k m.words
      (fun c => dataFault c k [{ right := .w, addr := (m.address (coreOf c k).xb z.bytes (coreOf c k)).1, size := z.bytes,
                                 tagged := (m.address (coreOf c k).xb z.bytes (coreOf c k)).2.1, poisonStore := (dataReg z r (coreOf c k)).2 }] = none)) :=
  ⟨⟨0, .l, 3, .abs 0xFFF0, by decide, cg, (by decide +kernel)⟩,
   ⟨0, .sb, 7, .postInc 7, by decide, by decide, cg, (by decide +kernel)⟩,
   ⟨0, .w, 7, .disp 0 0xFFFE, by decide, cg, (by decide +kernel)⟩,
   ⟨0, .b, 7, .ind 0, by decide, by decide, cg, (by decide +kernel)⟩⟩

/-- The hypotheses of `Obligations.LoadsAndStores`. -/
theorem met_LoadsAndStores :
    (∃ k z r m, (ldDefined z r = false) ∧ FaultsMet (.ld k z r m) k 1 (fun _ => True)) ∧
    (∃ k z r m, (ldDefined z r = false ∨ extraMode m = false) ∧ FaultsMet (.lde k z r m) k 1 (fun _ => True)) ∧
    (∃ k z r m, (stDefined z r m = false) ∧ FaultsMet (.st k z r m) k 1 (fun _ => True)) ∧
    (∃ k z r m, (stDefined z r m = false ∨ extraMode m = false) ∧ FaultsMet (.ste k z r m) k 1 (fun _ => True)) :=
  ⟨⟨0, .l, 4, .ind 0, by decide, cg, (by decide +kernel)⟩,
   ⟨0, .w, 7, .pairInd 0, by decide, cg, (by decide +kernel)⟩,
   ⟨0, .w, 7, .pcDisp 0, by decide, cg, (by decide +kernel)⟩,
   ⟨0, .w, 7, .pcDisp 0, by decide, cg, (by decide +kernel)⟩⟩

theorem some_ok {α : Type} {x : Option α} (h : x.isSome = true) : ∃ a, x = some a := Option.isSome_iff_exists.1 h
/-- The core, and a word at an odd address. -/
def cNl : Chip := noLoad 0 cg
def oddWord : Nat × Bool × Option (Nat × Nat) := (MemForm.abs 1).address (coreOf cNl 0).db Size.w.bytes (coreOf cNl 0)

/-- The hypotheses of `Obligations.RefusedAccesses`. -/
theorem met_RefusedAccesses :
    (∃ k z r m f, (ldDefined z r = true) ∧ FaultsMet (.ld k z r m) k m.words (fun c => dataFault c k [{ right := .r, addr := (m.address (coreOf c k).db z.bytes (coreOf c k)).1, size := z.bytes, tagged := (m.address (coreOf c k).db z.bytes (coreOf c k)).2.1 }] = some f)) ∧
    (∃ k z r m f, (stDefined z r m = true) ∧ FaultsMet (.st k z r m) k m.words (fun c => dataFault c k [{ right := .w, addr := (m.address (coreOf c k).db z.bytes (coreOf c k)).1, size := z.bytes, tagged := (m.address (coreOf c k).db z.bytes (coreOf c k)).2.1, poisonStore := (dataReg z r (coreOf c k)).2 }] = some f)) :=
  ⟨(some_ok (x := dataFault cNl 0 [{ right := .r, addr := oddWord.1, size := Size.w.bytes, tagged := oddWord.2.1 }]) (by decide +kernel)).elim
    fun f h => ⟨0, .w, 0, .abs 1, f, by decide, cg, (by decide +kernel), h⟩,
   (some_ok (x := dataFault cNl 0 [{ right := .w, addr := oddWord.1, size := Size.w.bytes, tagged := oddWord.2.1, poisonStore := (dataReg .w 0 (coreOf cNl 0)).2 }]) (by decide +kernel)).elim
    fun f h => ⟨0, .w, 0, .abs 1, f, by decide, cg, (by decide +kernel), h⟩⟩

/-- The hypotheses of `Obligations.ControlFlow`. -/
theorem met_ControlFlow :
    (∃ k, ∃ (cond : Fin 15), ∃ f, DoesMet (.branch k cond f) k f.words (fun c => cond = 0 ∨ (coreOf c k).flTag = false)) ∧
    (∃ k, ∃ (cond : Fin 15), ∃ f, (cond ≠ 0) ∧ FaultsMet (.branch k cond f) k f.words (fun c => (coreOf c k).flTag = true)) ∧
    (∃ k f, DoesMet (.bsr k f) k f.words (fun c => dataFault c k [pushAcc (coreOf c k) 1 false] = none)) ∧
    (∃ k f, DoesMet (.jmp k f) k f.words (fun c => (f.target (coreOf c k)).2 = false ∧ (f.target (coreOf c k)).1 % 2 = 0)) ∧
    (∃ k f, DoesMet (.call k f) k f.words (fun c => (f.target (coreOf c k)).2 = false ∧ (f.target (coreOf c k)).1 % 2 = 0 ∧ dataFault c k [pushAcc (coreOf c k) 1 false] = none)) ∧
    (∃ k f, DoesMet (.jmpf k f) k f.words (fun c => (f.target (coreOf c k)).2 = false ∧ (f.target (coreOf c k)).1 % 2 = 0)) ∧
    (∃ k f, DoesMet (.callf k f) k f.words (fun c => (f.target (coreOf c k)).2 = false ∧ (f.target (coreOf c k)).1 % 2 = 0 ∧ dataFault c k [pushAcc (coreOf c k) 1 false, pushAcc (coreOf c k) 2 false] = none)) ∧
    (∃ k pc, DoesMet (.ret k) k 1 (fun c => dataFault c k [popAcc (coreOf c k) 0] = none ∧ (popWords k (coreOf c k) 1 0 c).1 = [(pc, false)] ∧ pc % 2 = 0)) ∧
    (∃ k pc cb, DoesMet (.retf k) k 1 (fun c => dataFault c k [popAcc (coreOf c k) 0, popAcc (coreOf c k) 1] = none ∧ (popWords k (coreOf c k) 2 0 c).1 = [(pc, false), (cb, false)] ∧ pc % 2 = 0)) :=
  ⟨⟨0, 14, .short 0x7F, cg, (by decide +kernel)⟩,
   ⟨0, 1, .long 2, by decide, cx (fun x => { x with flTag := true }), (by decide +kernel)⟩,
   ⟨0, .long 2, cx (fun x => { x with sp := 0x1000 }), (by decide +kernel)⟩,
   ⟨0, .reg 7, cg, (by decide +kernel)⟩,
   ⟨0, .abs 0xFFFE, cx (fun x => { x with sp := 0x1000 }), (by decide +kernel)⟩,
   ⟨0, .pair 3, cg, (by decide +kernel)⟩,
   ⟨0, .abs 0xFF 0xFFFE, cx (fun x => { x with sp := 0x1000 }), (by decide +kernel)⟩,
   ⟨0, 0, cx (fun x => { x with sp := 0x1000 }), (by decide +kernel)⟩,
   ⟨0, 0, 0, cx (fun x => { x with sp := 0x1000 }), (by decide +kernel)⟩⟩

theorem words_ok {α β : Type} {x : α × β} {a : α} (h : x.1 = a) : ∃ b, x = (a, b) := ⟨x.2, by simp [← h]⟩
/-- The core with its stack at 0x1000. -/
def cSt : Chip := cx fun x => { x with sp := 0x1000 }

/-- The hypotheses of `Obligations.StackAndReturn`. -/
theorem met_StackAndReturn :
    (∃ k r, DoesMet (.push k r) k 1 (fun c => dataFault c k [pushAcc (coreOf c k) 1 ((coreOf c k).tag r)] = none)) ∧
    (∃ k, DoesMet (.pushf k) k 1 (fun c => dataFault c k [pushAcc (coreOf c k) 1 (coreOf c k).flTag] = none)) ∧
    (∃ k, ∃ (r : Reg), DoesMet (.pop k r) k 1 (fun c => dataFault c k [popAcc (coreOf c k) 0] = none)) ∧
    (∃ k, DoesMet (.popf k) k 1 (fun c => dataFault c k [popAcc (coreOf c k) 0] = none)) ∧
    (∃ k c0 a0 a1 pc cb fl sp sb flBad c1, DoesKeepRfMet (.reti k) k 1 (fun c => (coreOf c k).fl.h = true ∧ dataFault c k (popAccs (coreOf c k) 8) = none ∧ popWords k (coreOf c k) 8 0 c = ([c0, a0, a1, (pc, false), (cb, false), (fl, flBad), (sp, false), (sb, false)], c1) ∧ pc % 2 = 0)) :=
  ⟨⟨0, 7, cSt, (by decide +kernel)⟩,
   ⟨0, cSt, (by decide +kernel)⟩,
   ⟨0, 7, cSt, (by decide +kernel)⟩,
   ⟨0, cSt, (by decide +kernel)⟩,
   (words_ok (x := popWords 0 (coreOf (noLoad 0 (landNow 0 cSt)) 0) 8 0 (noLoad 0 (landNow 0 cSt)))
      (a := [(0, false), (0, false), (0, false), (0, false), (0, false), (0, false), (0, false), (0, false)]) (by decide +kernel)).elim
    fun c1 h => ⟨0, (0, false), (0, false), (0, false), 0, 0, 0, 0, 0, false, c1, cSt, by decide +kernel, by decide +kernel, by decide +kernel, by decide +kernel, h, rfl⟩⟩

/-- Guest 1 with the display of Example 12-1 at its last line; a request of its Hamper. -/
def cgShow (f : Core → Core) : Chip := shows 287 (cx f)
def cgReq (f : Core → Core) : Chip :=
  modHmp 1 (fun _ => { rings := Vector.replicate 4 { enable := true, prod := 1 } }) (cx f)

/-- The hypotheses of `Obligations.WaitsAndEvents`. -/
theorem met_WaitsAndEvents :
    (∃ k, DoesLandedMet (.waitf k) k 1 (fun c => (coreOf c k).latch = true)) ∧
    (∃ k, DoesLandedMet (.waitf k) k 1 (fun c => (coreOf c k).latch = false)) ∧
    (∃ k o, DoesLandedMet (.waitb k o) k (waitbWords o) (fun c => 0 < c.beam.vtotal ∧ (o.value (coreOf c k)).1 < c.beam.vtotal ∧ (o.value (coreOf c k)).2 = false ∧ beamReached c (coreOf c k).refFrame (o.value (coreOf c k)).1 = true)) ∧
    (∃ k o, DoesLandedMet (.waitb k o) k (waitbWords o) (fun c => 0 < c.beam.vtotal ∧ (o.value (coreOf c k)).1 < c.beam.vtotal ∧ (o.value (coreOf c k)).2 = false ∧ beamReached c (coreOf c k).refFrame (o.value (coreOf c k)).1 = false)) ∧
    (∃ k o, DoesLandedMet (.waitb k o) k (waitbWords o) (fun c => c.beam.vtotal = 0 ∧ (o.value (coreOf c k)).2 = false)) ∧
    (∃ k, DoesLandedMet (.waiti k) k 1 (fun c => (coreOf c k).fl.i = false ∧ requestPending c k = true)) ∧
    (∃ k, DoesLandedMet (.waiti k) k 1 (fun c => (coreOf c k).fl.i = true ∨ requestPending c k = false)) ∧
    (∃ k n, DoesMet (.sev k n) k 1 (fun c => (n.value (coreOf c k)).2 = false)) ∧
    (∃ k n, FaultsMet (.sev k n) k 1 (fun c => (n.value (coreOf c k)).2 = true)) ∧
    (∃ k, ∃ (n : Fin 64), DoesKeepRfMet (.trap k n) k 1 (fun _ => True)) :=
  ⟨⟨0, cx (fun x => { x with latch := true }), (by decide +kernel)⟩,
   ⟨0, cg, (by decide +kernel)⟩,
   ⟨0, .imm 287, cgShow (fun x => { x with refFrame := 0x100 }), (by decide +kernel)⟩,
   ⟨0, .imm 287, shows 100 (cx (fun x => { x with refFrame := 0x100 })), (by decide +kernel)⟩,
   ⟨0, .reg 7, cg, (by decide +kernel)⟩,
   ⟨0, cgReq (fun x => { x with fl := { x.fl with i := false } }), (by decide +kernel)⟩,
   ⟨0, cg, (by decide +kernel)⟩,
   ⟨0, .imm 31, cg, (by decide +kernel)⟩,
   ⟨0, .reg 7, cTag, (by decide +kernel)⟩,
   ⟨0, 63, cg, (by decide +kernel)⟩⟩

theorem res_ok {r : Res} (h : (match r with | .ok _ => true | _ => false) = true) : ∃ c, r = .ok c := by
  cases r <;> simp_all
theorem iter_ok {r : Iter} (b : Bool) (h : (match r with | .ok _ l => l == b | _ => false) = true) : ∃ c, r = .ok c b := by
  cases r <;> simp_all
/-- The core of guest 1, ready to copy words from 0x000000 to itself. -/
def cNow (c : Chip) : Chip := noLoad 0 (landNow 0 c)
def cRf : Chip := cx fun x => { x with fl := { x.fl with rf := true }, ct := 1 }
def cCt (n : Word) : Chip := cx fun x => { x with ct := n }

/-- Block instructions without a prefix that run: their iteration is defined. -/
theorem met_blocks :
    (∃ c', Executes cg 0 1 ∧ blockIter 0 false (.xld true 1 2 3) (noLoad 0 cg) = .ok c' false) ∧
    (∃ c', Executes cg 0 1 ∧ blockIter 0 false (.bcpy true 1 2) (noLoad 0 cg) = .ok c' false) ∧
    (∃ c', Executes cg 0 1 ∧ blockIter 0 false (.bset false 1 2) (noLoad 0 cg) = .ok c' false) ∧
    (∃ c', Executes cg 0 1 ∧ blockIter 0 false (.bfnd 1 2) (noLoad 0 cg) = .ok c' true) ∧
    (∃ c', Executes cg 0 1 ∧ blockIter 0 false (.mac 4 2) (noLoad 0 cg) = .ok c' false) ∧
    (blockDefined (.xld true 1 2 3) = true ∧ blockDefined (.bcpy true 1 2) = true ∧ blockDefined (.bset false 1 2) = true ∧
      blockDefined (.bfnd 1 2) = true ∧ blockDefined (.mac 4 2) = true) :=
  ⟨(iter_ok false (by decide +kernel)).elim fun c' h => ⟨c', by decide +kernel, h⟩, (iter_ok false (by decide +kernel)).elim fun c' h => ⟨c', by decide +kernel, h⟩,
   (iter_ok false (by decide +kernel)).elim fun c' h => ⟨c', by decide +kernel, h⟩, (iter_ok true (by decide +kernel)).elim fun c' h => ⟨c', by decide +kernel, h⟩,
   (iter_ok false (by decide +kernel)).elim fun c' h => ⟨c', by decide +kernel, h⟩, by decide⟩

/-- The hypotheses of `Obligations.BlocksAndRepeats`. -/
theorem met_BlocksAndRepeats :
    (∃ k n o c', (blockDefined o = true) ∧ DoesKeepRfMet (.rep k n (.block o)) k 2 (fun c => (coreOf c k).fl.rf = false ∧ (n.value (coreOf c k)).2 = false ∧ 1 ≤ (n.value (coreOf c k)).1 ∧ (n.value (coreOf c k)).1 ≤ 64 ∧ repeatRun k o (n.value (coreOf c k)).1 (modCore k (setCt (n.value (coreOf c k)).1) c) = .ok c')) ∧
    (∃ k n o c', (blockDefined o = true) ∧ DoesKeepRfMet (.rep k n (.block o)) k 2 (fun c => (coreOf c k).fl.rf = true ∧ (coreOf c k).ctTag = false ∧ repeatRun k o (coreOf c k).ct.toNat c = .ok c')) ∧
    (∃ k o, (blockDefined o = true) ∧ DoesKeepRfMet (.repi k (.block o)) k 2 (fun c => (coreOf c k).ctTag = false ∧ (coreOf c k).ct = 0)) ∧
    (∃ k o c' last, (blockDefined o = true) ∧ DoesKeepRfMet (.repi k (.block o)) k 2 (fun c => (coreOf c k).ctTag = false ∧ (coreOf c k).ct ≠ 0 ∧ blockIter k true o c = .ok c' last ∧ (last = true ∨ (coreOf c k).ct = 1))) ∧
    (∃ k o c', (blockDefined o = true) ∧ DoesKeepRfMet (.repi k (.block o)) k 2 (fun c => (coreOf c k).ctTag = false ∧ 1 < (coreOf c k).ct.toNat ∧ blockIter k true o c = .ok c' false)) :=
  ⟨(res_ok (r := repeatRun 0 (.bset false 1 2) (RegOrImm.value (.imm 64) (coreOf (cNow cg) 0)).1
      (modCore 0 (setCt (RegOrImm.value (.imm 64) (coreOf (cNow cg) 0)).1) (cNow cg))) (by decide +kernel)).elim
    fun c' h => ⟨0, .imm 64, .bset false 1 2, c', by decide, cg, by decide +kernel, by decide +kernel, by decide +kernel, by decide +kernel, by decide +kernel,
      by decide +kernel, h⟩,
   (res_ok (r := repeatRun 0 (.bcpy true 1 2) (coreOf (cNow cRf) 0).ct.toNat (cNow cRf)) (by decide +kernel)).elim
    fun c' h => ⟨0, .imm 64, .bcpy true 1 2, c', by decide, cRf, by decide +kernel, by decide +kernel, by decide +kernel, by decide +kernel, h⟩,
   ⟨0, .mac 4 2, by decide, cCt 0, (by decide +kernel)⟩,
   (iter_ok (r := blockIter 0 true (.bcpy true 1 2) (cNow (cCt 1))) false (by decide +kernel)).elim
    fun c' h => ⟨0, .bcpy true 1 2, c', false, by decide, cCt 1, by decide +kernel, by decide +kernel, by decide +kernel, by decide +kernel, h, .inr (by decide +kernel)⟩,
   (iter_ok (r := blockIter 0 true (.bcpy true 1 2) (cNow (cCt 2))) false (by decide +kernel)).elim
    fun c' h => ⟨0, .bcpy true 1 2, c', by decide, cCt 2, by decide +kernel, by decide +kernel, by decide +kernel, by decide +kernel, h⟩⟩

/-- The hypotheses of `Obligations.UndefinedEncodings`. -/
theorem met_UndefinedEncodings :
    (∃ k w, FaultsMet (.undefinedEncoding k w) k 1 (fun _ => True)) ∧
    (∃ (k : CoreId), ∃ w, (k.val < 6) ∧ FaultsMet (.stewardExtension k w) k 1 (fun _ => True)) :=
  ⟨⟨0, 0xFFFF, cg, (by decide +kernel)⟩,
   ⟨0, 0xFFFF, by decide, cg, (by decide +kernel)⟩⟩

theorem enter_ok {x : Bool × Chip} (h : x.1 = true) : ∃ c, x = (true, c) := ⟨x.2, by simp [← h]⟩
/-- The core with its stack at 0x1000 and I = 1, and a request of its partition. -/
def cgIrq : Chip := cgReq fun x => { x with sp := 0x1000, fl := { x.fl with i := true } }

/-- The hypotheses of `Obligations.InterruptEntry`. -/
theorem met_InterruptEntry :
    (∃ (k : CoreId), ∃ q c', MakesMet (.hamperInterruptEntry k) (fun c => topRequest c (corePart c k) k = some q ∧ atBoundary c k = true ∧ (coreOf c k).fl.i = true ∧ enter k 0 0 (savedPc (coreOf c k)) c = (true, c'))) ∧
    (∃ (k : CoreId), ∃ q, MakesMet (.hamperInterruptEntry k) (fun c => topRequest c (corePart c k) k = some q ∧ atBoundary c k = true ∧ (coreOf c k).fl.i = false ∧ (coreOf c k).wait = some .interrupt)) ∧
    (∃ (k : CoreId), MakesMet (.hamperInterruptEntry k) (fun c => topRequest c (corePart c k) k = none)) :=
  ⟨(enter_ok (x := enter 0 0 0 (savedPc (coreOf cgIrq 0)) cgIrq) (by decide +kernel)).elim fun c' h => ⟨0, 3, c', cgIrq, by decide +kernel, by decide +kernel, by decide +kernel, by decide +kernel, h⟩,
   ⟨0, 3, cgReq (fun x => { x with fl := { x.fl with i := false }, wait := some .interrupt }), (by decide +kernel)⟩,
   ⟨0, cg, (by decide +kernel)⟩⟩

/-! ### Clauses that are no rows of one shape -/

theorem met_FrontCommandRuns : ∃ s : State, s.pending = [] := ⟨State.reset, rfl⟩
theorem test_no_words (n w : Nat) : decodeTableWord n w = none := rfl

theorem met_QueueIsFifo :
    (∃ s t : State, step s = .next t) ∧ (∃ s : State, s.pending = [] ∧ asleep s.chip = false) ∧ (∃ s : State, s.pending = [] ∧ asleep s.chip = true) ∧
    (∃ (s : State) (r : Refusal), step s = .refused r) :=
  ⟨⟨{ st c0 with pending := [.undefinedEncoding 0 0] }, _, rfl⟩, ⟨st c0, rfl, (by decide +kernel)⟩, ⟨st (cp (fun p => { p with phase := .off }) c0), rfl, (by decide +kernel)⟩,
   ⟨{ st c0 with pending := [.stewardExtension 6 0] }, _, rfl⟩⟩

theorem met_FusesOnlyBlow : ∃ s t : State, step s = .next t ∧ Fuses.Legal s.chip.fuses :=
  ⟨{ st c0 with pending := [.undefinedEncoding 0 0] }, _, rfl, ⟨by decide +kernel, by decide +kernel, by decide +kernel⟩⟩

/-- Memory with a byte of user SRAM and one of flash, and another listing of the same bytes. -/
theorem met_StoredBytes :
    (∃ m : Mem, m.wf = true ∧ m.cells ≠ []) ∧ (∃ (pa : Nat) (bs : List Byte) (q : Nat), bs ≠ [] ∧ (q < pa ∨ pa + bs.length ≤ q)) ∧
    (∃ m n : Mem, m.wf = true ∧ n.wf = true ∧ ∀ q, n.byte q = m.byte q) :=
  ⟨⟨(({} : Mem).setByte 0x3FFFFF 1).setByte 0x20000000 0, by decide +kernel, by decide +kernel⟩, ⟨0x3FFFFE, [1], 0x3FFFFF, by decide, by decide⟩,
   ⟨{}, {}, by decide +kernel, by decide +kernel, fun _ => rfl⟩⟩

theorem met_SramCode : ∃ (data : Nat) (i j : Fin 64), data < 2 ^ 64 ∧ i ≠ j := ⟨2 ^ 64 - 1, 0, 63, by decide, by decide⟩

theorem met_SramWords :
    (∃ (c : Chip) (pa : Nat) (w : WordRead) (q : Nat), c.mem.wf = true ∧ ssorted c.mem.syn = true ∧ pa % 8 = 0 ∧ pa < 0x400000 ∧ macroFenced c pa = false ∧
      w.poison = false ∧ w.bytes.length = 8 ∧ q % 8 = 0 ∧ q < 0x400000 ∧ q ≠ pa) ∧
    (∃ (pa : Nat) (w : WordRead), pa % 8 = 0 ∧ pa < 0x400000 ∧ macroFenced c0 pa = false ∧ w.poison = true) :=
  ⟨⟨c0, 0x3FFFF8, ⟨List.replicate 8 0xFF, false⟩, 0, (by decide +kernel)⟩, ⟨0, ⟨[], true⟩, (by decide +kernel)⟩⟩

/-- An entry of the lint log that a second report within one second joins, and one it does not. -/
def cLint (t : Nat) : Chip := { lintAs false 0x0407 0x0101 1 5 c0 with clk := { c0.clk with qtime := t } }
theorem met_LintMerges :
    (∃ code unit c i, lintNewest (Chip.lint c) code unit = some i ∧ c.clk.qtime < (c.lint.entries.getD i {}).first + 24000000) ∧
    (∃ code unit c, ∀ i, lintNewest (Chip.lint c) code unit = some i → (c.lint.entries.getD i {}).first + 24000000 ≤ c.clk.qtime) :=
  ⟨⟨0x0407, 0x0101, cLint 23999999, 0, (by decide +kernel)⟩,
   ⟨0x0407, 0x0101, cLint 24000000, fun i h => by
     have h0 : lintNewest (cLint 24000000).lint 0x0407 0x0101 = some 0 := by decide +kernel
     obtain rfl : 0 = i := Option.some.inj (h0.symm.trans h)
     decide +kernel⟩⟩
theorem met_LintCounters : ∃ code other : Nat, other ≠ code := ⟨0x0407, 0x0408, by decide⟩

theorem met_ArithmeticIsExact : ∀ w ∈ [16, 32], ∃ a b k : Nat, a < 2 ^ w ∧ b < 2 ^ w ∧ k ≤ 1 := fun w h => by
  simp at h; rcases h with rfl | rfl
  · exact ⟨2 ^ 16 - 1, 2 ^ 15, 1, by decide, by decide, by decide⟩
  · exact ⟨2 ^ 32 - 1, 2 ^ 31, 1, by decide, by decide, by decide⟩

theorem met_PartitionRows_times : (∃ t c, t < (Chip.clk c).qtime) ∧ (∃ t c, (Chip.clk c).qtime < t) ∧ (∃ j : ResetJob, j.restart = false) :=
  ⟨⟨0, { c0 with clk := { c0.clk with qtime := 1 } }, by decide +kernel⟩, ⟨1, c0, by decide +kernel⟩, ⟨{}, rfl⟩⟩

theorem met_HostPortRows_writes : ∃ v c, idxDiff (Chip.host c).cmdProd c.host.cmdCons + idxDiff v c.host.cmdProd ≤ 16 := ⟨16, c0, (by decide +kernel)⟩

theorem met_SpoolFill : ∃ (p : Nat) (x : Desc) (k : Nat) (c : Chip), x.op = .fill ∧ x.desc = false ∧
    refusedOf c p [(.w, (x.d + (piece x.d x.len k).1) % 2 ^ 24, (piece x.d x.len k).2)] = none :=
  ⟨1, ⟨.fill, false, false, false, false, 1, 0, 0, 0, 0x00FFFF, 1, 0, 0, 0, 0, 0, [], 0, 0, 0⟩, 0, cg, (by decide +kernel)⟩

theorem met_GuardWrite : ∃ (k : CoreId) (g : Fin 8) (reg : Fin 4) (c : Chip), canRun c k = true ∧ (coreOf c k).fl.h = true ∧
    inWindow c (corePart c k) (0xFF1010 + 8 * g.val + 2 * reg.val) = true ∧ (coreOf c k).guard.en = true :=
  ⟨0, 7, 3, cx (fun x => { x with guard := { en := true } }), (by decide +kernel)⟩

theorem met_ScanOut_release : ∃ m c, (Chip.scan c).mode = some m := ⟨md12, shows 0 c0, rfl⟩
theorem met_BeamRows_modes : (∃ c : Chip, c.scan.mode = none) ∧ (∃ c : Chip, c.clk.returnDue = true) :=
  ⟨⟨c0, rfl⟩, ⟨{ c0 with clk := { c0.clk with returnDue := true } }, rfl⟩⟩

/-- The display of Example 12-1 with a governor that is not held. -/
def cGov (g : Gov) : Chip := { shows 0 c0 with gov := g, scan := { (shows 0 c0).scan with h := { (shows 0 c0).scan.h with fresh := false } } }
theorem met_GovernorRows_frames :
    (∃ c, govHeld c = true) ∧
    (∃ c, govHeld c = false ∧ (Chip.gov c).par.lowWm ≤ c.gov.slackRun ∧ c.gov.target < vmaxOf c.gov) ∧
    (∃ c fill, govHeld c = false ∧ (Chip.gov c).par.lowWm ≤ c.gov.slackRun ∧ c.gov.par.audWm ≤ fill ∧ c.gov.par.highWm < c.gov.slackRun ∧
      c.gov.panic = false ∧ c.gov.par.holdFrames ≤ c.gov.calm + 1) :=
  ⟨⟨c0, (by decide +kernel)⟩, ⟨cGov {}, (by decide +kernel)⟩, ⟨cGov { calm := 7 }, 64, (by decide +kernel)⟩⟩

theorem met_SupplyRows_class3 : (∃ c, hasStarted c = true) ∧ (∃ c, hasStarted c = false) :=
  ⟨⟨{ c0 with mem := { c0.mem with rinseOn := true } }, (by decide +kernel)⟩, ⟨cp (fun p => { p with phase := .recovery }) c0, (by decide +kernel)⟩⟩
theorem met_ResetRows_boot : (∃ o c, mustRecover o c = true) ∧ (∃ (r : Restart) (c : Chip), r.cmd = none ∧ c.svc.table = c.units) ∧ (∃ a, 0x20000000 ≤ a) :=
  ⟨⟨{ supply := ⟨4500, 0, 4500⟩, recovery := true }, c0, (by decide +kernel)⟩, ⟨{ slot := 0 }, c0, rfl, (by decide +kernel)⟩, ⟨0x20000000, Nat.le_refl _⟩⟩

/-- Recovery mode with a USB host; then with an image downloaded into slot A, which stands in flash. -/
def cDfu : Chip := cp (fun p => { p with phase := .recovery }) usb0
def cDfu2 : Chip := { cDfu with usb := { usb0.usb with dfu := imgA, dfuSlot := 0 }, mem := cImg.mem }
theorem image_cDfu2 (h : ∀ k m s, Config.ed25519Verify k m s = true) : ∃ img,
    imageGood (st cDfu2).chip (slotOffset (st cDfu2).chip (st cDfu2).chip.usb.dfuSlot) (st cDfu2).chip.usb.dfu.length
      (pfield (st cDfu2).chip.usb.dfu ((st cDfu2).chip.usb.dfu.length - 128 + 0x10) 4) = some img := by
  rw [show (st cDfu2).chip = cDfu2 from rfl]
  have e1 : slotOffset cDfu2 cDfu2.usb.dfuSlot = 0x10000 := by decide +kernel
  have e2 : cDfu2.usb.dfu.length = 256 := by decide +kernel
  have e3 : pfield cDfu2.usb.dfu (256 - 128 + 0x10) 4 = 1 := by decide +kernel
  obtain ⟨a, b, d, hv⟩ := verify_good (c := cDfu2) (kind := 1) (version := 1) (title := 0) (img := imgA) (i := 15) h
    (by decide +kernel) (by decide +kernel) (by decide +kernel)
  refine ⟨(b, d), ?_⟩
  rw [e1, e2, e3, imageGood, flashBase, show cDfu2.mem.bytes (0x20000000 + 0x10000) 256 = imgA by decide +kernel, hv]

theorem met_UsbAndDfu :
    (∃ (s : State) (bs : List Byte), s.chip.pwr.phase = .recovery ∧ s.chip.usb.attached = true ∧ lifeOf s.chip ≠ .scrap ∧ bs.length ≤ 4096 ∧
      isPegged s.chip 0x0B 0 = false ∧ s.chip.usb.dfu = []) ∧
    ((∀ k m s, Config.ed25519Verify k m s = true) → ∃ (s : State) (img : Nat × Bool), s.chip.pwr.phase = .recovery ∧ s.chip.usb.attached = true ∧
      lifeOf s.chip ≠ .scrap ∧ s.chip.usb.dfu ≠ [] ∧
      imageGood s.chip (slotOffset s.chip s.chip.usb.dfuSlot) s.chip.usb.dfu.length (pfield s.chip.usb.dfu (s.chip.usb.dfu.length - 128 + 0x10) 4) = some img) :=
  ⟨⟨st cDfu, [1], (by decide +kernel)⟩,
   fun h => (image_cDfu2 h).elim fun img hg => ⟨st cDfu2, img, by decide +kernel, by decide +kernel, by decide +kernel, by decide +kernel, hg⟩⟩

theorem met_StackAndReturn_guest : ∃ (k : CoreId) (c : Chip), canRun c k = true ∧ fetchFault (landNow k c) k 1 = none ∧
    (coreOf (noLoad k (landNow k c)) k).fl.h = false := ⟨0, cx (fun x => { x with fl := { x.fl with h := false } }), (by decide +kernel)⟩
theorem met_Waitb_beyond : ∃ (k : CoreId) (o : RegOrImm) (c : Chip), canRun c k = true ∧ fetchFault (landNow k c) k (waitbWords o) = none ∧ 0 < c.beam.vtotal ∧
    c.beam.vtotal ≤ (o.value (coreOf (noLoad k (landNow k c)) k)).1 := ⟨0, .imm 288, cgShow id, (by decide +kernel)⟩

theorem met_BlockIterations :
    (∃ (k : CoreId) (w : Bool) (d s : Reg) (c : Chip), dataFault c k [ptrAcc .r (coreOf c k).db s (elemSize w) (coreOf c k), ptrAcc .w (coreOf c k).xb d (elemSize w) (coreOf c k)] = none) ∧
    (∃ (k : CoreId) (w : Bool) (d v : Reg) (c : Chip), dataFault c k [{ ptrAcc .w (coreOf c k).xb d (elemSize w) (coreOf c k) with poisonStore := (coreOf c k).tag v }] = none) ∧
    (∃ (k : CoreId) (d : Reg) (c : Chip), dataFault c k [ptrAcc .r (coreOf c k).xb d 2 (coreOf c k)] = none) ∧
    (∃ (k : CoreId) (d s : Reg) (c : Chip), dataFault c k [ptrAcc .r (coreOf c k).db s 2 (coreOf c k), ptrAcc .r (coreOf c k).xb d 2 (coreOf c k)] = none) ∧
    (∃ (k : CoreId) (w : Bool) (d s b : Reg) (c : Chip) (i : Nat) (c1 : Chip), dataFault c k [ptrAcc .r (coreOf c k).db s (elemSize w) (coreOf c k)] = none ∧
      coreLoad k (kaddr (coreOf c k).db ((coreOf c k).reg s)) (elemSize w) c = ((i, false), c1) ∧
      dataFault c k [ptrAcc .r (coreOf c k).db s (elemSize w) (coreOf c k), ⟨.r, kaddr (coreOf c k).db (off16 ((coreOf c k).reg b) (i * elemSize w)), elemSize w,
        (coreOf c k).tag b, false⟩, ptrAcc .w (coreOf c k).xb d (elemSize w) (coreOf c k)] = none) :=
  ⟨⟨0, true, 7, 7, cg, (by decide +kernel)⟩, ⟨0, false, 7, 7, cg, (by decide +kernel)⟩, ⟨0, 7, cg, (by decide +kernel)⟩, ⟨0, 7, 7, cg, (by decide +kernel)⟩,
   (words_ok (x := coreLoad 0 (kaddr (coreOf cg 0).db ((coreOf cg 0).reg 7)) 2 cg) (a := (0, false)) (by decide +kernel)).elim
     fun c1 h => ⟨0, true, 7, 7, 7, cg, 0, c1, by decide +kernel, h, by decide +kernel⟩⟩

theorem met_HandlerEntry : (∃ (k : CoreId) (c c' : Chip), enter k 0 0 0 c = (true, c')) ∧ (∃ (k : CoreId) (c c' : Chip), enter k 0 0 0 c = (false, c')) :=
  ⟨(enter_ok (x := enter 0 0 0 0 cgIrq) (by decide +kernel)).elim fun c' h => ⟨0, _, c', h⟩,
   ⟨0, cx (fun x => { x with spTag := true }), (enter 0 0 0 0 (cx fun x => { x with spTag := true })).2, Prod.ext (by decide +kernel) rfl⟩⟩

/-! ### Worked examples of the spec -/

/-- Memory of guest 1 as the examples use it: bank 0x04 is frame 0, bank 0x05 frame 1, bank 0x01 frame 2, bank 0x02 frame 3, bank 0x06 frame 4,
bank 0x07 frame 5, bank 0 frame 6. -/
def cEx (f : Core → Core) : Chip :=
  modPart 1 (fun q => { q with map := ([(0, 6), (4, 0), (5, 1), (1, 2), (2, 3), (6, 4), (7, 5)].foldl (fun m e =>
    sput {} m e.1 { frame := e.2, v := true, r := true, w := true, x := true }) []) ++ [(0xFF, MapEntry.ownWindow)] }) (cx f)

/-- Example 01-1: a fetch with 705 of 1,320 dots left has slack 136. -/
theorem test_slack : slackOf 705 1320 = 136 := by decide
/-- Examples 03-1 and 10-1: ADMIT_CAP of the two modes. -/
theorem test_admit_cap : admitCapOf { md12 with htotal := 1320, pclk := 50054400 } = 23140 ∧ admitCapOf md12 = 50781 := by decide +kernel

/-- Example 01-2: from 0.72 V, seven calm frames, then the eighth steps down to 0.71 V. -/
theorem test_governor_calm :
    (govFrame false 64 (cGov { target := 72, calm := 6, slackRun := 150 })).gov.target = 72 ∧
    (govFrame false 64 (cGov { target := 72, calm := 7, slackRun := 150 })).gov.target = 71 ∧
    (govFrame false 64 (cGov { target := 70, slackRun := 40 })).gov.target = 71 ∧ (govFrame false 64 (cGov { target := 72, slackRun := 70 })).gov.target = 72 := by
  decide +kernel

/-- Example 01-2: slack 12 is a panic of three steps, from 0.71 V to 0.74 V. -/
theorem test_governor_panic : (noteSlack 317 12 (cGov { target := 71 })).gov.target = 74 := by decide +kernel

/-- Example 04-1: GOV.VOTE in slot 5 with SEQ 0x00_3F21 is accepted with handle 0x203F_2105. -/
theorem test_accept_handle :
    (acceptRecord (.part 1) 5 (clean (leBytes 4 0x01000203 ++ leBytes 4 0x0A11 ++ leBytes 24 1)) { cg with seq := 0x3F21 }).1 = 0x203F2105 := by decide +kernel
/-- Example 04-2: host slot 3 with SEQ 0x00_0102 gives 0xE001_0203. -/
theorem test_accept_host : nextHandle { c0 with seq := 0x102 } .host 3 = 0xE0010203 := by decide +kernel
/-- Example 04-1: a BUSY with hint 120 µs reads 0x0078_0010. -/
theorem test_busy_word : rejectWord 120 .busy = 0x00780010 := by decide
/-- Example 18-1: VLT.LOAD with PLEN 56 and PTR clear is MALFORMED, acceptance word 0x0000_0012. -/
theorem test_malformed : (acceptRecord .host 0 (clean (leBytes 4 0x38001010 ++ List.replicate 28 0)) c0).1 = 0x12 := by decide +kernel

/-- Example 05-1: after LD.W W0, [W6] the ADD reads the old W0 = 5; the load then lands, and the ADD's result is lost. -/
def ex05 : State :=
  st (execMovi 0 0 5 (st (writeK 1 0x041000 (clean [0x30, 0]) (cEx fun x => { x with db := 4, w := x.w.set 6 0x1000 }))) |> fun o => match o with
    | .next t => (match execLd 0 .w 0 (.ind 6) t with | .next u => u.chip | _ => c0) | _ => c0)
theorem test_load_delay : (match execMov 0 (.reg 1 0) ex05 with
    | .next t => (coreOf t.chip 0).reg 1 == 5 && (coreOf t.chip 0).reg 0 == 0x30 | _ => false) = true := by decide +kernel
theorem test_load_overwrites : (match execAdd 0 (.small 0 2) ex05 with
    | .next t => (coreOf t.chip 0).reg 0 == 0x30 && !(coreOf t.chip 0).fl.z && !(coreOf t.chip 0).fl.c && !(coreOf t.chip 0).fl.v | _ => false) = true := by
  decide +kernel

/-- Example 06-1: the guard fault of ST.W W0, [W1] pushes the frame with CAUSE 0x8205, ADDR 0x0004_E010 and PC 0x0124 on the host stack. -/
def gPlay : GuardRegion := { base := 0x020000, sizeLog2 := 14, r := true, x := true, en := true }
def gData : GuardRegion := { base := 0x040000, sizeLog2 := 16, r := true, w := true, en := true, srd := 0x80 }
def ex06 : Chip :=
  cEx fun x =>
    { x with db := 4, cb := 2, sb := 5, sp := 0xFFE8, pc := 0x124, w := x.w.set 1 0xE010, fl := { i := true, h := false }, hostSb := 6, hostSp := 0,
             vecBank := 1, vecBase := 0x100,
             guard := { en := true, regions := ((Vector.replicate 8 {}).set 0 gPlay).set 1 gData } }
theorem test_guard_fault : (match execSt 0 .w 0 (.ind 1) (st ex06) with
    | .next t => plain (readK 1 0x06FFF0 16 t.chip).1 == leBytes 2 0x8205 ++ leBytes 2 0xE010 ++ leBytes 2 4 ++ leBytes 2 0x124 ++ leBytes 2 2 ++ leBytes 2 0x10 ++
        leBytes 2 0xFFE8 ++ leBytes 2 5 && (coreOf t.chip 0).sb == 6 && (coreOf t.chip 0).sp == 0xFFF0 && (coreOf t.chip 0).cb == 1 &&
        (coreOf t.chip 0).fl.h && !(coreOf t.chip 0).fl.i && (coreOf t.chip 0).faultCount == 1
    | _ => false) = true := by decide +kernel

/-- Example 08-1: the fold of 0x48 is 0x09, the check byte of 1 is 0x0E, and the syndromes of steps 1 to 4 and of the other address. -/
theorem test_sram_code :
    addrFold 0x48 = 9 ∧ sramCheck 9 1 = 0x0E ∧ synClass (sramCheck 9 1 ^^^ 0x0F) = .check ∧ synClass (sramCheck 9 3 ^^^ 0x0E) = .data 1 ∧
    sramCheck 9 7 ^^^ 0x0E = 6 ∧ synClass 6 = .ueEven ∧ addrFold 8 = 0x81 ∧ synClass (sramCheck 0x81 1 ^^^ 0x0E) = .ueEven ∧ macroOf 0x48 = 1 ∧ rowOf 0x48 = 0 := by
  decide
/-- Example 08-2: the codeword of 11 22 33 44 is 11 22 33 44 44 00; D2 read as 0 has syndromes 0x33 and 0x85 and is corrected. -/
theorem test_xmem_code :
    xCheck .full [0x11, 0x22, 0x33, 0x44] = (0x44, 0) ∧ synd0 [0x11, 0x22, 0, 0x44, 0x44, 0] = 0x33 ∧ synd1 [0x11, 0x22, 0, 0x44, 0x44, 0] = 0x85 := by
  decide +kernel

/-- Example 10-1: the costs of T0, T2, the sprites, B0, the stitch list and B1. -/
theorem test_costs :
    layerCost c0 0 { w := 480, fmt := 1 } = 368 ∧ layerCost c0 2 { w := 480 } = 1920 ∧ groupCost { quota := 16 } = 384 ∧
    layerCost c0 5 { w := 480, fmt := 1, k := kReset 5 } = 964 ∧ stitchCost { slots := 2 } = 16 ∧
    layerCost c0 6 { w := 480, fmt := 5 + 512, k := (kReset 6).set 2 2048 } = 1936 := by decide +kernel

/-- Example 11-1: entry 0x3FF8_0000, the pixel over it, and the dithered dot in two frames, and undithered. -/
theorem test_compose_dot :
    entryColour 0x3FF80000 = (4095, 2050, 0) ∧ blendPix {} 255 (.px (expand 0x20 8) (expand 0x40 8) (expand 0xFF 8) 128 false) (4095, 2050, 0) = (2297, 1537, 2056) ∧
    pinWord md12 { depth := #v[5, 6, 5] } 230 5 0x100 (2297, 1537, 2056) = 0x9310 ∧ pinWord md12 { depth := #v[5, 6, 5] } 230 5 0x101 (2297, 1537, 2056) = 0x8AEF ∧
    [ditherCh 0 5 230 5 0 2297, ditherCh 0 6 230 5 0 1537, ditherCh 0 5 230 5 0 2056] = [17, 24, 16] := by decide +kernel
/-- Example 11-2: BT.709, limited range. -/
theorem test_yuv : yuvColour 1 false (4 * 180) (4 * 100) (4 * 160) = (3988, 2889, 2117) ∧ ditherCh 0 8 0 0 0 3988 = 248 := by decide +kernel
/-- Example 11-3: an added sparkle, and the tone mapper HUE and CLIP. -/
def hueTable : List Nat := (List.range 129).map fun i => if i ≤ 48 then 64 * i else 3072 + (i - 48) * 1023 / 80
theorem test_tone :
    blendPix { mode := 1 } 255 (.px 8191 6149 2050 255 false) (1000, 1000, 1000) = (8191, 7149, 3050) ∧
    toneMap { tone := 3, tables := Vector.replicate 3 hueTable } (8191, 7149, 3050) = (4095, 3574, 1525) ∧ toneMap {} (8191, 7149, 3050) = (4095, 4095, 3050) := by
  decide +kernel

/-- Example 12-1: the mode meets Table 12.2; the DATA words of the two underruns. -/
theorem test_mode : md12.ok = true ∧ (modeOf (took 0x0C10 .host mode12)).timingOk = true := by decide +kernel
theorem test_underrun_data : underrunData 2 false false false false 120 = 0x00780002 ∧ underrunData 0 false true false false 200 = 0x00C80010 := by decide
/-- Example 12-2: of the four DSI candidates two are accepted. -/
def dsiMode (fmt lanes rate : Nat) : Mode :=
  { md12 with iface := 1, opts := 4 * fmt, hactive := 1024, htotal := 1320, hsStart := 1100, hsWidth := 20, vactive := 600, vtotal := 632, vsStart := 610, vsWidth := 6,
              pclk := 50054400, laneRate := rate, pclkMax := 60000000, lanes2 := decide (lanes = 2) }

/-- Example 13-1: the key-on sample; u of both samples; the two high-pass sections; the limiter at T = 262,144. -/
theorem test_key_on : 1000000 + dotsToSamples ((288 + 200) * 531) 9175680 = 1001355 := by decide
theorem test_high_pass :
    (HpState.run 32 63843 {} 384000).1 = 384000 ∧ (HpState.run 32 63843 { x1 := 384000, y1 := 384000 } 395762).1 = 385842 ∧
    (HpState.run 32 63843 { x1 := 384000, y1 := 384000 } 385842).1 = 375922 := by decide +kernel
theorem test_limiter :
    let l : Limiter := { (default : Limiter) with g := 32768, thr := 2048, cap := 2048 }
    (l.run 10 (384000, 384000)).1.1 = 262136 ∧ (l.run 10 (384000, 384000)).2.g = 22369 ∧ ((l.run 10 (384000, 384000)).2.run 10 (375922, 375922)).1.1 = 256737 := by
  decide +kernel

/-- Example 14-1: R_T and the screen position of the stylus. -/
theorem test_touch :
    touchRt 600 (median3 2098 2100 2140) 400 1200 = 615 ∧ touchPos 8484 0 (-1696800) 2100 1500 480 = 245 ∧ touchPos 0 5074 (-1522200) 2100 1500 272 = 92 := by
  decide

/-- Example 15-1: θ = 300 ns moves system time by 1,843 units. -/
theorem test_theta : thetaUnits (2 * 300 * 32 / 5) = 1843 := by decide
/-- Example 15-2: with its E port down, tile 0x0A07 sends the packet for 0x0C09 S, detoured; a second dead port loses it. -/
def gridNode (e s : PortSt) : Chip :=
  lk (fun l => { l with node := { cfg := { on := true, mode := 3, ports := 15 }, id := 0x0A07, enumerated := true },
                        ports := #v[{ st := .joined }, { st := e }, { st := s }, { st := .joined }] }) c0
theorem test_detour :
    routeOf (gridNode .joined .joined) 0x0C09 false none = .via 1 false ∧ routeOf (gridNode .down .joined) 0x0C09 false (some 3) = .via 2 true ∧
    routeOf (gridNode .joined .down) 0x0C09 true (some 0) = .lost := by decide +kernel

/-- Example 16-1: the message that the vault MACs. -/
theorem test_prove_message :
    (proveMsg (inField (cf (fun f => { f with serial := 0x00001C2A00479E31 }) c0)) (leBytes 16 0x15D4902E7BA3860FD1C2445BE0193C7A)).map (·.toNat) =
      [0x53, 0x55, 0x4B, 0x45, 0x4E, 0x2D, 0x50, 0x52, 0x4F, 0x56, 0x45, 0x31, 0x9E, 0x47, 0, 0x2A, 0x1C, 0, 0,
       0x7A, 0x3C, 0x19, 0xE0, 0x5B, 0x44, 0xC2, 0xD1, 0x0F, 0x86, 0xA3, 0x7B, 0x2E, 0x90, 0xD4, 0x15, 2] := by decide +kernel
/-- Example 16-2: the counter block of offset 0x0001_2340. -/
theorem test_counter_block : (counterBlock 0x00000100504F4850 0x12340).map (·.toNat) = [0x50, 0x48, 0x4F, 0x50, 0, 1, 0, 0, 0, 0, 0, 0, 0, 0, 0x12, 0x34] := by
  decide

/-- Example 17-1: SVC.SPARE_MACRO starts to copy M07 to M32, whose GEN becomes 2. -/
theorem test_spare_macro : (match execSvcSpareMacro (.own (par 0x1112 [7, 1])) (st c0) with
    | .next t => (vget t.chip.units.macros 32).gen == 2 && t.chip.mem.copy.isSome | _ => false) = true := by decide +kernel

/-- Example 12-2. -/
theorem test_dsi :
    [dsiMode 3 1 800, dsiMode 0 1 800, dsiMode 1 2 500, dsiMode 3 2 700, dsiMode 3 2 660].map Mode.ok = [false, false, true, true, false] := by decide +kernel

/-- Example 05-2: at element 4 the table address 0x04:7E00 lies outside the guard region; CT 12, W6, W7 and W5 stand, the saved PC is the prefix's
and the saved FL has RF. -/
def gTab : GuardRegion := { base := 0x048000, sizeLog2 := 11, r := true, en := true }
def gIdx : GuardRegion := { base := 0x042000, sizeLog2 := 12, r := true, en := true }
def gXld : GuardUnit := { en := true, regions := (((Vector.replicate 8 {}).set 0 gPlay).set 1 gTab).set 2 gIdx }
def ex05b : Chip :=
  writeK 1 0x042008 (clean [0x00, 0x7F]) (cEx fun x =>
    { x with db := 4, xb := 5, cb := 2, pc := 0x112, ct := 12, w := ((x.w.set 5 0x8000).set 6 0x2008).set 7 0x3008, fl := { h := false }, hostSb := 6, hostSp := 0,
             vecBank := 1, vecBase := 0x100, guard := gXld })
theorem test_repi_fault : (match execRepi 0 (.block (.xld true 7 6 5)) (st ex05b) with
    | .next t => [(coreOf t.chip 0).ct.toNat, (coreOf t.chip 0).reg 6, (coreOf t.chip 0).reg 7, (coreOf t.chip 0).reg 5] == [12, 0x2008, 0x3008, 0x8000] &&
        plain (readK 1 0x06FFF6 2 t.chip).1 == leBytes 2 0x112 && bit (leNat (plain (readK 1 0x06FFFA 2 t.chip).1)) 6 &&
        plain (readK 1 0x06FFF2 4 t.chip).1 == leBytes 4 0x047E00
    | _ => false) = true := by decide +kernel

/-- Example 06-2: BEQ on a tagged FL pushes CAUSE 0x3006, ADDR 0, the BEQ's PC and FL 0x0090. -/
theorem test_poison_branch : (match execBranch 0 1 (.short 0) (st (cEx fun x =>
      { x with pc := 0x20, sp := 0x100, sb := 6, fl := { i := true, h := false }, flTag := true, hostSb := 6, hostSp := 0, vecBank := 1, vecBase := 0x100 })) with
    | .next t => plain (readK 1 0x06FFF0 8 t.chip).1 == leBytes 2 0x3006 ++ leBytes 4 0 ++ leBytes 2 0x20 && plain (readK 1 0x06FFFA 2 t.chip).1 == leBytes 2 0x90 &&
        !(coreOf t.chip 0).flTag
    | _ => false) = true := by decide +kernel

/-- Example 07-1: the record of VOICE at 120:100:40 in slot 0 of Q0. -/
def ex07 : Chip :=
  { modHmp 1 (fun h => { h with rings := Vector.replicate 4 { enable := true, base := 0x041000 } }) (cEx id) with
    beam := { frame := 120, line := 100, dot := 40, hold := false, htotal := 531, vtotal := 288, hactive := 480, vactive := 272, pclk := md12.pclk } }
theorem test_hamper_record :
    (plain (readK 1 0x041010 16 (enqueue 1 10 1 (.one 0) false true ex07)).1).map (·.toNat) = [0x0A, 3, 1, 0, 0, 0, 0, 0, 0x78, 0, 0, 0, 0x64, 0, 0x28, 0] := by
  decide +kernel

/-- Example 09-1: element 4 of the gather is refused by the map at 0x08_EE00. -/
def gatherDesc : List Byte :=
  [4, 0, 0x22, 0, 0, 0x20, 4, 0, 0, 0xF0, 7, 0, 0, 0x30, 5, 0, 16, 0, 0, 0] ++ List.replicate 12 0
theorem test_gather_refused : (match parseDesc gatherDesc 0 with
    | some d => (match spElem 1 false d 4 (writeK 1 0x042008 (clean [0x00, 0x7F]) (cEx id)) with | .stop _ a _ => a == 0x08EE00 | _ => false)
    | none => false) = true := by decide +kernel

/-- Example 10-1: column 10 of line 200 of T0 shows local palette entry 0x067 with PRIO. -/
theorem test_tile_pixel :
    let c := writeK 1 (0x040000 + 3202) (clean [0x23, 0x51]) (writeK 1 (0x050000 + 0x123 * 32 + 2) (clean [0x70]) (cEx id))
    (tilePixel { palette := [(0x67, 0x3FF80000)], palOwner := Vector.replicate 16 1 } 1 0
      { fmt := 1 + 16, base := #v[0x050000, 0x040000, 0], k := (kReset 0).set 0 3, palbase := 0x40 } 10 200 c).1 = .px 4095 2050 0 255 true := by decide +kernel

/-- Example 18-1: PART.QUOTA with SHARE 0 is BAD_PARAM before it is STALE; with SHARE 8 it is STALE, INFO 0x0005, RESULT 2. -/
def c18 : Chip := modPart 3 (fun q => { q with st := .running, gen := 5 }) c0
theorem test_quota :
    (match execPartQuota (.own (par 0x0318 [3, 4, 0, 32, 0, 8])) (st c18) with | .next t => t.chip.lastCpl.map (·.status) | _ => none) = some .badParam ∧
    (match execPartQuota (.own (par 0x0318 [3, 4, 8, 32, 0, 8])) (st c18) with
      | .next t => t.chip.lastCpl.map (fun k => (k.info, k.result)) | _ => none) = some (5, 2) := by decide +kernel

/-- Example 19-1: sync tip, blanking, black and white of NTSC-M. -/
theorem test_dac : (let m : Mode := { compositeMode 0 with iface := 2 }
    (dacBlanking m m.hsStart, dacBlanking m 0, lumaCode m (0, 0, 0), lumaCode m (4095, 4095, 4095))) = (0, 229, 272, 800) := by decide

end Sys2Proof.Tests
end

/-! The commands of SYS and PWR (R10, R137 to R139): what each body makes where its checks pass, and obligation O11. -/

namespace Sys2Proof.Machine

/-- A check whose condition is false passes. -/
theorem checked_chk_of_false {bad : Bool} (h : bad = false) (st : Status) (l : List (Bool × Reply)) (eff : Chip → Reply × Chip) (c : Chip) :
    checked (chk bad st :: l) eff c = checked l eff c := by
  rw [h]
  rfl

/-! ### SYS -/

/-- While the steward runs, the version reported is its own and not the 0 of recovery mode (R129). -/
theorem sysInfo_of_awake {c : Chip} (h : awake c) (m : Cmd) :
    sysInfo m c = (.res (c.mem.xmem.code + 4 * bitsToNat ((List.range 4).map fun q => unitState c ⟨5, q⟩ != .absent))
      (0xB1 + 2 ^ 8 * (if c.board.q176 then 2 else 1) + 2 ^ 16 * c.pwr.fwVersion), c) := by
  have hphase : c.pwr.phase ≠ .recovery := by
    rw [show c.pwr.phase = .run from h]
    decide
  simp only [sysInfo, if_neg hphase]

/-- With no reset pending, one is due 1 ms later. -/
theorem deferReset_of_none {c : Chip} (h : c.pwr.deferred = none) (d : DeferredReset) :
    deferReset d c = { c with pwr := { c.pwr with deferred := some d, deferAt := c.clk.qtime + 24000 } } := by
  simp [deferReset, h, modPwr]

/-- A pending reset stays as it is (log entry 20). -/
theorem deferReset_of_isSome {c : Chip} (h : c.pwr.deferred.isSome) (d : DeferredReset) : deferReset d c = c := if_pos h

/-- A KIND that exists is asked for: 1 is a cold start and 2 a start in recovery mode. -/
theorem sysReset_of_kind {m : Cmd} (h : m.b 8 = 1 ∨ m.b 8 = 2) (c : Chip) :
    sysReset m c = (.ok, deferReset (if m.b 8 = 1 then .coldStart else .recoveryStart) c) := by
  rw [sysReset, checked_chk_of_false, checked_nil]
  rcases h with h | h <;> simp [h]

/-- The two flags of SYS.BOOT_STATUS as a number. -/
theorem bitsToNat_pair (x y : Bool) : bitsToNat [x, y] = b2n x + 2 * b2n y := by simp [bitsToNat]

/-! ### PWR -/

/-- The three flags of PWR.STATUS, which stand above its two bits of class. -/
theorem four_mul_bitsToNat_triple (x y z : Bool) : 4 * bitsToNat [x, y, z] = 4 * b2n x + 8 * b2n y + 16 * b2n z := by
  simp only [bitsToNat]
  omega

/-- The class and the flags of the supply, and the measured voltages. -/
theorem pwrStatus_eq (m : Cmd) (c : Chip) :
    pwrStatus m c = (.res (c.pwr.cls + 4 * b2n c.pwr.warn + 8 * b2n (isSource c.pwr.vbus c.pwr.vsys) + 16 * b2n (isSource c.pwr.vbat c.pwr.vsys))
      (c.pwr.vsys % 65536 + 2 ^ 16 * (c.pwr.vbus % 65536)), c) := by
  simp only [pwrStatus, four_mul_bitsToNat_triple, Nat.add_assoc]

/-- Settings in range are taken (R137). -/
theorem pwrConfig_of_inRange {m : Cmd} (hwarn : 2700 ≤ m.f 8 2 ∧ m.f 8 2 ≤ 4500) (hride : 1 ≤ m.b 10 ∧ m.b 10 ≤ 20) (hzero : m.b 11 = 0)
    (hresume : 1 ≤ m.f 12 2 ∧ m.f 12 2 ≤ 600) (c : Chip) :
    pwrConfig m c = (.ok, { c with pwr := { c.pwr with vwarn := m.f 8 2, rideMs := m.b 10, resumeMax := m.f 12 2 } }) := by
  rw [pwrConfig, checked_chk_of_false, checked_nil, modPwr]
  simp only [Bool.or_eq_false_iff, decide_eq_false_iff_not, bne_eq_false_iff_eq]
  omega

/-- The resume record is 32 bytes long (Table 02.4). -/
@[simp] theorem ResumeRecord.bytes_length (r : ResumeRecord) : r.bytes.length = 32 := rfl

/-- PWR.RESUME_INFO answers with the record at a DEST that is well formed and that the map does not refuse. -/
theorem pwrResumeInfo_of_destOk {m : Cmd} {c : Chip} (hmap : destDenied m c (m.f 8 4) 32 = false) (hok : destOk m (m.f 8 4) = true) :
    pwrResumeInfo m c = answerBlock m (m.f 8 4) 0 0 c.pwr.record.bytes c := by
  rw [pwrResumeInfo, checked_chk_of_false hmap, checked_chk_of_false (by rw [hok]; rfl), checked_nil]

/-- No map stands before an external origin. -/
theorem destDenied_external {m : Cmd} (h : m.org.external = true) (c : Chip) (dest n : Nat) : destDenied m c dest n = false := by
  cases horg : m.org with
  | part p => simp [horg, Origin.external] at h
  | host | usb | link n => simp only [destDenied, horg]

/-- An external origin receives the block before its completion (R215). -/
theorem answerBlock_external {m : Cmd} (h : m.org.external = true) (dest info result : Nat) (block : List Byte) (c : Chip) :
    answerBlock m dest info result block c = (.done .ok info result block, c) := by
  cases horg : m.org with
  | part p => simp [horg, Origin.external] at h
  | host | usb | link n => simp only [answerBlock, horg]

/-- A partition finds the block at a destination that its map lets it write (R215). -/
theorem answerBlock_part {m : Cmd} {c : Chip} {p dest : Nat} {block : List Byte} (ho : m.org = .part p)
    (hmap : kRangeOk c p .w dest block.length = true) (info result : Nat) :
    answerBlock m dest info result block c = (.done .ok info result [], writeK p dest (clean block) c) := by
  simp only [answerBlock, ho, hmap, if_true]

/-- An external origin with DEST 0 receives the record. -/
theorem pwrResumeInfo_external {m : Cmd} (ho : m.org.external = true) (hdest : m.f 8 4 = 0) (c : Chip) :
    pwrResumeInfo m c = (.done .ok 0 0 c.pwr.record.bytes, c) := by
  have hok : destOk m (m.f 8 4) = true := by simp [destOk, hdest]
  rw [pwrResumeInfo_of_destOk (destDenied_external ho ..) hok, answerBlock_external ho]

/-- A partition finds the record at an aligned DEST that its map lets it write. -/
theorem pwrResumeInfo_part {m : Cmd} {c : Chip} {p : Nat} (ho : m.org = .part p) (hlt : m.f 8 4 < 2 ^ 24) (halign : m.f 8 4 % 4 = 0)
    (hmap : kRangeOk c p .w (m.f 8 4) 32 = true) :
    pwrResumeInfo m c = (.ok, writeK p (m.f 8 4) (clean c.pwr.record.bytes) c) := by
  have hmap' : destDenied m c (m.f 8 4) 32 = false := by
    simp only [destDenied, ho, Nat.mod_eq_of_lt hlt, hmap, Bool.not_true]
  have hok : destOk m (m.f 8 4) = true := by
    simp only [destOk, ho, Origin.external, hlt, halign, decide_true, Bool.not_false, Bool.true_or, Bool.and_self, beq_self_eq_true]
  rw [pwrResumeInfo_of_destOk hmap' hok, answerBlock_part ho hmap, Reply.ok]

/-- A WAKE mask that names a source and no reserved bit asks for the off state. -/
theorem pwrOff_of_wake {m : Cmd} (hlow : 1 ≤ m.b 8) (hhigh : m.b 8 ≤ 7) (c : Chip) : pwrOff m c = (.ok, deferReset (.off (m.b 8)) c) := by
  rw [pwrOff, checked_chk_of_false, checked_nil]
  simp only [Bool.or_eq_false_iff, decide_eq_false_iff_not, beq_eq_false_iff_ne]
  omega

/-! ### The rows -/

/-- Settles O11: a row that runs answers its body (`answers_of`), and each body, where its clause's condition holds, passes its checks and
makes its one effect. -/
theorem sysPwrCommands : Obligations.SysPwrCommands := by
  refine ⟨?sysInfo, ?sysReset, ?sysResetPending, ?sysBootStatus, ?pwrStatus, ?pwrConfig, ?resumeInfoExternal, ?resumeInfoPart, ?pwrOff⟩
  case sysInfo => exact answers_of sysInfo (fun _ _ => rfl) fun _ m ha _ => sysInfo_of_awake ha m
  case sysReset =>
    refine answers_of sysReset (fun _ _ => rfl) fun c m _ ⟨hkind, hnone⟩ => ?_
    rw [sysReset_of_kind hkind, deferReset_of_none hnone]
  case sysResetPending =>
    refine answers_of sysReset (fun _ _ => rfl) fun c m _ ⟨hkind, hsome⟩ => ?_
    rw [sysReset_of_kind hkind, deferReset_of_isSome hsome]
  case sysBootStatus =>
    refine answers_of sysBootStatus (fun _ _ => rfl) fun c m _ _ => ?_
    simp only [sysBootStatus, bitsToNat_pair]
  case pwrStatus => exact answers_of pwrStatus (fun _ _ => rfl) fun c m _ _ => pwrStatus_eq m c
  case pwrConfig =>
    exact answers_of pwrConfig (fun _ _ => rfl) fun c m _ ⟨hwarn, hwarn', hride, hride', hzero, hresume, hresume'⟩ =>
      pwrConfig_of_inRange ⟨hwarn, hwarn'⟩ ⟨hride, hride'⟩ hzero ⟨hresume, hresume'⟩ c
  case resumeInfoExternal =>
    exact answers_of pwrResumeInfo (fun _ _ => rfl) fun c m _ ⟨ho, hdest⟩ => pwrResumeInfo_external ho hdest c
  case resumeInfoPart =>
    exact fun p => answers_of pwrResumeInfo (fun _ _ => rfl) fun c m _ ⟨ho, hlt, halign, hmap⟩ => pwrResumeInfo_part ho hlt halign hmap
  case pwrOff =>
    refine answers_of pwrOff (fun _ _ => rfl) fun c m _ ⟨hlow, hhigh, hnone⟩ => ?_
    rw [pwrOff_of_wake hlow hhigh, deferReset_of_none hnone]

end Sys2Proof.Machine

/-! The waits and events of the cores (R53 to R58, R297, R312 to R316, R331): what each body comes to, and obligation O55. -/

namespace Sys2Proof.Machine

/-- An instruction that lands a waiting load first and whose body faults: the fault is raised on the chip before that landing, so that it
undoes the load all the same (R299). -/
theorem exec_landed_fault {i : Instr} {s : State} {k : CoreId} {n : Nat} {keep : Bool} {f : Flt} (body : Chip → Res)
    (h : exec i s = onChip (runInstr k n true keep body) s) (hrun : canRun s.chip k = true)
    (hfetch : fetchFault (landNow k s.chip) k n = none) (hb : body (noLoad k (landNow k s.chip)) = .fault f) :
    exec i s = .next (s.settle (raiseFault k f s.chip)) := by
  have hb' : body (modCore k (fun x => { x with pend := none }) (landNow k s.chip)) = .fault f := hb
  rw [h, onChip_eq (asleep_run (awake_of_canRun hrun))]
  simp only [runInstr, hrun, hfetch, hb', Bool.not_true, Bool.false_eq_true, if_false, if_true]

/-- A WAITB for line l, whose operand has tag t, once it is fetched. -/
def waitbBody (k words l : Nat) (t : Bool) (c : Chip) : Res :=
  if modeInForce c ∧ c.beam.vtotal ≤ l then .fault (.illegal 0x0501)
  else if t then .fault (.poison 4)
  else if modeInForce c ∧ beamReached c (coreOf c k).refFrame l then .ok (modCore k (Core.doneWait words) c)
  else .ok (modCore k (fun x => { x with wait := some (.line l words (!modeInForce c)) }) c)

/-- WAITB is this body with the line and the tag of its operand. -/
theorem waitbInstr_eq (k : CoreId) (o : RegOrImm) :
    waitbInstr k o = runInstr k (waitbWords o) true false fun c =>
      waitbBody k (waitbWords o) (o.value (coreOf c k)).1 (o.value (coreOf c k)).2 c := rfl

theorem modeInForce_eq_true {c : Chip} (h : 0 < c.beam.vtotal) : modeInForce c = true := decide_eq_true h

theorem modeInForce_eq_false {c : Chip} (h : c.beam.vtotal = 0) : modeInForce c = false := by simp [modeInForce, h]

/-- A line not below the VTOTAL in force does not exist, whatever the operand's tag. -/
theorem waitbBody_illegal {c : Chip} {l : Nat} (hmode : 0 < c.beam.vtotal) (hl : c.beam.vtotal ≤ l) (k words : Nat) (t : Bool) :
    waitbBody k words l t c = .fault (.illegal 0x0501) := if_pos ⟨modeInForce_eq_true hmode, hl⟩

/-- With a mode in force and the beam at or past the line, the wait is over. -/
theorem waitbBody_reached {c : Chip} {k l : Nat} (hmode : 0 < c.beam.vtotal) (hl : l < c.beam.vtotal)
    (hreached : beamReached c (coreOf c k).refFrame l = true) (words : Nat) :
    waitbBody k words l false c = .ok (modCore k (Core.doneWait words) c) := by
  simp only [waitbBody, modeInForce_eq_true hmode, hreached, Nat.not_le.mpr hl, and_false, and_self, Bool.false_eq_true, if_false, if_true]

/-- With a mode in force and the line still to come, the core waits for it. -/
theorem waitbBody_notReached {c : Chip} {k l : Nat} (hmode : 0 < c.beam.vtotal) (hl : l < c.beam.vtotal)
    (hreached : beamReached c (coreOf c k).refFrame l = false) (words : Nat) :
    waitbBody k words l false c = .ok (modCore k (fun x => { x with wait := some (.line l words false) }) c) := by
  simp only [waitbBody, modeInForce_eq_true hmode, hreached, Nat.not_le.mpr hl, and_false, Bool.false_eq_true, if_false, Bool.not_true]

/-- Before the first mode no line is refused and every wait is an early one (R58). -/
theorem waitbBody_early {c : Chip} (hmode : c.beam.vtotal = 0) (k words l : Nat) :
    waitbBody k words l false c = .ok (modCore k (fun x => { x with wait := some (.line l words true) }) c) := by
  simp only [waitbBody, modeInForce_eq_false hmode, false_and, Bool.false_eq_true, if_false, Bool.not_false]

/-- A WAITB that is fetched comes to its body. -/
theorem waitb_doesLanded_of {k : CoreId} {o : RegOrImm} {pre : Chip → Prop} {eff : Chip → Chip}
    (hb : ∀ c, pre c → waitbBody k (waitbWords o) (o.value (coreOf c k)).1 (o.value (coreOf c k)).2 c = .ok (eff c)) :
    DoesLanded (.waitb k o) k (waitbWords o) pre eff :=
  doesLanded_of _ (fun s => congrArg (onChip · s) (waitbInstr_eq k o)) hb

/-- Settles O55: an instruction that is fetched comes to its body (`doesLanded_of`, `does_of`, `faults_of`, `doesKeep_of`), and each clause's
condition chooses the branch of that body. -/
theorem waitsAndEvents : Obligations.WaitsAndEvents := by
  refine ⟨?waitfLatched, ?waitf, ?waitbReached, ?waitb, ?waitbEarly, ?waitbIllegal, ?waitiPending, ?waiti, ?sev, ?sevTagged, ?trap⟩
  case waitfLatched => exact fun k => doesLanded_of _ (fun _ => rfl) fun c hlatch => if_pos hlatch
  case waitf => exact fun k => doesLanded_of _ (fun _ => rfl) fun c hlatch => if_neg (Bool.eq_false_iff.mp hlatch)
  case waitbReached =>
    refine fun k o => waitb_doesLanded_of fun c ⟨hmode, hl, htag, hreached⟩ => ?_
    rw [htag, waitbBody_reached hmode hl hreached]
  case waitb =>
    refine fun k o => waitb_doesLanded_of fun c ⟨hmode, hl, htag, hreached⟩ => ?_
    rw [htag, waitbBody_notReached hmode hl hreached]
  case waitbEarly =>
    refine fun k o => waitb_doesLanded_of fun c ⟨hmode, htag⟩ => ?_
    rw [htag, waitbBody_early hmode]
  case waitbIllegal =>
    intro k o s hrun hfetch hmode hl
    exact exec_landed_fault _ (congrArg (onChip · s) (waitbInstr_eq k o)) hrun hfetch
      (waitbBody_illegal (c := noLoad k (landNow k s.chip)) hmode hl ..)
  case waitiPending =>
    refine fun k => doesLanded_of _ (fun _ => rfl) fun c ⟨hmask, hpending⟩ => if_pos ?_
    rw [hmask, hpending]
    rfl
  case waiti =>
    refine fun k => doesLanded_of _ (fun _ => rfl) fun c hno => if_neg ?_
    rcases hno with h | h <;> simp [h]
  case sev => exact fun k n => does_of _ (fun _ => rfl) fun c htag => if_neg (Bool.eq_false_iff.mp htag)
  case sevTagged => exact fun k n => faults_of _ (fun _ => rfl) fun c htag => if_pos htag
  case trap => exact fun k n => doesKeep_of _ (fun _ => rfl) fun c _ => rfl

end Sys2Proof.Machine

/-! The governor and the timebase window (R44 to R49, R72, R76, R77): what each body makes of the chip, and obligation O32. -/

namespace Sys2Proof.Machine

/-! ### The governor's events -/

/-- A first rise above 110 °C caps the target and the output at 0.80 V (R48). -/
theorem thermalCap_of_above {tj : Int} {c : Chip} (htj : 110 < tj) (hcap : c.gov.thermCap = false) :
    thermalCap tj c = lintGov 0x0203 0 { c with gov := { c.gov with
      tj := tj, thermCap := true, target := min c.gov.target 80, output := min c.gov.output 80 } } := by
  simp only [thermalCap, modGov, hcap, if_neg (Int.not_le.mpr htj), Bool.false_eq_true, if_false]

/-- An output that left its target by more than 30 mV faults once, and then holds the governor (R72). -/
theorem followFault_of_apart {out : Nat} {c : Chip} (hapart : outTarget c + 3 < out ∨ out + 3 < outTarget c) (hhold : c.gov.followHold = false) :
    followFault out c = lintGov 0x0206 0 { c with gov := { c.gov with output := out, followHold := true } } := by
  have hnear : ¬(out ≤ outTarget c + 3 ∧ outTarget c ≤ out + 3) := by omega
  simp only [followFault, modGov, hhold, if_neg hnear, Bool.false_eq_true, if_false]

/-- A lowered VMAX_CFG comes into force, and its GOV.LIMITS completes (R45). -/
theorem targetReached_of_waiting {c : Chip} {old : Nat} {h : Option Long} (hwait : c.gov.oldVmax = some (old, h)) :
    targetReached c =
      finish h .ok 0 0 { c with gov := { c.gov with oldVmax := none, output := min c.gov.output c.gov.par.vmax, slew := 0 } } := by
  simp only [targetReached, hwait, modGov]

/-! ### The governor's step at a frame start (R44) -/

/-- The governor as a frame start leaves it where it does not move the target: the frame's least slack is kept and a new frame begins. -/
def Gov.newFrame (g : Gov) (calm : Nat) : Gov := { g with slackMin := g.slackRun, slackRun := 255, panic := false, calm := calm }

/-- A governor that is held moves nothing (R46). -/
theorem govFrame_of_held {c : Chip} (hheld : govHeld c = true) (vote : Bool) (fill : Nat) :
    govFrame vote fill c = { c with gov := c.gov.newFrame 0 } := if_pos hheld

/-- With the target below vmax, a speed vote raises the target one step, without lint. -/
theorem govFrame_of_vote {c : Chip} (hheld : govHeld c = false) (htarget : c.gov.target < vmaxOf c.gov) (fill : Nat) :
    govFrame true fill c = { c with gov := { c.gov.newFrame 0 with target := c.gov.target + 1 } } := by
  have hnolint : ¬(c.gov.target = vmaxOf c.gov ∧ c.gov.slackRun < c.gov.par.lowWm) := by omega
  have hstep : min (c.gov.target + 1) (vmaxOf c.gov) = c.gov.target + 1 := Nat.min_eq_left htarget
  simp only [govFrame, hheld, if_neg hnolint, hstep, Bool.or_true, Bool.false_eq_true, if_false, if_true, Gov.newFrame]

/-- With slack and fill in reserve, the last calm frame of HOLD_FRAMES lowers the target one step, not below VMIN_CFG. -/
theorem govFrame_of_calm {c : Chip} {fill : Nat} (hheld : govHeld c = false) (hslack : c.gov.par.lowWm ≤ c.gov.slackRun)
    (hfill : c.gov.par.audWm ≤ fill) (hhigh : c.gov.par.highWm < c.gov.slackRun) (hpanic : c.gov.panic = false)
    (hcalm : c.gov.par.holdFrames ≤ c.gov.calm + 1) :
    govFrame false fill c = { c with gov := { c.gov.newFrame 0 with target := max (c.gov.target - 1) c.gov.par.vmin } } := by
  have hnoraise : (decide (c.gov.slackRun < c.gov.par.lowWm) || decide (fill < c.gov.par.audWm) || false) = false := by simp [hslack, hfill]
  have hlower : (decide (c.gov.par.highWm < c.gov.slackRun) && !c.gov.panic) = true := by simp [hhigh, hpanic]
  simp only [govFrame, hheld, hnoraise, if_pos hlower, if_pos hcalm, Bool.false_eq_true, if_false, Gov.newFrame]

/-! ### Reads that snapshot (R67, R76, R77) -/

/-- Window page 12, at an offset inside the page. -/
theorem reads_beam_of {i : Instr} {k : CoreId} {o : Nat} {val : Chip → Nat} {eff : Chip → Chip} (ho : o < 4096)
    (h : ∀ s, exec i s = onChip (coreRead k (0xC000 + o)) s)
    (hb : ∀ c, beamRead k (corePart c k) o c = (val c, eff c)) : ReadsReg i k (0xC000 + o) val eff := by
  refine reads_of (by omega) h fun c hopen => ?_
  rw [winRead_beam hopen (by omega), Nat.add_sub_cancel_left, hb]

/-- Settles O32: each event comes to its body, whose branch the clause's condition chooses; a frame start is one of the three equations of
`govFrame`; and a read of the window is `beamRead` at the register's offset. -/
theorem governorRows : Obligations.GovernorRows := by
  refine ⟨?capAbove, ?capBelow, ?followFault, ?followRecovery, ?targetReached, ?frameHeld, ?frameVote, ?frameCalm, ?beamLine, ?qtime,
    ?govState, ?govSlack, ?govSlackMin⟩
  case capAbove => exact fun tj => makes_of (thermalCap tj) (fun _ => rfl) fun c _ ⟨htj, hcap⟩ => thermalCap_of_above htj hcap
  case capBelow => exact fun tj => makes_of (thermalCap tj) (fun _ => rfl) fun c _ htj => if_pos htj
  case followFault =>
    exact fun out => makes_of (followFault out) (fun _ => rfl) fun c _ ⟨hapart, hhold⟩ => followFault_of_apart hapart hhold
  case followRecovery => exact fun out => makes_of (followRecovery out) (fun _ => rfl) fun c _ hnear => if_pos hnear
  case targetReached => exact fun old h => makes_of targetReached (fun _ => rfl) fun c _ hwait => targetReached_of_waiting hwait
  case frameHeld => exact fun c hheld => govFrame_of_held hheld true 0
  case frameVote => exact fun c fill hheld _ htarget => govFrame_of_vote hheld htarget fill
  case frameCalm => exact fun c fill hheld hslack hfill hhigh hpanic hcalm => govFrame_of_calm hheld hslack hfill hhigh hpanic hcalm
  case beamLine => exact fun k => reads_beam_of (o := 0x00) (by decide) (fun _ => rfl) fun c => rfl
  case qtime => exact fun k => reads_beam_of (o := 0x14) (by decide) (fun _ => rfl) fun c => rfl
  case govState => exact fun k => reads_beam_of (o := 0x20) (by decide) (fun _ => rfl) fun c => rfl
  case govSlack => exact fun k => reads_beam_of (o := 0x22) (by decide) (fun _ => rfl) fun c => rfl
  case govSlackMin => exact fun k => reads_beam_of (o := 0x24) (by decide) (fun _ => rfl) fun c => rfl

end Sys2Proof.Machine

/-! The layer windows and the work of a line (R34, R39, R41, R515, R518 to R520, R549, R551, R571, R615, R616, R621): what a write of the window
and each event of a line make of the chip, and obligation O24. -/

namespace Sys2Proof.Machine

/-! ### The layer window -/

/-- Two changes that make the same of a partition's layer window are one. -/
theorem modLp_congr {f g : LyrPart → LyrPart} {p : Nat} {c : Chip} (h : f (lpOf c p) = g (lpOf c p)) : modLp p f c = modLp p g c := by
  rw [modLp, modLp, h]

/-- HOLD written from 1 to 0 releases every staged write, for the opening that AT_FRAME names (R518). -/
theorem writeHold_release {p : Nat} {c : Chip} (hhold : (lpOf c p).hold = true) (atFrame : Bool) :
    writeHold p (2 * b2n atFrame) c = modLp p (fun l => { l with
      atFrame := atFrame, hold := false, released := l.released ++ l.staged.map (fun w => (atFrame, w)), staged := [] }) c := by
  have hat : bit (2 * b2n atFrame) 1 = atFrame := by cases atFrame <;> rfl
  have hlow : bit (2 * b2n atFrame) 0 = false := by cases atFrame <;> rfl
  refine modLp_congr ?_
  simp only [hat, hlow, hhold, Bool.not_false, Bool.and_self, if_true]

/-- A write that reaches a writable register: a valid value is staged while the window is held and else takes effect at once, an invalid one is
ignored with lint (R518, R551). -/
theorem lyrWrite_of_lregAt {p o : Nat} {x : LReg} {c : Chip} (ho : o ≠ 0x480) (hx : lregAt c p o = some x) (hw : x.writable = true) (v : Nat) :
    lyrWrite p o v c =
      if x.valid v then
        if (lpOf c p).hold then modLp p (fun l => { l with staged := l.staged ++ [(o, v)] }) c else lregWrite p v false x c
      else lintReg p (0x4000 + o) x c := by
  cases hvalid : x.valid v <;> cases hhold : (lpOf c p).hold <;> simp [lyrWrite, lyrDirect, ho, hx, hw, hvalid, hhold]

/-- Register n of the layer window stands in page 4, and only word 0x240 of the page is LYR_HOLD. -/
theorem winWrite_layerRegister {k p v : Nat} {c : Chip} (n : Fin 2048) (hopen : winOpen c p (0x4000 + 2 * n.val) = true) :
    winWrite k p (0x4000 + 2 * n.val) v c = lyrWrite p (2 * n.val) v c := by
  rw [winWrite_lyr hopen (by omega), Nat.add_sub_cancel_left]

/-- The halves of a palette entry stand in page 5, two words to an entry (R519). -/
theorem lregAt_palette {p e h : Nat} {c : Chip} (he : e < 1024) (hpal : palEntry c.lyr p e = some h) (high : Bool) :
    lregAt c p (0x1000 + 4 * e + 2 * b2n high) = some (.pal h high) := by
  have hhigh : 2 * b2n high < 4 ∧ ((2 * b2n high == 2) = high) := by cases high <;> decide
  have hentry : (0x1000 + 4 * e + 2 * b2n high - 0x1000) / 4 = e := by omega
  have hhalf : (0x1000 + 4 * e + 2 * b2n high) % 4 = 2 * b2n high := by omega
  rw [lregAt, if_neg (by omega), if_neg (by omega), if_neg (by omega), if_neg (by omega), if_pos (by omega)]
  simp only [hentry, hhalf, hhigh.2, hpal, Option.map_some]

/-- A palette half of a window that is not held takes effect at once. -/
theorem winWrite_palette {k p off h v : Nat} {c : Chip} {e : Fin 1024} {high : Bool} (hoff : off = 0x5000 + 4 * e.val + 2 * b2n high)
    (hopen : winOpen c p off = true) (hhold : (lpOf c p).hold = false) (hpal : palEntry c.lyr p e = some h) :
    winWrite k p off v c = lregWrite p v false (.pal h high) c := by
  have hhigh : 2 * b2n high < 4 := by cases high <;> decide
  have ho : off - 0x4000 = 0x1000 + 4 * e.val + 2 * b2n high := by omega
  rw [winWrite_pal hopen (by omega), ho, lyrWrite_of_lregAt (by omega) (lregAt_palette e.isLt hpal high) rfl, hhold]
  rfl

/-! ### The stitch list -/

/-- EN written 0 stops the list at once (R549). -/
theorem setStitch_of_disabled {s : StitchSt} (hen : s.en = false) (p : Nat) (test expert : Bool) (c : Chip) :
    setStitch p s test expert c = modStitch p (fun t => { s with m := t.m.drop, actEn := false }) c := by
  simp only [setStitch, hen, Bool.not_false, if_true]
  rfl

/-- ST_CTRL gives EN and the slots. -/
theorem stitchWrite_ctrl (p v : Nat) (c : Chip) :
    stitchWrite p 0x0 v c = setStitch p { (lpOf c p).stitch with en := bit v 0, slots := bits v 11 8 + 1 } true true c := rfl

/-- An enable that admission does not refuse takes effect with its answer's lint and marks (R520). -/
theorem setStitch_of_admitted {s : StitchSt} {p : Nat} {a : Admit} {expert : Bool} {c : Chip}
    (hadmit : admission c p (loadOf (modStitch p (fun x => { x with en := false }) c) p) (stitchCost s) expert = a) (ha : a ≠ .refused)
    (hen : s.en = true) :
    setStitch p s true expert c = lintAdmit a p 0x81 (modStitch p (fun t => { s with m := t.m.admitAs a }) c) := by
  simp only [setStitch, hen, hadmit, Bool.not_true, Bool.false_and, Bool.false_eq_true, if_false]
  cases a with
  | refused => exact absurd rfl ha
  | yes | overbooked => rfl

/-! ### The work of a line -/

/-- The fetch of a line that no unit missed: its slack is noted. -/
theorem fetchComplete_of_found {n dots : Nat} {s : LineSlot} {c : Chip}
    (hslot : (c.scan.lines.find? fun s => s.line == n && s.fetched.isNone) = some s) (hmissed : s.missed = false) :
    fetchComplete n dots c =
      let r := fetchSlot s (fun _ => false) (fun _ => false) c
      noteSlack n (if r.1.isEmpty then 255 else slackOf dots r.2.beam.htotal) (setSlot n (fun t => { t with fetched := some r.1 }) r.2) := by
  simp only [fetchComplete, hslot, hmissed, Bool.false_eq_true, if_false]
  rfl

/-- At the deadline of a line that only DECORATIVE units missed, those are shed and the fetch stands without them (R615). -/
theorem fetchDeadline_of_decorative {n : Nat} {ml : BitVec 8} {mg : BitVec 7} {s : LineSlot} {c : Chip} {ls gs : List Nat}
    (hslot : (c.scan.lines.find? fun s => s.line == n && s.fetched.isNone) = some s) (hmiss : missing c s ml mg = (ls, gs))
    (hany : (ls, gs) ≠ ([], [])) (hl : ∀ hw ∈ ls, essEff (s.snap.layers.toList.getD hw {}).r.ess (layerOf c hw).m = false)
    (hg : ∀ p ∈ gs, essEff (s.snap.groups.toList.getD p {}).ess (groupOf c p).m = false) :
    fetchDeadline n ml mg c =
      let d := ls.foldl (fun d hw => shedLayer s.frame n hw d) (noteSlack n 0 c)
      let d := gs.foldl (fun d p => shedGroup s.frame n p d) d
      let r := fetchSlot s (fun hw => ls.contains hw) (fun p => gs.contains p) d
      setSlot n (fun t => { t with fetched := some r.1, missed := true }) r.2 := by
  have hany' : (ls.isEmpty && gs.isEmpty) = false := by
    simpa only [ne_eq, Prod.mk.injEq, Bool.and_eq_false_iff, List.isEmpty_eq_false_iff, not_and_or] using hany
  have hessL : (ls.filter fun hw => essEff (s.snap.layers.toList.getD hw {}).r.ess (layerOf c hw).m) = [] :=
    List.filter_eq_nil_iff.mpr fun hw hmem => Bool.eq_false_iff.mp (hl hw hmem)
  have hessG : (gs.filter fun p => essEff (s.snap.groups.toList.getD p {}).ess (groupOf c p).m) = [] :=
    List.filter_eq_nil_iff.mpr fun p hmem => Bool.eq_false_iff.mp (hg p hmem)
  have hblame : ((List.range 7).filterMap fun _ => (none : Option Blame)) = [] := by decide
  simp only [fetchDeadline, hslot, hmiss, hany', hessL, hessG, List.find?_nil, List.contains_nil, Bool.not_false, List.filter_true, hblame,
    List.isEmpty_nil, Bool.false_eq_true, if_false, if_true]

/-- A line that is fetched is composed while a slot of the line buffer is free (R39). -/
theorem lineCompose_of_fetched {n : Nat} {s : LineSlot} {us : List UnitLine} {c : Chip}
    (hslot : (c.scan.lines.find? fun s => s.line == n && s.composed.isNone) = some s) (hfetched : s.fetched = some us) (hfree : fullSlots c < 4) :
    lineCompose n c = composeLine s us c := by
  simp only [lineCompose, hslot, hfetched, if_pos hfree]

/-- A storm hold ends at its time (R621). -/
theorem stormEnd_of_held {p t : Nat} {c : Chip} (hstorm : (lpOf c p).storm = some t) :
    stormEnd p c = modLp p (fun l => { l with storm := none }) (atTime t c) := by
  simp only [stormEnd, hstorm]

/-- Settles O24: a write goes to its page of the window and then to its register (`lyrWrite_of_lregAt`, `setStitch`), and each event of a line
comes to the branch of its body that the clause's condition chooses. -/
theorem layerAndLineRows : Obligations.LayerAndLineRows := by
  refine ⟨?holdRelease, ?paletteLow, ?paletteHigh, ?staged, ?direct, ?invalid, ?stitchStop, ?stitchEnable, ?fetchComplete, ?fetchDeadline,
    ?lineCompose, ?stormEnd⟩
  case holdRelease =>
    refine fun k f => writes_of (by decide) (by cases f <;> decide) (fun _ => rfl) fun c hopen hhold => ?_
    rw [winWrite_lyr hopen (by decide)]
    exact writeHold_release hhold f
  case paletteLow =>
    refine fun k e v h => writes_of (by omega) v.isLt (fun _ => rfl) fun c hopen ⟨hhold, hpal⟩ => ?_
    have hoff : 0x5000 + 4 * e.val = 0x5000 + 4 * e.val + 2 * b2n false := rfl
    rw [winWrite_palette hoff hopen hhold hpal, lregWrite, Nat.mod_eq_of_lt v.isLt]
    rfl
  case paletteHigh =>
    refine fun k e v h => writes_of (by omega) v.isLt (fun _ => rfl) fun c hopen ⟨hhold, hpal⟩ => ?_
    have hoff : 0x5002 + 4 * e.val = 0x5000 + 4 * e.val + 2 * b2n true := Nat.add_right_comm 0x5000 2 _
    rw [winWrite_palette hoff hopen hhold hpal]
    rfl
  case staged =>
    refine fun k n v x => writes_of (by omega) v.isLt (fun _ => rfl) fun c hopen ⟨hn, hhold, hx, hw, hvalid⟩ => ?_
    rw [winWrite_layerRegister n hopen, lyrWrite_of_lregAt (by omega) hx hw, if_pos hvalid, if_pos hhold]
  case direct =>
    refine fun k n v x => writes_of (by omega) v.isLt (fun _ => rfl) fun c hopen ⟨hn, hhold, hx, hw, hvalid⟩ => ?_
    rw [winWrite_layerRegister n hopen, lyrWrite_of_lregAt (by omega) hx hw, if_pos hvalid, if_neg (Bool.eq_false_iff.mp hhold)]
  case invalid =>
    refine fun k n v x => writes_of (by omega) v.isLt (fun _ => rfl) fun c hopen ⟨hn, hx, hw, hvalid⟩ => ?_
    rw [winWrite_layerRegister n hopen, lyrWrite_of_lregAt (by omega) hx hw, if_neg (Bool.eq_false_iff.mp hvalid)]
  case stitchStop =>
    refine fun k v => writes_of (by decide) v.isLt (fun _ => rfl) fun c hopen hen => ?_
    rw [winWrite_stitch hopen (by decide), stitchWrite_ctrl, hen, setStitch_of_disabled rfl]
    rfl
  case stitchEnable =>
    refine fun k v a => writes_of (by decide) v.isLt (fun _ => rfl) fun c hopen ⟨hen, ha, hadmit⟩ => ?_
    rw [winWrite_stitch hopen (by decide), stitchWrite_ctrl, hen, setStitch_of_admitted hadmit ha rfl]
    rfl
  case fetchComplete =>
    exact fun n dots s => makes_of (fetchComplete n.val dots.val) (fun _ => rfl) fun c _ ⟨hslot, hmissed⟩ => fetchComplete_of_found hslot hmissed
  case fetchDeadline =>
    exact fun n ml mg s => makes_of (fetchDeadline n.val ml mg) (fun _ => rfl) fun c _ ⟨hslot, hany, hl, hg⟩ =>
      fetchDeadline_of_decorative hslot rfl hany hl hg
  case lineCompose =>
    exact fun n s us => makes_of (lineCompose n.val) (fun _ => rfl) fun c _ ⟨hslot, hfetched, hfree⟩ => lineCompose_of_fetched hslot hfetched hfree
  case stormEnd => exact fun p t => makes_of (stormEnd p.val) (fun _ => rfl) fun c _ hstorm => stormEnd_of_held hstorm

end Sys2Proof.Machine

/-! The USB device port and DFU (R130, R131, R241 to R244, R249, R714 to R716): what each event makes of the port, and obligation O37. -/

namespace Sys2Proof.Machine

/-! ### Bulk endpoints and the bus -/

/-- A record of 32 bytes with an opcode takes the next slot while bulk OUT is not halted (R242). -/
theorem usbRecord_of_taken {bs : List Byte} {c : Chip} (hon : usbOn c = true) (hlen : bs.length = 32) (hop : pfield bs 0 2 ≠ 0xFFFF)
    (hhalt : c.usb.halted.contains 0x01 = false) :
    usbRecord bs c = modUsb (fun u => { u with waiting := u.waiting ++ [(u.slot, bs)], slot := (u.slot + 1) % 16 }) c := by
  simp only [usbRecord, hon, hlen, hhalt, bne_iff_ne.mpr hop, beq_self_eq_true, Bool.not_false, Bool.and_self, if_true]

/-- A data item of up to 1,024 bytes goes to the command it names while bulk OUT is not halted (R249). -/
theorem usbData_of_taken {h : Long} {bs : List Byte} {c : Chip} (hon : usbOn c = true) (hne : bs ≠ []) (hlen : bs.length ≤ 1024)
    (hhalt : c.usb.halted.contains 0x01 = false) : usbData h bs c = (takeChunk .usb h.toNat (clean bs) c).2 := by
  have hdata : bs.isEmpty = false := List.isEmpty_eq_false_iff.mpr hne
  simp only [usbData, hon, hdata, hlen, hhalt, decide_true, Bool.not_false, Bool.and_self, if_true]

/-- The item at the front of bulk IN leaves it once it is read (R243). -/
theorem usbInAck_of_taken {c : Chip} (hon : usbOn c = true) (hhalt : c.usb.halted.contains 0x81 = false) :
    usbInAck c = modUsb (fun u => { u with items := u.items.drop 1 }) c := by
  simp only [usbInAck, hon, hhalt, Bool.not_false, Bool.and_self, if_true]

/-- A reset of the bus leaves the port attached, keeps the download, and discards what bulk IN held (Table 04.10). -/
theorem usbReset_of_attached {c : Chip} (hatt : c.usb.attached = true) :
    usbReset c = discardHeld (c.usb.items.filter (·.completion)).length 1
      { c with usb := { attached := true, dfu := c.usb.dfu, dfuSlot := c.usb.dfuSlot, dfuErr := c.usb.dfuErr,
                        discard := c.usb.discard ++ (outstanding c .usb).filter fun x => !c.usb.discard.contains x } } := by
  simp only [usbReset, hatt]

/-- VBUS arrives while the chip runs: the pull-up follows (R714). -/
theorem usbVbus_present {c : Chip} (hrun : c.pwr.phase = .run) : usbVbus true c = modUsb (fun u => { u with attached := true }) c := by
  simp only [usbVbus, hrun, true_or, if_true]

/-- VBUS leaves an attached port: it is reset and detached (R714). -/
theorem usbVbus_lost {c : Chip} (hatt : c.usb.attached = true) : usbVbus false c = modUsb (fun u => { u with attached := false }) (usbReset c) := by
  simp only [usbVbus, hatt, Bool.false_eq_true, if_false, if_true]

/-- The item at the front of bulk IN has waited 1 s. -/
theorem usbUnread_of_cons {c : Chip} {i : UsbItem} {l : List UsbItem} (hitems : c.usb.items = i :: l) :
    usbUnread c = lintBlock 0x0E07 0xFF 0 (atTime (i.since + 24000000) c) := by
  simp only [usbUnread, hitems]

/-! ### Requests on EP0 (Table 14.4) -/

/-- SET_ADDRESS. -/
theorem usbRequest_setAddress {c : Chip} (hatt : c.usb.attached = true) (a : Fin 128) :
    usbRequest (.setAddress a) c = modUsb (fun u => { u with address := a.val }) c := by
  simp only [usbRequest, hatt, Bool.not_true, Bool.false_eq_true, if_false]

/-- SET_CONFIGURATION to a configuration that exists; any other value is stalled. -/
theorem usbRequest_setConfiguration {c : Chip} (hatt : c.usb.attached = true) (n : Byte) :
    usbRequest (.setConfiguration n) c =
      if n.toNat ≤ 1 then modUsb (fun u => { u with config := n.toNat, slot := 0, alt := Vector.replicate 2 0, halted := [] }) c else usbStall c := by
  simp only [usbRequest, hatt, Bool.not_true, Bool.false_eq_true, if_false]

/-- GET_CONFIGURATION. -/
theorem usbRequest_getConfiguration {c : Chip} (hatt : c.usb.attached = true) :
    usbRequest .getConfiguration c = { c with memReply := { bytes := clean (leBytes 1 c.usb.config) } } := by
  simp only [usbRequest, hatt, Bool.not_true, Bool.false_eq_true, if_false, hostReply]

/-! ### DFU -/

/-- With consent, a detach asks for a start in recovery mode within 1 s. -/
theorem dfuDetach_of_consent {c : Chip} (hrun : c.pwr.phase = .run) (hatt : c.usb.attached = true) (hcon : consentOf c .usb = true) :
    dfuDetach c = { c with pwr := { c.pwr with deferred := some .recoveryStart, deferAt := c.clk.qtime + 24000000 } } := by
  simp only [dfuDetach, hatt, hrun, hcon, Bool.not_true, Bool.false_eq_true, if_false, and_self, if_true]

/-- Without consent a detach is stalled. -/
theorem dfuDetach_of_noConsent {c : Chip} (hatt : c.usb.attached = true) (hcon : consentOf c .usb = false) : dfuDetach c = usbStall c := by
  simp only [dfuDetach, hatt, hcon, Bool.not_true, Bool.false_eq_true, and_false, if_false]

/-- A chip in recovery mode is awake. -/
theorem asleep_recovery {c : Chip} (h : c.pwr.phase = .recovery) : asleep c = false := by
  simp only [asleep, h]
  decide

/-- DFU works in recovery mode, outside SCRAP (R130, R791). -/
theorem dfuOpen_of_recovery {c : Chip} (hrec : c.pwr.phase = .recovery) (hatt : c.usb.attached = true) (hlife : lifeOf c ≠ .scrap) :
    dfuOpen c = true := by
  simp only [dfuOpen, hrec, hatt, bne_iff_ne.mpr hlife, beq_self_eq_true, Bool.and_self]

/-- The first block of a download erases the sectors it reaches and is programmed at the start of its slot (R130). -/
theorem dfuDownload_first {c : Chip} {alt : Nat} {bs : List Byte} (hopen : dfuOpen c = true) (hatt : c.usb.attached = true)
    (hlen : bs.length ≤ 4096) (hpeg : isPegged c 0x0B 0 = false) (hfirst : c.usb.dfu = []) :
    dfuDownload alt bs c =
      modUsb (fun u => { u with dfu := bs, dfuSlot := alt, dfuErr := false })
        (programAt (flashBase + slotOffset c alt) bs
          ((List.range ((bs.length + 4095) / 4096)).foldl (fun d i => eraseSector (flashBase + slotOffset c alt + 4096 * i) d) c)) := by
  have hroom : ¬458752 < bs.length := by omega
  simp only [dfuDownload, hatt, hopen, hpeg, hfirst, decide_eq_false (Nat.not_lt.mpr hlen), Bool.not_true, Bool.or_self, Bool.false_eq_true,
    if_false, ite_self, List.length_nil, List.nil_append, Nat.zero_add, Nat.add_zero, Nat.sub_zero, Nat.reduceDiv, if_neg hroom]

/-- An image that verifies is listed in its slot, with the version of its signature block (R130). -/
theorem dfuManifest_of_good {c : Chip} {img : Nat × Bool} (hopen : dfuOpen c = true) (hatt : c.usb.attached = true) (hne : c.usb.dfu ≠ [])
    (hgood : imageGood c (slotOffset c c.usb.dfuSlot) c.usb.dfu.length (pfield c.usb.dfu (c.usb.dfu.length - 128 + 0x10) 4) = some img) :
    dfuManifest c = modUsb (fun u => { u with dfu := [] })
      (listSlot c.usb.dfuSlot (slotOffset c c.usb.dfuSlot) c.usb.dfu.length (pfield c.usb.dfu (c.usb.dfu.length - 128 + 0x10) 4) c) := by
  have hdata : c.usb.dfu.isEmpty = false := List.isEmpty_eq_false_iff.mpr hne
  simp only [dfuManifest, hatt, hopen, hdata, hgood, Bool.not_true, Bool.or_self, Bool.false_eq_true, if_false]

/-- An event of the port in recovery mode: the chip is awake, so its body is taken. -/
theorem exec_in_recovery {i : Instr} {s : State} {d : Chip} (f : Chip → Chip) (h : exec i s = onChip f s) (hrec : s.chip.pwr.phase = .recovery)
    (hb : f s.chip = d) : exec i s = .next (s.settle d) := by
  rw [h, onChip_eq (asleep_recovery hrec), hb]

/-- A row that only a test of the chip guards makes its effect where the test holds. -/
theorem makes_of_guard {i : Instr} {eff : Chip → Chip} (g : Chip → Bool) (h : ∀ s, exec i s = onChip (fun c => if g c then eff c else c) s) :
    Makes i (fun c => g c = true) eff :=
  makes_of _ h fun _ _ hg => if_pos hg

/-- Settles O37: each event comes to its body (`makes_of`), and a clause's condition chooses the branch of that body. -/
theorem usbAndDfuRows : Obligations.UsbAndDfuRows := by
  refine ⟨?record, ?data, ?transferEnd, ?inAck, ?busReset, ?vbusPresent, ?vbusLost, ?unsupported, ?suspend, ?resume, ?unread, ?setAddress,
    ?setConfiguration, ?getConfiguration, ?noConfiguration, ?detach, ?detachNoConsent, ?download, ?manifest, ?upload⟩
  case record => exact fun bs => makes_of (usbRecord bs) (fun _ => rfl) fun c _ ⟨hon, hlen, hop, hhalt⟩ => usbRecord_of_taken hon hlen hop hhalt
  case data => exact fun h bs => makes_of (usbData h bs) (fun _ => rfl) fun c _ ⟨hon, hne, hlen, hhalt⟩ => usbData_of_taken hon hne hlen hhalt
  case transferEnd => exact fun bs => makes_of (usbTransferEnd bs) (fun _ => rfl) fun c _ _ => rfl
  case inAck => exact makes_of usbInAck (fun _ => rfl) fun c _ ⟨hon, hhalt⟩ => usbInAck_of_taken hon hhalt
  case busReset =>
    exact makes_of (fun c => if c.usb.attached then usbReset c else c) (fun _ => rfl) fun c _ hatt =>
      (if_pos hatt).trans (usbReset_of_attached hatt)
  case vbusPresent => exact makes_of (usbVbus true) (fun _ => rfl) fun c hrun _ => usbVbus_present hrun
  case vbusLost => exact makes_of (usbVbus false) (fun _ => rfl) fun c _ hatt => usbVbus_lost hatt
  case unsupported => exact makes_of_guard (·.usb.attached) fun _ => rfl
  case suspend => exact makes_of_guard (·.usb.attached) fun _ => rfl
  case resume => exact makes_of _ (fun _ => rfl) fun c _ _ => rfl
  case unread => exact fun i l => makes_of usbUnread (fun _ => rfl) fun c _ hitems => usbUnread_of_cons hitems
  case setAddress => exact fun a => makes_of (usbRequest _) (fun _ => rfl) fun c _ hatt => usbRequest_setAddress hatt a
  case setConfiguration =>
    exact fun n => makes_of (usbRequest _) (fun _ => rfl) fun c _ ⟨hatt, hn⟩ => (usbRequest_setConfiguration hatt n).trans (if_pos hn)
  case getConfiguration => exact makes_of (usbRequest _) (fun _ => rfl) fun c _ hatt => usbRequest_getConfiguration hatt
  case noConfiguration =>
    exact fun n => makes_of (usbRequest _) (fun _ => rfl) fun c _ ⟨hatt, hn⟩ =>
      (usbRequest_setConfiguration hatt n).trans (if_neg (Nat.not_le.mpr hn))
  case detach => exact makes_of dfuDetach (fun _ => rfl) fun c hrun ⟨hatt, hcon⟩ => dfuDetach_of_consent hrun hatt hcon
  case detachNoConsent => exact makes_of dfuDetach (fun _ => rfl) fun c _ ⟨hatt, hcon⟩ => dfuDetach_of_noConsent hatt hcon
  case download =>
    intro alt bs s hrec hatt hlife hlen hpeg hfirst
    have hopen := dfuOpen_of_recovery hrec hatt hlife
    exact exec_in_recovery (dfuDownload alt.val bs) rfl hrec (dfuDownload_first hopen hatt hlen hpeg hfirst)
  case manifest =>
    intro s img hrec hatt hlife hne hgood
    exact exec_in_recovery dfuManifest rfl hrec (dfuManifest_of_good (dfuOpen_of_recovery hrec hatt hlife) hatt hne hgood)
  case upload => exact makes_of_guard (·.usb.attached) fun _ => rfl

end Sys2Proof.Machine

/-! External devices, spares of user SRAM, flash operations and the cartridge (R99, R437, R442 to R444, R447, R452, R453, R455, R823, R824, R828):
what each event makes of the memory, and obligation O21. -/

namespace Sys2Proof.Machine

/-! ### What reports leave of the memory -/

/-- What every step of a fold keeps, the fold keeps. -/
theorem foldl_keeps {α β : Type} {g : Chip → β} {f : Chip → α → Chip} (h : ∀ c a, g (f c a) = g c) (l : List α) (c : Chip) :
    g (l.foldl f c) = g c := by
  induction l generalizing c with
  | nil => rfl
  | cons a l ih => rw [List.foldl_cons, ih, h]

@[simp] theorem setUnitReg_mem (u : UnitId) (r : UnitReg) (c : Chip) : (setUnitReg u r c).mem = c.mem := rfl

@[simp] theorem setUnitState_mem (u : UnitId) (st : UnitState) (c : Chip) : (setUnitState u st c).mem = c.mem := by
  unfold setUnitState
  split
  · rfl
  · split <;> simp

@[simp] theorem fireMemoryDevice_mem (kind : Nat) (c : Chip) : (fireMemoryDevice kind c).mem = c.mem :=
  foldl_keeps (g := Chip.mem) (fun c p => by split <;> rfl) ..

@[simp] theorem fireRunning_mem (src data : Nat) (c : Chip) : (fireRunning src data c).mem = c.mem :=
  foldl_keeps (g := Chip.mem) (fun c p => by split <;> rfl) ..

@[simp] theorem unitState_modMem (f : Mem → Mem) (c : Chip) (u : UnitId) : unitState (modMem f c) u = unitState c u := rfl

/-! ### Devices of external memory (R437, R442, R828) -/

/-- A fixed array that is written at place k reads there what was put there, and elsewhere what it held. -/
theorem toList_getD_vset {α : Type} {n : Nat} (v : Vector α n) {k : Nat} (hk : k < n) (x d : α) (j : Nat) :
    (vset v k x).toList.getD j d = if j = k then x else v.toList.getD j d := by
  simp only [vset, List.getD_eq_getElem?_getD, Vector.toList_setIfInBounds, List.getElem?_set, Vector.length_toList, hk, if_true, eq_comm (a := k)]
  split <;> rfl

/-- Of six devices of which only device d is in erasure, one is in erasure. -/
theorem erased_count_one {m : Mem} {d : Fin 6} (hrest : ∀ j, j < 6 → j ≠ d.val → m.erased.toList.getD j false = false) :
    ((List.range 6).filter fun j => (vset m.erased d true).toList.getD j false).length = 1 := by
  have honly : ∀ j ∈ List.range 6, (vset m.erased d true).toList.getD j false = (j == d.val) := by
    intro j hj
    rw [toList_getD_vset _ d.isLt]
    by_cases h : j = d.val
    · simp [h]
    · rw [if_neg h, hrest j (List.mem_range.mp hj) h, beq_false_of_ne h]
  rw [List.filter_congr honly, ← List.countP_eq_length_filter]
  exact List.count_eq_one_of_mem List.nodup_range (List.mem_range.mpr d.isLt)
/-- The first device that is lost: lint 0x0806 follows at once where the lean arrangement has no check left (R437, R439, R440). -/
theorem loseDevice_first {d : Fin 6} {c : Chip} (hwalk : c.mem.resilver = none) (hd : c.mem.erased.toList.getD d false = false)
    (hrest : ∀ j, j < 6 → j ≠ d.val → c.mem.erased.toList.getD j false = false) :
    loseDevice d c =
      let t := fireMemoryDevice 2 (lint 0x0805 (0x0300 + d) 0xFF 0 (setUnitState ⟨3, d⟩ .retired
        (modMem (fun m => { m with erased := vset m.erased d true, corrRun := (0, 0) }) c)))
      if c.mem.xmem = .lean then lintBlock 0x0806 0xFF 0 t else t := by
  simp only [loseDevice, hd, hwalk, Bool.false_eq_true, if_false, fireMemoryDevice_mem, lint_mem, setUnitState_mem, modMem_mem,
    erased_count_one hrest]
  by_cases hlean : c.mem.xmem = .lean <;> simp [hlean]

/-- A walk that was stopped ends its command at the next line. -/
theorem resilverLine_of_aborted {r : Resilver} {c : Chip} (hwalk : c.mem.resilver = some r) (hstop : r.aborted = true) :
    resilverLine c = finish r.handle .hwFault 0 0 (modMem (fun m => { m with resilver := none }) c) := by
  simp only [resilverLine, hwalk, hstop, if_true]

/-- A line that is read while the walk goes on is written back whole; the last one ends the walk. -/
theorem resilverLine_of_walking {r : Resilver} {c : Chip} (hwalk : c.mem.resilver = some r) (hgo : r.aborted = false)
    (hread : (readLine r.ptr (evictLine .xmem (0x400000 + r.ptr) c)).2.mem.resilver = some r) :
    resilverLine c =
      let t := readLine r.ptr (evictLine .xmem (0x400000 + r.ptr) c)
      let d := (List.range 8).foldl (fun d i => writeXmem (0x10000000 + 64 * r.ptr + 8 * i) (t.1.getD i .bad) d) t.2
      if d.mem.xLines ≤ r.ptr + 1 then resilverEnd { r with ptr := r.ptr + 1 } d
      else modMem (fun m => { m with resilver := some { r with ptr := r.ptr + 1 } }) d := by
  simp only [resilverLine, hwalk, hgo, hread, Bool.false_eq_true, if_false]

/-! ### The copy onto a spare of user SRAM (R444, R823, R824) -/

/-- A row of the spare that reads back uncorrectable ends the copy, and the spare is retired. -/
theorem macroCopyRow_bad {k : MacroCopy} {c : Chip} (hcopy : c.mem.copy = some k) (hspare : unitState (copyRow k c) ⟨2, k.spare⟩ = .copying) :
    macroCopyRow true c =
      finish k.handle .hwFault 0 0 (setUnitState ⟨2, k.spare⟩ .retired (modMem (fun m => { m with copy := none }) (copyRow k c))) := by
  simp only [macroCopyRow, hcopy, Bool.true_or, unitState_modMem, hspare, if_true]

/-- A row that reads back leads to the next row, and the last one to the end of the copy. -/
theorem macroCopyRow_good {k : MacroCopy} {c : Chip} (hcopy : c.mem.copy = some k) (hspare : unitState (copyRow k c) ⟨2, k.spare⟩ = .copying) :
    macroCopyRow false c =
      if k.row < 2047 then modMem (fun m => { m with copy := some { k with row := k.row + 1 } }) (copyRow k c) else copyEnd k (copyRow k c) := by
  simp only [macroCopyRow, hcopy, hspare, bne_self_eq_false, Bool.or_self, Bool.false_eq_true, if_false]

/-! ### The flash port (R99, R455) -/

/-- A page that the device reports done, with more to come: the next one starts in class 1 (R99). -/
theorem flashComplete_page {o : FlashOp} {c : Chip} (hrun : awake c) (hop : c.mem.flashOp = some o) (hkind : o.kind = .program)
    (hbusy : o.busy = true) (hleft : 1 < o.left) :
    flashComplete c =
      let d := uncache o.cs o.offset 256 (programAt (csBase o.cs + o.offset) ((o.data.drop (256 * (o.total - o.left))).take 256) c)
      modMem (fun m => { m with flashOp := some { o with offset := o.offset + 256, left := o.left - 1, busy := d.pwr.cls == 1 } }) d := by
  have hphase : c.pwr.phase = .run := hrun
  have hmore : ¬o.left - 1 = 0 := by omega
  simp only [flashComplete, hop, hbusy, hphase, hkind, FlashKind.unit, FlashOp.done, nextFlash, if_neg hmore, beq_self_eq_true, Bool.true_or,
    Bool.not_true, Bool.or_self, Bool.false_eq_true, if_false]

/-- The last sector of an erase ends its command. -/
theorem flashComplete_lastSector {o : FlashOp} {c : Chip} (hrun : awake c) (hop : c.mem.flashOp = some o) (hkind : o.kind = .erase)
    (hbusy : o.busy = true) (hleft : o.left = 1) :
    flashComplete c = drainResets (finish o.handle .ok 0 0
      (modMem (fun m => { m with flashOp := none }) (uncache o.cs o.offset 4096 (eraseSector (csBase o.cs + o.offset) c)))) := by
  have hphase : c.pwr.phase = .run := hrun
  simp only [flashComplete, hop, hbusy, hphase, hkind, hleft, FlashKind.unit, endFlash, Nat.sub_self, beq_self_eq_true, Bool.true_or,
    Bool.not_true, Bool.or_self, Bool.false_eq_true, if_false, if_true]

/-- An operation that the device does not end in time spoils what it was at, and its command completes TIMEOUT. -/
theorem flashTimeout_of_busy {o : FlashOp} {c : Chip} (hop : c.mem.flashOp = some o) (hbusy : o.busy = true) :
    flashTimeout c = drainResets (finish o.handle .timeout 0 (o.total - o.left) (modMem (fun m => { m with flashOp := none })
      (lint 0x0810 (0x0B00 + o.cs) 0xFF o.offset (uncache o.cs o.offset o.kind.unit (spoilFlash (csBase o.cs + o.offset) o.kind.unit c))))) := by
  simp only [flashTimeout, hop, hbusy, if_true, endFlash, FlashOp.done]

/-! ### The cartridge (R447, R452, R453) -/

/-- A good page that is not in the cache of a mounted cartridge enters it in plain, in front of up to fifteen others (R447). -/
theorem cartPageFill_of_good {page : Nat} {bs : List Byte} {c : Chip} (hcart : c.mem.cart = .mounted) (hpeg : isPegged c 0x0B 1 = false)
    (hnew : c.mem.cache.any (·.page == page) = false) (hgood : cartPageGood c.mem page = true)
    (hplain : (if bit c.mem.cartHdr.flags 0 then cartPlain c page (c.mem.bytes (0x30000000 + 4096 * page) 4096)
      else some (c.mem.bytes (0x30000000 + 4096 * page) 4096)) = some bs) :
    cartPageFill page c = modMem (fun m => { m with cache := (⟨page, bs⟩ :: m.cache).take 16 }) c := by
  simp only [cartPageFill, hcart, hpeg, hnew, ne_eq, not_true_eq_false, Bool.false_eq_true, or_self, if_false, cartFill, hgood, if_true, hplain]

/-- A cartridge that is pulled while the port is idle: only its state, its cache and its reports change (R452). -/
theorem cartRemoval_of_idle {c : Chip} (hcart : c.mem.cart ≠ .absent) (hidle : c.mem.flashOp = none) :
    cartRemoval c = lint 0x0809 0x0B01 0xFF 0 (fireRunning 9 0 (modMem (fun m => { m with cart := .absent, cache := [] }) c)) := by
  unfold cartRemoval pullCart
  rw [if_neg hcart]
  extract_lets t
  have hop : t.mem.flashOp = none := by simp only [t, lint_mem, fireRunning_mem, modMem_mem, hidle]
  rw [hop]

/-- The cartridge that was pulled is put back. -/
theorem cartInsertion_same {c : Chip} (hcart : c.mem.cart = .absent) :
    cartInsertion none c = fireRunning 9 1 (modMem (fun m => { m with cart := .inserted }) c) := if_neg (not_not.mpr hcart)

/-- A cartridge with an image of its own: what the other one held is gone (R453). -/
theorem cartInsertion_image {bs : List Byte} {c : Chip} (hcart : c.mem.cart = .absent) (hlen : bs.length ≤ 2 ^ 28) :
    cartInsertion (some bs) c = fireRunning 9 1 (modMem (fun m =>
      { ({ m with cells := sclear m.cells 0x30000000 0x40000000 } : Mem).setBytes 0x30000000 bs with cart := .inserted }) c) := by
  rw [cartInsertion, if_neg (not_not.mpr hcart), List.take_of_length_le hlen]
  rfl

/-- Settles O21: each event comes to its body (`makes_of`), and a clause's condition chooses the branch of that body. -/
theorem memoryDeviceRows : Obligations.MemoryDeviceRows := by
  refine ⟨?deviceLost, ?walkStopped, ?walk, ?copyBad, ?copyRow, ?copyEnd, ?page, ?lastSector, ?timeout, ?pageFill, ?removal, ?insertion, ?image⟩
  case deviceLost =>
    exact fun d => makes_of (fun c => if fitted c d.val then loseDevice d.val c else c) (fun _ => rfl) fun c _ ⟨hfit, hwalk, hd, hrest⟩ =>
      (if_pos hfit).trans (loseDevice_first hwalk hd hrest)
  case walkStopped => exact fun r => makes_of resilverLine (fun _ => rfl) fun c _ ⟨hwalk, hstop⟩ => resilverLine_of_aborted hwalk hstop
  case walk => exact fun r => makes_of resilverLine (fun _ => rfl) fun c _ ⟨hwalk, hgo, hread⟩ => resilverLine_of_walking hwalk hgo hread
  case copyBad => exact fun k => makes_of (macroCopyRow true) (fun _ => rfl) fun c _ ⟨hcopy, hspare⟩ => macroCopyRow_bad hcopy hspare
  case copyRow =>
    exact fun k => makes_of (macroCopyRow false) (fun _ => rfl) fun c _ ⟨hcopy, hrow, hspare⟩ =>
      (macroCopyRow_good hcopy hspare).trans (if_pos hrow)
  case copyEnd =>
    exact fun k => makes_of (macroCopyRow false) (fun _ => rfl) fun c _ ⟨hcopy, hrow, hspare⟩ =>
      (macroCopyRow_good hcopy hspare).trans (if_neg (by omega))
  case page =>
    exact fun o => makes_of flashComplete (fun _ => rfl) fun c hrun ⟨hop, hkind, hbusy, hleft⟩ => flashComplete_page hrun hop hkind hbusy hleft
  case lastSector =>
    exact fun o => makes_of flashComplete (fun _ => rfl) fun c hrun ⟨hop, hkind, hbusy, hleft⟩ =>
      flashComplete_lastSector hrun hop hkind hbusy hleft
  case timeout => exact fun o => makes_of flashTimeout (fun _ => rfl) fun c _ ⟨hop, hbusy⟩ => flashTimeout_of_busy hop hbusy
  case pageFill =>
    exact fun page bs => makes_of (cartPageFill page.toNat) (fun _ => rfl) fun c _ ⟨hcart, hpeg, hnew, hgood, hplain⟩ =>
      cartPageFill_of_good hcart hpeg hnew hgood hplain
  case removal => exact makes_of cartRemoval (fun _ => rfl) fun c _ ⟨hcart, hidle⟩ => cartRemoval_of_idle hcart hidle
  case insertion => exact makes_of (cartInsertion none) (fun _ => rfl) fun c _ hcart => cartInsertion_same hcart
  case image => exact fun bs => makes_of (cartInsertion (some bs)) (fun _ => rfl) fun c _ ⟨hcart, hlen⟩ => cartInsertion_image hcart hlen

end Sys2Proof.Machine

/-! What memory, completions and the link leave alone: the board, the clocks, the beam, the governor, the supply and the fuses. -/

namespace Sys2Proof.Machine

/-- The part of the chip that no access of memory, no completion and no packet of the link changes. -/
def Chip.base (c : Chip) : Board × Clock × Beam × Gov × Power × Fuses × List Burn := (c.board, c.clk, c.beam, c.gov, c.pwr, c.fuses, c.burns)

/-! ### Updates and reports -/

@[simp] theorem modMem_base (f : Mem → Mem) (c : Chip) : (modMem f c).base = c.base := rfl
@[simp] theorem modMbx_base (p : Nat) (f : GMbx → GMbx) (c : Chip) : (modMbx p f c).base = c.base := rfl
@[simp] theorem modHost_base (f : HostMbx → HostMbx) (c : Chip) : (modHost f c).base = c.base := rfl
@[simp] theorem modLink_base (f : Link → Link) (c : Chip) : (modLink f c).base = c.base := rfl
@[simp] theorem modLPort_base (q : Nat) (f : LPort → LPort) (c : Chip) : (modLPort q f c).base = c.base := rfl
@[simp] theorem modHop_base (q : Nat) (f : PortHop → PortHop) (c : Chip) : (modHop q f c).base = c.base := rfl
@[simp] theorem modNode_base (f : LinkNode → LinkNode) (c : Chip) : (modNode f c).base = c.base := rfl
@[simp] theorem modAlign_base (f : Align → Align) (c : Chip) : (modAlign f c).base = c.base := rfl
@[simp] theorem putLine_base (q : Nat) (t : LinkTx) (c : Chip) : (putLine q t c).base = c.base := rfl
@[simp] theorem modInp_base (f : Input → Input) (c : Chip) : (modInp f c).base = c.base := rfl
@[simp] theorem modSnd_base (f : Sound → Sound) (c : Chip) : (modSnd f c).base = c.base := rfl
@[simp] theorem modCore_base (k : Nat) (f : Core → Core) (c : Chip) : (modCore k f c).base = c.base := rfl
@[simp] theorem sndFrameUnsure_base (c : Chip) : (sndFrameUnsure c).base = c.base := rfl
@[simp] theorem setBuf_base (r : Region) (l : List MergeEntry) (c : Chip) : (setBuf r l c).base = c.base := rfl
@[simp] theorem setUnitReg_base (u : UnitId) (r : UnitReg) (c : Chip) : (setUnitReg u r c).base = c.base := rfl
@[simp] theorem fire_base (p src data : Nat) (c : Chip) : (fire p src data c).base = c.base := rfl
@[simp] theorem fireService_base (unit kind outcome : Nat) (c : Chip) : (fireService unit kind outcome c).base = c.base := rfl
@[simp] theorem linkEvent_base (c : Chip) : (linkEvent c).base = c.base := rfl

@[simp] theorem lint_base (code unit origin detail : Nat) (c : Chip) : (lint code unit origin detail c).base = c.base := by
  simp only [Chip.base, lint_board, lint_clk, lint_beam, lint_gov, lint_pwr, lint_fuses, lint_burns]

@[simp] theorem lintBlock_base (code origin detail : Nat) (c : Chip) : (lintBlock code origin detail c).base = c.base := lint_base ..

@[simp] theorem setUnitState_base (u : UnitId) (st : UnitState) (c : Chip) : (setUnitState u st c).base = c.base := by
  unfold setUnitState
  split
  · rfl
  · split <;> simp

@[simp] theorem modMarks_base (p : Nat) (f : UnitMarks → UnitMarks) (u : LUnit) (c : Chip) : (modMarks p f u c).base = c.base := by
  cases u <;> rfl

theorem markAll_base (c : Chip) : (markAll c).base = c.base :=
  foldl_keeps (g := Chip.base) (fun c p => foldl_keeps (g := Chip.base) (fun c u => by dsimp only; split <;> simp) _ c) _ c

/-! ### Words of memory and merge buffers -/

@[simp] theorem fireMemory_base (pa kind : Nat) (c : Chip) : (fireMemory pa kind c).base = c.base :=
  foldl_keeps (g := Chip.base) (fun c p => by split <;> rfl) _ c

@[simp] theorem fireMemoryDevice_base (kind : Nat) (c : Chip) : (fireMemoryDevice kind c).base = c.base :=
  foldl_keeps (g := Chip.base) (fun c p => by split <;> rfl) _ c

@[simp] theorem noteDiag_base (pa : Nat) (corrected : Bool) (c : Chip) : (noteDiag pa corrected c).base = c.base :=
  foldl_keeps (g := Chip.base) (fun c p => by split <;> rfl) _ c

theorem noteCorrection_base (unit word : Nat) (loop : RinseLoop) (c : Chip) : (noteCorrection unit word loop c).2.base = c.base := by
  unfold noteCorrection
  dsimp only
  split <;> simp

@[simp] theorem noteSramCorrection_base (unit word : Nat) (c : Chip) : (noteSramCorrection unit word c).base = c.base :=
  noteCorrection_base unit word c.mem.rinseS c

@[simp] theorem noteXmemCorrection_base (unit word : Nat) (c : Chip) : (noteXmemCorrection unit word c).base = c.base :=
  noteCorrection_base unit word c.mem.rinseX c

@[simp] theorem readSram_base (pa : Nat) (c : Chip) : (readSram pa c).2.base = c.base := by
  unfold readSram
  split
  · rfl
  · dsimp only
    split <;> simp

@[simp] theorem writeSram_base (pa : Nat) (w : WordRead) (c : Chip) : (writeSram pa w c).base = c.base := by
  unfold writeSram
  split
  · rfl
  · split <;> rfl

@[simp] theorem readStew_base (a : Nat) (c : Chip) : (readStew a c).2.base = c.base := by
  unfold readStew
  dsimp only
  split <;> simp

@[simp] theorem writeStew_base (a : Nat) (bs : List Byte) (c : Chip) : (writeStew a bs c).base = c.base := by
  have hread : (if bs.length = 8 then (WordRead.mk [] false, c) else readStew (a / 8 * 8) c).2.base = c.base := by
    split
    · rfl
    · exact readStew_base ..
  unfold writeStew
  split
  next w d heq =>
    rw [heq] at hread
    split <;> exact hread

@[simp] theorem writeXmem_base (pa : Nat) (w : WordRead) (c : Chip) : (writeXmem pa w c).base = c.base := by
  unfold writeXmem
  split
  · rfl
  · dsimp only
    split <;> rfl

@[simp] theorem loseDevice_base (k : Nat) (c : Chip) : (loseDevice k c).base = c.base := by
  unfold loseDevice
  split
  · rfl
  · extract_lets stop t n
    have hstop (d : Chip) : (stop d).base = d.base := by
      dsimp only [stop]
      split
      · split
        · rfl
        · rw [lint_base, setUnitState_base]
          rfl
      · rfl
    have ht : t.base = c.base := by simp [t, hstop]
    split <;> simp [ht]

@[simp] theorem readLine_base (line : Nat) (c : Chip) : (readLine line c).2.base = c.base := by
  unfold readLine
  split
  · rfl
  · split
    · rfl
    · extract_lets base void
      split
      next ds pos _ =>
      extract_lets words fix spoil
      have hfix : (fix c).base = c.base := by
        dsimp -zeta only [fix]
        split
        · split <;> rfl
        · extract_lets k run written memory counted
          have hwritten : written.base = c.base := foldl_keeps (g := Chip.base) (fun d n => by split <;> rfl) _ c
          have hcounted : counted.base = c.base := by
            simp only [counted, noteXmemCorrection_base, fireMemory_base, noteDiag_base, lint_base]
            exact hwritten
          split
          · rw [loseDevice_base, hcounted]
          · exact hcounted
      have hspoil (d : Chip) (i : Nat) : (spoil d i).base = d.base := by
        dsimp only [spoil]
        split <;> simp
      exact (foldl_keeps (g := Chip.base) hspoil _ _).trans hfix

@[simp] theorem readXmem_base (pa : Nat) (c : Chip) : (readXmem pa c).2.base = c.base := readLine_base ..

@[simp] theorem readStored_base (r : Region) (pa : Nat) (c : Chip) : (readStored r pa c).2.base = c.base := by
  unfold readStored
  split <;> simp

@[simp] theorem writeStored_base (r : Region) (pa : Nat) (w : WordRead) (c : Chip) : (writeStored r pa w c).base = c.base := by
  unfold writeStored
  split <;> simp

@[simp] theorem evictEntry_base (r : Region) (e : MergeEntry) (c : Chip) : (evictEntry r e c).base = c.base :=
  foldl_keeps (g := Chip.base) (fun c i => by
    dsimp only
    split
    · split <;> simp
    · rfl) _ c

@[simp] theorem evictAll_base (r : Region) (c : Chip) : (evictAll r c).base = c.base :=
  foldl_keeps (g := Chip.base) (fun c e => evictEntry_base r e c) _ _

@[simp] theorem storeThrough_base (r : Region) (pa : Nat) (bs : List Byte) (poison : Bool) (c : Chip) :
    (storeThrough r pa bs poison c).base = c.base := by
  unfold storeThrough
  dsimp only
  split
  · simp
  · split
    · split <;> simp
    · rfl

@[simp] theorem busWrite_base (pa : Nat) (bs : List Byte) (poison : Bool) (c : Chip) : (busWrite pa bs poison c).base = c.base := by
  unfold busWrite
  split
  case h_3 => split <;> simp [poisonStew]
  all_goals simp

theorem chargeToken_base (p t : Nat) (c : Chip) : (chargeToken p t c).base = c.base := by
  unfold chargeToken
  split
  · rfl
  · dsimp only
    split <;> rfl

theorem writeKWords_base (p ka : Nat) (bs : List PByte) (ks : List Nat) (c : Chip) : (writeKWords p ka bs ks c).base = c.base := by
  induction ks generalizing c with
  | nil => rfl
  | cons k ks ih => rw [writeKWords, ih, busWrite_base]

@[simp] theorem writeK_base (p ka : Nat) (bs : List PByte) (c : Chip) : (writeK p ka bs c).base = c.base := by
  rw [writeK, writeKFree, writeKWords_base]
  exact foldl_keeps (g := Chip.base) (fun c i => chargeToken_base ..) _ c

/-! ### Completions (R211, R213, R227) -/

@[simp] theorem faultMbx_base (p : Nat) (cause : MbCause) (code : Nat) (c : Chip) : (faultMbx p cause code c).base = c.base := by
  simp only [faultMbx, lintBlock_base, modMbx_base]

/-- A completion is written into a guest's ring through the guest's map. -/
theorem writeGuestCpl_base {p : Nat} {h : HeldCpl} {c d : Chip} (hd : writeGuestCpl p h c = some d) : d.base = c.base := by
  unfold writeGuestCpl at hd
  dsimp only at hd
  split at hd
  · cases hd
  · rw [← Option.some.inj hd]
    split <;> simp

theorem deliverGuest_base (p : Nat) (h : HeldCpl) (c : Chip) : (deliverGuest p h c).base = c.base := by
  unfold deliverGuest
  dsimp only
  split
  · split
    next d hd => exact writeGuestCpl_base hd
    next => simp
  · rfl

theorem deliverHost_base (k : HeldCpl) (c : Chip) : (deliverHost k c).base = c.base := by
  unfold deliverHost
  split
  · simp
  · split <;> rfl

theorem deliverUsb_base (k : HeldCpl) (c : Chip) : (deliverUsb k c).base = c.base := by
  unfold deliverUsb
  split
  · rw [lintBlock_base]
    rfl
  · rfl

theorem deliver_base (m : Cmd) (k : HeldCpl) (c : Chip) : (deliver m k c).base = c.base := by
  unfold deliver
  split
  · rfl
  · exact deliverGuest_base ..
  · exact deliverHost_base ..
  · exact deliverUsb_base ..
  · rfl

@[simp] theorem complete_base (m : Cmd) (st : Status) (info result : Nat) (block : List Byte) (c : Chip) :
    (complete m st info result block c).base = c.base := deliver_base ..

@[simp] theorem finish_base (h : Option Long) (st : Status) (info result : Nat) (c : Chip) : (finish h st info result c).base = c.base := by
  unfold finish
  split
  · simp
  · split
    · rfl
    · dsimp only
      split
      · simp
      · split <;> simp

/-! ### Packets of the link and the loss of a port (R731 to R743, R770) -/

@[simp] theorem freeArrival_base (k : LinkPkt) (c : Chip) : (freeArrival k c).base = c.base := by
  unfold freeArrival freeBuffer
  split
  · dsimp only
    split <;> rfl
  · rfl

theorem pumpN_base (q n : Nat) (c : Chip) : (pumpN q n c).base = c.base := by
  induction n generalizing c with
  | zero => rfl
  | succ n ih =>
    unfold pumpN
    dsimp only
    split
    · rfl
    · split
      · rfl
      · rw [ih]
        simp

@[simp] theorem queuePkt_base (q : Nat) (k : LinkPkt) (c : Chip) : (queuePkt q k c).base = c.base := pumpN_base ..

@[simp] theorem sendNbr_base (q vc typ : Nat) (b : LinkBody) (c : Chip) : (sendNbr q vc typ b c).base = c.base := queuePkt_base ..

@[simp] theorem endBlock_base (node x : Nat) (st : Status) (c : Chip) : (endBlock node x st c).base = c.base := by
  unfold endBlock
  split <;> simp

@[simp] theorem endRemote_base (node : Nat) (st : Status) (info result : Nat) (c : Chip) : (endRemote node st info result c).base = c.base := by
  unfold endRemote
  split <;> simp

@[simp] theorem takeNak_base (target : NakAt) (why : NakWhy) (c : Chip) : (takeNak target why c).base = c.base := by
  cases target with
  | chan ch => cases why <;> rfl
  | block node x => exact endBlock_base ..
  | remote node =>
    unfold takeNak
    dsimp only
    split <;> simp

@[simp] theorem acked_base (k : LinkPkt) (c : Chip) : (acked k c).base = c.base := by
  unfold acked
  split
  · rfl
  · rfl
  · simp
  · split <;> rfl

@[simp] theorem ownLost_base (k : LinkPkt) (c : Chip) : (ownLost k c).base = c.base := by
  unfold ownLost
  split
  · simp
  · simp
  · simp
  · split
    · simp
    · split <;> simp
    · rfl

@[simp] theorem routePkt_base (k : LinkPkt) (arr : Option Nat) (c : Chip) : (routePkt k arr c).2.base = c.base := by
  unfold routePkt
  split <;> simp

@[simp] theorem sendPkt_base (k : LinkPkt) (arr : Option Nat) (c : Chip) : (sendPkt k arr c).base = c.base := by
  have hroute := routePkt_base k arr c
  unfold sendPkt
  split
  next d hd =>
    rw [hd] at hroute
    exact hroute
  next d hd =>
    rw [hd] at hroute
    split
    · exact hroute
    · split
      · rw [ownLost_base]
        exact hroute
      · rw [routePkt_base]
        exact hroute

@[simp] theorem reroutePkt_base (k : LinkPkt) (q : Nat) (c : Chip) : (reroutePkt k q c).base = c.base := by
  unfold reroutePkt
  split <;> simp

@[simp] theorem setAlign_base (a : AlignSt) (c : Chip) : (setAlign a c).base = c.base := by
  unfold setAlign
  split
  · rfl
  · simp

@[simp] theorem askId_base (c : Chip) : (askId c).base = c.base := by
  unfold askId
  split
  · simp
  · rfl

@[simp] theorem newRoot_base (serial : Nat) (c : Chip) : (newRoot serial c).base = c.base := by
  unfold newRoot
  split
  · rfl
  · extract_lets grid known
    have hknown : known.base = c.base := by simp [known]
    split <;> simp [hknown]

@[simp] theorem elect_base (c : Chip) : (elect c).base = c.base := by
  unfold elect
  dsimp only
  split
  · split <;> simp
  · rfl

@[simp] theorem loseRoute_base (c : Chip) : (loseRoute c).base = c.base := by
  unfold loseRoute
  split
  · simp
  · rfl

@[simp] theorem portDown_base (q cause : Nat) (c : Chip) : (portDown q cause c).base = c.base := by
  unfold portDown portDownAs
  dsimp only
  split
  · rfl
  · rw [loseRoute_base, elect_base, foldl_keeps (g := Chip.base) fun d k => reroutePkt_base k q d]
    simp

@[simp] theorem departAll_base (cause : Nat) (c : Chip) : (departAll cause c).base = c.base :=
  foldl_keeps (g := Chip.base) (fun d q => by split <;> simp) _ c

end Sys2Proof.Machine

/-! Supply classes, retention and the off state (R92 to R100, R105, R116, R117): what each crossing makes of the chip, and obligation O33. -/

namespace Sys2Proof.Machine

/-! ### WARN and class 2 (R92 to R97) -/

/-- VSYS falls below VWARN: WARN is set, logged and reported. -/
theorem vwarnCrossing_down {v : Supply} {c : Chip} (hrun : c.pwr.phase = .run) (hwarn : c.pwr.warn = false) (hlow : v.vsys < c.pwr.vwarn) :
    vwarnCrossing v c = fireSupply (lintBlock 0x0101 0xFF 0
      { c with pwr := { c.pwr with vsys := v.vsys, vbus := v.vbus, vbat := v.vbat, warn := true } }) := by
  have hset : warnAt c.pwr v.vsys = true := if_pos hlow
  simp [vwarnCrossing, hset, hwarn, hrun, modPwr, measure]

/-- VSYS rises 100 mV above VWARN: WARN is cleared and reported. -/
theorem vwarnCrossing_up {v : Supply} {c : Chip} (hrun : c.pwr.phase = .run) (hwarn : c.pwr.warn = true) (hhigh : c.pwr.vwarn + 100 ≤ v.vsys) :
    vwarnCrossing v c = fireSupply { c with pwr := { c.pwr with vsys := v.vsys, vbus := v.vbus, vbat := v.vbat, warn := false } } := by
  have hclear : warnAt c.pwr v.vsys = false := by rw [warnAt, if_neg (by omega), if_pos hhigh]
  simp [vwarnCrossing, hclear, hwarn, hrun, modPwr, measure]

/-- Class 2 begins: duties are reduced and the period is counted, unless it goes on from one that ended less than 2 ms ago. -/
theorem class2Entry_of_class1 {v : Supply} {c : Chip} (hcls : c.pwr.cls = 1) (hstop : 2300 ≤ v.vsys) (hlow : v.vsys < 2600 ∨ hasSource v = false) :
    class2Entry v c = lintBlock 0x0102 0xFF (if v.vsys < 2600 then 1 else 2) (fireSupply (applyDuties { c with pwr := { c.pwr with
      vsys := v.vsys, vbus := v.vbus, vbat := v.vbat, cls := 2, c2start := c.clk.qtime, reduced := true,
      c2acc := if (c.pwr.c2end.any fun t => c.clk.qtime < t + 48000) = true then c.pwr.c2acc else 0,
      rideCount := if (c.pwr.c2end.any fun t => c.clk.qtime < t + 48000) = true then c.pwr.rideCount
        else min 0xFFFF (c.pwr.rideCount + 1) } })) := by
  have henter : ¬(c.pwr.cls ≠ 1 ∨ v.vsys < 2300 ∨ (!decide (v.vsys < 2600) && hasSource v) = true) := by
    rcases hlow with h | h <;> simp [hcls, hstop, h]
  simp only [class2Entry, if_neg henter, decide_eq_true_eq]
  rfl

/-- Class 2 ends: its time is added up. -/
theorem class2End_of_class2 {v : Supply} {c : Chip} (hcls : c.pwr.cls = 2) (hhigh : 2650 ≤ v.vsys) (hsrc : hasSource v = true) :
    class2End v c = { c with pwr := { c.pwr with
      vsys := v.vsys, vbus := v.vbus, vbat := v.vbat, cls := 1, c2acc := c.pwr.c2acc + (c.clk.qtime - c.pwr.c2start), c2end := some c.clk.qtime } } := by
  have hend : ¬(c.pwr.cls ≠ 2 ∨ v.vsys < 2650 ∨ (!hasSource v) = true) := by simp [hcls, hhigh, hsrc]
  rw [class2End, if_neg hend]
  rfl

/-- After 50 ms of class 1 the duties are restored. -/
theorem class1Restore_of_reduced {c : Chip} {t : Nat} (hrun : c.pwr.phase = .run) (hend : c.pwr.c2end = some t) (hcls : c.pwr.cls = 1)
    (hred : c.pwr.reduced = true) :
    class1Restore c = applyDuties (modPwr (fun p => { p with reduced := false }) (atTime (t + 1200000) c)) := by
  have hrestore : (decide (c.pwr.cls = 1) && c.pwr.reduced && c.pwr.phase != .resuming) = true := by
    rw [hcls, hred, hrun]
    decide
  simp only [class1Restore, hend, hrestore, if_true]

/-! ### Class 3 and retention (R98 to R105) -/

/-- Two chips with the same base have the same beam and the same clocks. -/
theorem beam_clk_of_base {c d : Chip} (h : d.base = c.base) : d.beam = c.beam ∧ d.clk = c.clk := by
  simp only [Chip.base, Prod.mk.injEq] at h
  obtain ⟨_, hclk, hbeam, _⟩ := h
  exact ⟨hbeam, hclk⟩

/-- Holding the output changes neither the frame number nor the clocks. -/
theorem holdNow_frame (c : Chip) : (holdNow c).beam.frame = c.beam.frame ∧ (holdNow c).clk = c.clk := by
  unfold holdNow
  extract_lets beam blank idle shown
  have hshown : shown.beam.frame = c.beam.frame ∧ shown.clk = c.clk := by
    dsimp only [shown]
    split
    · next m _ =>
      obtain ⟨hbeam, hclk⟩ := beam_clk_of_base (markAll_base (beamMode m idle.beam.field idle))
      rw [hbeam, hclk]
      exact ⟨rfl, rfl⟩
    · exact ⟨rfl, rfl⟩
  have hflush : (flushDcs shown).base = shown.base := foldl_keeps (g := Chip.base) (fun d x => finish_base ..) _ _
  obtain ⟨hbeam, hclk⟩ := beam_clk_of_base hflush
  exact ⟨(congrArg Beam.frame hbeam).trans hshown.1, hclk.trans hshown.2⟩

/-- Entry into class 3 before the first frame start, or in recovery mode, leaves no window to resume in: cause 8 (R132). -/
theorem enterClass3_unstarted {c : Chip} (h : hasStarted c = false) (n : Nat) :
    enterClass3 n c = { c with pwr := { c.pwr with phase := .retention, cls := 3, windowOpen := false, causeLatch := 8 } } := by
  rw [enterClass3, h]
  rfl

/-- Entry into class 3 after the first frame start opens the resume window, at the frame and the time it came (R98). -/
theorem enterClass3_started {c : Chip} (h : hasStarted c = true) (n : Nat) :
    let t := (enterClass3 n c).pwr
    t.phase = .retention ∧ t.cls = 3 ∧ t.windowOpen = true ∧ t.trigger = n ∧ t.entryFrame = c.beam.frame ∧ t.entryQtime = c.clk.qtime := by
  unfold enterClass3
  rw [h, if_neg (by decide)]
  extract_lets links held muted still idle stored cart t
  have hidle : idle.base = still.base := foldl_keeps (g := Chip.base) (fun _ _ => modCore_base ..) _ _
  have hstored : stored.base = (holdNow c).base := by
    simp only [stored, evictAll_base, departAll_base, hidle, still, muted, held, modSnd_base, modInp_base, sndFrameUnsure_base]
  obtain ⟨hbeam, hclk⟩ := beam_clk_of_base hstored
  obtain ⟨hframe, htime⟩ := holdNow_frame c
  clear_value stored
  exact ⟨rfl, rfl, rfl, rfl, (congrArg Beam.frame hbeam).trans hframe, congrArg Clock.qtime (hclk.trans htime)⟩

/-! ### The off state (R100, R105, R116, R117) -/

/-- A chip in retention is asleep. -/
theorem clocksRun_retention {c : Chip} (h : c.pwr.phase = .retention) : clocksRun c = false := by
  simp only [clocksRun, asleep, h]
  decide

/-- VSYS below VRET loses retention: the chip goes to the off state (R100, R105). -/
theorem retentionLost_of_low {v : Supply} {c : Chip} (hret : c.pwr.phase = .retention) (hlow : v.vsys < 1900) :
    retentionLost v c = enterOff .resume (if c.pwr.windowOpen then 1 else c.pwr.causeLatch)
      { c with pwr := { c.pwr with vsys := v.vsys, vbus := v.vbus, vbat := v.vbat, retLost := true, topKept := false } } := by
  have hlost : ¬(1900 ≤ v.vsys ∨ clocksRun c = true) := by simp [clocksRun_retention hret, hlow]
  rw [retentionLost, if_neg hlost]
  exact if_pos hret

/-- The buck stops while the chip runs: a cold start with cause 9 that waits for the buck (R117). -/
theorem buckLimit_of_run {c : Chip} (hrun : c.pwr.phase = .run) (hbuck : c.pwr.buckStopped = false) :
    buckLimit c = coldStart 9 (modPwr (fun p => { p with buckStopped := true, buckFails := 0 }) (lintBlock 0x0106 0xFF 0 c)) := by
  simp [buckLimit, hrun, hbuck]

/-- A third failed restart in a row enters the off state (R117). -/
theorem buckLimit_third {c : Chip} (hwait : c.pwr.phase = .waitVbat) (hbuck : c.pwr.buckStopped = false) (hcause : c.pwr.causeLatch = 9)
    (hfails : 2 ≤ c.pwr.buckFails) : buckLimit c = enterOff .buck 9 (lintBlock 0x0106 0xFF 0 c) := by
  have hthird : 3 ≤ c.pwr.buckFails + 1 := by omega
  simp [buckLimit, hwait, hbuck, hcause, hthird]

/-! ### Banks and VBUS (R81, R87 to R90) -/

/-- A bank that is powered is lost with lint; in retention the loss of bank M loses external memory. -/
theorem bankLost_of_powered {b : Nat} {c : Chip} (hoff : vget c.pwr.banks b ≠ .off) (hlost : vget c.pwr.banks b ≠ .lost) :
    bankLost b c = lintBlock 0x0105 0xFF b { c with pwr := { c.pwr with
      banks := vset c.pwr.banks b .lost, xmemLost := c.pwr.xmemLost || (b == 3 && c.pwr.phase == .retention) } } := by
  unfold bankLost
  split
  next h => exact absurd h hoff
  next h => exact absurd h hlost
  next => rfl

/-- Settles O33: each event comes to its body (`makes_of`, `makesIn_of`), whose branch the clause's condition chooses; the entry into class 3
is stamped as it comes, since nothing that it stops moves the frame number or the clocks (`enterClass3_started`). -/
theorem supplyRows : Obligations.SupplyRows := by
  refine ⟨?warnDown, ?warnUp, ?class2Entry, ?class2End, ?restore, ?rideExpiry, ?class3Entry, fun n c h => enterClass3_started h n,
    fun n c h => enterClass3_unstarted h n, ?retentionLost, ?windowExpiry, ?thermal, ?buck, ?buckThird, ?buckRestart, ?bankLost, ?overvoltage,
    ?overvoltageClear⟩
  case warnDown => exact fun v => makesIn_of (vwarnCrossing v) (fun _ => rfl) fun c ⟨hrun, hwarn, hlow⟩ => vwarnCrossing_down hrun hwarn hlow
  case warnUp => exact fun v => makesIn_of (vwarnCrossing v) (fun _ => rfl) fun c ⟨hrun, hwarn, hhigh⟩ => vwarnCrossing_up hrun hwarn hhigh
  case class2Entry =>
    exact fun v => makes_of (class2Entry v) (fun _ => rfl) fun c _ ⟨hcls, hstop, hlow⟩ => class2Entry_of_class1 hcls hstop hlow
  case class2End => exact fun v => makes_of (class2End v) (fun _ => rfl) fun c _ ⟨hcls, hhigh, hsrc⟩ => class2End_of_class2 hcls hhigh hsrc
  case restore => exact fun t => makes_of class1Restore (fun _ => rfl) fun c hrun ⟨hend, hcls, hred⟩ => class1Restore_of_reduced hrun hend hcls hred
  case rideExpiry => exact makes_of rideExpiry (fun _ => rfl) fun c _ hcls => if_pos hcls
  case class3Entry =>
    exact fun v => makes_of (fun c => if v.vsys < 2300 then enterClass3 1 (measure v c) else c) (fun _ => rfl) fun c _ hlow => if_pos hlow
  case retentionLost => exact fun v => makesIn_of (retentionLost v) (fun _ => rfl) fun c ⟨hret, hlow⟩ => retentionLost_of_low hret hlow
  case windowExpiry =>
    exact makesIn_of (fun c => if c.pwr.phase = .retention ∧ c.pwr.windowOpen then enterOff .resume 2 c else c) (fun _ => rfl)
      fun c hopen => if_pos hopen
  case thermal =>
    refine fun tj => makesIn_of (fun c => if tj ≤ 125 ∨ c.pwr.phase = .off ∨ c.pwr.phase = .waitVbat then c
      else enterOff .thermal 6 (lintBlock 0x010A 0xFF 0 (modGov (fun g => { g with tj := tj }) c))) (fun _ => rfl) fun c ⟨htj, hrun⟩ => ?_
    rw [if_neg (by simp [hrun, htj])]
    rfl
  case buck => exact makesIn_of buckLimit (fun _ => rfl) fun c ⟨hrun, hbuck⟩ => buckLimit_of_run hrun hbuck
  case buckThird =>
    exact makesIn_of buckLimit (fun _ => rfl) fun c ⟨hwait, hbuck, hcause, hfails⟩ => buckLimit_third hwait hbuck hcause hfails
  case buckRestart => exact fun s _ => rfl
  case bankLost => exact fun b => makesIn_of (bankLost b.val) (fun _ => rfl) fun c ⟨hoff, hlost⟩ => bankLost_of_powered hoff hlost
  case overvoltage =>
    refine fun v => makesIn_of (fun c => if v.vbus ≤ 6000 ∨ c.pwr.vbusOpen then c
      else lintBlock 0x0109 0xFF 0 (modPwr (fun p => { p with vbusOpen := true }) (measure v c))) (fun _ => rfl) fun c ⟨hhigh, hclosed⟩ => ?_
    rw [if_neg (by simp [hclosed, hhigh])]
    rfl
  case overvoltageClear =>
    refine fun v => makesIn_of (fun c => if 5800 ≤ v.vbus ∨ !c.pwr.vbusOpen then c
      else modPwr (fun p => { p with vbusOpen := false }) (measure v c)) (fun _ => rfl) fun c ⟨hlow, hopen⟩ => ?_
    rw [if_neg (by simp [hopen, hlow])]
    rfl

end Sys2Proof.Machine

/-! Resets, the off state, resume and boot (R103 to R114, R118 to R127, R138, R840, R871): what each start brings and what it keeps, and
obligation O34. -/

namespace Sys2Proof.Machine

/-! ### Resets -/

/-- RESET_N while the chip runs from its buck is a cold start with cause 3. -/
theorem resetN_of_run {c : Chip} (hrun : c.pwr.phase = .run) (hbuck : c.pwr.buckStopped = false) : resetN c = coldStart 3 c := by
  simp only [resetN, hrun, hbuck, Bool.false_eq_true, if_false]

/-- A reset that SYS.RESET asked for begins at its time (R138). -/
theorem deferredStart_coldStart {c : Chip} (hdef : c.pwr.deferred = some .coldStart) : deferredStart c = coldStart 5 (atTime c.pwr.deferAt c) := by
  simp only [deferredStart, hdef]

/-- The off state that PWR.OFF asked for begins at its time, with the wake sources it named (R118, R138). -/
theorem deferredStart_off {c : Chip} {w : Nat} (hdef : c.pwr.deferred = some (.off w)) :
    deferredStart c = enterOff .selected 7 (modPwr (fun p => { p with wake := w }) (atTime c.pwr.deferAt c)) := by
  simp only [deferredStart, hdef]

/-- Leaving out the keys below a bound changes nothing at or above it. -/
theorem sfind_filter_ge {α : Type} {lo a : Nat} (ha : lo ≤ a) (l : List (Nat × α)) : sfind (l.filter fun e => lo ≤ e.1) a = sfind l a := by
  induction l with
  | nil => rfl
  | cons e l ih =>
    obtain ⟨k, v⟩ := e
    by_cases hk : lo ≤ k
    · rw [List.filter_cons_of_pos (by simpa using hk), sfind, sfind, ih]
    · rw [List.filter_cons_of_neg (by simpa using hk), sfind, ih, if_neg (by omega), if_neg (by omega)]

/-- A cold start keeps what the flash devices hold. -/
theorem coldStart_byte {a : Nat} (ha : 0x20000000 ≤ a) (n : Nat) (c : Chip) : (coldStart n c).mem.byte a = c.mem.byte a := by
  show sget (unlisted a) (c.mem.cells.filter fun e => 0x20000000 ≤ e.1) a = sget (unlisted a) c.mem.cells a
  rw [sget, sget, sfind_filter_ge ha]

/-- What stands after a cold start: the chip is held in reset with the latched cause, and the board, the fuses and flash are kept. -/
theorem coldStart_keeps (n : Nat) (c : Chip) :
    (coldStart n c).pwr.phase = .waitVbat ∧ (coldStart n c).pwr.causeLatch = n ∧ (coldStart n c).fuses = c.fuses ∧
    (coldStart n c).burns = c.burns ∧ (coldStart n c).board = c.board ∧ (coldStart n c).cmds = [] ∧ (coldStart n c).clk.qtime = 0 ∧
    (coldStart n c).beam = {} ∧ (∀ a, 0x20000000 ≤ a → (coldStart n c).mem.byte a = c.mem.byte a) :=
  ⟨rfl, rfl, rfl, rfl, rfl, rfl, rfl, rfl, fun _ ha => coldStart_byte ha n c⟩

/-! ### Resume (R103 to R110, R132) -/

/-- Inside the resume window, a chip whose supply is back resumes (R103, R104). -/
theorem resume_of_window {o : ResumeObs} {c : Chip} (hret : c.pwr.phase = .retention) (hmet : resumeMet o.supply = true)
    (hcause : c.pwr.causeLatch ≠ 8) (hwin : c.pwr.windowOpen = true) (htime : o.ticks ≤ c.pwr.resumeMax * 2400000) :
    resume o c = resumeChip o c := by
  simp only [resume, hret, hmet, hcause, hwin, htime, ne_eq, not_true_eq_false, Bool.not_true, Bool.false_eq_true, or_self, and_self, if_false,
    if_true]

/-- After a class 3 that came before the first frame start, or in recovery mode, the chip cold-starts instead (R132). -/
theorem resume_of_barred {o : ResumeObs} {c : Chip} (hret : c.pwr.phase = .retention) (hmet : resumeMet o.supply = true)
    (hcause : c.pwr.causeLatch = 8) : resume o c = coldStart 8 (measure o.supply c) := by
  simp only [resume, hret, hmet, hcause, ne_eq, not_true_eq_false, Bool.not_true, Bool.false_eq_true, or_self, if_false, if_true]

/-- A chip that resumes is awake. -/
theorem asleep_resuming {c : Chip} (h : c.pwr.phase = .resuming) : asleep c = false := by
  simp only [asleep, h]
  decide

/-- At the end of the last line, with the output locked and released, everything continues with a frame start that is not counted (R106). -/
theorem resumeRelease_at_frame {c : Chip} (hphase : c.pwr.phase = .resuming) (hlock : c.scan.relock = none) (hhold : c.beam.hold = false)
    (hline : c.beam.line + 1 = c.beam.vtotal) (hmode : c.beam.htotal ≠ 0) (hscan : c.scan.mode.isSome) :
    resumeRelease c = frameStart {} false (resumed (reachLineEnd c)) := by
  simp only [resumeRelease, hphase, hlock, hhold, hline, hscan, bne_iff_ne.mpr hmode, ne_eq, not_true_eq_false, Option.isSome_none,
    Bool.false_eq_true, or_self, decide_true, Bool.and_self, if_false, if_true]

/-! ### Boot (R119 to R127) -/

/-- The boot ROM runs once the supply is valid, unless the test pin or the buck holds the chip (R119). -/
theorem vbatValid_of_met {o : BootObs} {c : Chip} (hphase : c.pwr.phase = .waitVbat) (htest : c.pwr.testHigh = false)
    (hbuck : c.pwr.buckStopped = false) (hmet : resumeMet o.supply = true) :
    vbatValid o c = bootSlots o (bootFuses (bootMemory o c)) := by
  simp only [vbatValid, hphase, htest, hbuck, hmet, ne_eq, not_true_eq_false, Bool.not_true, Bool.false_eq_true, or_self, if_false]

/-- Recovery mode may have to be entered whatever the slots hold (R127). -/
theorem bootSlots_of_mustRecover {o : BootObs} {c : Chip} (h : mustRecover o c = true) : bootSlots o c = enterRecovery c := if_pos h

/-- The record of a start leaves its phase and its slot (R110). -/
theorem bootRecord_pwr (c : Chip) : (bootRecord c).pwr.phase = c.pwr.phase ∧ (bootRecord c).pwr.slot = c.pwr.slot := by
  simp only [bootRecord, modPwr]
  split <;> simp

/-- Recovery mode runs no slot (R127). -/
theorem enterRecovery_pwr (c : Chip) : (enterRecovery c).pwr.phase = .recovery ∧ (enterRecovery c).pwr.slot = 0xFF := by
  obtain ⟨hphase, hslot⟩ := bootRecord_pwr (lintAs true 0x0108 (blockUnit 0x0108) 0xFF ((freeNat c).1 % 2 ^ 32)
    (modPwr (fun p => { p with phase := .recovery, slot := 0xFF, recoveryFlag := true }) (freeNat c).2))
  exact ⟨hphase.trans (by rw [lintAs_pwr]; rfl), hslot.trans (by rw [lintAs_pwr]; rfl)⟩

/-! ### The watchdog and the warm restart (R114, R840) -/

/-- A second expiry within 10 s of the first is a cold start with cause 4 (R114). -/
theorem watchdog_again {c : Chip} {t : Nat} (hrun : c.pwr.phase = .run) (hfirst : c.pwr.wdFirst = some t) (hsoon : c.clk.qtime ≤ t + 240000000) :
    watchdog c = coldStart 4 (lintBlock 0x010B 0xFF 0 c) := by
  simp only [watchdog, hrun, lintBlock_pwr, hfirst, hsoon, ne_eq, not_true_eq_false, Option.any_some, decide_true, if_false, if_true]

/-- A first expiry of a confirmed slot restarts the steward with that slot (R114, R840). -/
theorem watchdog_first {c : Chip} (hrun : c.pwr.phase = .run) (hfirst : c.pwr.wdFirst = none) (hconf : slotConfirmed c = true) :
    watchdog c = startRestart c.pwr.slot false none (modPwr (fun p => { p with wdFirst := some c.clk.qtime }) (lintBlock 0x010B 0xFF 0 c)) := by
  have hconf' : slotConfirmed (modPwr (fun p => { p with wdFirst := some c.clk.qtime }) (lintBlock 0x010B 0xFF 0 c)) = true := by
    rw [← hconf]
    simp only [slotConfirmed, bootSlot, bootDir, modPwr, lintBlock_mem, lintBlock_pwr]
  simp only [watchdog, hrun, lintBlock_pwr, hfirst, hconf', ne_eq, not_true_eq_false, Option.any_none, Bool.not_true, Bool.false_and,
    Bool.false_eq_true, if_false]
  simp only [modPwr, lintBlock_pwr]

/-- The image of the chosen slot verifies: Boroux serves with it. -/
theorem borouxStart_of_good {c : Chip} {r : Restart} {rb : Nat} {own : Bool} (hrun : c.pwr.phase = .run) (hres : c.svc.restart = some r)
    (hgood : slotGood c r.slot = some (rb, own)) : borouxStart c = borouxServes r r.slot rb own .ok c := by
  simp only [borouxStart, hres, hrun, hgood, ne_eq, not_true_eq_false, if_false]

/-- A unit whose register stands as the retained table shows it needs no merge (R822). -/
theorem mergeUnit_of_table {c : Chip} (htable : c.svc.table = c.units) (u : UnitId) : mergeUnit u c = c := by
  unfold mergeUnit
  rw [htable]
  split
  next hold hnow => exact absurd (hold.symm.trans hnow) (by decide)
  next hold hnow => exact absurd (hold.symm.trans hnow) (by decide)
  next => rfl

/-- With no unit to merge and no command to answer, the steward runs with its slot once Boroux serves (R837 step 4). -/
theorem borouxServes_up {r : Restart} {c : Chip} (hcmd : r.cmd = none) (htable : c.svc.table = c.units) (i rb : Nat) (own : Bool) (st : Status) :
    let t := borouxServes r i rb own st c
    t.stewDown = false ∧ t.svc.restart = none ∧ (coreOf t 6).run = .running ∧ t.pwr.slot = i := by
  unfold borouxServes
  extract_lets img run loaded svcLoaded up merged shown served t
  have hmerged : merged = up := List.foldl_fixed' (fun u => mergeUnit_of_table (show up.svc.table = up.units from htable) u) allUnits
  have hcore : (up.cores.toList.getD 6 {}).run = .running := by rw [toList_getD_vset _ (by decide), if_pos rfl]
  have ht : t = served := by simp only [t, hcmd]
  have hserved : served.stewDown = up.stewDown ∧ served.svc.restart = up.svc.restart ∧ served.cores = up.cores ∧ served.pwr = up.pwr := by
    simp only [served, shown, hmerged, lintBlock_stewDown, lintBlock_svc, lintBlock_cores, lintBlock_pwr, modSvc, and_self]
  obtain ⟨hdown, hrestart, hcores, hpwr⟩ := hserved
  rw [ht, hdown, hrestart, coreOf, hcores, hpwr]
  exact ⟨rfl, rfl, hcore, rfl⟩

/-- Settles O34: each event comes to its body (`makes_of`, `makesIn_of`), whose branch the clause's condition chooses. -/
theorem resetAndResumeRows : Obligations.ResetAndResumeRows := by
  refine ⟨?powerOn, ?resetN, ?wake, ?testHigh, ?testLow, ?deferredCold, ?deferredOff, coldStart_keeps, ?resume, ?resumeBarred, ?release,
    ?vbatValid, fun _ _ => bootSlots_of_mustRecover, enterRecovery_pwr, ?watchdogAgain, ?watchdog, ?boroux, ?serves⟩
  case powerOn => exact fun v => makesIn_of (fun c => if v.vsys < 1500 then powerOn (measure v c) else c) (fun _ => rfl) fun c hlow => if_pos hlow
  case resetN =>
    refine makesIn_of (fun c => if c.pwr.phase = .off then wakeFromOff .resetN c else resetN c) (fun _ => rfl) fun c ⟨hrun, hbuck⟩ => ?_
    rw [if_neg (by rw [hrun]; decide), resetN_of_run hrun hbuck]
  case wake => exact fun src => makesIn_of (wakeFromOff src) (fun _ => rfl) fun c hwake => if_pos hwake
  case testHigh => exact fun s _ => rfl
  case testLow => exact fun s _ => rfl
  case deferredCold => exact makes_of deferredStart (fun _ => rfl) fun c _ hdef => deferredStart_coldStart hdef
  case deferredOff => exact fun w => makes_of deferredStart (fun _ => rfl) fun c _ hdef => deferredStart_off hdef
  case resume =>
    exact fun o => makesIn_of (resume o) (fun _ => rfl) fun c ⟨hret, hmet, hcause, hwin, htime⟩ => resume_of_window hret hmet hcause hwin htime
  case resumeBarred => exact fun o => makesIn_of (resume o) (fun _ => rfl) fun c ⟨hret, hmet, hcause⟩ => resume_of_barred hret hmet hcause
  case release =>
    intro s ⟨hphase, hlock, hhold, hline, hmode, hscan⟩
    rw [show exec .resumeRelease s = onChip resumeRelease s from rfl, onChip_eq (asleep_resuming hphase),
      resumeRelease_at_frame hphase hlock hhold hline hmode hscan]
  case vbatValid =>
    exact fun o => makesIn_of (vbatValid o) (fun _ => rfl) fun c ⟨hphase, htest, hbuck, hmet⟩ => vbatValid_of_met hphase htest hbuck hmet
  case watchdogAgain => exact makes_of watchdog (fun _ => rfl) fun c hrun ⟨t, hfirst, hsoon⟩ => watchdog_again hrun hfirst hsoon
  case watchdog => exact makes_of watchdog (fun _ => rfl) fun c hrun ⟨hfirst, hconf⟩ => watchdog_first hrun hfirst hconf
  case boroux => exact fun r rb own => makes_of borouxStart (fun _ => rfl) fun c hrun ⟨hres, hgood⟩ => borouxStart_of_good hrun hres hgood
  case serves => exact fun r i rb own c hcmd htable => borouxServes_up hcmd htable i rb own .ok

end Sys2Proof.Machine

/-! The commands that make, stop and account for guests (R142 to R146, R149, R167, R181, R185, R197): what each body makes where its checks
pass, and obligation O13. -/

namespace Sys2Proof.Machine

/-! ### Checks of the PART commands (Table 18.4) -/

/-- Checks that stand behind others are made once those have passed. -/
theorem checked_append (l l' : List (Bool × Reply)) (eff : Chip → Reply × Chip) (c : Chip) :
    checked (l ++ l') eff c = checked l (checked l' eff) c := by
  induction l with
  | nil => rfl
  | cons a l ih =>
    obtain ⟨bad, r⟩ := a
    rw [List.cons_append, checked_cons, checked_cons, ih]

/-- A command that names the present generation makes its first checks, and then those that stand behind the generation. -/
theorem partChecked_of_current {m : Cmd} {c : Chip} (hgen : m.b 9 = (partOf c (m.b 8)).gen) (before after : List (Bool × Reply))
    (eff : Chip → Reply × Chip) : partChecked m before after eff c = checked before (checked after eff) c := by
  rw [partChecked, List.append_assoc, checked_append, List.singleton_append, decide_eq_false (not_not.mpr hgen)]
  rfl

/-- A partition in one of the states that the command asks for passes. -/
theorem checked_badSt_of_mem {c : Chip} {p : Nat} {ok : List PartState} (h : (partOf c p).st ∈ ok) (l : List (Bool × Reply))
    (eff : Chip → Reply × Chip) (d : Chip) : checked (badSt c p ok :: l) eff d = checked l eff d :=
  checked_chk_of_false (by rw [List.contains_iff_mem.mpr h]; rfl) ..

theorem isGuest_of_range {p : Nat} (hlow : 1 ≤ p) (hhigh : p ≤ 6) : isGuest p = true := by simp [isGuest, hlow, hhigh]

/-- DEST 0 is well formed for every origin. -/
theorem destOk_zero (m : Cmd) : destOk m 0 = true := by simp [destOk]

/-! ### The bodies -/

/-- PART.STATUS of a guest that the issuer may ask for, without a copy of the map: the view that [10] asks for, and no change (R142). -/
theorem partStatus_of_allowed {m : Cmd} {c : Chip} (hlow : 1 ≤ statusPid m) (hhigh : statusPid m ≤ 6)
    (hmay : m.org.external = true ∨ m.guest = 0 ∨ statusPid m = m.guest) (hview : m.b 10 ≤ 1) (hzero : m.b 11 = 0) (hdest : m.f 12 4 = 0) :
    partStatus m c = (.res (min 0xFFFF (loadOf c (statusPid m)))
      (if m.b 10 = 0 then (partOf c (statusPid m)).st.code + 2 ^ 8 * (partOf c (statusPid m)).gen + 2 ^ 16 * (partOf c (statusPid m)).share
        + 2 ^ 24 * (partOf c (statusPid m)).credits
      else (partOf c (statusPid m)).budget + 2 ^ 16 * min 0xFFFF (admitCap c)), c) := by
  have hguest : ¬statusPid m = 0 := by omega
  dsimp only [partStatus]
  rw [checked_chk_of_false, checked_chk_of_false, checked_nil]
  · simp only [partFigures, if_neg hguest, if_pos hdest]
  · have hrange : ¬6 < statusPid m ∧ ¬1 < m.b 10 := by omega
    simp [hrange, hzero, hdest, destOk_zero]
  · rcases hmay with h | h | h <;> simp [h, hdest]

/-- PART.CREATE of an empty guest with free cores, within the shares and the ceiling (R143, R167, R181). -/
theorem partCreate_of_free {m : Cmd} {c : Chip} (hguest : isGuest (m.b 8) = true) (hmask : m.b 9 ≤ 63) (hshare : 1 ≤ m.b 10 ∧ m.b 10 ≤ 64)
    (hcredits : 1 ≤ m.b 11 ∧ m.b 11 ≤ 64) (hrights : m.f 12 2 ≤ 127) (hbudget : c.scan.mode.isSome = true → m.f 14 2 ≤ admitCap c)
    (hempty : (partOf c (m.b 8)).st = .empty) (hshares : otherShares c (m.b 8) + m.b 10 ≤ 64) (hceiling : overCeiling c (m.b 8) (m.f 14 2) = false)
    (hcores : ∀ k ∈ coresOf (m.b 9),
      isPegged c 1 k = false ∧ unitState c ⟨1, k⟩ ≠ .retired ∧ ownerOf c .core k = 0 ∧ isSpareCore c k = false) :
    partCreate m c = (.ok,
      let c := modPart (m.b 8) (fun q => { st := .stopped, gen := (q.gen + 1) % 256, map := [(0xFF, MapEntry.ownWindow)],
                                           rights := BitVec.ofNat 7 (m.f 12 2), share := m.b 10, budget := m.f 14 2, credits := m.b 11,
                                           tokens := Vector.replicate 3 (4 * m.b 10) }) c
      let c := resetHamper (m.b 8) (modMbx (m.b 8) (fun _ => {}) c)
      (coresOf (m.b 9)).foldl (fun c k => setOwner .core k (m.b 8) c)
        { c with snd := { c.snd with parts := vset c.snd.parts (m.b 8) {} }, diag := vset c.diag (m.b 8) {} }) := by
  have hcap : (c.scan.mode.isSome && decide (admitCap c < m.f 14 2)) = false := by
    cases hmode : c.scan.mode.isSome with
    | false => rfl
    | true => simpa using hbudget hmode
  have hpeg : ((coresOf (m.b 9)).any fun k => isPegged c 1 k) = false := by
    simp only [List.any_eq_false]
    intro k hk
    obtain ⟨hpeg, _⟩ := hcores k hk
    exact Bool.eq_false_iff.mp hpeg
  have hretired : ((coresOf (m.b 9)).any fun k => unitState c ⟨1, k⟩ == .retired) = false := by
    simp only [List.any_eq_false, beq_iff_eq]
    intro k hk
    obtain ⟨_, hretired, _⟩ := hcores k hk
    exact hretired
  have hused : ((coresOf (m.b 9)).any fun k => ownerOf c .core k != 0 || isSpareCore c k) = false := by
    simp only [List.any_eq_false]
    intro k hk
    obtain ⟨_, _, hown, hspare⟩ := hcores k hk
    simp [hown, hspare]
  dsimp only [partCreate]
  rw [checked_chk_of_false, checked_chk_of_false hpeg, checked_chk_of_false, checked_chk_of_false hused, checked_chk_of_false, checked_nil]
  · simp [hceiling, hshares]
  · rw [hempty, hretired]
    rfl
  · rw [hguest, hcap]
    simp only [Bool.not_true, Bool.false_or, Bool.or_false, Bool.or_eq_false_iff, decide_eq_false_iff_not]
    omega

/-- PART.START of a stopped guest at an entry in its space. -/
theorem partStart_of_stopped {m : Cmd} {c : Chip} (hguest : isGuest (m.b 8) = true) (hzero : m.z 10 2 = true) (hentry : m.f 12 4 < 2 ^ 24)
    (hgen : m.b 9 = (partOf c (m.b 8)).gen) (hst : (partOf c (m.b 8)).st = .stopped) :
    partStart m c = (.ok, startPart (m.b 8) (m.f 12 4) c) := by
  dsimp only [partStart]
  rw [partChecked_of_current hgen, checked_chk_of_false, checked_nil, checked_badSt_of_mem (by simp [hst]), checked_nil]
  rw [hguest, hzero, decide_eq_false (Nat.not_le.mpr hentry)]
  rfl

/-- PART.STOP of a running guest: its cores stop where they are (R146). -/
theorem partStop_of_running {m : Cmd} {c : Chip} (hguest : isGuest (m.b 8) = true) (hgen : m.b 9 = (partOf c (m.b 8)).gen)
    (hst : (partOf c (m.b 8)).st = .running) :
    partStop m c = (.ok, modPart (m.b 8) (fun q => { q with st := .stopped })
      ((ownedUnits c (m.b 8) .core).foldl (fun c k => modCore k (fun x => if x.run = .running then { x with run := .stopped } else x) c) c)) := by
  dsimp only [partStop]
  rw [partChecked_of_current hgen, checked_chk_of_false (by rw [hguest]; rfl), checked_nil, checked_badSt_of_mem (by simp [hst]), checked_nil]

/-- PART.QUOTA within the shares and the ceiling: the new values, and marks where the load is above the budget (R167, R181). -/
theorem partQuota_of_room {m : Cmd} {c : Chip} (hguest : isGuest (m.b 8) = true) (hshare : 1 ≤ m.b 10 ∧ m.b 10 ≤ 64)
    (hcredits : 1 ≤ m.b 11 ∧ m.b 11 ≤ 64) (hgen : m.b 9 = (partOf c (m.b 8)).gen)
    (hst : (partOf c (m.b 8)).st = .stopped ∨ (partOf c (m.b 8)).st = .running) (hshares : otherShares c (m.b 8) + m.b 10 ≤ 64)
    (hceiling : overCeiling c (m.b 8) (m.f 12 2) = false) :
    partQuota m c = (.ok, markOver (m.b 8) (modPart (m.b 8) (fun q => { q with
      share := m.b 10, credits := m.b 11, budget := m.f 12 2, tokens := q.tokens.map fun t => min t (4 * m.b 10) }) c)) := by
  dsimp only [partQuota]
  rw [partChecked_of_current hgen, checked_chk_of_false, checked_nil, checked_badSt_of_mem (by simpa using hst), checked_chk_of_false, checked_nil]
  · simp [hceiling, hshares]
  · rw [hguest]
    simp only [Bool.not_true, Bool.false_or, Bool.or_eq_false_iff, decide_eq_false_iff_not]
    omega

/-- The job that PART.RESET m leaves to its guest (R185). -/
def resetJobOf (m : Cmd) (c : Chip) (self : Bool) : ResetJob :=
  { handle := if self then none else m.waitHandle, issuer := m.org.lintCode, since := c.clk.qtime, scrub := bit (m.b 10) 0,
    restart := bit (m.b 10) 1, selfDelay := self }

/-- PART.RESET by an issuer that may: a guest's own completes and waits 1 ms, another issuer's begins at once (R185). -/
theorem partReset_of_allowed {m : Cmd} {c : Chip} {self : Bool} (hself : (m.org == .part (m.b 8)) = self)
    (hmay : self = true ∨ m.org.external = true ∨ m.guest = 0) (hguest : isGuest (m.b 8) = true) (hflags : m.b 10 ≤ 3)
    (hgen : m.b 9 = (partOf c (m.b 8)).gen) (hst : (partOf c (m.b 8)).st = .stopped ∨ (partOf c (m.b 8)).st = .running) :
    partReset m c =
      let d := modPart (m.b 8) (fun q => { q with st := .resetting, reset := some (resetJobOf m c self) }) c
      if self then (.ok, d) else (.wait, loseFocus (m.b 8) (teardown (m.b 8) d)) := by
  dsimp only [partReset]
  rw [partChecked_of_current hgen, checked_chk_of_false, checked_chk_of_false, checked_nil, checked_badSt_of_mem (by simpa using hst), checked_nil,
    hself]
  · rfl
  · simp [hguest, hflags]
  · rw [hself]
    rcases hmay with h | h | h <;> simp [h]

/-- PART.FOCUS to P0, or to a guest that runs or is stopped, waits for the frame start (R197). -/
theorem partFocus_of_present {m : Cmd} {c : Chip} (hpid : m.b 8 ≤ 6)
    (hst : m.b 8 = 0 ∨ (partOf c (m.b 8)).st = .running ∨ (partOf c (m.b 8)).st = .stopped) :
    partFocus m c = (.wait, { c with focusPending := c.focusPending ++ [(m.waitHandle, m.b 8)] }) := by
  dsimp only [partFocus]
  rw [checked_chk_of_false (decide_eq_false (Nat.not_lt.mpr hpid)), checked_chk_of_false, checked_nil]
  rcases hst with h | h | h
  · rw [h]
    rfl
  all_goals simp [h]

/-- Settles O13: a row that runs answers its body (`answers_of`), and each body, where its clause's condition holds, passes its checks and
makes its one effect. -/
theorem partitionCommands : Obligations.PartitionCommands := by
  refine ⟨?status, ?budget, ?create, ?start, ?stop, ?quota, ?resetSelf, ?reset, ?focus⟩
  case status =>
    refine answers_of partStatus (fun _ _ => rfl) fun c m _ ⟨hlow, hhigh, hmay, hview, hzero, hdest⟩ => ?_
    rw [partStatus_of_allowed hlow hhigh hmay (by omega) hzero hdest, if_pos hview]
  case budget =>
    refine answers_of partStatus (fun _ _ => rfl) fun c m _ ⟨hlow, hhigh, hmay, hview, hzero, hdest⟩ => ?_
    rw [partStatus_of_allowed hlow hhigh hmay (by omega) hzero hdest, if_neg (by omega)]
  case create =>
    exact answers_of partCreate (fun _ _ => rfl) fun c m _
      ⟨hlow, hhigh, hmask, hshare, hshare', hcredits, hcredits', hrights, hbudget, hempty, hshares, hceiling, hcores⟩ =>
      partCreate_of_free (isGuest_of_range hlow hhigh) hmask ⟨hshare, hshare'⟩ ⟨hcredits, hcredits'⟩ hrights hbudget hempty hshares hceiling
        hcores
  case start =>
    exact answers_of partStart (fun _ _ => rfl) fun c m _ ⟨hlow, hhigh, hzero, hentry, hgen, hst⟩ =>
      partStart_of_stopped (isGuest_of_range hlow hhigh) hzero hentry hgen hst
  case stop =>
    exact answers_of partStop (fun _ _ => rfl) fun c m _ ⟨hlow, hhigh, hgen, hst⟩ => partStop_of_running (isGuest_of_range hlow hhigh) hgen hst
  case quota =>
    exact answers_of partQuota (fun _ _ => rfl) fun c m _ ⟨hlow, hhigh, hshare, hshare', hcredits, hcredits', hgen, hst, hshares, hceiling⟩ =>
      partQuota_of_room (isGuest_of_range hlow hhigh) ⟨hshare, hshare'⟩ ⟨hcredits, hcredits'⟩ hgen hst hshares hceiling
  case resetSelf =>
    refine answers_of partReset (fun _ _ => rfl) fun c m _ ⟨hlow, hhigh, horg, hflags, hgen, hst⟩ => ?_
    rw [partReset_of_allowed (beq_iff_eq.mpr horg) (.inl rfl) (isGuest_of_range hlow hhigh) hflags hgen (.inr hst), resetJobOf, horg]
    rfl
  case reset =>
    refine answers_of partReset (fun _ _ => rfl) fun c m _ ⟨hlow, hhigh, horg, hmay, hflags, hgen, hst⟩ => ?_
    exact partReset_of_allowed (beq_eq_false_iff_ne.mpr horg) (.inr hmay) (isGuest_of_range hlow hhigh) hflags hgen hst.symm
  case focus => exact answers_of partFocus (fun _ _ => rfl) fun c m _ ⟨hpid, hst⟩ => partFocus_of_present hpid hst

end Sys2Proof.Machine

/-! The events of partitions (R179, R183, R185 to R191): what each body makes of the chip, and obligation O15. -/

namespace Sys2Proof.Machine

/-! ### Partition resets (R185 to R191) -/

/-- 1 ms after a guest's reset of itself was accepted, its steps begin (R185). -/
theorem selfResetDelay_of_waiting {p : Nat} {j : ResetJob} {c : Chip} (hjob : (partOf c p).reset = some j) (hself : j.selfDelay = true) :
    selfResetDelay p c =
      loseFocus p (teardown p (modPart p (fun q => { q with reset := some { j with selfDelay := false } }) (atTime (j.since + 24000) c))) := by
  simp only [selfResetDelay, hjob, hself, if_true]

/-- A reset whose steps have begun ends when its last one is done. -/
theorem partitionResetComplete_of_begun {p : Nat} {j : ResetJob} {c : Chip} (hrun : awake c) (hjob : (partOf c p).reset = some j)
    (hbegun : j.selfDelay = false) : partitionResetComplete p c = resetEnds p j c := by
  have hphase : c.pwr.phase = .run := hrun
  simp only [partitionResetComplete, hjob, hbegun, hphase, bne_self_eq_false, Bool.or_self, Bool.false_eq_true, if_false]

/-- A reset that does not restart its guest leaves it stopped, with the next generation and its windows in reset state (R189). -/
theorem resetEnds_of_stopping {j : ResetJob} (hstop : j.restart = false) (p : Nat) (c : Chip) :
    resetEnds p j c =
      let d := resetSoundOf p (resetLayersOf p (if j.scrub then (scrubFrames c p).foldl (fun c f => scrubFrame f c) c else c))
      finish j.handle .ok (b2n j.pegged) 0 (lintBlock 0x0301 j.issuer (p + 256 * b2n j.scrub)
        (modPart p (fun q => { q with st := .stopped, gen := (q.gen + 1) % 256, hasRun := false, reset := none, det := 0, vote := false,
                                      lineMatch := 0xFFFF })
          { d with diag := vset d.diag p {} })) := by
  simp only [resetEnds, hstop, Bool.false_eq_true, if_false]

/-- A unit of the partition that has not stopped 6 ms after the reset was accepted is pegged (R187, R188). -/
theorem resetOverrun_of_running {p n : Nat} {j : ResetJob} {k : UnitKind} {c : Chip} (hjob : (partOf c p).reset = some j)
    (hbegun : j.selfDelay = false) (hkind : kindOfReg (unitOfCode n).kind = some k) (hunit : (unitReg? c (unitOfCode n)).isSome)
    (howner : ownerOf c k (unitOfCode n).index = p) (hpeg : isPegged c (unitOfCode n).kind (unitOfCode n).index = false) :
    resetOverrun p n c = lint 0x0305 n p 0 (pegAny (unitOfCode n) (modPart p (fun q => { q with reset := some { j with pegged := true } })
      (atTime (j.since + 144000 + 1) c))) := by
  have hthere : (unitReg? c (unitOfCode n)).isNone = false := Option.isNone_eq_false_iff.mpr hunit
  simp only [resetOverrun, hjob, hkind, hbegun, hthere, howner, hpeg, bne_self_eq_false, Bool.or_self, Bool.false_eq_true, if_false]

/-! ### Ramps and stalls -/

/-- A unit whose ramp of 5 ms is over returns to P0, and with the last one of its release the command completes (R183). -/
theorem rampEnd_of_found {n : Nat} {o : OwnRamp} {c : Chip}
    (hramp : (c.ownRamp.find? fun o => o.kind.reg == some (n / 256) && o.index == n % 256) = some o) :
    rampEnd n c =
      let t := setOwner o.kind o.index 0 { atTime (o.since + 120000) c with ownRamp := delFirst (· == o) c.ownRamp }
      if o.last then finish o.handle .ok 0 0 t else t := by
  simp only [rampEnd, hramp]

/-- A request of a guest that exists has stalled (R179). -/
theorem guestStall_of_guest {p : Nat} {c : Chip} (hguest : isGuest p = true) (hst : (partOf c p).st ≠ .empty) (target : Nat) :
    guestStall p target c = lintBlock 0x0304 p target c := by
  simp only [guestStall, hguest, bne_iff_ne.mpr hst, Bool.and_self, if_true]

/-- A time that is past changes nothing. -/
theorem atTime_of_past {t : Nat} {c : Chip} (h : t < c.clk.qtime) : atTime t c = c := if_neg (Nat.lt_asymm h)

/-- A time to come is awaited. -/
theorem atTime_of_future {t : Nat} {c : Chip} (h : c.clk.qtime < t) : atTime t c = advanceTime (t - c.clk.qtime) c := if_pos h

/-- Settles O15: each event comes to its body (`makes_of`), and a clause's condition chooses the branch of that body. -/
theorem partitionRows : Obligations.PartitionRows := by
  refine ⟨?selfReset, ?resetComplete, ?resetEnds, ?overrun, ?rampEnd, ?stall, fun _ => ⟨fun _ => atTime_of_past, fun _ => atTime_of_future⟩⟩
  case selfReset => exact fun p j => makes_of (selfResetDelay p.val) (fun _ => rfl) fun c _ ⟨hjob, hself⟩ => selfResetDelay_of_waiting hjob hself
  case resetComplete =>
    exact fun p j => makes_of (partitionResetComplete p.val) (fun _ => rfl) fun c hrun ⟨hjob, hbegun⟩ =>
      partitionResetComplete_of_begun hrun hjob hbegun
  case resetEnds => exact fun p j c hstop => resetEnds_of_stopping hstop p.val c
  case overrun =>
    exact fun p n j k => makes_of (resetOverrun p.val n.toNat) (fun _ => rfl) fun c _ ⟨hjob, hbegun, hkind, hunit, howner, hpeg⟩ =>
      resetOverrun_of_running hjob hbegun hkind hunit howner hpeg
  case rampEnd => exact fun n o => makes_of (rampEnd n.toNat) (fun _ => rfl) fun c _ hramp => rampEnd_of_found hramp
  case stall =>
    exact fun p t => makes_of (guestStall p.val t.val) (fun _ => rfl) fun c _ ⟨hlow, hst⟩ =>
      guestStall_of_guest (isGuest_of_range hlow (Nat.le_of_lt_succ p.isLt)) hst t.val

end Sys2Proof.Machine

/-! Requests at the targets, merge buffers, darning and the Rinse (R156, R165 to R171, R427, R456 to R463, R818): what each event and each write
of DARN_CTRL makes of the chip, and obligation O20. -/

namespace Sys2Proof.Machine

/-! ### Requests (R156, R165 to R171, R818) -/

/-- A request of 1 to 64 bytes is made while the chip runs. -/
theorem memRequest_made {c : Chip} {n : Nat} (hrun : awake c) (hpos : n ≠ 0) (hlen : n ≤ 64) : ¬(c.pwr.phase ≠ .run ∨ n = 0 ∨ 64 < n) := by
  simp only [show c.pwr.phase = .run from hrun, ne_eq, not_true_eq_false, false_or]
  omega

/-- A read that ADMIT and the map allow: the Rinse's grant where it is due, this grant, and the bytes. -/
theorem memRequest_read {c : Chip} {u : UnitId} {a n p : Nat} {cls : BusClass} (hrun : awake c) (hpos : n ≠ 0) (hlen : n ≤ 64)
    (hreq : requester c u = some (p, cls, true)) (hmap : kRangeOk c p .r a n = true) :
    memRequest u a n none c =
      let d := countGrant (targetOf (kPhys c p a)) (rinseFloor cls (targetOf (kPhys c p a)) c)
      let r := if cls = .guest then readK p a n d else readKFree p a n d
      { r.2 with memReply := { bytes := r.1 } } := by
  simp only [memRequest, if_neg (memRequest_made hrun hpos hlen), hreq, hmap, Option.isSome_none, Bool.not_true, Bool.false_eq_true, if_false]
  rfl

/-- A guest's write of less than a line that ADMIT and the map allow goes through the merge buffer. -/
theorem memRequest_write {c : Chip} {u : UnitId} {a p : Nat} {bs : List Byte} (hrun : awake c) (hpos : bs ≠ []) (hlen : bs.length < 64)
    (hreq : requester c u = some (p, .guest, true)) (hmap : kRangeOk c p .w a bs.length = true) :
    memRequest u a bs.length (some bs) c =
      { writeK p a (clean bs) (countGrant (targetOf (kPhys c p a)) (rinseFloor .guest (targetOf (kPhys c p a)) c)) with
        memReply := { bytes := [] } } := by
  have hmade := memRequest_made hrun (mt List.eq_nil_of_length_eq_zero hpos) (Nat.le_of_lt hlen)
  have hpart : ¬(a % 64 = 0 ∧ bs.length = 64) := by omega
  have hclean : (clean bs).length = bs.length := List.length_map _
  simp only [memRequest, if_neg hmade, hreq, hmap, if_neg hpart, Option.isSome_some, Bool.not_true, Bool.false_eq_true, if_false, if_true, writeK,
    hclean, replyRead]

/-- A request of a unit without ADMIT is refused, and the fabric pegs the unit (R818). -/
theorem memRequest_refused {c : Chip} {u : UnitId} {a n p : Nat} {cls : BusClass} (hrun : awake c) (hpos : n ≠ 0) (hlen : n ≤ 64)
    (hreq : requester c u = some (p, cls, false)) (data : Option (List Byte)) :
    memRequest u a n data c = { fabricPeg u a c with memReply := { refused := true } } := by
  simp only [memRequest, if_neg (memRequest_made hrun hpos hlen), hreq, Bool.not_false, if_true]

/-- The entry of a line leaves the merge buffer as it is written out (R427). -/
theorem evictLine_of_found {r : Region} {line : Nat} {e : MergeEntry} {c : Chip} (hfound : (c.mem.buf r).find? (·.line == line) = some e) :
    evictLine r line c = evictEntry r e (setBuf r (delFirst (·.line == line) (c.mem.buf r)) c) := by
  simp only [evictLine, hfound]

/-! ### The Rinse (R456 to R459) -/

/-- The eight words of a line are read with correction, which leaves the clocks alone. -/
theorem rinseSramLine_base (line : Nat) (c : Chip) : (rinseSramLine line c).base = c.base := by
  unfold rinseSramLine
  split
  · exact foldl_keeps (g := Chip.base) (fun c i => readSram_base ..) ..
  · exact foldl_keeps (g := Chip.base) (fun c i => readStew_base ..) ..

/-- While the Rinse is on and the chip runs, a visit is made. -/
theorem rinseVisit_made {c : Chip} (hrun : awake c) (hon : c.mem.rinseOn = true) : (!c.mem.rinseOn || c.pwr.phase != .run) = false := by
  rw [hon, show c.pwr.phase = .run from hrun]
  rfl

/-- A visit to a line of SRAM. -/
theorem rinseVisit_sram {c : Chip} (hrun : awake c) (hon : c.mem.rinseOn = true) :
    rinseVisit .sram c =
      modMem (fun m => { m with rinseS := m.rinseS.advance 73728 c.clk.qtime, sinceRinse := vset m.sinceRinse 0 0 })
        (rinseSramLine c.mem.rinseS.pos c) := by
  obtain ⟨_, hclk⟩ := beam_clk_of_base (rinseSramLine_base c.mem.rinseS.pos c)
  simp only [rinseVisit, rinseVisit_made hrun hon, hclk, Bool.false_eq_true, if_false]

/-- The first visit to a line of external memory writes its zeroes and reads nothing (R457). -/
theorem rinseVisit_xmem_first {c : Chip} (hrun : awake c) (hon : c.mem.rinseOn = true) (hfit : c.mem.xmem ≠ .none)
    (hfirst : c.mem.zeroPtr ≤ c.mem.rinseX.pos) :
    rinseVisit .xmem c = modMem (fun m =>
      { m with zeroPtr := c.mem.rinseX.pos + 1, rinseX := m.rinseX.advance m.xLines c.clk.qtime, sinceRinse := vset m.sinceRinse 1 0 }) c := by
  simp only [rinseVisit, rinseVisit_made hrun hon, if_neg hfit, if_pos hfirst, Bool.false_eq_true, if_false]
  rfl

/-- A visit to a good page of a mounted cartridge. -/
theorem rinseVisit_cart_good {c : Chip} (hrun : awake c) (hon : c.mem.rinseOn = true) (hcart : c.mem.cart = .mounted)
    (hpeg : isPegged c 0x0B 1 = false) (hgood : cartPageGood c.mem c.mem.rinsePage = true) :
    rinseVisit .cart c = modMem (fun m =>
      { m with rinsePage := if m.rinsePage + 1 < m.cartHdr.pages then m.rinsePage + 1 else 0, sinceRinse := vset m.sinceRinse 2 0 }) c := by
  simp only [rinseVisit, rinseVisit_made hrun hon, hcart, hpeg, hgood, ne_eq, not_true_eq_false, Bool.false_eq_true, or_self, if_false, if_true]
  rfl

/-- A pass over SRAM that has taken more than twice its period is logged once (R458). -/
theorem rinseLate_sram {c : Chip} (hon : c.mem.rinseOn = true) (hlate : c.mem.rinseS.late = false) :
    rinseLate .sram c = lintBlock 0x080D 0xFF 0 (modMem (fun m => { m with rinseS := { m.rinseS with late := true } })
      (atTime (c.mem.rinseS.passStart + 2 * c.mem.rinseSram * 24000000 + 1) c)) := by
  simp only [rinseLate, hon, hlate, Bool.not_true, Bool.or_self, Bool.false_eq_true, if_false]

/-! ### Darning (R460 to R463) -/

/-- The value of DARN_CTRL that asks for an operation (Table 08.11). -/
def DarnOp.code : DarnOp → Nat
  | .readRaw => 1
  | .writeRaw => 2
  | .writeCheck => 3

/-- DARN_CTRL stands in page 11, and its value names the operation. -/
theorem winWrite_darn {k p : Nat} {c : Chip} (hopen : winOpen c p 0xB012 = true) (op : DarnOp) :
    winWrite k p 0xB012 op.code c = darn p op c := by
  rw [winWrite_diag hopen (by decide)]
  cases op <;> rfl

/-- An operation that R462 refuses says so and does nothing. -/
theorem darn_of_refused {p : Nat} {op : DarnOp} {c : Chip} (h : darnRefused c p op = true) :
    darn p op c = modDiag p (fun d => { d with refused := true }) c := if_pos h

/-- The chip as a darning operation of partition p on user SRAM finds it: the word's merge buffer entry is written out (R461). -/
def darnReady (p : Nat) (c : Chip) : Chip :=
  modDiag p (fun d => { d with refused := false }) (evictLine .sram (kPhys c p (diagOf c p).addr / 8 * 8 / 64) c)

/-- READ_RAW of a word of user SRAM. -/
theorem darn_readRaw_sram {p : Nat} {c : Chip} (hok : darnRefused c p .readRaw = false)
    (hsram : c.mem.region (kPhys c p (diagOf c p).addr / 8 * 8) = .sram) :
    darn p .readRaw c = readRawSram p (kPhys c p (diagOf c p).addr / 8 * 8) (darnReady p c) := by
  simp only [darn, hok, hsram, Bool.false_eq_true, if_false, if_true, darnReady]

/-- WRITE_RAW of a word of user SRAM. -/
theorem darn_writeRaw_sram {p : Nat} {c : Chip} (hok : darnRefused c p .writeRaw = false)
    (hsram : c.mem.region (kPhys c p (diagOf c p).addr / 8 * 8) = .sram) :
    darn p .writeRaw c = modMem (Mem.setRaw (kPhys c p (diagOf c p).addr / 8 * 8) (leBytes 8 (diagOf (darnReady p c) p).data)
      ((diagOf (darnReady p c) p).chk0 % 256)) (darnReady p c) := by
  simp only [darn, hok, hsram, Bool.false_eq_true, if_false, if_true, darnReady]

/-- WRITE_CHECK of a word of user SRAM keeps its data. -/
theorem darn_writeCheck_sram {p : Nat} {c : Chip} (hok : darnRefused c p .writeCheck = false)
    (hsram : c.mem.region (kPhys c p (diagOf c p).addr / 8 * 8) = .sram) :
    darn p .writeCheck c = modMem (Mem.setRaw (kPhys c p (diagOf c p).addr / 8 * 8)
      ((darnReady p c).mem.bytes (kPhys c p (diagOf c p).addr / 8 * 8) 8) ((diagOf (darnReady p c) p).chk0 % 256)) (darnReady p c) := by
  simp only [darn, hok, hsram, Bool.false_eq_true, if_false, if_true, darnReady]

/-- Settles O20: each event comes to its body (`makes_of`) and each write of DARN_CTRL to its operation (`writes_of`, `winWrite_darn`), and a
clause's condition chooses the branch. -/
theorem memoryRequestRows : Obligations.MemoryRequestRows := by
  refine ⟨?read, ?write, ?refused, ?evictSram, ?evictXmem, ?rinseSram, ?rinseXmem, ?rinseCart, ?rinseLate, ?darnRefused, ?readRaw, ?writeRaw,
    ?writeCheck⟩
  case read =>
    exact fun u a n p cls => makes_of (memRequest (unitOfCode u.toNat) a.toNat n.val none) (fun _ => rfl) fun c hrun ⟨hpos, hreq, hmap⟩ =>
      memRequest_read hrun hpos (Nat.le_of_lt_succ n.isLt) hreq hmap
  case write =>
    exact fun u a bs p => makes_of (memRequest (unitOfCode u.toNat) a.toNat bs.length (some bs)) (fun _ => rfl)
      fun c hrun ⟨hpos, hlen, hreq, hmap⟩ => memRequest_write hrun hpos hlen hreq hmap
  case refused =>
    exact fun u a n p cls => makes_of (memRequest (unitOfCode u.toNat) a.toNat n.val none) (fun _ => rfl) fun c hrun ⟨hpos, hreq⟩ =>
      memRequest_refused hrun hpos (Nat.le_of_lt_succ n.isLt) hreq none
  case evictSram => exact fun line e => makes_of (evictLine .sram line.toNat) (fun _ => rfl) fun c _ hfound => evictLine_of_found hfound
  case evictXmem => exact fun line e => makes_of (evictLine .xmem line.toNat) (fun _ => rfl) fun c _ hfound => evictLine_of_found hfound
  case rinseSram => exact makes_of (rinseVisit .sram) (fun _ => rfl) fun c hrun hon => rinseVisit_sram hrun hon
  case rinseXmem =>
    exact makes_of (rinseVisit .xmem) (fun _ => rfl) fun c hrun ⟨hon, hfit, hfirst⟩ => rinseVisit_xmem_first hrun hon hfit hfirst
  case rinseCart =>
    exact makes_of (rinseVisit .cart) (fun _ => rfl) fun c hrun ⟨hon, hcart, hpeg, hgood⟩ => rinseVisit_cart_good hrun hon hcart hpeg hgood
  case rinseLate => exact makes_of (rinseLate .sram) (fun _ => rfl) fun c _ ⟨hon, hlate⟩ => rinseLate_sram hon hlate
  case darnRefused =>
    exact fun k => writes_of (by decide) (by decide) (fun _ => rfl) fun c hopen href =>
      (winWrite_darn hopen .readRaw).trans (darn_of_refused href)
  case readRaw =>
    exact fun k => writes_of (by decide) (by decide) (fun _ => rfl) fun c hopen ⟨hok, hsram⟩ =>
      (winWrite_darn hopen .readRaw).trans (darn_readRaw_sram hok hsram)
  case writeRaw =>
    exact fun k => writes_of (by decide) (by decide) (fun _ => rfl) fun c hopen ⟨hok, hsram⟩ =>
      (winWrite_darn hopen .writeRaw).trans (darn_writeRaw_sram hok hsram)
  case writeCheck =>
    exact fun k => writes_of (by decide) (by decide) (fun _ => rfl) fun c hopen ⟨hok, hsram⟩ =>
      (winWrite_darn hopen .writeCheck).trans (darn_writeCheck_sram hok hsram)

end Sys2Proof.Machine

/-! The commands of layers, stitches and composition (R164, R183, R513, R520, R543, R549, R554, R555, R580, R584 to R586): what each body makes
where its checks pass, and obligation O23. -/

namespace Sys2Proof.Machine

/-! ### A row and the opcode of its command -/

/-- The command that a row takes has the row's opcode. -/
theorem takeReq_op {r : Req} {op : Nat} {c : Chip} {m : Cmd} (h : takeReq r op c = some m) : m.op = op := by
  cases r with
  | own ps =>
    simp only [takeReq, Option.ite_none_left_eq_some, Option.ite_none_right_eq_some, Option.some.injEq] at h
    obtain ⟨_, _, rfl⟩ := h
    rfl
  | accepted n =>
    cases hfind : findCmd c n with
    | none => simp [takeReq, hfind] at h
    | some x =>
      simp only [takeReq, hfind, Option.ite_none_left_eq_some, Option.ite_none_right_eq_some, Option.some.injEq, Bool.and_eq_true,
        beq_iff_eq] at h
      obtain ⟨_, ⟨⟨hop, _⟩, _⟩, rfl⟩ := h
      exact hop

/-- A mailbox row whose body asks for the opcode of its command. -/
theorem answersOp_of {op : Nat} {i : Req → Instr} {pre : Chip → Cmd → Prop} {rep : Chip → Cmd → Reply} {eff : Chip → Cmd → Chip}
    (body : Cmd → Chip → Reply × Chip) (h : ∀ r s, exec (i r) s = onChip (serve op r body) s)
    (hb : ∀ c m, m.op = op → pre c m → body m c = (rep c m, eff c m)) : Answers op i pre rep eff := by
  intro s r m hr hp
  have ⟨_, htake, _⟩ := hr
  exact answers_of (pre := fun c m => m.op = op ∧ pre c m) body h (fun c m _ ⟨hop, hp⟩ => hb c m hop hp) s r m hr ⟨takeReq_op htake, hp⟩

/-! ### Layers and the sprite group (R520, R543, R554, R555) -/

/-- An enable that admission does not refuse, or no enable at all, is not OVER_BUDGET. -/
theorem overBudget_eq_false {en : Bool} {a : Admit} (h : en = true → a ≠ .refused) : (en && a == .refused) = false := by
  cases en with
  | false => rfl
  | true => exact beq_eq_false_iff_ne.mpr (h rfl)

/-- LYR.STATUS of a layer that is not pegged. -/
theorem lyrStatus_layer {m : Cmd} {c : Chip} {hw : Nat} (hunit : lunitOf c m.part (m.b 8) = some (.layer hw)) (hpeg : isPegged c 6 hw = false) :
    lyrStatus m c =
      (.res (bitsToNat [(layerOf c hw).r.en, essEff (layerOf c hw).r.ess (lunitMarks c m.part (.layer hw)),
          (lunitMarks c m.part (.layer hw)).overbooked, (lunitMarks c m.part (.layer hw)).shed] + 16 * (kindOf hw).code + 256 * hw)
        (min 65535 (layerCost c hw (layerOf c hw).r) + 65536 * min 65535 (loadOf c m.part)), c) := by
  simp only [lyrStatus, hunit, lunitPegged, hpeg, Bool.false_eq_true, if_false]

/-- LYR.SETUP with a valid image that leaves the layer disabled asks for no admission. -/
theorem lyrSetup_of_valid {m : Cmd} {c d : Chip} {hw : Nat} {img : List PByte} (hmap : kRangeOk c m.part .r (m.f 12 4) 64 = true)
    (hsrc : m.f 12 4 < 2 ^ 24) (hread : readKFree m.part (m.f 12 4) 64 c = (img, d)) (hlocal : m.b 8 < 8)
    (hlayer : layerOfLocal (afterChanges c) m.part (m.b 8) = some hw) (hpoison : anyPoison img = false) (hzero : m.z 9 3 = true)
    (hvalid : (setupRegs (plain img)).all (fun w => blockValid (kindOf hw) w.1 w.2) = true) (hpeg : isPegged (afterChanges c) 6 hw = false)
    (hoff : ((setupRegs (plain img)).foldl (fun r w => r.write (kindOf hw) w.1 w.2) (layerOf (afterChanges c) hw).r).en = false) :
    lyrSetup m c = (.wait, enqueueChange m true (.setup hw (setupRegs (plain img))) d) := by
  have hbad : (!m.z 9 3 || decide (2 ^ 24 ≤ m.f 12 4) || !(setupRegs (plain img)).all fun w => blockValid (kindOf hw) w.1 w.2) = false := by
    rw [hzero, hvalid, decide_eq_false (Nat.not_le.mpr hsrc)]
    rfl
  simp only [lyrSetup, Nat.mod_eq_of_lt hsrc, hmap, hread, hlocal, hlayer, checked_chk_of_false hpoison, checked_chk_of_false hbad,
    checked_chk_of_false hpeg, checked_nil, hoff, Bool.false_and, Bool.not_true, Bool.false_eq_true, if_false, if_true]

/-- LYR.ENABLE of a layer whose enable, if it is one, admission does not refuse. -/
theorem lyrEnable_layer {m : Cmd} {c : Chip} {hw : Nat} (hlist : m.b 8 ≠ 0x81)
    (hunit : lunitOf (afterChanges c) m.part (m.b 8) = some (.layer hw)) (hbit7 : bit (m.b 9) 7 = false) (hbit3 : bit (m.b 9) 3 = false)
    (hpeg : isPegged (afterChanges c) 6 hw = false)
    (hadmit : bit (m.b 9) 0 = true → admission (afterChanges c) m.part
      (loadOf (modLayer hw (fun l => { l with r := { l.r with en := false } }) (afterChanges c)) m.part)
      (layerCost (afterChanges c) hw (layerOf (afterChanges c) hw).r) false ≠ .refused) :
    lyrEnable m c = (.wait, enqueueChange m true (.enable hw (m.b 9)) c) := by
  have hctrl : (bit (m.b 9) 7 || bit (m.b 9) 3) = false := by rw [hbit7, hbit3]; rfl
  simp only [lyrEnable, if_neg hlist, hunit, checked_chk_of_false hctrl, lunitPegged, checked_chk_of_false hpeg, checked_nil,
    overBudget_eq_false hadmit, Bool.false_eq_true, if_false]

/-- LYR.PALETTE with entries that are read whole and that the partition's banks hold (R513). -/
theorem lyrPalette_of_read {m : Cmd} {c : Chip} (hcount : 1 ≤ m.f 10 2 ∧ m.f 10 2 ≤ 1024) (hsrc : m.f 12 4 < 2 ^ 24)
    (hmap : kRangeOk c m.part .r (m.f 12 4) (4 * m.f 10 2) = true)
    (hpoison : anyPoison (readKFree m.part (m.f 12 4) (4 * m.f 10 2) c).1 = false)
    (hbanks : m.f 8 2 + m.f 10 2 ≤ 64 * (palBanks (afterChanges c).lyr m.part).length) :
    lyrPalette m c = (.wait, enqueueChange m true (.palette m.part (m.f 8 2)
      ((List.range (m.f 10 2)).map fun i => pfield (plain (readKFree m.part (m.f 12 4) (4 * m.f 10 2) c).1) (4 * i) 4))
      (readKFree m.part (m.f 12 4) (4 * m.f 10 2) c).2) := by
  obtain ⟨hone, hmax⟩ := hcount
  have hrange : (false || decide (2 ^ 24 ≤ m.f 12 4) || decide (64 * (palBanks (afterChanges c).lyr m.part).length < m.f 8 2 + m.f 10 2)) = false := by
    rw [decide_eq_false (Nat.not_le.mpr hsrc), decide_eq_false (Nat.not_lt.mpr hbanks)]
    rfl
  simp only [lyrPalette, decide_eq_true hone, decide_eq_true hmax, Nat.mod_eq_of_lt hsrc, hmap, checked_chk_of_false hpoison, Bool.and_self,
    checked_chk_of_false hrange, checked_nil, Bool.true_and, Bool.not_true, Bool.false_eq_true, if_false, if_true]

/-- LYR.GRANT of banks that are free or the guest's own, with a QUOTA that does not grow (R164, R183). -/
theorem lyrGrant_of_free {m : Cmd} {c : Chip} (hguest : 1 ≤ m.b 8 ∧ m.b 8 ≤ 6) (hfirst : m.b 10 ≤ 15) (hcount : m.b 11 ≤ 16)
    (hend : 0 < m.b 11 → m.b 10 + m.b 11 ≤ 16) (hquota : m.b 12 ≤ 64) (hruns : m.b 12 ≤ 8 * (ownedUnits (afterChanges c) (m.b 8) .sprite).length)
    (hgen : m.b 9 = (partOf c (m.b 8)).gen) (hst : (partOf c (m.b 8)).st = .stopped ∨ (partOf c (m.b 8)).st = .running)
    (hbanks : ∀ b, m.b 10 ≤ b → b < m.b 10 + m.b 11 → b < 16 →
      vget (afterChanges c).lyr.palOwner b = 0 ∨ vget (afterChanges c).lyr.palOwner b = m.b 8)
    (htotal : ((List.range 7).map fun i => if i = m.b 8 then m.b 12 else (groupOf (afterChanges c) i).quota).sum ≤ 64)
    (hless : m.b 12 ≤ (groupOf (afterChanges c) (m.b 8)).quota) :
    lyrGrant m c = (.wait, enqueueChange m true (.grant (m.b 8) (m.b 10) (m.b 11) (m.b 12)) c) := by
  have hinUse : ((List.range 16).any fun b => decide (m.b 10 ≤ b) && decide (b < m.b 10 + m.b 11) && vget (afterChanges c).lyr.palOwner b != 0
      && vget (afterChanges c).lyr.palOwner b != m.b 8) = false := by
    simp only [List.any_eq_false, List.mem_range, Bool.and_eq_true, decide_eq_true_eq, bne_iff_ne, not_and, and_imp]
    intro b hb hlow hhigh hne
    exact not_not.mpr ((hbanks b hlow hhigh hb).resolve_left hne)
  dsimp only [lyrGrant]
  rw [checked_chk_of_false, decide_eq_false (not_not.mpr hgen), checked_false, checked_chk_of_false, checked_chk_of_false hinUse,
    checked_chk_of_false, checked_nil]
  · rw [decide_eq_false (Nat.not_lt.mpr htotal), decide_eq_false (Nat.not_lt.mpr hless)]
    rfl
  · rcases hst with h | h <;> rw [h] <;> rfl
  · simp only [Bool.or_eq_false_iff, Bool.and_eq_false_iff, decide_eq_false_iff_not]
    omega

/-- STCH.SET of a list in range whose enable, if it is one, admission does not refuse (R549). -/
theorem stchSet_of_inRange {m : Cmd} {c : Chip} (hbase : m.f 8 4 < 2 ^ 24) (halign : m.f 8 4 % 8 = 0) (hcount : 1 ≤ m.f 12 2 ∧ m.f 12 2 ≤ 4096)
    (hslots : 1 ≤ m.b 14 ∧ m.b 14 ≤ 16) (hen : m.b 15 ≤ 1)
    (hadmit : m.b 15 = 1 → admission (afterChanges c) m.part (loadOf (modStitch m.part (fun s => { s with en := false }) (afterChanges c)) m.part)
      (8 * m.b 14) false ≠ .refused) :
    stchSet m c = (.wait, enqueueChange m true (.stitch m.part (m.f 8 4) (m.f 12 2) (m.b 14) (bit (m.b 15) 0)) c) := by
  have hbit : bit (m.b 15) 0 = true → m.b 15 = 1 := by
    simp only [bit, beq_iff_eq]
    omega
  dsimp only [stchSet]
  rw [checked_chk_of_false, checked_nil, overBudget_eq_false fun h => hadmit (hbit h)]
  · rfl
  · simp only [Bool.or_eq_false_iff, decide_eq_false_iff_not, bne_eq_false_iff_eq]
    omega

/-! ### Composition (R584 to R586) -/

/-- P0 sees the replaced pixels of every layer. -/
theorem cmpStatus_p0 {m : Cmd} (horg : m.org = .part 0) (c : Chip) :
    cmpStatus m c = (.res (min 65535 (((List.range 8).map fun hw => (layerOf c hw).m.substLast).sum))
      (c.cmp.tone + 4 * c.cmp.dither + 16 * vget c.cmp.depth 0 + 256 * vget c.cmp.depth 1 + 4096 * vget c.cmp.depth 2), c) := by
  simp only [cmpStatus, horg, List.filter_true]

/-- CMP.BLEND of a layer that is there, with a mode that exists. -/
theorem cmpBlend_of_valid {m : Cmd} {c : Chip} {hw : Nat} (hlocal : m.b 8 < 8) (hlayer : layerOfLocal (afterChanges c) m.part (m.b 8) = some hw)
    (hmode : m.b 9 % 4 ≠ 3) (hmax : m.b 9 < 8) (hprio : m.b 10 ≤ 7) (hpeg : isPegged (afterChanges c) 6 hw = false) :
    cmpBlend m c = (.wait, enqueueChange m true (.blend hw { mode := m.b 9 % 4, premul := bit (m.b 9) 2, prioZ := m.b 10 }) c) := by
  have hbad : (decide (m.b 9 % 4 = 3) || decide (8 ≤ m.b 9) || decide (7 < m.b 10)) = false := by
    simp only [Bool.or_eq_false_iff, decide_eq_false_iff_not]
    omega
  simp only [cmpBlend, if_pos hlocal, hlayer, checked_chk_of_false hbad, checked_chk_of_false hpeg, checked_nil]

/-- CMP.BACKGROUND with three values of 13 bits. -/
theorem cmpBackground_of_inRange {m : Cmd} (hred : m.f 8 2 ≤ 8191) (hgreen : m.f 10 2 ≤ 8191) (hblue : m.f 12 2 ≤ 8191) (c : Chip) :
    cmpBackground m c = (.wait, enqueueChange m true (.background (m.f 8 2) (m.f 10 2) (m.f 12 2)) c) := by
  rw [cmpBackground, checked_chk_of_false, checked_nil]
  simp only [Bool.or_eq_false_iff, decide_eq_false_iff_not]
  omega

/-- A table that acceptance has read, or that does not exist, is not read again (R580). -/
theorem readTone_of_read {m : Cmd} (h : m.srcRead = true ∨ m.b 8 = 0) (c : Chip) : readTone m c = (m, c) := by
  have hskip : (m.srcRead || m.org.external || decide (toneBytes (m.b 8) = 0) || decide (3 < m.b 8)) = true := by
    rcases h with h | h <;> simp [h, toneBytes]
  rw [readTone, if_pos hskip]

/-- The linear mode takes no data. -/
theorem dataReady_of_linear {m : Cmd} (hop : m.op = 0x0B12) (hmode : m.b 8 = 0) : dataReady m = true := by
  simp [dataReady, dataNeed, hop, hmode, toneBytes]

/-- CMP.TONE whose table, if it has one, was read whole at acceptance and holds values of 12 bits (R580, R585). -/
theorem cmpTone_of_read {m : Cmd} (hread : m.srcRead = true ∨ m.b 8 = 0) (hden : m.srcDenied = false) (hmode : m.b 8 ≤ 3)
    (hzero : m.z 9 3 = true) (hsrc : m.b 8 ≠ 0 → m.f 12 4 < 2 ^ 24 ∧ m.org.external = false) (hdata : (m.org.external && !dataReady m) = false)
    (hpoison : m.dataPoison = false)
    (hsmall : ((toneTables (m.b 8) m.data).map fun v => v.toList.any fun t => t.any (4096 ≤ ·)) ≠ some true) (c : Chip) :
    cmpTone m c = (.wait, enqueueChange m true (.tone (m.b 8) (toneTables (m.b 8) m.data))
      (modCmd m.handle (fun x => { x with data := [], dataSince := none }) c)) := by
  have hfield : (m.b 8 != 0 && (decide (2 ^ 24 ≤ m.f 12 4) || m.org.external && m.f 12 4 != 0)) = false := by
    by_cases h : m.b 8 = 0
    · rw [h]
      rfl
    · obtain ⟨hlt, hpart⟩ := hsrc h
      rw [decide_eq_false (Nat.not_le.mpr hlt), hpart]
      exact Bool.and_false _
  have hrange : (decide (3 < m.b 8) || !m.z 9 3 || (m.b 8 != 0 && (decide (2 ^ 24 ≤ m.f 12 4) || m.org.external && m.f 12 4 != 0))) = false := by
    rw [hfield, hzero, decide_eq_false (Nat.not_lt.mpr hmode)]
    rfl
  simp only [cmpTone, readTone_of_read hread, hden, hrange, hdata, hpoison, if_neg hsmall, Bool.false_eq_true, if_false]

/-- CMP.DITHER with a kind and three depths that exist. -/
theorem cmpDither_of_valid {m : Cmd} (hkind : m.b 8 ≤ 2) (hred : depthOk (m.b 9) = true) (hgreen : depthOk (m.b 10) = true)
    (hblue : depthOk (m.b 11) = true) (c : Chip) :
    cmpDither m c = (.wait, enqueueChange m true (.dither (m.b 8) #v[m.b 9, m.b 10, m.b 11]) c) := by
  rw [cmpDither, checked_chk_of_false, checked_nil]
  rw [decide_eq_false (Nat.not_lt.mpr hkind), hred, hgreen, hblue]
  rfl

/-- Settles O23: a row that runs answers its body (`answers_of`), and each body, where its clause's condition holds, passes its checks and
enqueues its change. In the linear mode CMP.TONE asks an external origin for no data, since its opcode is CMP.TONE's (`answersOp_of`). -/
theorem layerAndComposeCommands : Obligations.LayerAndComposeCommands := by
  refine ⟨?status, ?setup, ?enable, ?palette, ?grant, ?stitch, ?cmpStatus, ?blend, ?background, ?toneLinear, ?toneTables, ?dither⟩
  case status => exact fun hw => answers_of lyrStatus (fun _ _ => rfl) fun c m _ ⟨hunit, hpeg⟩ => lyrStatus_layer hunit hpeg
  case setup =>
    exact fun hw img d => answers_of lyrSetup (fun _ _ => rfl) fun c m _
      ⟨hmap, hsrc, hread, hlocal, hlayer, hpoison, hzero, hvalid, hpeg, hoff⟩ =>
      lyrSetup_of_valid hmap hsrc hread hlocal hlayer hpoison hzero hvalid hpeg hoff
  case enable =>
    exact fun hw => answers_of lyrEnable (fun _ _ => rfl) fun c m _ ⟨hlist, hunit, hbit7, hbit3, hpeg, hadmit⟩ =>
      lyrEnable_layer hlist hunit hbit7 hbit3 hpeg hadmit
  case palette =>
    exact answers_of lyrPalette (fun _ _ => rfl) fun c m _ ⟨hone, hmax, hsrc, hmap, hpoison, hbanks⟩ =>
      lyrPalette_of_read ⟨hone, hmax⟩ hsrc hmap hpoison hbanks
  case grant =>
    exact answers_of lyrGrant (fun _ _ => rfl) fun c m _
      ⟨hlow, hhigh, hfirst, hcount, hend, hquota, hruns, hgen, hst, hbanks, htotal, hless⟩ =>
      lyrGrant_of_free ⟨hlow, hhigh⟩ hfirst hcount hend hquota hruns hgen hst hbanks htotal hless
  case stitch =>
    exact answers_of stchSet (fun _ _ => rfl) fun c m _ ⟨hbase, halign, hone, hmax, hslots, hslots', hen, hadmit⟩ =>
      stchSet_of_inRange hbase halign ⟨hone, hmax⟩ ⟨hslots, hslots'⟩ hen hadmit
  case cmpStatus => exact answers_of cmpStatus (fun _ _ => rfl) fun c m _ horg => cmpStatus_p0 horg c
  case blend =>
    exact fun hw => answers_of cmpBlend (fun _ _ => rfl) fun c m _ ⟨hlocal, hlayer, hmode, hmax, hprio, hpeg⟩ =>
      cmpBlend_of_valid hlocal hlayer hmode hmax hprio hpeg
  case background =>
    exact answers_of cmpBackground (fun _ _ => rfl) fun c m _ ⟨hred, hgreen, hblue⟩ => cmpBackground_of_inRange hred hgreen hblue c
  case toneLinear =>
    refine answersOp_of cmpTone (fun _ _ => rfl) fun c m hop ⟨hmode, hzero, hden, hpoison⟩ => ?_
    have hdata : (m.org.external && !dataReady m) = false := by rw [dataReady_of_linear hop hmode, Bool.not_true, Bool.and_false]
    have htabs : toneTables (m.b 8) m.data = none := by rw [hmode]; rfl
    rw [cmpTone_of_read (.inr hmode) hden (by omega) hzero (absurd hmode) hdata hpoison (by simp [htabs]), htabs, hmode]
  case toneTables =>
    refine fun v => answers_of cmpTone (fun _ _ => rfl) fun c m _
      ⟨hlow, hhigh, hzero, hread, hden, hsrc, hpart, hpoison, htabs, hsmall⟩ => ?_
    have hdata : (m.org.external && !dataReady m) = false := by rw [hpart, Bool.false_and]
    have hsmall' : ((toneTables (m.b 8) m.data).map fun v => v.toList.any fun t => t.any (4096 ≤ ·)) ≠ some true := by
      rw [htabs, Option.map_some, hsmall]
      decide
    rw [cmpTone_of_read (.inl hread) hden hhigh hzero (fun _ => ⟨hsrc, hpart⟩) hdata hpoison hsmall', htabs]
  case dither =>
    exact answers_of cmpDither (fun _ _ => rfl) fun c m _ ⟨hkind, hred, hgreen, hblue⟩ => cmpDither_of_valid hkind hred hgreen hblue c

end Sys2Proof.Machine

/-! The mailbox command MBX.STATUS from P0 (R223, Table 04.13), and the refutation of obligation O16. -/

namespace Sys2Proof.Machine

/-- P0 has no credit count, so that the credits of its MBX.STATUS are free values, and the command draws one. -/
theorem mbxStatus_p0_chip {m : Cmd} (ho : m.org = .part 0) (c : Chip) : (mbxStatus m c).2 = { c with freeCnt := c.freeCnt + 1 } := by
  simp only [mbxStatus, freeNat, ho, if_true]

/-- The completion of a command of P0 goes to no ring and draws no free value. -/
theorem answered_p0_freeCnt {m : Cmd} (ho : m.org = .part 0) (s : State) (info result : Nat) (c : Chip) :
    (s.answered m (.res info result) c).chip.freeCnt = c.freeCnt := by
  simp only [State.answered, answer, Reply.res, complete, deliver, ho, settle_chip, settleFuses_freeCnt]

/-- Refutes O16: its clause for MBX.STATUS says of every origin that the command leaves the chip as it is. After reset the steward's own
MBX.STATUS draws a free value, which moves the count of those drawn from 0 to 1. -/
theorem not_mailboxAndReportCommands : ¬ Obligations.MailboxAndReportCommands := by
  intro ⟨_, _, hstatus, _⟩
  have hruns : Runs 0x0402 State.reset (.own []) (ownCmd 0x0402 []) := by decide +kernel
  have hsaid := hstatus _ _ _ hruns trivial
  have hmade : exec (.mbxStatus (.own [])) State.reset = _ := serve_of_runs hruns mbxStatus
  have hcount : State.reset.chip.freeCnt = State.reset.chip.freeCnt + 1 := by
    have hsame := congrArg (fun s : State => s.chip.freeCnt) (Host.Outcome.next.inj (hsaid.symm.trans hmade))
    rwa [answered_p0_freeCnt rfl, show (mbxStatus (ownCmd 0x0402 []) State.reset.chip).1 = .res _ _ from rfl, answered_p0_freeCnt rfl,
      mbxStatus_p0_chip rfl] at hsame
  omega

end Sys2Proof.Machine

/-! The registers of a guest's mailbox, its records and its completions (R208, R223, R231, R233 to R237, R251, Tables 04.10, 04.11), and
obligation O17. -/

namespace Sys2Proof.Machine

/-! ### The registers of page 3 -/

/-- MB_CTRL stands at the start of page 3. -/
theorem winWrite_mbCtrl {k p v : Nat} {c : Chip} (hopen : winOpen c p 0x3000 = true) : winWrite k p 0x3000 v c = writeMbCtrl p v c := by
  simp only [winWrite_mbx hopen (by decide), Nat.reduceSub, mbxWrite]

/-- CMD_PROD stands at offset 0x10 of page 3. -/
theorem winWrite_cmdProd {k p v : Nat} {c : Chip} (hopen : winOpen c p 0x3010 = true) : winWrite k p 0x3010 v c = writeCmdProd p v c := by
  simp only [winWrite_mbx hopen (by decide), Nat.reduceSub, mbxWrite]

/-- CPL_CONS stands at offset 0x16 of page 3. -/
theorem winWrite_cplCons {k p v : Nat} {c : Chip} (hopen : winOpen c p 0x3016 = true) : winWrite k p 0x3016 v c = writeCplCons p v c := by
  simp only [winWrite_mbx hopen (by decide), Nat.reduceSub, mbxWrite]

/-! ### MB_CTRL (R231, R236, R237) -/

/-- The value written to MB_CTRL is a word. -/
theorem bitsToNat_pair_lt (x y : Bool) : bitsToNat [x, y] < 65536 := by
  revert x y
  decide

/-- Bit 0 of MB_CTRL is ENABLE. -/
theorem bit_zero_bitsToNat_pair (x y : Bool) : bit (bitsToNat [x, y]) 0 = x := by
  revert x y
  decide

/-- Bit 1 of MB_CTRL is CPL_EVENT. -/
theorem bit_one_bitsToNat_pair (x y : Bool) : bit (bitsToNat [x, y]) 1 = y := by
  revert x y
  decide

/-- ENABLE from 0 to 1 with rings that R231 allows: the indices and the fault are cleared, and held completions are written. -/
theorem writeMbCtrl_enable {p : Nat} {c : Chip} (hoff : (mbxOf c p).enable = false) (hrings : (mbxOf c p).ringsOk = true) (ev : Bool) :
    writeMbCtrl p (bitsToNat [true, ev]) c = drainMbx p (modMbx p (fun m =>
      { m with
        enable := true, cplEvent := ev, fault := false, cause := .none, noRead := false, noCpl := false
        cmdProd := 0, cmdCons := 0, cplProd := 0, cplCons := 0 }) c) := by
  simp only [writeMbCtrl, bit_zero_bitsToNat_pair, bit_one_bitsToNat_pair, hoff, hrings, Bool.not_true, Bool.not_false, Bool.and_self,
    Bool.false_eq_true, if_true, if_false]

/-- ENABLE from 0 to 1 with rings that R231 forbids stays 0, and CAUSE says why. -/
theorem writeMbCtrl_badcfg {p : Nat} {c : Chip} (hoff : (mbxOf c p).enable = false) (hrings : (mbxOf c p).ringsOk = false) (ev : Bool) :
    writeMbCtrl p (bitsToNat [true, ev]) c = modMbx p (fun m => { m with cause := .badcfg }) c := by
  simp only [writeMbCtrl, bit_zero_bitsToNat_pair, hoff, hrings, Bool.not_false, Bool.and_self, if_true]

/-- ENABLE written 0. -/
theorem writeMbCtrl_disable (p : Nat) (ev : Bool) (c : Chip) :
    writeMbCtrl p (bitsToNat [false, ev]) c = modMbx p (fun m => { m with enable := false, cplEvent := ev }) c := by
  simp only [writeMbCtrl, bit_zero_bitsToNat_pair, bit_one_bitsToNat_pair, Bool.false_and, Bool.false_eq_true, if_false]

/-! ### CMD_PROD and CPL_CONS (Table 04.11) -/

/-- CMD_PROD moves on as far as the ring has slots. -/
theorem writeCmdProd_of_room {p v : Nat} {c : Chip} (hv : v < 65536)
    (hroom : idxDiff (mbxOf c p).cmdProd (mbxOf c p).cmdCons + idxDiff v (mbxOf c p).cmdProd ≤ 2 ^ (mbxOf c p).cmdLog2) :
    writeCmdProd p v c = modMbx p (fun m => { m with cmdProd := v }) c := by
  simp only [writeCmdProd, hroom, if_true, Nat.mod_eq_of_lt hv]

/-- CMD_PROD beyond the ring's slots, or moved back, is a violation. -/
theorem writeCmdProd_of_overrun {p v : Nat} {c : Chip}
    (hover : 2 ^ (mbxOf c p).cmdLog2 < idxDiff (mbxOf c p).cmdProd (mbxOf c p).cmdCons + idxDiff v (mbxOf c p).cmdProd) :
    writeCmdProd p v c = faultMbx p .prod 0x0404 c := if_neg (Nat.not_le.mpr hover)

/-- CPL_CONS moves on as far as completions stand in the ring, and held ones are written into the slots that it frees. -/
theorem writeCplCons_of_consumed {p v : Nat} {c : Chip} (hv : v < 65536)
    (hstand : idxDiff v (mbxOf c p).cplCons ≤ idxDiff (mbxOf c p).cplProd (mbxOf c p).cplCons) :
    writeCplCons p v c = drainMbx p (modMbx p (fun m => { m with cplCons := v }) c) := by
  simp only [writeCplCons, Nat.not_lt.mpr hstand, if_false, Nat.mod_eq_of_lt hv]

/-- CPL_CONS beyond CPL_PROD is a violation. -/
theorem writeCplCons_of_overrun {p v : Nat} {c : Chip}
    (hover : idxDiff (mbxOf c p).cplProd (mbxOf c p).cplCons < idxDiff v (mbxOf c p).cplCons) :
    writeCplCons p v c = faultMbx p .cons 0x0405 c := if_pos hover

/-! ### Records and completions (R208, R233 to R235, R251) -/

/-- The steward serves while the chip runs and its core is up. -/
theorem serving_of_up {c : Chip} (hrun : awake c) (hup : c.stewDown = false) : serving c = true := by
  simp only [serving, show c.pwr.phase = .run from hrun, hup, beq_self_eq_true, Bool.not_false, Bool.and_self, Bool.true_or]

/-- A record waits in an enabled ring, in a slot that the guest's map lets the steward read and answer: it is read and answered there. -/
theorem acceptGuest_of_record {p : Nat} {c : Chip} (hrun : awake c) (hguest : 1 ≤ p) (hen : (mbxOf c p).enable = true)
    (hread : (mbxOf c p).noRead = false) (hnew : (mbxOf c p).cmdProd ≠ (mbxOf c p).cmdCons)
    (hr : kRangeOk c p .r ((mbxOf c p).cmdBase + 32 * ((mbxOf c p).cmdCons % 2 ^ (mbxOf c p).cmdLog2)) 32 = true)
    (hw : kRangeOk c p .w ((mbxOf c p).cmdBase + 32 * ((mbxOf c p).cmdCons % 2 ^ (mbxOf c p).cmdLog2)) 4 = true) :
    acceptGuest p c =
      let i := (mbxOf c p).cmdCons % 2 ^ (mbxOf c p).cmdLog2
      let a := (mbxOf c p).cmdBase + 32 * i
      let r := readK p a 32 c
      let w := acceptRecord (.part p) i r.1 r.2
      modMbx p (fun m => { m with cmdCons := (m.cmdCons + 1) % 65536, lastReject := (wordStatus w.1).getD m.lastReject })
        (writeK p a (clean (leBytes 4 w.1)) w.2) := by
  have hphase : c.pwr.phase = .run := hrun
  have hp : p ≠ 0 := Nat.one_le_iff_ne_zero.mp hguest
  simp only [acceptGuest, hp, hphase, hen, hread, hnew, hr, hw, ne_eq, not_true_eq_false, Bool.not_true, Bool.and_self, Bool.false_eq_true,
    or_self, if_false]

/-- The map of a partition is not its mailbox's. -/
theorem kRangeOk_modMbx (q : Nat) (f : GMbx → GMbx) (c : Chip) (p : Nat) (right : Right) (ka n : Nat) :
    kRangeOk (modMbx q f c) p right ka n = kRangeOk c p right ka n := rfl

/-- A completion is written where the guest's map lets the steward write, CPL_PROD moves on, and the guest's event fires (R234). -/
theorem writeGuestCpl_of_map {p : Nat} {c : Chip}
    (hmap : kRangeOk c p .w ((mbxOf c p).cplBase + 16 * ((mbxOf c p).cplProd % 2 ^ (mbxOf c p).cplLog2)) 16 = true) (h : HeldCpl) :
    writeGuestCpl p h c =
      let d := writeK p ((mbxOf c p).cplBase + 16 * ((mbxOf c p).cplProd % 2 ^ (mbxOf c p).cplLog2)) h.cpl.bytes c
      let d := modMbx p (fun m => { m with cplProd := (m.cplProd + 1) % 65536 }) d
      some (if !h.quiet && (mbxOf c p).cplEvent then fire p 0 0 d else d) := by
  simp only [writeGuestCpl, hmap, Bool.not_true, Bool.false_eq_true, if_false]

/-- The oldest held completion is written into a ring that takes it, and the others follow. -/
theorem drainGuest_succ {p : Nat} {h : HeldCpl} {l : List HeldCpl} {c d : Chip} (hheld : (mbxOf c p).held = h :: l)
    (hopen : (mbxOf c p).cplOpen = true) (hwrite : writeGuestCpl p h (modMbx p (fun m => { m with held := l }) c) = some d) (n : Nat) :
    drainGuest p (n + 1) c = drainGuest p n d := by
  rw [drainGuest, hheld]
  dsimp only
  rw [if_pos hopen, hwrite]

/-- A held completion is written into a ring that takes it and that the guest's map lets the steward write. -/
theorem drainGuest_one {p : Nat} {h : HeldCpl} {l : List HeldCpl} {c : Chip} (hp : p < 7) (hheld : (mbxOf c p).held = h :: l)
    (hopen : (mbxOf c p).cplOpen = true)
    (hmap : kRangeOk c p .w ((mbxOf c p).cplBase + 16 * ((mbxOf c p).cplProd % 2 ^ (mbxOf c p).cplLog2)) 16 = true) :
    drainGuest p 1 c =
      let d := writeK p ((mbxOf c p).cplBase + 16 * ((mbxOf c p).cplProd % 2 ^ (mbxOf c p).cplLog2)) h.cpl.bytes
        (modMbx p (fun m => { m with held := l }) c)
      let d := modMbx p (fun m => { m with cplProd := (m.cplProd + 1) % 65536 }) d
      if !h.quiet && (mbxOf c p).cplEvent then fire p 0 0 d else d := by
  have hmbx : mbxOf (modMbx p (fun m => { m with held := l }) c) p = { mbxOf c p with held := l } := by
    rw [mbxOf_modMbx, if_pos ⟨rfl, hp⟩]
  refine (drainGuest_succ hheld hopen (writeGuestCpl_of_map ?_ h) 0).trans ?_
  · rw [kRangeOk_modMbx, hmbx]
    exact hmap
  · rw [hmbx, drainGuest]

/-- A result buffer that the host has held for 1 s is a fault (Table 04.11). -/
theorem resultTimeout_of_held {n : Nat} {c : Chip} (hheld : vget c.host.resLen n ≠ 0) :
    resultTimeout n c = hostFault 0x040B (atTime (vget c.host.resSince n + 24000000) c) := by
  rw [resultTimeout, if_neg hheld]

/-- A command that still lacks data 1 s after its last chunk ends (R251). -/
theorem chunkTimeout_of_waiting {h : Long} {m : Cmd} {t : Nat} {c : Chip} (hcmd : findCmd c h = some m) (hsince : m.dataSince = some t)
    (hlacks : dataReady m = false) : chunkTimeout h c = complete m .timeout 0 0 [] (atTime (t + 24000000) c) := by
  simp only [chunkTimeout, hcmd, hsince, hlacks, Bool.false_eq_true, if_false]

/-- Settles O17: each write comes to its register (`writes_of`, `winWrite_mbCtrl` and its like) and each event to its body, and a clause's condition
chooses the branch. -/
theorem mailboxRows : Obligations.MailboxRows := by
  refine ⟨?enable, ?badcfg, ?disable, ?prod, ?prodFault, ?cons, ?consFault, ?record, ?completion, ?resultTimeout, ?chunkTimeout⟩
  case enable =>
    exact fun k ev => writes_of (by decide) (bitsToNat_pair_lt true ev) (fun _ => rfl) fun c hopen ⟨hoff, hrings⟩ =>
      (winWrite_mbCtrl hopen).trans (writeMbCtrl_enable hoff hrings ev)
  case badcfg =>
    exact fun k ev => writes_of (by decide) (bitsToNat_pair_lt true ev) (fun _ => rfl) fun c hopen ⟨hoff, hrings⟩ =>
      (winWrite_mbCtrl hopen).trans (writeMbCtrl_badcfg hoff hrings ev)
  case disable =>
    exact fun k ev => writes_of (by decide) (bitsToNat_pair_lt false ev) (fun _ => rfl) fun c hopen _ =>
      (winWrite_mbCtrl hopen).trans (writeMbCtrl_disable _ ev c)
  case prod =>
    exact fun k v => writes_of (by decide) v.isLt (fun _ => rfl) fun c hopen hroom =>
      (winWrite_cmdProd hopen).trans (writeCmdProd_of_room v.isLt hroom)
  case prodFault =>
    exact fun k v => writes_of (by decide) v.isLt (fun _ => rfl) fun c hopen hover =>
      (winWrite_cmdProd hopen).trans (writeCmdProd_of_overrun hover)
  case cons =>
    exact fun k v => writes_of (by decide) v.isLt (fun _ => rfl) fun c hopen hstand =>
      (winWrite_cplCons hopen).trans (writeCplCons_of_consumed v.isLt hstand)
  case consFault =>
    exact fun k v => writes_of (by decide) v.isLt (fun _ => rfl) fun c hopen hover =>
      (winWrite_cplCons hopen).trans (writeCplCons_of_overrun hover)
  case record =>
    refine fun p => makesLinked_of (recordAcceptance (.guest p)) (fun _ => rfl) fun c hrun ⟨hup, hguest, hen, hread, hnew, hr, hw⟩ => ?_
    rw [← acceptGuest_of_record hrun hguest hen hread hnew hr hw, recordAcceptance, if_neg (by simp [serving_of_up hrun hup])]
  case completion =>
    exact fun p h l => makesLinked_of (fun c => if serving c then postponedWrite (.guest p) c else c) (fun _ => rfl)
      fun c hrun ⟨hup, hheld, hopen, hmap⟩ => (if_pos (serving_of_up hrun hup)).trans (drainGuest_one p.isLt hheld hopen hmap)
  case resultTimeout => exact fun n => makes_of (resultTimeout n.val) (fun _ => rfl) fun c _ hheld => resultTimeout_of_held hheld
  case chunkTimeout =>
    exact fun h m t => makes_of (chunkTimeout h) (fun _ => rfl) fun c _ ⟨hcmd, hsince, hlacks⟩ => chunkTimeout_of_waiting hcmd hsince hlacks

end Sys2Proof.Machine

/-! The host SPI port (R238 to R240, R710 to R713): what each transaction makes of the chip, and obligation O18. -/

namespace Sys2Proof.Machine

/-- A read inside the window, while the port is served, answers the window's bytes (R711). -/
theorem hostRead_of_serving {a : Nat} {c : Chip} (hserve : serving c = true) (ha : a < 4096) (n : Nat) :
    hostRead a n c = hostReply ((List.range n).map fun i => hostByte c (a + i)) c := by
  simp only [hostRead, hostReady, hserve, Nat.not_le.mpr ha, Bool.not_true, Bool.false_eq_true, if_false]

/-- While the port is not served a read answers bytes of 0xFF (R711). -/
theorem hostRead_of_notServing {c : Chip} (hserve : serving c = false) (a n : Nat) : hostRead a n c = hostReply (List.replicate n 0xFF) c := by
  simp only [hostRead, hostReady, hserve, Bool.not_false, if_true]

/-- A write inside the window, while the port is served, is stored. -/
theorem hostWrite_of_serving {a : Nat} {c : Chip} (hserve : serving c = true) (ha : a < 4096) (data : List Byte) :
    hostWrite a data c = hostStore a data [] c := by
  simp only [hostWrite, hostReady, hserve, Nat.not_le.mpr ha, Bool.not_true, Bool.false_eq_true, if_false]

/-- Nothing more to store, and no register begun: the write ends. -/
theorem hostStore_nil (a : Nat) (c : Chip) : hostStore a [] [] c = c := by simp [hostStore]

/-- A byte of a slot or a buffer is stored as it comes. -/
theorem hostStore_buffer {a : Nat} (hlow : 0x40 ≤ a) (hhigh : a < 4096) (b : Byte) (c : Chip) :
    hostStore a [b] [] c = modHost (HostMbx.put a [b]) c := by
  rw [hostStore, Nat.mod_eq_of_lt hhigh, if_pos hlow, hostStore_nil]

/-- A byte that begins a register or goes on with it, and is not its last, is kept until the last one comes (R712). -/
theorem hostStore_begun {a : Nat} (ha : a < 0x40) (hlast : a % 4 ≠ 3) {got : List Byte} (hgot : a % 4 = 0 ∨ got ≠ []) (b : Byte)
    (bs : List Byte) (c : Chip) : hostStore a (b :: bs) got c = hostStore (a + 1) bs (if a % 4 = 0 then [b] else got ++ [b]) c := by
  rw [hostStore, Nat.mod_eq_of_lt (by omega : a < 4096), if_neg (Nat.not_le.mpr ha), if_pos hlast]
  rcases hgot with h | h
  · simp [h]
  · by_cases hz : a % 4 = 0 <;> simp [hz, h]

/-- The fourth byte of a register writes it (R712). -/
theorem hostStore_last {a : Nat} (ha : a < 0x40) (hlast : a % 4 = 3) {got : List Byte} (hgot : got.length = 3) (b : Byte) (bs : List Byte)
    (c : Chip) : hostStore a (b :: bs) got c = hostStore (a + 1) bs [] (hostRegWrite (a / 4 * 4) (leNat (got ++ [b])) c) := by
  have hne : got ≠ [] := by
    rintro rfl
    exact absurd hgot (by decide)
  rw [hostStore, Nat.mod_eq_of_lt (by omega : a < 4096), if_neg (Nat.not_le.mpr ha)]
  simp [hlast, hne, hgot]

/-- Four bytes from the first byte of a register on write that register. -/
theorem hostStore_register {a : Nat} (ha : a < 0x40) (halign : a % 4 = 0) (b0 b1 b2 b3 : Byte) (c : Chip) :
    hostStore a [b0, b1, b2, b3] [] c = hostRegWrite a (leNat [b0, b1, b2, b3]) c := by
  rw [hostStore_begun ha (by omega) (.inl halign), if_pos halign,
    hostStore_begun (by omega) (by omega) (.inr (List.cons_ne_nil _ _)), if_neg (by omega), List.singleton_append,
    hostStore_begun (by omega) (by omega) (.inr (List.cons_ne_nil _ _)), if_neg (by omega),
    hostStore_last (by omega) (by omega) rfl, hostStore_nil, show (a + 1 + 1 + 1) / 4 * 4 = a by omega]
  rfl

/-- A write of a whole register while the port is served. -/
theorem hostWrite_register {a : Nat} {c : Chip} (hserve : serving c = true) (ha : a < 0x40) (halign : a % 4 = 0) (b0 b1 b2 b3 : Byte) :
    hostWrite a [b0, b1, b2, b3] c = hostRegWrite a (leNat [b0, b1, b2, b3]) c := by
  rw [hostWrite_of_serving hserve (by omega), hostStore_register ha halign]

/-- A write of a byte of a slot or a buffer while the port is served. -/
theorem hostWrite_buffer {a : Nat} {c : Chip} (hserve : serving c = true) (hlow : 0x40 < a) (hhigh : a < 4095) (b : Byte) :
    hostWrite a [b] c = modHost (HostMbx.put a [b]) c := by
  rw [hostWrite_of_serving hserve (by omega), hostStore_buffer (by omega) (by omega)]

/-- HM_CMD_PROD moves on as far as the ring of 16 slots has room. -/
theorem hostRegWrite_cmdProd {v : Nat} {c : Chip} (hroom : idxDiff c.host.cmdProd c.host.cmdCons + idxDiff v c.host.cmdProd ≤ 16) :
    hostRegWrite 0x04 v c = modHost (fun h => { h with cmdProd := v % 65536 }) c := by
  simp only [hostRegWrite, hroom, if_true]

/-- Settles O18: each transaction comes to its body (`makesIn_of`, `makes_of`), on four data lines as on one. -/
theorem hostPortRows : Obligations.HostPortRows := by
  refine ⟨?read, ?quadRead, ?readIdle, ?writeRegister, ?writeBuffer, ?quadWriteBuffer, ?quadWriteRegister, fun _ _ => hostRegWrite_cmdProd,
    fun _ _ => rfl, ?portReset, ?badTransaction⟩
  case read => exact fun a n => makesIn_of (hostRead a.toNat n) (fun _ => rfl) fun c ⟨hserve, ha⟩ => hostRead_of_serving hserve ha n
  case quadRead => exact fun a n => makesIn_of (hostRead a.toNat n) (fun _ => rfl) fun c ⟨hserve, ha⟩ => hostRead_of_serving hserve ha n
  case readIdle => exact fun a n => makesIn_of (hostRead a.toNat n) (fun _ => rfl) fun c hserve => hostRead_of_notServing hserve a.toNat n
  case writeRegister =>
    exact fun a b0 b1 b2 b3 => makesIn_of (hostWrite a.toNat [b0, b1, b2, b3]) (fun _ => rfl) fun c ⟨hserve, ha, halign⟩ =>
      hostWrite_register hserve ha halign b0 b1 b2 b3
  case writeBuffer =>
    exact fun a b => makesIn_of (hostWrite a.toNat [b]) (fun _ => rfl) fun c ⟨hserve, hlow, hhigh⟩ => hostWrite_buffer hserve hlow hhigh b
  case quadWriteBuffer =>
    exact fun a b => makesIn_of (hostWrite a.toNat [b]) (fun _ => rfl) fun c ⟨hserve, hlow, hhigh⟩ => hostWrite_buffer hserve hlow hhigh b
  case quadWriteRegister =>
    exact fun a b0 b1 b2 b3 => makesIn_of (hostWrite a.toNat [b0, b1, b2, b3]) (fun _ => rfl) fun c ⟨hserve, ha, halign⟩ =>
      hostWrite_register hserve ha halign b0 b1 b2 b3
  case portReset =>
    exact makesIn_of (fun c => if hostReady c then hostPortReset c else c) (fun _ => rfl) fun c hserve => if_pos hserve
  case badTransaction => exact makes_of hostBad (fun _ => rfl) fun _ _ _ => rfl

end Sys2Proof.Machine

/-! Block transfers and remote mailboxes (R245, R250, R763 to R767, Table 15.9): what each event makes of the chip, and obligation O44. -/

namespace Sys2Proof.Machine

/-! ### Block transfers (R763 to R765) -/

/-- A transfer begun as r may go on with n bytes: its export lets the node write, r lies in the export and in writable memory, and the bytes
lie in r (R763, R764). -/
def BlockFits (c : Chip) (e : Export) (r : RxBlock) (node n : Nat) : Prop :=
  e.lets node none = true ∧ r.off + r.len ≤ e.len ∧ kRangeOk c e.part .w ((e.base + r.off) % 2 ^ 24) r.len = true ∧ r.got + n ≤ r.len

/-- A transfer after a packet of data has arrived. -/
def RxBlock.extend (r : RxBlock) (data : List Byte) (poison : Bool) : RxBlock :=
  { r with got := r.got + data.length, data := r.data ++ data, poison := r.poison || poison }

/-- BLOCK_RECEIVE refuses what does not fit. -/
theorem blockRefused_iff (c : Chip) (e : Export) (r : RxBlock) (node n : Nat) :
    ((!e.lets node none) = true ∨ e.len < r.off + r.len ∨ (!kRangeOk c e.part .w ((e.base + r.off) % 2 ^ 24) r.len) = true ∨
      r.len < r.got + n) ↔ ¬ BlockFits c e r node n := by
  simp only [BlockFits, not_and_or, Nat.not_le, Bool.not_eq_true', Bool.not_eq_true]

/-- No export of that number: the transfer is refused. -/
theorem blockReceive_unexported {x : Nat} {c : Chip} (hexp : exportOf (takeInbox 4 c) x = none) (node : Nat) (group : Option Nat)
    (first : Option (Nat × Nat)) (last : Option Nat) (data : List Byte) (poison : Bool) :
    blockReceive node group x first last data poison c = refuseBlock node group x (takeInbox 4 c) := by
  simp only [blockReceive, hexp]

section
variable {node x : Nat} {e : Export} {r : RxBlock} {data : List Byte} {c : Chip}

/-- A packet that does not fit its transfer: the transfer is refused. -/
theorem blockReceive_misfit (hexp : exportOf (takeInbox 4 c) x = some e)
    (hbegun : (takeInbox 4 c).link.rxBlocks.find? (fun t => t.node == node && t.x == x) = some r)
    (hmisfit : ¬ BlockFits (takeInbox 4 c) e r node data.length) (last : Option Nat) (poison : Bool) :
    blockReceive node none x none last data poison c = refuseBlock node none x (takeInbox 4 c) := by
  simp only [blockReceive, hexp, hbegun, if_pos ((blockRefused_iff ..).mpr hmisfit)]

/-- A packet in the middle of a transfer: its bytes are written, and the transfer stands so much further. -/
theorem blockReceive_middle (hexp : exportOf (takeInbox 4 c) x = some e)
    (hbegun : (takeInbox 4 c).link.rxBlocks.find? (fun t => t.node == node && t.x == x) = some r)
    (hfits : BlockFits (takeInbox 4 c) e r node data.length) (poison : Bool) :
    blockReceive node none x none none data poison c =
      modLink (fun l => { l with rxBlocks := l.rxBlocks.filter (fun t => !(t.node == node && t.x == x)) ++ [r.extend data poison] })
        (writeK e.part ((e.base + r.off + r.got) % 2 ^ 24) (data.map fun b => (b, poison)) (takeInbox 4 c)) := by
  simp only [blockReceive, hexp, hbegun, if_neg (mt (blockRefused_iff ..).mp (not_not.mpr hfits)), RxBlock.extend]

/-- The last packet of a transfer: its bytes are written, and the transfer ends with its CRC. -/
theorem blockReceive_last (hexp : exportOf (takeInbox 4 c) x = some e)
    (hbegun : (takeInbox 4 c).link.rxBlocks.find? (fun t => t.node == node && t.x == x) = some r)
    (hfits : BlockFits (takeInbox 4 c) e r node data.length) (crc : Nat) (poison : Bool) :
    blockReceive node none x none (some crc) data poison c =
      endTransfer e (r.extend data poison) none crc
        (writeK e.part ((e.base + r.off + r.got) % 2 ^ 24) (data.map fun b => (b, poison)) (takeInbox 4 c)) := by
  simp only [blockReceive, hexp, hbegun, if_neg (mt (blockRefused_iff ..).mp (not_not.mpr hfits)), RxBlock.extend]

end

/-- The oldest LNK.BLOCK has waited 1 s for its answer (R765). -/
theorem blockTimeout_of_waiting {b : LinkBlock} {rest : List LinkBlock} {c : Chip} (hblocks : c.link.blocks = b :: rest) :
    blockTimeout c = finish b.handle .timeout 0 0 (modLink (fun l => { l with blocks := rest }) (atTime (b.since + 24000000) c)) := by
  simp only [blockTimeout, hblocks]

/-! ### Remote mailboxes (R245, R250, R766) -/

/-- A record from a node all of whose hops are authenticated, with a credit free: the node is noted and the record waits (R245, R769). -/
theorem mgmtReceive_of_authed {q node : Nat} {c : Chip} (hjoined : isJoined (takeInbox 3 c) q = true)
    (hauth : (linkPort (takeInbox 3 c) q).authed = true)
    (hcredit : inFlight (takeInbox 3 c) (.link node) + ((takeInbox 3 c).linkRecs.filter (·.node == node)).length < 8) (rec' : List Byte)
    (poison : Bool) :
    mgmtReceive q node rec' poison true c =
      let d := takeInbox 3 c
      { modNode (fun n => { n with authNodes := if n.authNodes.contains node then n.authNodes else node :: n.authNodes }) d with
        linkRecs := d.linkRecs ++ [{ node := node, bytes := rec'.map fun b => (b, poison) }] } := by
  have hroom : ∀ f : LinkNode → LinkNode, ¬ 8 ≤ inFlight (modNode f (takeInbox 3 c)) (.link node) +
      ((modNode f (takeInbox 3 c)).linkRecs.filter (·.node == node)).length := fun _ => Nat.not_le.mpr hcredit
  simp only [mgmtReceive, hjoined, hauth, hroom, Bool.not_true, Bool.and_self, Bool.false_and, Bool.false_eq_true, if_true, if_false]
  rfl

/-- A chunk of 1 to 60 bytes goes to the node's command. -/
theorem linkChunk_of_length {bs : List Byte} (hne : bs ≠ []) (hlen : bs.length ≤ 60) (node handle : Nat) (poison : Bool) (c : Chip) :
    linkChunk node handle bs poison c = (takeChunk (.link node) handle (bs.map fun b => (b, poison)) (takeInbox 3 c)).2 :=
  if_neg fun h => h.elim (fun hnil => hne (List.isEmpty_iff.mp hnil)) (Nat.not_lt.mpr hlen)

/-- A chunk of no bytes or more than 60 is discarded with lint (R250). -/
theorem linkChunk_of_badLength {bs : List Byte} (h : bs = [] ∨ 60 < bs.length) (node handle : Nat) (poison : Bool) (c : Chip) :
    linkChunk node handle bs poison c = lintBlock 0x040C 7 0 (takeInbox 3 c) := if_pos (h.imp_left List.isEmpty_iff.mpr)

/-- An acceptance word goes to the oldest LNK.REMOTE of its node that waits for one. -/
theorem remoteAnswer_accepted {node : Nat} {r : RemoteOp} {c : Chip}
    (hwaits : (takeInbox 3 c).link.remotes.find? (fun r => r.node == node && r.accepted.isNone) = some r) (w : Long) :
    remoteAnswer node (.accepted w) c = remoteAccepted r w.toNat (takeInbox 3 c) := by
  simp only [remoteAnswer, hwaits]

/-- Result bytes are kept for the LNK.REMOTE that their handle names, up to 1,024 of them. -/
theorem remoteAnswer_result {node : Nat} {h : Long} {r : RemoteOp} {c : Chip}
    (hnamed : (takeInbox 3 c).link.remotes.find? (fun r => r.node == node && r.accepted == some h.toNat) = some r) (bs : List Byte) :
    remoteAnswer node (.result h bs) c = setRemote r { r with block := (r.block ++ bs).take 1024 } (takeInbox 3 c) := by
  simp only [remoteAnswer, hnamed]

/-- The LNK.REMOTE whose time ends first ends at that time (R766). -/
theorem remoteTimeout_of_first {r : RemoteOp} {c : Chip} (hfirst : firstRemote c.link.remotes = some r) :
    remoteTimeout c =
      finish r.handle .timeout 0 0 (modLink (fun l => { l with remotes := delFirst (· == r) l.remotes }) (atTime r.ends c)) := by
  simp only [remoteTimeout, hfirst]

/-- Settles O44: each event comes to its body (`makesLinked_of`), and a clause's condition chooses the branch of that body. -/
theorem linkTransferRows : Obligations.LinkTransferRows := by
  refine ⟨fun node x data poison e r => ⟨?middle, ?last, ?misfit⟩, ?unexported, ?blockOk, ?blockTimeout, ?mgmt,
    fun node h data poison => ⟨?chunk, ?badChunk⟩, ?accepted, ?result, ?remoteTimeout⟩
  case middle =>
    exact makesLinked_of (blockReceive node.toNat none x.val none none data poison) (fun _ => rfl) fun c _ ⟨⟨hexp, hbegun⟩, hfits⟩ =>
      blockReceive_middle hexp hbegun hfits poison
  case last =>
    exact fun crc => makesLinked_of (blockReceive node.toNat none x.val none (some crc.toNat) data poison) (fun _ => rfl)
      fun c _ ⟨⟨hexp, hbegun⟩, hfits⟩ => blockReceive_last hexp hbegun hfits crc.toNat poison
  case misfit =>
    exact makesLinked_of (blockReceive node.toNat none x.val none none data poison) (fun _ => rfl) fun c _ ⟨⟨hexp, hbegun⟩, hmisfit⟩ =>
      blockReceive_misfit hexp hbegun hmisfit none poison
  case unexported =>
    exact fun node x first last data poison => makesLinked_of
      (blockReceive node.toNat none x.val (first.map fun f => (f.1.toNat, f.2.toNat)) (last.map (·.toNat)) data poison) (fun _ => rfl)
      fun c _ hexp => blockReceive_unexported hexp ..
  case blockOk => exact fun node x => makesLinked_of (blockOk node.toNat x.val) (fun _ => rfl) fun _ _ _ => rfl
  case blockTimeout => exact fun b rest => makesLinked_of blockTimeout (fun _ => rfl) fun c _ hblocks => blockTimeout_of_waiting hblocks
  case mgmt =>
    exact fun q node rec' poison => makesLinked_of (mgmtReceive q.val node.toNat (leBytes 32 rec'.toNat) poison true) (fun _ => rfl)
      fun c _ ⟨hjoined, hauth, hcredit⟩ => mgmtReceive_of_authed hjoined hauth hcredit _ poison
  case chunk =>
    exact makesLinked_of (linkChunk node.toNat h.toNat data poison) (fun _ => rfl) fun c _ ⟨hne, hlen⟩ => linkChunk_of_length hne hlen ..
  case badChunk =>
    exact makesLinked_of (linkChunk node.toNat h.toNat data poison) (fun _ => rfl) fun c _ hbad => linkChunk_of_badLength hbad ..
  case accepted =>
    exact fun node w r => makesLinked_of (remoteAnswer node.toNat (.accepted w)) (fun _ => rfl) fun c _ hwaits => remoteAnswer_accepted hwaits w
  case result =>
    exact fun node h bs r => makesLinked_of (remoteAnswer node.toNat (.result h bs)) (fun _ => rfl) fun c _ hnamed => remoteAnswer_result hnamed bs
  case remoteTimeout => exact fun r => makesLinked_of remoteTimeout (fun _ => rfl) fun c _ hfirst => remoteTimeout_of_first hfirst

end Sys2Proof.Machine

/-! The arithmetic of the cores (R277, R280, Tables 05.3 and 05.11): sums, differences and carry chains, and obligation O10. -/

namespace Sys2Proof.Machine

/-! ### Signed numbers of w bits -/

/-- The signed reading of w bits is the balanced remainder modulo 2^w. -/
theorem sext_eq_bmod {w : Nat} (hw : 0 < w) (x : Nat) : sext w x = (x : Int).bmod (2 ^ w) := by
  obtain ⟨v, rfl⟩ : ∃ v, w = v + 1 := ⟨w - 1, by omega⟩
  have hhalf : ((2 ^ (v + 1) : Nat) + 1 : Int) / 2 = (2 ^ v : Nat) := by
    rw [Nat.pow_succ]
    omega
  rw [Int.bmod_def, hhalf, sext, Nat.add_sub_cancel]
  norm_cast

/-- An exact value modulo 2^w is read back as itself just where it is a signed number of w bits. -/
theorem sext_eq_iff {w : Nat} (hw : 0 < w) {x : Nat} {e : Int} (h : (x : Int).bmod (2 ^ w) = e.bmod (2 ^ w)) :
    sext w x = e ↔ -(2 ^ (w - 1) : Nat) ≤ e ∧ e < (2 ^ (w - 1) : Nat) := by
  obtain ⟨v, rfl⟩ : ∃ v, w = v + 1 := ⟨w - 1, by omega⟩
  rw [sext_eq_bmod hw, h, Int.bmod_eq_iff (by positivity), Nat.add_sub_cancel, Nat.pow_succ]
  simp only [Int.sub_self, Int.dvd_zero, and_true]
  omega

/-- The complement of w bits reads as the negative less one. -/
theorem sext_compl {w b : Nat} (hw : 0 < w) (hb : b < 2 ^ w) : sext w (2 ^ w - 1 - b) = -1 - sext w b := by
  obtain ⟨v, rfl⟩ : ∃ v, w = v + 1 := ⟨w - 1, by omega⟩
  have hlt : 2 ^ (v + 1) - 1 - b < 2 ^ (v + 1) := by omega
  rw [sext, sext, Nat.mod_eq_of_lt hb, Nat.mod_eq_of_lt hlt, Nat.add_sub_cancel]
  split <;> split <;> omega

/-! ### Sums -/

theorem addFlags_res (w a b k : Nat) : (addFlags w a b k).res = (a + b + k) % 2 ^ w := rfl

theorem addFlags_res_lt (w a b k : Nat) : (addFlags w a b k).res < 2 ^ w := Nat.mod_lt _ (Nat.two_pow_pos w)

/-- C is what the exact sum has beyond w bits. -/
theorem addFlags_c (w a b k : Nat) : (addFlags w a b k).c = some (decide (2 ^ w ≤ a + b + k)) := rfl

/-- The exact sum is kept just where it has no more than w bits. -/
theorem addFlags_res_ne_iff (w a b k : Nat) : (addFlags w a b k).res ≠ a + b + k ↔ 2 ^ w ≤ a + b + k := by
  rw [addFlags_res, ne_eq, Nat.mod_eq_iff_lt (Nat.two_pow_pos w).ne', Nat.not_lt]

/-- V is 0 where the signed result is the exact signed sum. -/
theorem addFlags_v_eq_false (w a b k : Nat) :
    (addFlags w a b k).v = some false ↔ sext w (addFlags w a b k).res = sext w a + sext w b + k := by
  simp [addFlags, AluRes.zn]

/-- V is 1 just where the exact signed sum is no signed number of w bits. -/
theorem addFlags_v {w : Nat} (hw : 0 < w) (a b k : Nat) :
    (addFlags w a b k).v =
      some (decide ¬(-(2 ^ (w - 1) : Nat) ≤ sext w a + sext w b + k ∧ sext w a + sext w b + k < (2 ^ (w - 1) : Nat))) := by
  have hcong : (((a + b + k) % 2 ^ w : Nat) : Int).bmod (2 ^ w) = (sext w a + sext w b + k).bmod (2 ^ w) := by
    rw [sext_eq_bmod hw, sext_eq_bmod hw, Int.add_assoc, Int.bmod_add_bmod, Int.add_left_comm, Int.bmod_add_bmod, Int.natCast_mod, Int.emod_bmod]
    congr 1
    omega
  simp only [← sext_eq_iff hw hcong]
  rfl

/-! ### Differences -/

/-- Every field of a difference is that of the sum with the complement of the subtrahend and of the borrow, but for C, which is its
complement. -/
theorem subFlags_eq_addFlags_compl {w a b k : Nat} (hw : 0 < w) (hb : b < 2 ^ w) (hk : k ≤ 1) :
    subFlags w a b k =
      { addFlags w a (2 ^ w - 1 - b) (1 - k) with c := (addFlags w a (2 ^ w - 1 - b) (1 - k)).c.map not } := by
  have hres : (a + 2 ^ w + 2 ^ w - b - k) % 2 ^ w = (a + (2 ^ w - 1 - b) + (1 - k)) % 2 ^ w := by
    rw [show a + 2 ^ w + 2 ^ w - b - k = a + (2 ^ w - 1 - b) + (1 - k) + 2 ^ w by omega, Nat.add_mod_right]
  have hexact : sext w a - sext w b - k = sext w a + sext w (2 ^ w - 1 - b) + (1 - k : Nat) := by
    rw [sext_compl hw hb]
    omega
  have hborrow : a < b + k ↔ ¬2 ^ w ≤ a + (2 ^ w - 1 - b) + (1 - k) := by omega
  simp only [subFlags, addFlags, hres, hexact, hborrow, Option.map_some, decide_not]

/-- The result is the exact difference modulo 2^w. -/
theorem subFlags_res_emod {w a b k : Nat} (hb : b < 2 ^ w) (hk : k ≤ 1) :
    ((subFlags w a b k).res : Int) % (2 ^ w : Nat) = ((a : Int) - b - k) % (2 ^ w : Nat) := by
  have hcast : ((a + 2 ^ w + 2 ^ w - b - k : Nat) : Int) = (a : Int) - b - k + (2 ^ w : Nat) * 2 := by omega
  simp only [subFlags, AluRes.zn]
  rw [Int.natCast_mod, Int.emod_emod, hcast, Int.add_mul_emod_self_left]

theorem subFlags_res_lt (w a b k : Nat) : (subFlags w a b k).res < 2 ^ w := Nat.mod_lt _ (Nat.two_pow_pos w)

/-- C is the borrow out of the exact difference. -/
theorem subFlags_c_eq_true (w a b k : Nat) : (subFlags w a b k).c = some true ↔ (a : Int) - b - k < 0 := by
  simp only [subFlags, Option.some.injEq, decide_eq_true_eq]
  omega

/-! ### The carry chain from low words to high words -/

/-- The carry that ADC takes over from a sum of w bits. -/
theorem b2n_addFlags_c {w a b : Nat} (ha : a < 2 ^ w) (hb : b < 2 ^ w) : b2n ((addFlags w a b 0).c.getD false) = (a + b) / 2 ^ w := by
  by_cases h : 2 ^ w ≤ a + b
  · rw [addFlags_c, Nat.add_zero, decide_eq_true h, Nat.div_eq_of_lt_le (k := 1) (by omega) (by omega)]
    rfl
  · rw [addFlags_c, Nat.add_zero, decide_eq_false h, Nat.div_eq_of_lt (by omega)]
    rfl

/-- A long word is its signed high word and its low word. -/
theorem sext_long {x : Nat} (h : x < 2 ^ 32) : sext 32 x = 65536 * sext 16 (x / 65536) + (x % 65536 : Nat) := by
  simp only [sext]
  split <;> split <;> omega

/-- Adding low words and then high words with their carry is the long sum. -/
theorem addFlags_chain {a b : Nat} (ha : a < 2 ^ 32) (hb : b < 2 ^ 32) :
    let lo := addFlags 16 (a % 65536) (b % 65536) 0
    let hi := addFlags 16 (a / 65536) (b / 65536) (b2n (lo.c.getD false))
    (addFlags 32 a b 0).res = lo.res + 65536 * hi.res ∧ (addFlags 32 a b 0).c = hi.c ∧ (addFlags 32 a b 0).v = hi.v ∧
      (addFlags 32 a b 0).n = hi.n := by
  intro lo hi
  have hcarry : b2n (lo.c.getD false) = (a % 65536 + b % 65536) / 2 ^ 16 := b2n_addFlags_c (Nat.mod_lt _ (by decide)) (Nat.mod_lt _ (by decide))
  have hres : (addFlags 32 a b 0).res = lo.res + 65536 * hi.res := by
    simp only [lo, hi, hcarry, addFlags_res]
    omega
  refine ⟨hres, ?_, ?_, ?_⟩
  · simp only [hi, hcarry, addFlags_c, Option.some.injEq, decide_eq_decide]
    omega
  · simp only [hi, hcarry, addFlags_v (by decide : 0 < 32), addFlags_v (by decide : 0 < 16), sext_long ha, sext_long hb, Option.some.injEq,
      decide_eq_decide, Nat.reducePow, Nat.reduceSub]
    omega
  · have hlo : lo.res < 65536 := addFlags_res_lt ..
    show some (bit (addFlags 32 a b 0).res 31) = some (bit hi.res 15)
    simp only [hres, bit, show (lo.res + 65536 * hi.res) / 2 ^ 31 = hi.res / 2 ^ 15 by omega]

/-- Settles O10: the facts about sums and differences hold for every width above 0, and a carry chain of two words is the long sum
(`addFlags_chain`). -/
theorem arithmeticIsExact : Obligations.ArithmeticIsExact := by
  refine ⟨fun w hmem a b k ha hb hk => ?_, fun a b ha hb => addFlags_chain ha hb⟩
  have hw : 0 < w := by
    simp only [List.mem_cons, List.not_mem_nil, or_false] at hmem
    omega
  have hsub := subFlags_eq_addFlags_compl (a := a) hw hb hk
  refine ⟨addFlags_res_lt .., ?_, addFlags_v_eq_false .., ?_, subFlags_res_emod hb hk, subFlags_res_lt .., subFlags_c_eq_true .., ?_, ?_, ?_⟩
  · simp only [addFlags_c, addFlags_res_ne_iff]
  · rw [addFlags_v hw, Option.some.injEq, decide_eq_false_iff_not, not_not]
  · rw [hsub]
  · rw [hsub]
  · rw [hsub]

end Sys2Proof.Machine

/-! The instructions of the cores that work on registers alone (R275 to R281, R291, R292, R343 to R348): the two-operand instructions, shifts and
multiplications, unary instructions, immediates and undefined encodings, and obligations O48, O49, O50 and O58. -/

namespace Sys2Proof.Machine

/-! ### Two-operand instructions -/

/-- The two-operand instructions with the operation of each (Table 05.3). -/
def twoOperandRows : List (AluOp × (CoreId → AluForm → Instr)) :=
  [(.mov, .mov), (.add, .add), (.adc, .adc), (.sub, .sub), (.sbc, .sbc), (.cmp, .cmp), (.and, .and), (.or, .or), (.xor, .xor), (.tst, .tst)]

/-- A two-operand instruction runs its operation. -/
theorem exec_twoOperand {o : AluOp} {i : CoreId → AluForm → Instr} (h : (o, i) ∈ twoOperandRows) (k : CoreId) (f : AluForm) (s : State) :
    exec (i k f) s = onChip (aluInstr o k f) s := by
  simp only [twoOperandRows, List.mem_cons, List.not_mem_nil, or_false, Prod.mk.injEq] at h
  obtain ⟨rfl, rfl⟩ | ⟨rfl, rfl⟩ | ⟨rfl, rfl⟩ | ⟨rfl, rfl⟩ | ⟨rfl, rfl⟩ |
    ⟨rfl, rfl⟩ | ⟨rfl, rfl⟩ | ⟨rfl, rfl⟩ | ⟨rfl, rfl⟩ | ⟨rfl, rfl⟩ := h <;> rfl

/-- Settles O48: every instruction runs its operation (`exec_twoOperand`), and each form is a change of registers alone. -/
theorem twoOperandInstructions : Obligations.TwoOperandInstructions := by
  intro o i hrow k
  refine ⟨?reg, ?imm, ?small, ?pair⟩
  case reg => exact fun d w => steps_of_regInstr (exec_twoOperand hrow k (.reg d w))
  case imm => exact fun d v => steps_of_regInstr (exec_twoOperand hrow k (.imm d v))
  case small => exact fun d n => steps_of_regInstr (exec_twoOperand hrow k (.small d n))
  case pair => exact fun p q => steps_of_regInstr (exec_twoOperand hrow k (.pair p q))

/-! ### Shifts and multiplications -/

/-- An instruction that is ILLEGAL in whatever state it is fetched. -/
theorem faults_illegal {i : Instr} {k : CoreId} {code : Nat} (h : ∀ s, exec i s = onChip (illegalInstr k code) s) :
    Faults i k 1 (fun _ => True) (.illegal code) :=
  faults_of_illegal fun s _ _ => h s

/-- The shifts with the operation of each (Table 05.3). -/
def shiftRows : List (ShiftOp × (CoreId → AluForm → Instr)) := [(.shl, .shl), (.shr, .shr), (.sar, .sar), (.ror, .ror)]

/-- A shift runs its operation. -/
theorem exec_shift {o : ShiftOp} {i : CoreId → AluForm → Instr} (h : (o, i) ∈ shiftRows) (k : CoreId) (f : AluForm) (s : State) :
    exec (i k f) s = onChip (shiftInstr o k f) s := by
  simp only [shiftRows, List.mem_cons, List.not_mem_nil, or_false, Prod.mk.injEq] at h
  obtain ⟨rfl, rfl⟩ | ⟨rfl, rfl⟩ | ⟨rfl, rfl⟩ | ⟨rfl, rfl⟩ := h <;> rfl

/-- The count of a shift is four bits (R278). -/
theorem shiftBy_mod (o : ShiftOp) (d v : Nat) (t : Bool) (x : Core) : shiftBy o d v t x = shiftBy o d (v % 16) t x := by
  simp only [shiftBy, Nat.mod_mod]

/-- The multiplications, with whether each is signed (Table 05.3). -/
def mulRows : List (Bool × (CoreId → AluForm → Instr)) := [(false, .mulu), (true, .muls)]

/-- A multiplication runs its product. -/
theorem exec_mul {g : Bool} {i : CoreId → AluForm → Instr} (h : (g, i) ∈ mulRows) (k : CoreId) (f : AluForm) (s : State) :
    exec (i k f) s = onChip (mulInstr g k f) s := by
  simp only [mulRows, List.mem_cons, List.not_mem_nil, or_false, Prod.mk.injEq] at h
  obtain ⟨rfl, rfl⟩ | ⟨rfl, rfl⟩ := h <;> rfl

/-- A multiplication of Wd by a value v tagged t, n words long, once it is fetched: an odd Wd is no pair (R279). -/
def mulBody (signed : Bool) (k n d : Nat) (v : Core → Nat) (t : Core → Bool) (c : Chip) : Res :=
  if d % 2 = 1 then .fault (.illegal 0x0501)
  else .ok (modCore k (fun x => { multiply signed d (v x) (t x) x with pc := x.next n }) c)

theorem mulInstr_reg (g : Bool) (k : CoreId) (d w : Reg) :
    mulInstr g k (.reg d w) = runInstr k 1 false false (mulBody g k 1 d (·.reg w) (·.tag w)) := rfl

theorem mulInstr_imm (g : Bool) (k : CoreId) (d : Reg) (v : Word) :
    mulInstr g k (.imm d v) = runInstr k 2 false false (mulBody g k 2 d (fun _ => v.toNat) fun _ => false) := rfl

theorem mulInstr_small (g : Bool) (k : CoreId) (d : Reg) (n : Fin 8) :
    mulInstr g k (.small d n) = runInstr k 1 false false (mulBody g k 1 d (fun _ => n.val + 1) fun _ => false) := rfl

/-- Into an even register, a multiplication changes registers alone. -/
theorem steps_of_mul {g : Bool} {i : CoreId → AluForm → Instr} (hrow : (g, i) ∈ mulRows) {k : CoreId} {f : AluForm} {n d : Nat}
    {v : Core → Nat} {t : Core → Bool} (hform : mulInstr g k f = runInstr k n false false (mulBody g k n d v t)) (hd : d % 2 = 0) :
    Steps (i k f) k n fun x => multiply g d (v x) (t x) x := by
  have hbody : mulBody g k n d v t =
      fun c => .ok (modCore k (fun x => { multiply g d (v x) (t x) x with pc := x.next n }) c) :=
    funext fun c => if_neg (by omega)
  refine steps_of_regInstr fun s => ?_
  rw [exec_mul hrow, hform, hbody, regInstr]

/-- Into an odd register, a multiplication is ILLEGAL. -/
theorem faults_of_mul {g : Bool} {i : CoreId → AluForm → Instr} (hrow : (g, i) ∈ mulRows) {k : CoreId} {f : AluForm} {n d : Nat}
    {v : Core → Nat} {t : Core → Bool} (hform : mulInstr g k f = runInstr k n false false (mulBody g k n d v t)) (hd : d % 2 = 1) :
    Faults (i k f) k n (fun _ => True) (.illegal 0x0501) := by
  refine faults_of (mulBody g k n d v t) (fun s => ?_) fun _ _ => if_pos hd
  rw [exec_mul hrow, hform]

/-- Settles O49: a shift is a change of registers alone, a multiplication depends on its destination (`steps_of_mul`,
`faults_of_mul`), and the long form of either is ILLEGAL. -/
theorem shiftsAndMultiplications : Obligations.ShiftsAndMultiplications := by
  refine ⟨fun o d v t x => shiftBy_mod o d v t x, ?shift, ?multiply⟩
  case shift =>
    intro o i hrow k
    refine ⟨?reg, ?imm, ?small, ?pair⟩
    case reg => exact fun d w => steps_of_regInstr (exec_shift hrow k (.reg d w))
    case imm => exact fun d v => steps_of_regInstr (exec_shift hrow k (.imm d v))
    case small => exact fun d n => steps_of_regInstr (exec_shift hrow k (.small d n))
    case pair => exact fun p q => faults_illegal (exec_shift hrow k (.pair p q))
  case multiply =>
    intro g i hrow k d
    refine ⟨fun heven => ⟨?reg, ?imm, ?small⟩, fun hodd => ⟨?oddReg, ?oddImm, ?oddSmall⟩, ?pair⟩
    case reg => exact fun w => steps_of_mul hrow (mulInstr_reg g k d w) heven
    case imm => exact fun v => steps_of_mul hrow (mulInstr_imm g k d v) heven
    case small => exact fun n => steps_of_mul hrow (mulInstr_small g k d n) heven
    case oddReg => exact fun w => faults_of_mul hrow (mulInstr_reg g k d w) hodd
    case oddImm => exact fun v => faults_of_mul hrow (mulInstr_imm g k d v) hodd
    case oddSmall => exact fun n => faults_of_mul hrow (mulInstr_small g k d n) hodd
    case pair => exact fun p q => faults_illegal (exec_mul hrow k (.pair p q))

/-! ### Unary instructions and special registers -/

/-- The unary instructions but CLR, with the operation of each (Table 05.4). -/
def unaryRows : List (UnaryOp × (CoreId → Reg → Instr)) :=
  [(.not, .not), (.neg, .neg), (.inc, .inc), (.dec, .dec), (.sxt, .sxt), (.zxt, .zxt), (.swab, .swab)]

/-- A unary operation that reads its register keeps the register's tag (R343). -/
theorem unaryInstr_of_ne_clr {o : UnaryOp} (h : o ≠ .clr) (k : CoreId) (d : Reg) : unaryInstr o k d = regInstr k 1 (unary o d) := by
  simp only [unaryInstr, bne_iff_ne.mpr h, Bool.and_true]
  rfl

/-- A unary instruction changes its register and the flags by its operation. -/
theorem exec_unary {o : UnaryOp} {i : CoreId → Reg → Instr} (h : (o, i) ∈ unaryRows) (k : CoreId) (d : Reg) (s : State) :
    exec (i k d) s = onChip (regInstr k 1 (unary o d)) s := by
  simp only [unaryRows, List.mem_cons, List.not_mem_nil, or_false, Prod.mk.injEq] at h
  obtain ⟨rfl, rfl⟩ | ⟨rfl, rfl⟩ | ⟨rfl, rfl⟩ | ⟨rfl, rfl⟩ | ⟨rfl, rfl⟩ | ⟨rfl, rfl⟩ | ⟨rfl, rfl⟩ := h <;>
    exact congrArg (onChip · s) (unaryInstr_of_ne_clr (by decide) k d)

/-- CLR writes 0 without a tag and sets no flag. -/
theorem unaryInstr_clr (k : CoreId) (d : Reg) : unaryInstr .clr k d = regInstr k 1 fun x => x.setReg d 0 false := by
  have hread : (UnaryOp.clr != .clr) = false := rfl
  simp only [unaryInstr, hread, Bool.and_false]
  rfl

/-- RDS of a special register that exists. -/
theorem rdsInstr_of_ne {e : Special} (h : e ≠ 7) (k : CoreId) (d : Reg) :
    rdsInstr k d e = regInstr k 1 fun x => x.setReg d (specialRead e x).1 (specialRead e x).2 := if_neg h

/-- WRS of a special register that may be written: a bank takes no tagged value (R347). -/
def wrsBody (k : CoreId) (e : Special) (w : Reg) (c : Chip) : Res :=
  if (coreOf c k).tag w ∧ 2 ≤ e.val ∧ e.val ≤ 4 then .fault (.poison 2)
  else .ok (modCore k (fun x => { specialWrite e (x.reg w) (x.tag w) x with pc := x.next 1 }) c)

theorem wrsInstr_of_ne {e : Special} (hcb : e ≠ 5) (hundef : e ≠ 7) (k : CoreId) (w : Reg) :
    wrsInstr k e w = runInstr k 1 false false (wrsBody k e w) :=
  if_neg (not_or.mpr ⟨hcb, hundef⟩)

/-! ### Immediates -/

/-- MOVB to a bank that does not exist is ILLEGAL. -/
theorem movbInstr_of_ge {e : Fin 8} (h : 3 ≤ e.val) (k : CoreId) (v : Byte) : movbInstr k e v = illegalInstr k 0x0501 := by
  obtain ⟨n, hn⟩ : ∃ n, e.val = n + 3 := ⟨e.val - 3, by omega⟩
  simp only [movbInstr, hn]

/-- Settles O50: each row is a change of registers alone (`steps_of_regInstr`), ILLEGAL (`faults_illegal`), or the branch of WRS that the
clause's condition chooses. -/
theorem unaryAndImmediates : Obligations.UnaryAndImmediates := by
  refine ⟨?unary, ?clr, ?rds, ?rdsUndefined, ?wrs, ?wrsTagged, ?wrsUndefined, ?movi, ?movb, ?movbUndefined, ?addi, ?cmpi, ?addsp, ?nop, ?fence,
    ?ei, ?di⟩
  case unary => exact fun o i hrow k d => steps_of_regInstr (exec_unary hrow k d)
  case clr => exact fun k d => steps_of_regInstr fun s => congrArg (onChip · s) (unaryInstr_clr k d)
  case rds => exact fun k d e he => steps_of_regInstr fun s => congrArg (onChip · s) (rdsInstr_of_ne he k d)
  case rdsUndefined => exact fun k d => faults_illegal fun _ => rfl
  case wrs =>
    refine fun k e w hcb hundef => does_of (wrsBody k e w) (fun s => congrArg (onChip · s) (wrsInstr_of_ne hcb hundef k w)) fun c hclean => ?_
    have hpass : ¬((coreOf c k).tag w = true ∧ 2 ≤ e.val ∧ e.val ≤ 4) := by
      rintro ⟨htag, hlow, hhigh⟩
      rcases hclean with h | h | h
      · exact Bool.false_ne_true (h.symm.trans htag)
      · omega
      · omega
    exact if_neg hpass
  case wrsTagged =>
    intro k e w hlow hhigh
    have hcb : e ≠ 5 := fun h => absurd hhigh (by rw [h]; decide)
    have hundef : e ≠ 7 := fun h => absurd hhigh (by rw [h]; decide)
    exact faults_of (wrsBody k e w) (fun s => congrArg (onChip · s) (wrsInstr_of_ne hcb hundef k w)) fun c htag => if_pos ⟨htag, hlow, hhigh⟩
  case wrsUndefined => exact fun k e w he => faults_illegal fun s => congrArg (onChip · s) (if_pos he)
  case movi => exact fun k d v => steps_of_regInstr fun _ => rfl
  case movb => exact fun k v => ⟨steps_of_regInstr fun _ => rfl, steps_of_regInstr fun _ => rfl, steps_of_regInstr fun _ => rfl⟩
  case movbUndefined => exact fun k e v he => faults_illegal fun s => congrArg (onChip · s) (movbInstr_of_ge he k v)
  case addi => exact fun k d v => steps_of_regInstr fun _ => rfl
  case cmpi => exact fun k d v => steps_of_regInstr fun _ => rfl
  case addsp => exact fun k v => steps_of_regInstr fun _ => rfl
  case nop => exact fun k => steps_of_regInstr fun _ => rfl
  case fence => exact fun k => steps_of_regInstr fun _ => rfl
  case ei => exact fun k => steps_of_regInstr fun _ => rfl
  case di => exact fun k => steps_of_regInstr fun _ => rfl

/-! ### Undefined encodings and extensions -/

/-- On K0 to K5 a steward extension is ILLEGAL (R276). -/
theorem exec_stewardExtension_play {k : CoreId} (h : k.val < 6) (w : Word) (s : State) :
    exec (.stewardExtension k w) s = onChip (illegalInstr k 0x0503) s := if_neg (Nat.ne_of_lt h)

/-- Settles O58: an undefined encoding is ILLEGAL (`faults_illegal`), and a steward extension depends on its core. -/
theorem undefinedEncodings : Obligations.UndefinedEncodings := by
  refine ⟨?undefined, ?play, ?steward⟩
  case undefined => exact fun k w => faults_illegal fun _ => rfl
  case play => exact fun k w hk => faults_illegal (exec_stewardExtension_play hk w)
  case steward => exact fun k w s hk => if_pos hk

end Sys2Proof.Machine

/-! The instructions of the cores that reach memory or jump (R282 to R290, R294, R299, R326, R336, R337, R342, R346, R347): what each body comes
to, and obligations O51, O53 and O54. -/

namespace Sys2Proof.Machine

/-! ### Bodies that check their data accesses first -/

/-- What a body comes to behind the check of its accesses. -/
def whereAllowed (f : Option Flt) (r : Res) : Res :=
  match f with
  | some f => .fault f
  | none => r

/-- An instruction that only the check of its data accesses guards makes its effect where they are allowed. -/
theorem does_of_allowed {i : Instr} {k : CoreId} {n : Nat} {as : Chip → List Acc} {eff : Chip → Chip}
    (h : ∀ s, exec i s = onChip (runInstr k n false false fun c => whereAllowed (dataFault c k (as c)) (.ok (eff c))) s) :
    Does i k n (fun c => dataFault c k (as c) = none) eff :=
  does_of _ h fun c hallowed => by rw [hallowed, whereAllowed]

/-- Two changes of a core that agree on the core as it stands are the same change. -/
theorem modCore_congr {k : Nat} {f g : Core → Core} {c : Chip} (h : f (coreOf c k) = g (coreOf c k)) : modCore k f c = modCore k g c := by
  rw [modCore, modCore, h]

/-- A row under a stronger condition, with its effect said in another way. -/
theorem Does.of_imp {i : Instr} {k : CoreId} {n : Nat} {pre pre' : Chip → Prop} {eff eff' : Chip → Chip} (h : Does i k n pre eff)
    (hpre : ∀ c, pre' c → pre c) (heff : ∀ c, eff c = eff' c) : Does i k n pre' eff' :=
  fun s he hp => heff (noLoad k s.chip) ▸ h s he (hpre _ hp)

/-! ### Loads and stores -/

/-- Settles O51: a load or store whose encoding is defined is guarded by the check of its one access alone (`does_of_allowed`), and any other
encoding is ILLEGAL. -/
theorem loadsAndStores : Obligations.LoadsAndStores := by
  unfold Obligations.LoadsAndStores
  intro load store
  refine ⟨?ld, ?lde, ?st, ?ste, ?ldUndefined, ?ldeUndefined, ?stUndefined, ?steUndefined⟩
  case ld => exact fun k z r m hdef => does_of_allowed fun s => congrArg (onChip · s) (if_pos hdef)
  case lde => exact fun k z r m hdef hmode => does_of_allowed fun s => congrArg (onChip · s) (if_pos (by rw [hdef, hmode]; rfl))
  case st => exact fun k z r m hdef => does_of_allowed fun s => congrArg (onChip · s) (if_pos hdef)
  case ste => exact fun k z r m hdef hmode => does_of_allowed fun s => congrArg (onChip · s) (if_pos (by rw [hdef, hmode]; rfl))
  case ldUndefined => exact fun k z r m hdef => faults_illegal fun s => congrArg (onChip · s) (if_neg (Bool.eq_false_iff.mp hdef))
  case ldeUndefined =>
    exact fun k z r m hdef => faults_illegal fun s => congrArg (onChip · s) (if_neg (Bool.eq_false_iff.mp (Bool.and_eq_false_iff.mpr hdef)))
  case stUndefined => exact fun k z r m hdef => faults_illegal fun s => congrArg (onChip · s) (if_neg (Bool.eq_false_iff.mp hdef))
  case steUndefined =>
    exact fun k z r m hdef => faults_illegal fun s => congrArg (onChip · s) (if_neg (Bool.eq_false_iff.mp (Bool.and_eq_false_iff.mpr hdef)))

/-! ### Branches, jumps, calls and returns -/

/-- An even target brings no ALIGN (R271). -/
theorem oddTarget_of_even {t : Nat} (h : t % 2 = 0) (bank : Byte) : oddTarget bank t = none := if_neg (not_not.mpr h)

/-- PC holds 16 bits of a target. -/
theorem goto_mod (x : Core) (t : Nat) : x.goto (t % 65536) = x.goto t := by
  have hword : BitVec.ofNat 16 (t % 65536) = BitVec.ofNat 16 t := BitVec.eq_of_toNat_eq (by simp)
  rw [Core.goto, Core.goto, hword]

/-- The bank that a jump or a return leaves in CB: that of its target, or the one it stands in. -/
def bankAfter (far : Bool) (bank : Nat) (x : Core) : Byte := if far then BitVec.ofNat 8 bank else x.cb

/-- A jump or call to a clean, even target pushes what it pushes and goes there. -/
theorem does_of_jump {i : Instr} {k : CoreId} {n : Nat} {target : Core → Nat × Bool} {far : Bool} {push : Core → List (Nat × Bool)}
    (h : ∀ s, exec i s = onChip (jumpInstr k n target far push) s) :
    Does i k n
      (fun c => (target (coreOf c k)).2 = false ∧ (target (coreOf c k)).1 % 2 = 0 ∧
        dataFault c k (pushAccs (coreOf c k) (push (coreOf c k)).length) = none)
      (fun c => modCore k (fun x => { x.goto (target (coreOf c k)).1 with
          cb := bankAfter far ((target (coreOf c k)).1 / 65536) (coreOf c k) })
        (doPush k (push (coreOf c k)) c)) := by
  refine does_of _ h fun c ⟨hclean, heven, hallowed⟩ => ?_
  have hodd (bank : Byte) : oddTarget bank ((target (coreOf c k)).1 % 65536) = none := oddTarget_of_even (by omega) bank
  rw [dataFault] at hallowed
  simp only [hclean, hodd, hallowed, Bool.false_eq_true, if_false, goto_mod]
  rfl

/-- A return that pops sound words with an even PC goes where they say. -/
theorem does_of_ret {i : Instr} {k : CoreId} {far : Bool} {n : Nat} (hn : n = if far then 2 else 1) {ws : List (Nat × Bool)}
    (hsound : somePoison ws = false) (h : ∀ s, exec i s = onChip (retInstr k far) s) :
    Does i k 1
      (fun c => dataFault c k (popAccs (coreOf c k) n) = none ∧ (popWords k (coreOf c k) n 0 c).1 = ws ∧ (ws.getD 0 (0, false)).1 % 2 = 0)
      (fun c => modCore k (fun x => { x.goto (ws.getD 0 (0, false)).1 with
          cb := bankAfter far (ws.getD 1 (0, false)).1 (coreOf c k), sp := x.popped n })
        (popWords k (coreOf c k) n 0 c).2) := by
  subst hn
  refine does_of _ h fun c ⟨hallowed, hwords, heven⟩ => ?_
  simp only [hallowed, hwords, hsound, oddTarget_of_even heven, Bool.false_eq_true, if_false]
  rfl

/-- A branch once it is fetched: a condition other than BRA reads FL (R288, R347). -/
def branchBody (k : CoreId) (cond : Fin 15) (f : BranchForm) (c : Chip) : Res :=
  if cond.val ≠ 0 ∧ (coreOf c k).flTag then .fault (.poison 3)
  else .ok (modCore k (fun x => if condTrue cond x.fl then x.goto (f.target x) else { x with pc := x.next f.words }) c)

/-- Settles O53: a branch goes where its condition says, a jump or call where its target says (`does_of_jump`), and a return where the words
it pops say (`does_of_ret`). -/
theorem controlFlow : Obligations.ControlFlow := by
  refine ⟨?branch, ?branchTagged, ?bsr, ?jmp, ?call, ?jmpf, ?callf, ?ret, ?retf⟩
  case branch =>
    refine fun k cond f => does_of (branchBody k cond f) (fun _ => rfl) fun c hread => if_neg ?_
    rintro ⟨hcond, htag⟩
    rcases hread with h | h
    · exact hcond (congrArg Fin.val h)
    · exact Bool.false_ne_true (h.symm.trans htag)
  case branchTagged =>
    exact fun k cond f hcond => faults_of (branchBody k cond f) (fun _ => rfl) fun c htag => if_pos ⟨Fin.val_ne_of_ne hcond, htag⟩
  case bsr => exact fun k f => does_of_allowed fun _ => rfl
  case jmp =>
    exact fun k f => (does_of_jump fun _ => rfl).of_imp (fun c ⟨hclean, heven⟩ => ⟨hclean, heven, rfl⟩) fun c => modCore_congr rfl
  case call => exact fun k f => (does_of_jump fun _ => rfl).of_imp (fun c hpre => hpre) fun c => rfl
  case jmpf =>
    refine fun k f => (does_of_jump fun _ => rfl).of_imp (fun c ⟨hclean, heven⟩ => ⟨hclean, heven, rfl⟩) fun c => modCore_congr ?_
    rw [← goto_mod]
    rfl
  case callf =>
    refine fun k f => (does_of_jump fun _ => rfl).of_imp (fun c hpre => hpre) fun c => ?_
    simp only [← goto_mod _ (f.target (coreOf c k)).1]
    rfl
  case ret =>
    exact fun k pc => (does_of_ret (far := false) (ws := [(pc, false)]) rfl rfl fun _ => rfl).of_imp (fun c hpre => hpre) fun c => rfl
  case retf =>
    exact fun k pc cb => (does_of_ret (far := true) (ws := [(pc, false), (cb, false)]) rfl rfl fun _ => rfl).of_imp (fun c hpre => hpre) fun c => rfl

/-! ### The stack and RETI -/

/-- RETI of a sound frame restores what Table 06.2 says. -/
theorem does_of_reti (k : CoreId) (c0 a0 a1 : Nat × Bool) (pc cb fl sp sb : Nat) (flBad : Bool) (c1 : Chip) :
    DoesKeepRf (.reti k) k 1
      (fun c => (coreOf c k).fl.h = true ∧ dataFault c k (popAccs (coreOf c k) 8) = none ∧
        popWords k (coreOf c k) 8 0 c = ([c0, a0, a1, (pc, false), (cb, false), (fl, flBad), (sp, false), (sb, false)], c1) ∧ pc % 2 = 0)
      (fun _ => modCore k (fun x => { x with
        pc := BitVec.ofNat 16 pc, cb := BitVec.ofNat 8 cb,
        fl := { c := bit fl 0, z := bit fl 1, n := bit fl 2, v := bit fl 3, i := bit fl 4, h := bit fl 5, rf := bit fl 6 },
        flTag := flBad || bit fl 7, sp := BitVec.ofNat 16 sp, spTag := bit fl 8, sb := BitVec.ofNat 8 sb }) c1) := by
  refine doesKeep_of _ (fun _ => rfl) fun c ⟨hhost, hallowed, hwords, heven⟩ => ?_
  simp [hhost, hallowed, hwords, oddTarget_of_even heven]

/-- Settles O54: a push or pop is guarded by the check of its one access alone (`does_of_allowed`), RETI restores a sound frame in host mode
and faults PRIV in play mode. -/
theorem stackAndReturn : Obligations.StackAndReturn := by
  refine ⟨?push, ?pushf, ?pop, ?popf, does_of_reti, ?retiPlay⟩
  case push => exact fun k r => does_of_allowed fun _ => rfl
  case pushf => exact fun k => does_of_allowed fun _ => rfl
  case pop => exact fun k r => does_of_allowed fun _ => rfl
  case popf => exact fun k => does_of_allowed fun _ => rfl
  case retiPlay =>
    refine fun k s hrun hfetch hplay => exec_landed_fault _ rfl hrun hfetch ?_
    simp only [hplay, Bool.not_false, if_true]

end Sys2Proof.Machine

/-! The block instructions of the cores (R309 to R311, R343): what one iteration comes to, and obligation O57. -/

namespace Sys2Proof.Machine

theorem ptrAcc_addr (right : Right) (bank : Byte) (r : Reg) (size : Nat) (x : Core) : (ptrAcc right bank r size x).addr = kaddr bank (x.reg r) := rfl

/-- Settles O57: each iteration passes the check of its accesses, in the order in which it makes them. -/
theorem blockIterations : Obligations.BlockIterations := by
  refine ⟨?bcpy, ?bset, ?bfnd, ?mac, ?xld⟩
  case bcpy =>
    intro k w d s c hallowed
    simp only [blockIter, bcpyIter, hallowed]
    rfl
  case bset =>
    intro k w d v c hallowed
    simp only [blockIter, bsetIter, hallowed]
    rfl
  case bfnd =>
    intro k d v c hallowed
    rw [dataFault] at hallowed
    simp only [blockIter, bfndIter, Bool.false_and, Bool.false_eq_true, if_false, hallowed]
    rfl
  case mac =>
    intro k d s c hallowed
    simp only [blockIter, macIter, hallowed]
    rfl
  case xld =>
    intro k w d s b c i c1 hindex hread hallowed
    simp only [blockIter, xldIter, ptrAcc_addr, hindex, hread, hallowed, Bool.false_eq_true, if_false]

end Sys2Proof.Machine

/-! Interrupt entry of a core (R315, R329, R391): what the event makes of the chip, and obligation O59. -/

namespace Sys2Proof.Machine

/-- With I = 1 the handler of cause 0 is entered, and the level of the request is pushed (R329, R391). -/
theorem interruptEntry_of_entered {k q : Nat} {c c' : Chip} (htop : topRequest c (corePart c k) k = some q) (hbound : atBoundary c k = true)
    (hmask : (coreOf c k).fl.i = true) (henter : enter k 0 0 (savedPc (coreOf c k)) c = (true, c')) :
    interruptEntry k c = modCore k (fun y => { y with prio := q :: y.prio }) c' := by
  simp only [interruptEntry, htop, hbound, hmask, henter, Bool.not_true, Bool.false_eq_true, if_false, if_true]

/-- With I = 0 a request ends a WAITI and does no more (R315). -/
theorem interruptEntry_of_waiti {k q : Nat} {c : Chip} (htop : topRequest c (corePart c k) k = some q) (hbound : atBoundary c k = true)
    (hmask : (coreOf c k).fl.i = false) (hwait : (coreOf c k).wait = some .interrupt) :
    interruptEntry k c = modCore k (Core.doneWait 1) c := by
  simp only [interruptEntry, htop, hbound, hmask, hwait, Bool.not_true, Bool.false_eq_true, if_false, if_true]

/-- With no request there is nothing to enter. -/
theorem interruptEntry_of_none {k : Nat} {c : Chip} (htop : topRequest c (corePart c k) k = none) : interruptEntry k c = c := by
  simp only [interruptEntry, htop]

end Sys2Proof.Machine

namespace Sys2Proof

open Machine

/-- Settles O59: the event comes to its body, and each clause's condition chooses the branch of that body. -/
theorem interruptEntry : Obligations.InterruptEntry := by
  refine ⟨?entered, ?waiti, ?none⟩
  case entered =>
    exact fun k q c' => makes_of (Machine.interruptEntry k.val) (fun _ => rfl) fun c _ ⟨htop, hbound, hmask, henter⟩ =>
      interruptEntry_of_entered htop hbound hmask henter
  case waiti =>
    exact fun k q => makes_of (Machine.interruptEntry k.val) (fun _ => rfl) fun c _ ⟨htop, hbound, hmask, hwait⟩ =>
      interruptEntry_of_waiti htop hbound hmask hwait
  case none => exact fun k => makes_of (Machine.interruptEntry k.val) (fun _ => rfl) fun c _ htop => interruptEntry_of_none htop

end Sys2Proof

/-! Entry to a handler and double faults of a core (R331, R338, R339): what entry makes of the chip, and obligation O60. -/

namespace Sys2Proof.Machine

/-- The registers of core y after an entry whose registers before it were x, with the stack pointer the frame left and the vector
that was read (R331). -/
def Core.entered (x : Core) (sp vector : Nat) (y : Core) : Core :=
  { y with
    sb := if x.fl.h then x.sb else x.hostSb, sp := BitVec.ofNat 16 sp, spTag := if x.fl.h then x.spTag else false,
    fl := { x.fl with h := true, i := false, rf := false }, flTag := false,
    cb := x.vecBank, pc := BitVec.ofNat 16 vector, wait := none }

/-- An even vector is an even PC: the reduction to 16 bits keeps the parity. -/
theorem entered_pc_even {vector : Nat} (heven : vector % 2 = 0) (x : Core) (sp : Nat) (y : Core) :
    (x.entered sp vector y).pc.toNat % 2 = 0 := by
  simp only [Core.entered, BitVec.toNat_ofNat]
  omega

/-- Entry is refused with a double fault at the stack pointer's tag, a push, the vector's access or the vector's value, always with the
registers before it (R338, R339); otherwise it writes the core's registers once, and the vector was even (R331). -/
theorem enter_cases (k cause addr pc : Nat) (c : Chip) :
    (∃ c₁, enter k cause addr pc c = (false, doubleFault k (coreOf c k) c₁)) ∨
    (∃ sp vector c₁, vector % 2 = 0 ∧ enter k cause addr pc c = (true, modCore k ((coreOf c k).entered sp vector) c₁)) := by
  simp only [enter, apply_ite Prod.fst]
  split
  case isTrue => exact .inl ⟨_, rfl⟩
  case isFalse =>
    split
    case h_1 => exact .inl ⟨_, rfl⟩
    case h_2 =>
      split
      case isTrue => exact .inl ⟨_, rfl⟩
      case isFalse =>
        split
        case isTrue => exact .inl ⟨_, rfl⟩
        case isFalse hsound =>
          simp only [Bool.or_eq_true, bne_iff_ne, not_or, not_not] at hsound
          exact .inr ⟨_, _, _, hsound.2, rfl⟩

/-- A double fault leaves the core halted with the registers given: the event and the lint entry after it change no core (R339). -/
theorem coreOf_doubleFault {k : Nat} (hk : k < 7) (x : Core) (c : Chip) : coreOf (doubleFault k x c) k = { x with halted := true } := by
  calc coreOf (doubleFault k x c) k = coreOf (modCore k (fun _ => { x with halted := true }) c) k := by
        simp only [doubleFault, coreOf, lint_cores, fire_cores]
    _ = { x with halted := true } := coreOf_modCore_same hk _ c

/-- What an entry that is made leaves of its core (R331). -/
theorem coreOf_of_enter_made {k : Nat} (hk : k < 7) {cause addr pc : Nat} {c c' : Chip} (hmade : enter k cause addr pc c = (true, c')) :
    ∃ sp vector y, vector % 2 = 0 ∧ coreOf c' k = (coreOf c k).entered sp vector y := by
  rcases enter_cases k cause addr pc c with ⟨c₁, hrefused⟩ | ⟨sp, vector, c₁, heven, henter⟩
  · simp [hrefused] at hmade
  · obtain rfl : _ = c' := congrArg Prod.snd (henter.symm.trans hmade)
    exact ⟨sp, vector, coreOf c₁ k, heven, coreOf_modCore_same hk _ c₁⟩

/-- What an entry that is refused leaves of its core (R339). -/
theorem coreOf_of_enter_refused {k : Nat} (hk : k < 7) {cause addr pc : Nat} {c c' : Chip} (hrefused : enter k cause addr pc c = (false, c')) :
    coreOf c' k = { coreOf c k with halted := true } := by
  rcases enter_cases k cause addr pc c with ⟨c₁, henter⟩ | ⟨sp, vector, c₁, -, hmade⟩
  · obtain rfl : _ = c' := congrArg Prod.snd (henter.symm.trans hrefused)
    exact coreOf_doubleFault hk _ c₁
  · simp [hmade] at hrefused

end Sys2Proof.Machine

namespace Sys2Proof

open Machine

/-- Settles O60: entry either writes the registers of `Core.entered` or ends in a double fault (`enter_cases`), and each clause reads the
core of its outcome back. -/
theorem handlerEntry : Obligations.HandlerEntry := by
  refine ⟨?made, ?refused⟩
  case made =>
    intro k cause addr pc c c' hmade
    obtain ⟨sp, vector, y, heven, hcore⟩ := coreOf_of_enter_made k.isLt hmade
    dsimp only
    rw [hcore]
    exact ⟨rfl, rfl, rfl, entered_pc_even heven .., rfl, rfl, fun hhost => if_pos hhost, fun hplay => by simp [Core.entered, hplay]⟩
  case refused => exact fun k cause addr pc c c' => coreOf_of_enter_refused k.isLt

end Sys2Proof

/-! The arbitration of Hamper sources (R371 to R373, R386): what becomes of an edge and of an asserted level, and obligation O26. -/

namespace Sys2Proof.Machine

/-! ### Edges (R372) -/

/-- The chip once edge e has left the queue. -/
def takenEdge (e : Edge) (c : Chip) : Chip := { c with edges := delFirst (· == e) c.edges }

/-- The Hamper is as it was. -/
theorem hmpOf_takenEdge (e : Edge) (c : Chip) (p : Nat) : hmpOf (takenEdge e c) p = hmpOf c p := rfl

/-- The oldest edge of the source that waits leaves the queue and is arbitrated. -/
theorem hamperEdge_of_first {p src : Nat} {e : Edge} {c : Chip}
    (hfirst : c.edges.find? (fun e => e.part == p && e.src == src) = some e) :
    hamperEdge p src c = takeEdge p src e.data (takenEdge e c) := by
  simp only [hamperEdge, hfirst, takenEdge]

/-- An edge of a masked source is dropped. -/
theorem takeEdge_of_masked {p src : Nat} {c : Chip} {h : Hmp} (hhmp : hmpOf c p = h) (hmasked : h.srcEn.getLsbD src = false) (d : EvData) :
    takeEdge p src d c = c := by
  simp only [takeEdge, hhmp, hmasked, Bool.not_false, if_true]

/-- An edge whose ring is disabled is counted. -/
theorem takeEdge_of_ringDisabled {p src : Nat} {c : Chip} {h : Hmp} (hhmp : hmpOf c p = h) (hopen : h.srcEn.getLsbD src = true)
    (hring : (h.ring (h.ringOf src)).enable = false) (d : EvData) :
    takeEdge p src d c = modHmp p (Hmp.coalesce src 1 d) c := by
  simp only [takeEdge, hhmp, hopen, hring, Bool.not_true, Bool.not_false, Bool.false_eq_true, if_false, if_true]

/-- With no record postponed, an edge is counted while its source is claimed, and enqueued when it finds the source free. -/
theorem takeEdge_of_unposted {p src : Nat} {c : Chip} {h : Hmp} (hhmp : hmpOf c p = h) (hopen : h.srcEn.getLsbD src = true)
    (hring : (h.ring (h.ringOf src)).enable = true) (hpost : h.posted src = false) (d : EvData) :
    takeEdge p src d c = if h.pend.getLsbD src then modHmp p (Hmp.coalesce src 1 d) c else enqueue p src 1 d false false c := by
  cases hpend : h.pend.getLsbD src <;>
    simp only [takeEdge, hhmp, hopen, hring, hpost, hpend, Bool.not_true, Bool.not_false, Bool.false_eq_true, if_false, if_true]

/-! ### Levels (R372, R373) -/

/-- An asserted level that nothing masks and nothing claims is enqueued. -/
theorem hamperLevel_of_unclaimed {p src : Nat} {c : Chip} (hkind : isLevelSrc src = true) (hlevel : levelOf c p src = true)
    (hopen : (hmpOf c p).srcEn.getLsbD src = true) (hring : ((hmpOf c p).ring ((hmpOf c p).ringOf src)).enable = true)
    (hpend : (hmpOf c p).pend.getLsbD src = false) (hpost : (hmpOf c p).posted src = false) :
    hamperLevel p src c = enqueue p src 1 (.one 0) false true c := by
  simp only [hamperLevel, takeLevel, hkind, hlevel, hopen, hring, hpend, hpost, Bool.not_false, Bool.and_self, if_true]

/-- Settles O26: each event comes to its body (`makesRun_of`), an edge to `takeEdge` on the chip whose queue it has left
(`takenEdge`), and a clause's condition on the Hamper chooses the branch. -/
theorem hamperRows : Obligations.HamperRows := by
  intro p src
  refine ⟨?masked, ?ringDisabled, ?pending, ?free, ?level, ?postponed⟩
  case masked =>
    exact fun e => makesRun_of (hamperEdge p src) (fun _ => rfl) fun c _ ⟨hfirst, hmasked⟩ =>
      (hamperEdge_of_first hfirst).trans (takeEdge_of_masked (hmpOf_takenEdge e c p) hmasked e.data)
  case ringDisabled =>
    exact fun e => makesRun_of (hamperEdge p src) (fun _ => rfl) fun c _ ⟨hfirst, hopen, hring⟩ =>
      (hamperEdge_of_first hfirst).trans (takeEdge_of_ringDisabled (hmpOf_takenEdge e c p) hopen hring e.data)
  case pending =>
    exact fun e => makesRun_of (hamperEdge p src) (fun _ => rfl) fun c _ ⟨hfirst, hopen, hring, hpost, hpend⟩ =>
      (hamperEdge_of_first hfirst).trans ((takeEdge_of_unposted (hmpOf_takenEdge e c p) hopen hring hpost e.data).trans (if_pos hpend))
  case free =>
    exact fun e => makesRun_of (hamperEdge p src) (fun _ => rfl) fun c _ ⟨hfirst, hopen, hring, hpost, hpend⟩ =>
      (hamperEdge_of_first hfirst).trans ((takeEdge_of_unposted (hmpOf_takenEdge e c p) hopen hring hpost e.data).trans
        (if_neg (Bool.eq_false_iff.mp hpend)))
  case level =>
    exact makesRun_of (hamperLevel p src) (fun _ => rfl) fun c _ ⟨hkind, hlevel, hopen, hring, hpend, hpost⟩ =>
      hamperLevel_of_unclaimed hkind hlevel hopen hring hpend hpost
  case postponed => exact fun q => makesRun_of (drainPosts levelOf p q 96) (fun _ => rfl) fun _ _ _ => rfl

end Sys2Proof.Machine

/-! Sparse tables and stored bytes (R413, R419): what each operation reads back and leaves, and obligation O5. -/

namespace Sys2Proof.Machine

/-! ### Sparse tables -/

section
variable {α : Type} {l l' : List (Nat × α)} {a b q : Nat}

/-- No key at or below the bound of a rising table is listed. -/
theorem sfind_eq_none_of_srising : ∀ {l : List (Nat × α)} {b : Nat}, srising b l = true → a ≤ b → sfind l a = none
  | [], _, _, _ => rfl
  | (k, v) :: t, b, hl, hab => by
    simp only [srising, Bool.and_eq_true, decide_eq_true_eq] at hl
    have hak : a < k := by omega
    simp only [sfind, if_neg hak.ne, if_pos hak]

/-- A key that is found is listed with what it holds. -/
theorem mem_of_sfind {v : α} : ∀ {l : List (Nat × α)}, sfind l a = some v → (a, v) ∈ l
  | (k, w) :: t, h => by
    simp only [sfind] at h
    split at h
    case isTrue hk =>
      obtain rfl : w = v := Option.some.inj h
      simp [hk]
    case isFalse =>
      split at h
      case isTrue => cases h
      case isFalse => exact List.mem_cons_of_mem _ (mem_of_sfind h)

theorem sfind_sins_self (l : List (Nat × α)) (a : Nat) (x : α) : sfind (sins l a x) a = some x := by
  induction l with
  | nil => simp [sins, sfind]
  | cons e t ih =>
    obtain ⟨k, v⟩ := e
    rcases lt_trichotomy a k with h | rfl | h
    · simp [sins, sfind, h, h.ne]
    · simp [sins, sfind]
    · simp [sins, sfind, h.ne', Nat.not_lt_of_gt h, ih]

theorem sfind_sins_of_ne (h : q ≠ a) (x : α) (l : List (Nat × α)) : sfind (sins l a x) q = sfind l q := by
  induction l with
  | nil => simp [sins, sfind, h]
  | cons e t ih =>
    obtain ⟨k, v⟩ := e
    rcases lt_trichotomy a k with hk | rfl | hk
    · simp only [sins, if_neg hk.ne, if_pos hk, sfind, if_neg h]
      by_cases hq : q < a
      · have hqk : q < k := by omega
        simp only [if_pos hq, if_neg hqk.ne, if_pos hqk]
      · simp only [if_neg hq]
    · simp only [sins, if_true, sfind, if_neg h]
    · simp only [sins, if_neg hk.ne', if_neg (Nat.not_lt_of_gt hk), sfind, ih]

theorem sfind_sdel_self : ∀ {l : List (Nat × α)}, ssorted l = true → sfind (sdel l a) a = none
  | [], _ => rfl
  | (k, v) :: t, hl => by
    have hrise : srising k t = true := hl
    rcases lt_trichotomy a k with h | rfl | h
    · simp only [sdel, sfind, if_neg h.ne, if_pos h]
    · simpa only [sdel, if_true] using sfind_eq_none_of_srising hrise le_rfl
    · simpa only [sdel, sfind, if_neg h.ne', if_neg (Nat.not_lt_of_gt h)] using sfind_sdel_self (ssorted_of_srising hrise)

theorem sfind_sdel_of_ne (h : q ≠ a) : ∀ {l : List (Nat × α)}, ssorted l = true → sfind (sdel l a) q = sfind l q
  | [], _ => rfl
  | (k, v) :: t, hl => by
    have hrise : srising k t = true := hl
    rcases lt_trichotomy a k with hk | rfl | hk
    · simp only [sdel, if_neg hk.ne, if_pos hk]
    · simp only [sdel, if_true, sfind, if_neg h]
      split
      case isTrue hq => exact sfind_eq_none_of_srising hrise hq.le
      case isFalse => rfl
    · simp only [sdel, sfind, if_neg hk.ne', if_neg (Nat.not_lt_of_gt hk), sfind_sdel_of_ne h (ssorted_of_srising hrise)]

/-- Two sorted tables in which every key finds the same are one. -/
theorem eq_of_sfind_eq : ∀ {l l' : List (Nat × α)}, ssorted l = true → ssorted l' = true → (∀ a, sfind l a = sfind l' a) → l = l'
  | [], [], _, _, _ => rfl
  | [], (k, _) :: _, _, _, h => by simpa [sfind] using h k
  | (k, _) :: _, [], _, _, h => by simpa [sfind] using h k
  | (k, v) :: t, (k', v') :: t', hl, hl', h => by
    have hrise : srising k t = true := hl
    have hrise' : srising k' t' = true := hl'
    rcases lt_trichotomy k k' with hk | rfl | hk
    · simpa [sfind, hk.ne, hk] using h k
    · have hv : v = v' := by simpa [sfind] using h k
      have htail : ∀ a, sfind t a = sfind t' a := fun a => by
        by_cases ha : a ≤ k
        · rw [sfind_eq_none_of_srising hrise ha, sfind_eq_none_of_srising hrise' ha]
        · have hlt : ¬a < k := by omega
          have hne : a ≠ k := by omega
          simpa only [sfind, if_neg hne, if_neg hlt] using h a
      rw [hv, eq_of_sfind_eq (ssorted_of_srising hrise) (ssorted_of_srising hrise') htail]
    · simpa [sfind, hk.ne, hk] using h k'

section
variable [DecidableEq α]

theorem ssorted_of_swf {d : Nat → α} (h : swf d l = true) : ssorted l = true := by
  simp only [swf, Bool.and_eq_true] at h
  exact h.1

/-- In the canonical form a key finds what it reads, unless that is the default. -/
theorem sfind_of_swf {d : Nat → α} (h : swf d l = true) (a : Nat) :
    sfind l a = if sget (d a) l a = d a then none else some (sget (d a) l a) := by
  cases hfind : sfind l a with
  | none => simp [sget, hfind]
  | some v =>
    simp only [swf, Bool.and_eq_true, List.all_eq_true, decide_eq_true_eq] at h
    have hv : v ≠ d a := h.2 (a, v) (mem_of_sfind hfind)
    simp [sget, hfind, hv]

/-- Two tables in the canonical form that read alike everywhere are one. -/
theorem eq_of_sget_eq {d : Nat → α} (h : swf d l = true) (h' : swf d l' = true) (heq : ∀ a, sget (d a) l a = sget (d a) l' a) : l = l' :=
  eq_of_sfind_eq (ssorted_of_swf h) (ssorted_of_swf h') fun a => by rw [sfind_of_swf h, sfind_of_swf h', heq]

theorem ssorted_sput (d x : α) (h : ssorted l = true) : ssorted (sput d l a x) = true := by
  unfold sput
  split
  · exact ssorted_sdel l a h
  · exact ssorted_sins x l a h

theorem sget_sput_self (d x : α) (h : ssorted l = true) : sget d (sput d l a x) a = x := by
  unfold sput sget
  split
  case isTrue hx => rw [sfind_sdel_self h, hx, Option.getD_none]
  case isFalse => rw [sfind_sins_self, Option.getD_some]

theorem sget_sput_of_ne (d e x : α) (h : ssorted l = true) (hq : q ≠ a) : sget e (sput d l a x) q = sget e l q := by
  unfold sput sget
  split
  · rw [sfind_sdel_of_ne hq h]
  · rw [sfind_sins_of_ne hq]

/-- The table after a run of keys from a is given values. -/
def sputRun (d : Nat → α) : Nat → List α → List (Nat × α) → List (Nat × α)
  | _, [], l => l
  | a, x :: xs, l => sputRun d (a + 1) xs (sput (d a) l a x)

theorem sget_sputRun_outside {d : Nat → α} {e : α} : ∀ (xs : List α) (a : Nat) {l : List (Nat × α)}, ssorted l = true →
    q < a ∨ a + xs.length ≤ q → sget e (sputRun d a xs l) q = sget e l q
  | [], _, _, _, _ => rfl
  | x :: xs, a, l, hl, hq => by
    rw [List.length_cons] at hq
    rw [sputRun, sget_sputRun_outside xs (a + 1) (ssorted_sput _ x hl) (by omega), sget_sput_of_ne _ _ x hl (by omega)]

theorem sget_sputRun_inside {d : Nat → α} : ∀ (xs : List α) (a i : Nat) {l : List (Nat × α)} (hi : i < xs.length), ssorted l = true →
    sget (d (a + i)) (sputRun d a xs l) (a + i) = xs[i]
  | x :: xs, a, 0, l, _, hl => by
    rw [sputRun, sget_sputRun_outside xs (a + 1) (ssorted_sput _ x hl) (by omega)]
    exact sget_sput_self _ x hl
  | x :: xs, a, i + 1, l, hi, hl => by
    rw [sputRun, show a + (i + 1) = a + 1 + i by omega]
    exact sget_sputRun_inside xs (a + 1) i (Nat.lt_of_succ_lt_succ hi) (ssorted_sput _ x hl)

/-- A run of keys reads back in order. -/
theorem map_sget_sputRun {d : Nat → α} (xs : List α) (a : Nat) (hl : ssorted l = true) :
    (List.range xs.length).map (fun i => sget (d (a + i)) (sputRun d a xs l) (a + i)) = xs := by
  refine List.ext_getElem (by simp) fun i hi hi' => ?_
  rw [List.getElem_map, List.getElem_range, sget_sputRun_inside xs a i hi' hl]

end
end

/-! ### Memory -/

section
variable {m : Mem}

theorem Mem.setBytes_cells : ∀ (bs : List Byte) (pa : Nat) (m : Mem), (m.setBytes pa bs).cells = sputRun unlisted pa bs m.cells
  | [], _, _ => rfl
  | b :: bs, pa, m => Mem.setBytes_cells bs (pa + 1) (m.setByte pa b)

theorem Mem.setStewBytes_stewCells : ∀ (bs : List Byte) (a : Nat) (m : Mem),
    (m.setStewBytes a bs).stewCells = sputRun (fun _ => 0) a bs m.stewCells
  | [], _, _ => rfl
  | b :: bs, a, m => Mem.setStewBytes_stewCells bs (a + 1) { m with stewCells := sput 0 m.stewCells a b }

theorem Mem.cells_swf_of_wf (h : m.wf = true) : swf unlisted m.cells = true := by
  simp only [Mem.wf, Bool.and_eq_true] at h
  exact h.1

theorem Mem.cells_sorted_of_wf (h : m.wf = true) : ssorted m.cells = true := ssorted_of_swf (Mem.cells_swf_of_wf h)

theorem Mem.stewCells_sorted_of_wf (h : m.wf = true) : ssorted m.stewCells = true := by
  simp only [Mem.wf, Bool.and_eq_true] at h
  exact ssorted_of_swf h.2

theorem Mem.byte_setBytes_outside (h : m.wf = true) {bs : List Byte} {pa q : Nat} (hq : q < pa ∨ pa + bs.length ≤ q) :
    (m.setBytes pa bs).byte q = m.byte q := by
  rw [Mem.byte, Mem.setBytes_cells, sget_sputRun_outside bs pa (Mem.cells_sorted_of_wf h) hq, Mem.byte]

theorem Mem.bytes_setBytes_same (h : m.wf = true) (pa : Nat) (bs : List Byte) : (m.setBytes pa bs).bytes pa bs.length = bs := by
  simp only [Mem.bytes, Mem.byte, Mem.setBytes_cells]
  exact map_sget_sputRun bs pa (Mem.cells_sorted_of_wf h)

end

/-- Settles O5: both stores are sparse tables in the canonical form, in which a run of keys that is given values reads back
(`map_sget_sputRun`), other keys stay (`sget_sputRun_outside`), and reading alike is being one table (`eq_of_sget_eq`). -/
theorem storedBytes : Obligations.StoredBytes := by
  intro m hm
  refine ⟨?readBack, ?others, ?readBackRun, ?outside, ?stewReadBack, ?stewOutside, ?extensional⟩
  case readBack => exact fun pa b => sget_sput_self _ b (Mem.cells_sorted_of_wf hm)
  case others => exact fun pa b q hq => sget_sput_of_ne _ _ b (Mem.cells_sorted_of_wf hm) hq
  case readBackRun => exact fun pa bs => Mem.bytes_setBytes_same hm pa bs
  case outside => exact fun pa bs q hq => Mem.byte_setBytes_outside hm hq
  case stewReadBack =>
    intro a bs
    simp only [Mem.stewByte, Mem.setStewBytes_stewCells]
    exact map_sget_sputRun bs a (Mem.stewCells_sorted_of_wf hm)
  case stewOutside =>
    intro a bs q hq
    rw [Mem.stewByte, Mem.setStewBytes_stewCells, sget_sputRun_outside bs a (Mem.stewCells_sorted_of_wf hm) hq, Mem.stewByte]
  case extensional => exact fun n hn heq => eq_of_sget_eq (Mem.cells_swf_of_wf hn) (Mem.cells_swf_of_wf hm) heq

end Sys2Proof.Machine

/-! The SRAM code (R416, R417, Tables 08.2 and 08.4): the syndrome of wrong bits is the XOR of their columns, every column has odd weight,
and obligation O6. -/

namespace Sys2Proof.Machine

/-! ### The code is linear -/

theorem foldColumns_zero : ∀ cs : List Nat, foldColumns cs 0 = 0
  | [] => rfl
  | _ :: cs => by simp [foldColumns, foldColumns_zero cs]

/-- The fold of an XOR is the XOR of the folds. -/
theorem foldColumns_xor : ∀ (cs : List Nat) (x y : Nat), foldColumns cs (x ^^^ y) = foldColumns cs x ^^^ foldColumns cs y
  | [], _, _ => (Nat.xor_self 0).symm
  | col :: cs, x, y => by
    have hbit : (if (x ^^^ y) % 2 = 1 then col else 0) = (if x % 2 = 1 then col else 0) ^^^ (if y % 2 = 1 then col else 0) := by
      by_cases hx : x % 2 = 1 <;> by_cases hy : y % 2 = 1 <;> simp only [Nat.xor_mod_two_eq_one, hx, hy] <;> simp
    simp only [foldColumns, hbit, Nat.xor_div_two, foldColumns_xor cs, Nat.xor_assoc, Nat.xor_left_comm]

/-- One set bit folds to its column. -/
theorem foldColumns_two_pow : ∀ (cs : List Nat) (i : Nat), foldColumns cs (2 ^ i) = cs.getD i 0
  | [], _ => rfl
  | col :: cs, 0 => by simp [foldColumns, foldColumns_zero]
  | col :: cs, i + 1 => by
    have hodd : 2 ^ (i + 1) % 2 ≠ 1 := by omega
    have hhalf : 2 ^ (i + 1) / 2 = 2 ^ i := by omega
    simp only [foldColumns, if_neg hodd, hhalf, foldColumns_two_pow cs i, Nat.zero_xor, List.getD_cons_succ]

/-- The column of a data bit (Table 08.2). -/
def dataColumn (i : Nat) : Nat := Config.dataColumns.getD i 0

/-- A wrong data bit changes the check byte by its column. -/
theorem sramCheck_xor_two_pow (fold data i : Nat) : sramCheck fold (data ^^^ 2 ^ i) = sramCheck fold data ^^^ dataColumn i := by
  simp only [sramCheck, foldColumns_xor, foldColumns_two_pow, dataColumn, Nat.xor_assoc, Nat.xor_comm fold]

/-! ### Weights -/

theorem bit_xor (x y k : Nat) : bit (x ^^^ y) k = (bit x k ^^ bit y k) := by
  have htest : ∀ z, bit z k = z.testBit k := fun z => (Nat.testBit_eq_decide_div_mod_eq (i := k) (x := z)).symm ▸ rfl
  simp only [htest, Nat.testBit_xor]

/-- Elements that meet exactly one of two tests are as many as those that meet each, up to an even number. -/
theorem length_filter_xor_mod_two {α : Type} (p q : α → Bool) (l : List α) :
    (l.filter fun a => p a ^^ q a).length % 2 = ((l.filter p).length + (l.filter q).length) % 2 := by
  induction l with
  | nil => rfl
  | cons a t ih => cases hp : p a <;> cases hq : q a <;> simp [hp, hq] <;> omega

theorem weight8_xor_mod_two (x y : Nat) : weight8 (x ^^^ y) % 2 = (weight8 x + weight8 y) % 2 := by
  simp only [weight8, bit_xor]
  exact length_filter_xor_mod_two ..

/-- Every data column has odd weight, and none is a check bit's (Table 08.2). -/
theorem weight8_dataColumn : ∀ i : Fin 64, weight8 (dataColumn i) % 2 = 1 ∧ weight8 (dataColumn i) ≠ 1 := by decide

/-- Two data bits have different columns. -/
theorem dataColumn_injective {i j : Fin 64} (h : dataColumn i = dataColumn j) : i = j := by
  have hnodup : Config.dataColumns.Nodup := by decide
  have hlen : Config.dataColumns.length = 64 := rfl
  rw [dataColumn, dataColumn, List.getD_eq_getElem _ _ (by omega), List.getD_eq_getElem _ _ (by omega)] at h
  exact Fin.ext ((hnodup.getElem_inj_iff).mp h)

/-- A check bit's column is the bit itself. -/
theorem weight8_two_pow : ∀ j : Fin 8, weight8 (2 ^ j.val) = 1 := by decide

/-! ### The classes of Table 08.4 -/

/-- The column of a data bit names that bit. -/
theorem synClass_dataColumn : ∀ j : Fin 64, synClass (dataColumn j) = .data j.val := by decide

theorem synClass_two_pow : ∀ j : Fin 8, synClass (2 ^ j.val) = .check := by decide

/-- A syndrome other than 0 of even weight is none of a single wrong bit or poison. -/
theorem synClass_of_even {syn : Nat} (hne : syn ≠ 0) (heven : weight8 syn % 2 = 0) : synClass syn = .ueEven := by
  have hpoison : syn ≠ 0x7F := by
    rintro rfl
    exact absurd heven (by decide)
  have hcheck : weight8 syn ≠ 1 := by omega
  have hodd : ∀ col ∈ Config.dataColumns, weight8 col % 2 = 1 := by decide
  have hdata : Config.dataColumns.findIdx? (· == syn) = none := by
    rw [List.findIdx?_eq_none_iff]
    intro col hcol
    refine beq_eq_false_iff_ne.mpr ?_
    rintro rfl
    exact absurd (hodd _ hcol) (by omega)
  simp only [synClass, if_neg hne, if_neg hpoison, if_neg hcheck, hdata, if_pos heven]

/-- Two different columns of odd weight sum to an uncorrectable error of even weight. -/
theorem synClass_xor_of_odd {x y : Nat} (hne : x ≠ y) (hx : weight8 x % 2 = 1) (hy : weight8 y % 2 = 1) : synClass (x ^^^ y) = .ueEven :=
  synClass_of_even (mt Nat.xor_eq_zero_iff.mp hne) (by rw [weight8_xor_mod_two]; omega)

end Sys2Proof.Machine

namespace Sys2Proof

open Machine

/-- Settles O6: a syndrome is the XOR of the columns of the wrong bits; one column names its bit, and two different columns, being of odd
weight, sum to a syndrome of even weight other than 0 (`synClass_xor_of_odd`). -/
theorem sramCode : Obligations.SramCode := by
  intro fold data _
  dsimp only
  simp only [sramCheck_xor_two_pow]
  generalize sramCheck fold data = check
  refine ⟨?sound, ?oneData, ?oneCheck, ?twoData, ?twoCheck, ?dataAndCheck⟩
  case sound =>
    rw [Nat.xor_self]
    rfl
  case oneData =>
    intro j
    rw [Nat.xor_comm _ check, Nat.xor_xor_cancel_left, synClass_dataColumn]
  case oneCheck =>
    intro j
    rw [Nat.xor_xor_cancel_left, synClass_two_pow]
  case twoData =>
    intro i j hij
    obtain ⟨hi, _⟩ := weight8_dataColumn i
    obtain ⟨hj, _⟩ := weight8_dataColumn j
    rw [Nat.xor_comm _ check, Nat.xor_assoc check, Nat.xor_xor_cancel_left]
    exact synClass_xor_of_odd (mt dataColumn_injective hij) hi hj
  case twoCheck =>
    intro i j hij
    have hne : 2 ^ i.val ≠ 2 ^ j.val := fun h => hij (Fin.ext (Nat.pow_right_injective le_rfl h))
    rw [Nat.xor_assoc check, Nat.xor_xor_cancel_left]
    exact synClass_xor_of_odd hne (by rw [weight8_two_pow]) (by rw [weight8_two_pow])
  case dataAndCheck =>
    intro i j
    obtain ⟨hi, hi1⟩ := weight8_dataColumn i
    have hne : dataColumn i ≠ 2 ^ j.val := fun h => hi1 (by rw [h, weight8_two_pow])
    rw [Nat.xor_right_comm, Nat.xor_xor_cancel_left, Nat.xor_comm]
    exact synClass_xor_of_odd hne hi (by rw [weight8_two_pow])

end Sys2Proof

/-! Words of user SRAM (R417, R420, R423): what a read delivers and what a write stores, and obligation O7. -/

namespace Sys2Proof.Machine

/-! ### What a read delivers -/

/-- What a word with these bytes and this syndrome delivers (R417). -/
def sramWord (bs : List Byte) (syn : Nat) : WordRead :=
  match synClass syn with
  | .clean => ⟨bs, false⟩
  | .check => ⟨bs, false⟩
  | .data j => ⟨flipBit bs j, false⟩
  | .poison => .bad
  | .ueEven => .bad
  | .ueOdd => .bad

/-- The syndrome stored with the word of an address. -/
def Mem.sramSyn (m : Mem) (pa : Nat) : Nat := (sget 0 m.syn (pa / 8)).toNat

/-- A read delivers poison where `macroFenced` holds, and else what the word's bytes and syndrome give. -/
theorem readSram_fst (pa : Nat) (c : Chip) :
    (readSram pa c).1 = if macroFenced c pa then .bad else sramWord (c.mem.bytes pa 8) (c.mem.sramSyn pa) := by
  cases hfenced : macroFenced c pa with
  | true => simp only [readSram, hfenced, if_true]
  | false =>
    simp only [readSram, sramWord, Mem.sramSyn, hfenced, Bool.false_eq_true, if_false]
    cases synClass (sget 0 c.mem.syn (pa / 8)).toNat <;> rfl

/-- A read of a sound word changes nothing. -/
theorem readSram_of_sound {pa : Nat} {c : Chip} (hserves : macroFenced c pa = false) (hsyn : c.mem.sramSyn pa = 0) :
    readSram pa c = (⟨c.mem.bytes pa 8, false⟩, c) := by
  rw [Mem.sramSyn] at hsyn
  have hclass : synClass 0 = .clean := rfl
  simp only [readSram, hserves, hsyn, hclass, Bool.false_eq_true, if_false]

/-- A read of a poisoned word changes nothing. -/
theorem readSram_of_poison {pa : Nat} {c : Chip} (hserves : macroFenced c pa = false) (hsyn : c.mem.sramSyn pa = 0x7F) :
    readSram pa c = (.bad, c) := by
  rw [Mem.sramSyn] at hsyn
  have hclass : synClass 0x7F = .poison := rfl
  simp only [readSram, hserves, hsyn, hclass, Bool.false_eq_true, if_false]

/-! ### What a write stores -/

/-- The bytes that a word is stored with: zeros for poison (R423). -/
def WordRead.stored (w : WordRead) : List Byte := if w.poison then List.replicate 8 0 else w.bytes

/-- Memory once a word is stored with its check byte, or with the poison encoding (R420). -/
def Mem.putWord (pa : Nat) (w : WordRead) (m : Mem) : Mem :=
  { m.setBytes pa w.stored with syn := if w.poison then sins m.syn (pa / 8) 0x7F else sdel m.syn (pa / 8) }

theorem writeSram_of_serving {pa : Nat} {c : Chip} (hserves : macroFenced c pa = false) (w : WordRead) :
    writeSram pa w c = modMem (Mem.putWord pa w) c := by
  obtain ⟨bytes, poison⟩ := w
  cases poison <;> simp only [writeSram, hserves, Bool.false_eq_true, if_false, if_true] <;> rfl

/-- A write changes memory alone. -/
theorem writeSram_frame (pa : Nat) (w : WordRead) (c : Chip) : { writeSram pa w c with mem := c.mem } = c := by
  unfold writeSram
  split
  · rfl
  · split <;> rfl

/-- Bytes that are stored leave the patch table as it is. -/
theorem Mem.setBytes_patch : ∀ (bs : List Byte) (pa : Nat) (m : Mem), (m.setBytes pa bs).patch = m.patch
  | [], _, _ => rfl
  | b :: bs, pa, m => Mem.setBytes_patch bs (pa + 1) (m.setByte pa b)

/-- A write fences nothing and frees nothing. -/
theorem macroFenced_putWord (pa : Nat) (w : WordRead) (c : Chip) (q : Nat) :
    macroFenced (modMem (Mem.putWord pa w) c) q = macroFenced c q := by
  have hphys : (c.mem.putWord pa w).physMacro q = c.mem.physMacro q := by
    simp only [Mem.physMacro, Mem.putWord, Mem.setBytes_patch]
  simp only [macroFenced, modMem_mem, hphys]
  rfl

section
variable {m : Mem} {pa q : Nat} {w : WordRead}

theorem Mem.bytes_putWord_same (hwf : m.wf = true) (hlen : w.stored.length = 8) : (m.putWord pa w).bytes pa 8 = w.stored := by
  have h := Mem.bytes_setBytes_same hwf pa w.stored
  rw [hlen] at h
  exact h

/-- A word that starts 8 bytes away or more keeps its bytes. -/
theorem Mem.bytes_putWord_other (hwf : m.wf = true) (hlen : w.stored.length = 8) (hq : q + 8 ≤ pa ∨ pa + 8 ≤ q) :
    (m.putWord pa w).bytes q 8 = m.bytes q 8 := by
  refine List.map_congr_left fun i hi => ?_
  have hi8 : i < 8 := List.mem_range.mp hi
  exact Mem.byte_setBytes_outside hwf (by omega)

theorem Mem.sramSyn_putWord_same (hsorted : ssorted m.syn = true) :
    (m.putWord pa w).sramSyn pa = if w.poison then 0x7F else 0 := by
  cases hpoison : w.poison
  · simp [Mem.sramSyn, Mem.putWord, hpoison, sget, sfind_sdel_self hsorted]
  · simp [Mem.sramSyn, Mem.putWord, hpoison, sget, sfind_sins_self]

theorem Mem.sramSyn_putWord_other (hsorted : ssorted m.syn = true) (hq : q / 8 ≠ pa / 8) : (m.putWord pa w).sramSyn q = m.sramSyn q := by
  cases hpoison : w.poison
  · simp [Mem.sramSyn, Mem.putWord, hpoison, sget, sfind_sdel_of_ne hq hsorted]
  · simp [Mem.sramSyn, Mem.putWord, hpoison, sget, sfind_sins_of_ne hq]

end

/-- A word that is written reads back, poison as poison, and the read changes nothing. -/
theorem readSram_putWord_same {pa : Nat} {w : WordRead} {c : Chip} (hwf : c.mem.wf = true) (hsorted : ssorted c.mem.syn = true)
    (hserves : macroFenced c pa = false) (hlen : w.stored.length = 8) :
    readSram pa (modMem (Mem.putWord pa w) c) = (if w.poison then .bad else w, modMem (Mem.putWord pa w) c) := by
  have hserves' : macroFenced (modMem (Mem.putWord pa w) c) pa = false := by rw [macroFenced_putWord, hserves]
  have hsyn := Mem.sramSyn_putWord_same (pa := pa) (w := w) hsorted
  obtain ⟨bytes, poison⟩ := w
  cases poison with
  | true => exact readSram_of_poison hserves' hsyn
  | false =>
    rw [readSram_of_sound hserves' hsyn, modMem_mem, Mem.bytes_putWord_same hwf hlen]
    rfl

end Sys2Proof.Machine

namespace Sys2Proof

open Machine

/-- Settles O7: a write is `Mem.putWord`, whose word reads back (`readSram_putWord_same`); the bytes, the syndrome and the fence of every other
word, which are what a read delivers (`readSram_fst`), stay. -/
theorem sramWords : Obligations.SramWords := by
  intro c pa w hwf hsorted halign _ hserves hbytes
  have hlen : w.stored.length = 8 := by
    cases hpoison : w.poison
    · simpa [WordRead.stored, hpoison] using hbytes hpoison
    · simp [WordRead.stored, hpoison]
  refine ⟨?same, ?others, writeSram_frame pa w c⟩
  case same =>
    rw [writeSram_of_serving hserves]
    exact readSram_putWord_same hwf hsorted hserves hlen
  case others =>
    intro q hq _ hne
    have hapart : q + 8 ≤ pa ∨ pa + 8 ≤ q := by omega
    have hword : q / 8 ≠ pa / 8 := by omega
    rw [writeSram_of_serving hserves, readSram_fst, readSram_fst, macroFenced_putWord, modMem_mem, Mem.bytes_putWord_other hwf hlen hapart,
      Mem.sramSyn_putWord_other hsorted hword]

end Sys2Proof

/-! The memory commands (R448 to R455, R469 to R471, R805): what each body makes where its checks pass, and obligation O19. -/

namespace Sys2Proof.Machine

/-! ### The Rinse -/

/-- Periods in range are taken (R469, Table 08.10). -/
theorem memRinse_of_inRange {m : Cmd} (hsram : m.b 8 ≠ 0) (hxmem : 16 ≤ m.f 10 2 ∧ m.f 10 2 ≤ 4096) (hzero : m.z 9 1 = true) (c : Chip) :
    memRinse m c = (.ok, modMem (fun x => { x with rinseSram := m.b 8, rinseXmem := m.f 10 2 }) c) := by
  rw [memRinse, checked_chk_of_false, checked_nil]
  simp only [hzero, Bool.not_true, Bool.or_false, Bool.or_eq_false_iff, decide_eq_false_iff_not, beq_eq_false_iff_ne]
  omega

/-! ### The flash port -/

/-- Chip select 1 is the cartridge's. -/
theorem cartMissing_eq_false {c : Chip} {cs : Nat} (h : cs = 1 → c.mem.cart ≠ .absent) : (cs == 1 && c.mem.cart == .absent) = false := by
  by_cases hcs : cs = 1
  · rw [beq_eq_false_iff_ne.mpr (h hcs), Bool.and_false]
  · rw [beq_eq_false_iff_ne.mpr hcs, Bool.false_and]

/-- What MEM.FLASH_PROGRAM of whole pages asks of its fields (R455, R470). -/
structure ProgramFields (m : Cmd) : Prop where
  select : m.b 8 ≤ 1
  low : 256 ≤ m.f 10 2
  high : m.f 10 2 ≤ 4096
  whole : m.f 10 2 % 256 = 0
  aligned : m.f 12 4 % 256 = 0
  source : m.f 16 4 < 2 ^ 24
  external : m.org.external = true → m.f 16 4 = 0
  zero : m.z 9 1 = true

/-- The operation that MEM.FLASH_PROGRAM of these bytes starts. -/
def programOp (m : Cmd) (bs : List Byte) : FlashOp :=
  { handle := m.waitHandle, kind := .program, cs := m.b 8, offset := m.f 12 4, left := m.f 10 2 / 256, total := m.f 10 2 / 256, data := bs }

/-- MEM.FLASH_PROGRAM whose data are all there starts its operation. -/
theorem memFlashProgram_of_data {m : Cmd} {c d : Chip} {bs : List Byte} (hsrc : srcDenied m c (m.f 16 4) (m.f 10 2) = false)
    (hmay : flashDenied m c (m.b 8) (m.f 12 4) (m.f 10 2) = false) (hfields : ProgramFields m) (hpeg : isPegged c 0x0B (m.b 8) = false)
    (hmedia : m.b 8 = 1 → c.mem.cart ≠ .absent) (hready : (m.org.external && !dataReady m) = false)
    (hdata : sourceData m (m.f 16 4) (m.f 10 2) c = (some bs, d)) :
    memFlashProgram m c = startFlash m (programOp m bs) d := by
  obtain ⟨hselect, hlow, hhigh, hwhole, haligned, hsource, hexternal, hzero⟩ := hfields
  have hext : (m.org.external && m.f 16 4 != 0) = false := by
    cases horg : m.org.external with
    | false => rfl
    | true => simp [hexternal horg]
  dsimp only [memFlashProgram]
  rw [checked_chk_of_false (by rw [hsrc, hmay]; rfl), checked_chk_of_false, checked_chk_of_false hpeg,
    checked_chk_of_false (cartMissing_eq_false hmedia), checked_nil]
  · simp only [hready, hdata, Bool.false_eq_true, if_false]
    rfl
  · simp only [hext, hzero, Bool.not_true, Bool.or_false, Bool.or_eq_false_iff, decide_eq_false_iff_not, bne_eq_false_iff_eq]
    omega

/-- A partition's data are what its map reads, where no byte is poison. -/
theorem sourceData_part {m : Cmd} {p src n : Nat} {c : Chip} (horg : m.org = .part p) (hsound : anyPoison (readK p src n c).1 = false) :
    sourceData m src n c = (some (plain (readK p src n c).1), (readK p src n c).2) := by
  simp [sourceData, horg, hsound]

/-- An external origin's data are those that its chunks brought. -/
theorem sourceData_external {m : Cmd} (horg : m.org.external = true) (hsound : m.dataPoison = false) (src n : Nat) (c : Chip) :
    sourceData m src n c = (some (m.data.take n), c) := by
  cases ho : m.org with
  | part p => simp [ho, Origin.external] at horg
  | host | usb | link n => simp [sourceData, ho, hsound]

/-- No map stands before the source of an external origin. -/
theorem srcDenied_external {m : Cmd} (horg : m.org.external = true) (c : Chip) (src n : Nat) : srcDenied m c src n = false := by
  cases ho : m.org with
  | part p => simp [ho, Origin.external] at horg
  | host | usb | link n => simp only [srcDenied, ho]

/-- MEM.FLASH_ERASE of whole sectors that the origin may erase (R455, R471). -/
theorem memFlashErase_of_allowed {m : Cmd} {c : Chip} (hmay : flashDenied m c (m.b 8) (m.f 12 4) (4096 * m.b 9) = false) (hselect : m.b 8 ≤ 1)
    (hcount : m.b 9 ≠ 0) (haligned : m.f 12 4 % 4096 = 0) (hzero : m.z 10 2 = true) (hpeg : isPegged c 0x0B (m.b 8) = false)
    (hmedia : m.b 8 = 1 → c.mem.cart ≠ .absent) :
    memFlashErase m c = startFlash m
      { handle := m.waitHandle, kind := .erase, cs := m.b 8, offset := m.f 12 4, left := m.b 9, total := m.b 9 } c := by
  dsimp only [memFlashErase]
  rw [checked_chk_of_false hmay, checked_chk_of_false, checked_chk_of_false hpeg, checked_chk_of_false (cartMissing_eq_false hmedia), checked_nil]
  simp only [hzero, Bool.not_true, Bool.or_false, Bool.or_eq_false_iff, decide_eq_false_iff_not, bne_eq_false_iff_eq, beq_eq_false_iff_ne]
  omega

/-! ### The cartridge -/

/-- The cartridge's chip select. -/
theorem csBase_one : csBase 1 = 0x30000000 := rfl

/-- A cartridge whose header, table and, where its flags ask for them, image and content key are good is mounted (R454, R805). -/
theorem memCartMount_of_good {m : Cmd} {c : Chip} {hd table : List Byte} (hhd : hd = c.mem.bytes 0x30000000 64)
    (htable : table = c.mem.bytes (0x30000000 + (headerOf hd).crcTable) 4096) (hpeg : isPegged c 0x0B 1 = false) (hmedia : c.mem.cart ≠ .absent)
    (hmagic : pfield hd 0 4 = 0x54434B53) (hversion : pfield hd 4 2 = 1) (hcrc : crc32 (hd.take 0x3C) = pfield hd 0x3C 4)
    (htableCrc : crc32 (table.take 4092) = leNat (table.drop 4092))
    (himage : bit (headerOf hd).flags 1 = true →
      ∃ a b d, verifyImage c 2 0 (headerOf hd).titleId (c.mem.bytes 0x30000000 (headerOf hd).imageLen) = .good a b d)
    (hcontent : bit (headerOf hd).flags 0 = true →
      (contentSlot c (headerOf hd).titleId).isSome = true ∧ (lifeOf c = .maker ∨ lifeOf c = .field)) :
    memCartMount m c = (.res (headerOf hd).flags (headerOf hd).imageLen,
      modMem (fun x => { x with cart := .mounted, cartHdr := headerOf hd, cache := [] }) c) := by
  have hkey : bit (headerOf hd).flags 0 = true →
      ((contentSlot c (headerOf hd).titleId).isSome && (lifeOf c == .maker || lifeOf c == .field)) = true :=
    fun h => by simpa using hcontent h
  rw [memCartMount, checked_chk_of_false hpeg, checked_chk_of_false (beq_eq_false_iff_ne.mpr hmedia), checked_nil]
  simp only [csBase_one, ← hhd, ← htable, hmagic, hversion, hcrc, htableCrc, bne_self_eq_false, Bool.or_false, Bool.false_eq_true, if_false]
  rw [if_neg, if_neg]
  · rw [Bool.and_eq_true]
    rintro ⟨hflag, hno⟩
    rw [hkey hflag] at hno
    cases hno
  · rw [Bool.and_eq_true]
    rintro ⟨hflag, hbad⟩
    obtain ⟨a, b, d, hgood⟩ := himage hflag
    rw [hgood] at hbad
    cases hbad

/-- A cartridge in the socket is unmounted. -/
theorem memCartUnmount_of_present {c : Chip} (hpeg : isPegged c 0x0B 1 = false) (hmedia : c.mem.cart ≠ .absent) (m : Cmd) :
    memCartUnmount m c = (.ok, modMem (fun x => { x with cart := .inserted, cache := [] }) c) := by
  rw [memCartUnmount, checked_chk_of_false hpeg, checked_chk_of_false (beq_eq_false_iff_ne.mpr hmedia), checked_nil]

/-! ### The rows -/

/-- Settles O19: a row that runs answers its body (`answers_of`), a flash row while the port is free (`answers_if`), and each body, where its
clause's condition holds, passes its checks and makes its one effect. -/
theorem memoryCommands : Obligations.MemoryCommands := by
  refine ⟨?status, ?rinse, ?programPart, ?programExternal, ?erase, ?mount, ?unmount⟩
  case status => exact answers_of memStatus (fun _ _ => rfl) fun _ _ _ _ => rfl
  case rinse =>
    exact answers_of memRinse (fun _ _ => rfl) fun c m _ ⟨hsram, hlow, hhigh, hzero⟩ => memRinse_of_inRange hsram ⟨hlow, hhigh⟩ hzero c
  case programPart =>
    refine fun p => answers_if flashFree memFlashProgram (fun _ _ => rfl) (fun _ _ ⟨hfree, _⟩ => hfree) fun c m _
      ⟨_, horg, hsrc, hmay, hselect, hlow, hhigh, hwhole, haligned, hsource, hzero, hpeg, hmedia, hsound⟩ => ?_
    have hpart : m.org.external = false := by rw [horg]; rfl
    exact memFlashProgram_of_data hsrc hmay ⟨hselect, hlow, hhigh, hwhole, haligned, hsource, by simp [hpart], hzero⟩ hpeg hmedia
      (by rw [hpart]; rfl) (sourceData_part horg hsound)
  case programExternal =>
    refine answers_if flashFree memFlashProgram (fun _ _ => rfl) (fun _ _ ⟨hfree, _⟩ => hfree) fun c m _
      ⟨_, horg, hmay, hselect, hlow, hhigh, hwhole, haligned, hsource, hzero, hpeg, hmedia, hready, hsound⟩ => ?_
    exact memFlashProgram_of_data (srcDenied_external horg ..) hmay
      ⟨hselect, hlow, hhigh, hwhole, haligned, by omega, fun _ => hsource, hzero⟩ hpeg hmedia (by rw [hready]; exact Bool.and_false _)
      (sourceData_external horg hsound ..)
  case erase =>
    exact answers_if flashFree memFlashErase (fun _ _ => rfl) (fun _ _ ⟨hfree, _⟩ => hfree) fun c m _
      ⟨_, hmay, hselect, hcount, haligned, hzero, hpeg, hmedia⟩ => memFlashErase_of_allowed hmay hselect hcount haligned hzero hpeg hmedia
  case mount =>
    exact answers_of memCartMount (fun _ _ => rfl) fun c m _ ⟨hpeg, hmedia, hmagic, hversion, hcrc, htableCrc, himage, hcontent⟩ =>
      memCartMount_of_good rfl rfl hpeg hmedia hmagic hversion hcrc htableCrc himage hcontent
  case unmount =>
    exact answers_of memCartUnmount (fun _ _ => rfl) fun c m _ ⟨hpeg, hmedia⟩ => memCartUnmount_of_present hpeg hmedia m

end Sys2Proof.Machine

/-! The Spool engine (R473, R479 to R481, R492 to R502, R506, R508): what each body makes of the chip, and obligation O22. -/

namespace Sys2Proof.Machine

/-! ### Channels -/

/-- Two changes that make the same of a channel are one. -/
theorem modCh_congr {f g : SpoolCh → SpoolCh} {ch : Nat} {c : Chip} (h : f (chOf c ch) = g (chOf c ch)) : modCh ch f c = modCh ch g c := by
  rw [modCh, modCh, h]

/-- A channel that may start a chain runs none (R473). -/
theorem SpoolCh.st_ne_running_of_free {x : SpoolCh} (h : x.free = true) : x.st ≠ .running := by
  intro hrun
  simp [SpoolCh.free, hrun] at h

/-- The chain at the front of the queue starts at its first descriptor (R494, R497). -/
theorem startFront_of_cons {ch : Nat} {c : Chip} {q : Chain} {l : List Chain} (h : (chOf c ch).queue = q :: l) :
    startFront ch c = modCh ch (fun x =>
      { x with st := .running, cur := q.first, curIdx := 0, curElem := 0, loaded := none, lastProgress := c.clk.qtime }) c :=
  modCh_congr (by rw [h])

/-! ### Commands (R508) -/

/-- SPL.STATUS of a channel that is not pegged. -/
theorem splStatus_of_target {m : Cmd} {c : Chip} {ch : Nat} (htarget : spoolTarget m c = some ch) (hpeg : isPegged c 4 ch = false) :
    splStatus m c = (.res (min (chOf c ch).elem 0xFFFF)
      ((chOf c ch).st.code + 4 * (chOf c ch).queue.length + 256 * (chOf c ch).cause + 65536 * (chOf c ch).didx), c) := by
  simp only [splStatus, htarget, hpeg, Bool.false_eq_true, if_false]

/-- SPL.SUBMIT with room in the queue: the chain goes to its back, and starts when it is alone on a free channel (R497). -/
theorem splSubmit_of_room {m : Cmd} {c : Chip} {ch : Nat} (htarget : spoolTarget m c = some ch) (hpeg : isPegged c 4 ch = false)
    (hflags : m.b 9 ≤ 1) (hzero : m.z 10 2 = true) (hfirst : m.f 12 4 < 2 ^ 24) (halign : m.f 12 4 % 32 = 0)
    (hroom : (chOf c ch).queue.length < 4) :
    splSubmit m c =
      let q : Chain := { first := m.f 12 4, byCmd := true, handle := if m.org = .part 0 then none else some m.handle, bulk := bit (m.b 9) 0 }
      let d := modCh ch (fun x => { x with queue := x.queue ++ [q] }) c
      (.wait, if (chOf c ch).free && (chOf c ch).queue.isEmpty then startFront ch d else d) := by
  have hparam : (1 < m.b 9 || !m.z 10 2 || 2 ^ 24 ≤ m.f 12 4 || m.f 12 4 % 32 != 0) = false := by
    simp only [hzero, halign, Nat.not_lt.mpr hflags, Nat.not_le.mpr hfirst, decide_false, Bool.not_true, bne_self_eq_false, Bool.or_self]
  simp only [splSubmit, htarget]
  rw [checked_chk_of_false hparam, checked_chk_of_false hpeg, checked_chk_of_false (decide_eq_false (Nat.not_le.mpr hroom)), checked_nil]

/-- SPL.RESUME of a parked channel with an empty queue restarts its chain (R493). -/
theorem splResume_of_parked {m : Cmd} {c : Chip} {ch : Nat} (htarget : spoolTarget m c = some ch) (hpeg : isPegged c 4 ch = false)
    (hparked : (chOf c ch).st = .parked) (hqueue : (chOf c ch).queue = []) :
    splResume m c = (.wait, resumeParked ch true (if m.org = .part 0 then none else some m.handle) c) := by
  simp only [splResume, htarget]
  rw [checked_chk_of_false hpeg, checked_chk_of_false, checked_nil]
  rw [hparked, hqueue]
  rfl

/-! ### CH_CTRL (R493, R498 to R501) -/

/-- Bit k of a number of bits is the bit at place k. -/
theorem bit_bitsToNat (l : List Bool) (k : Nat) : bit (bitsToNat l) k = l.getD k false := by
  induction l generalizing k with
  | nil => simp [bit, bitsToNat]
  | cons b l ih =>
    have hlow : b2n b < 2 := by cases b <;> decide
    cases k with
    | zero => cases b <;> simp [bit, bitsToNat, b2n, Nat.add_mod]
    | succ k =>
      have hhigh : (b2n b + 2 * bitsToNat l) / 2 = bitsToNat l := by omega
      rw [List.getD_cons_succ, ← ih, bit, bitsToNat, Nat.pow_succ', ← Nat.div_div_eq_div_mul, hhigh, bit]

/-- A number of n bits is below 2^n. -/
theorem bitsToNat_lt (l : List Bool) : bitsToNat l < 2 ^ l.length := by
  induction l with
  | nil => decide
  | cons b l ih =>
    have hlow : b2n b < 2 := by cases b <;> decide
    rw [bitsToNat, List.length_cons, Nat.pow_succ]
    omega

/-- What CH_CTRL is written with is a word. -/
theorem ctrlValue_lt (start abort resume clear bulk ev : Bool) : ctrlValue start abort resume clear bulk ev < 65536 :=
  (bitsToNat_lt _).trans (by decide : 2 ^ 10 < 65536)

section
variable (start abort resume clear bulk ev : Bool)

/-- Bit 0 of CH_CTRL is START. -/
@[simp] theorem bit_zero_ctrlValue : bit (ctrlValue start abort resume clear bulk ev) 0 = start := bit_bitsToNat _ 0
/-- Bit 1 of CH_CTRL is ABORT. -/
@[simp] theorem bit_one_ctrlValue : bit (ctrlValue start abort resume clear bulk ev) 1 = abort := bit_bitsToNat _ 1
/-- Bit 2 of CH_CTRL is RESUME. -/
@[simp] theorem bit_two_ctrlValue : bit (ctrlValue start abort resume clear bulk ev) 2 = resume := bit_bitsToNat _ 2
/-- Bit 3 of CH_CTRL is CLEAR. -/
@[simp] theorem bit_three_ctrlValue : bit (ctrlValue start abort resume clear bulk ev) 3 = clear := bit_bitsToNat _ 3
/-- Bit 8 of CH_CTRL is BULK. -/
@[simp] theorem bit_eight_ctrlValue : bit (ctrlValue start abort resume clear bulk ev) 8 = bulk := bit_bitsToNat _ 8
/-- Bit 9 of CH_CTRL is EVENT_EN. -/
@[simp] theorem bit_nine_ctrlValue : bit (ctrlValue start abort resume clear bulk ev) 9 = ev := bit_bitsToNat _ 9

end

/-- CH_CTRL of a window's channel n stands at the start of the channel's block in page 2. -/
theorem winWrite_chCtrl {k p v ch : Nat} {c : Chip} (n : Fin 8) (hopen : winOpen c p (0x2000 + 0x20 * n.val) = true)
    (hunit : windowUnit c p .spool n = some ch) : winWrite k p (0x2000 + 0x20 * n.val) v c = spoolCtrl ch v c := by
  have hblock : 0x20 * n.val / 0x20 = n.val := Nat.mul_div_cancel_left _ (by decide)
  have hstart : 0x20 * n.val % 0x20 = 0 := Nat.mul_mod_right ..
  rw [winWrite_spool hopen (by omega), Nat.add_sub_cancel_left, spoolWrite, if_pos (by omega)]
  simp only [hblock, hunit, hstart]

/-- A row that writes CH_CTRL of a channel, whose write, where the condition on the channel holds, makes eff. -/
theorem writes_chCtrl_of {i : Instr} {k : CoreId} {n : Fin 8} {start abort resume clear bulk ev : Bool} {ch : Nat} {pre : Chip → Prop}
    {eff : Chip → Chip}
    (h : ∀ s, exec i s = onChip (coreWrite k (0x2000 + 0x20 * n.val) (ctrlValue start abort resume clear bulk ev)) s)
    (hb : ∀ c, pre c → spoolCtrl ch (ctrlValue start abort resume clear bulk ev) c = eff c) :
    WritesReg i k (0x2000 + 0x20 * n.val) (fun p c => windowUnit c p .spool n = some ch ∧ pre c) (fun _ => eff) :=
  writes_of (by omega) (ctrlValue_lt ..) h fun c hopen ⟨hunit, hpre⟩ => (winWrite_chCtrl n hopen hunit).trans (hb c hpre)

section
variable {ch : Nat} {c : Chip} (bulk ev : Bool)

/-- START on a free channel with an empty queue starts the chain at CH_DESC (R498). -/
theorem spoolCtrl_start (hfree : (chOf c ch).free = true) (hqueue : (chOf c ch).queue = []) :
    spoolCtrl ch (ctrlValue true false false false bulk ev) c = startFront ch
      (modCh ch (fun x => { x with queue := [{ first := x.desc }] }) (modCh ch (fun x => { x with bulk := bulk, eventEn := ev }) c)) := by
  simp [spoolCtrl, b2n, hfree, hqueue]

/-- ABORT stops the chain that runs (R499). -/
theorem spoolCtrl_abort (hrun : (chOf c ch).st = .running) :
    spoolCtrl ch (ctrlValue false true false false bulk ev) c =
      modCh ch (fun x => { x with st := .stopping }) (modCh ch (fun x => { x with bulk := bulk, eventEn := ev }) c) := by
  simp [spoolCtrl, hrun]

/-- RESUME restarts the chain of a parked channel with an empty queue (R493). -/
theorem spoolCtrl_resume (hparked : (chOf c ch).st = .parked) (hqueue : (chOf c ch).queue = []) :
    spoolCtrl ch (ctrlValue false false true false bulk ev) c =
      resumeParked ch false none (modCh ch (fun x => { x with bulk := bulk, eventEn := ev }) c) := by
  simp [spoolCtrl, b2n, hparked, hqueue]

/-- CLEAR makes a parked channel idle (R501). -/
theorem spoolCtrl_clear (hparked : (chOf c ch).st = .parked) :
    spoolCtrl ch (ctrlValue false false false true bulk ev) c =
      modCh ch (fun x => { x with st := .idle, cur := 0 }) (modCh ch (fun x => { x with bulk := bulk, eventEn := ev }) c) := by
  simp [spoolCtrl, b2n, hparked]

/-- ABORT beside START or RESUME on a free channel cancels the chain before it starts (R500). -/
theorem spoolCtrl_cancelBeforeStart (hfree : (chOf c ch).free = true) (resume : Bool) :
    spoolCtrl ch (ctrlValue (!resume) true resume false bulk ev) c = fireSpool ch Status.cancelledBeforeStart.code
      (modCh ch (fun x => { x with status := Status.cancelledBeforeStart.code }) (modCh ch (fun x => { x with bulk := bulk, eventEn := ev }) c)) := by
  simp [spoolCtrl, hfree, SpoolCh.st_ne_running_of_free hfree]

end

/-! ### Elements (R479 to R481, R491) -/

/-- An element of a chain that runs on, whose descriptor has been read and is good (R479). -/
theorem spoolElement_of_done {ch : Nat} {bs : List Byte} {x : Desc} {c d : Chip} (hrun : (chOf c ch).st = .running)
    (hpeg : isPegged c 4 ch = false) (hgo : cancelWaits ((chOf c ch).queue.head?.getD default).handle c = false)
    (hloaded : (chOf c ch).loaded = some bs) (hdesc : parseDesc bs (chOf c ch).curIdx = some x)
    (helem : spElem (ownerOf c .spool ch) ((chOf c ch).bulk || ((chOf c ch).queue.head?.getD default).bulk) x (chOf c ch).curElem c = .ok d) :
    spoolElement ch c = elementDone ch x d := by
  simp [spoolElement, hrun, hpeg, hgo, hloaded, hdesc, helem]

/-- A chain whose command is to be cancelled stops PARTIAL before its next element (R502). -/
theorem spoolElement_of_cancelled {ch : Nat} {c : Chip} (hrun : (chOf c ch).st = .running) (hpeg : isPegged c 4 ch = false)
    (hcancel : cancelWaits ((chOf c ch).queue.head?.getD default).handle c = true) :
    spoolElement ch c = endChain ch .partialDone .aborted 0 c := by
  simp [spoolElement, hrun, hpeg, hcancel]

/-- An element of a fill: its piece of the destination repeats the pattern (R481). -/
theorem spElem_fill {p k : Nat} {bulk : Bool} {x : Desc} {c : Chip} (hop : x.op = .fill) (hup : x.desc = false)
    (hmay : refusedOf c p [(.w, (x.d + (piece x.d x.len k).1) % 2 ^ 24, (piece x.d x.len k).2)] = none) :
    spElem p bulk x k c = .ok (spWrite bulk p ((x.d + (piece x.d x.len k).1) % 2 ^ 24)
      ((List.range (piece x.d x.len k).2).map fun j => (x.pattern.getD (((piece x.d x.len k).1 + j) % x.size) 0, false)) c) := by
  simp only [spElem, pieceElem, hop, hup, hmay, Bool.false_eq_true, if_false, if_true]

/-- A channel that runs and has completed no element for 100 ms (R506). -/
theorem spoolStall_of_running {ch : Nat} {c : Chip} (hrun : (chOf c ch).st = .running) :
    spoolStall ch c =
      let d := atTime ((chOf c ch).lastProgress + 2400000) c
      lint 0x0905 (0x0400 + ch) (ownerOf d .spool ch) 0 (modCh ch (fun x => { x with lastProgress := d.clk.qtime }) d) := if_pos hrun

/-! ### The rows -/

/-- Settles O22: a row that runs answers its body (`answers_of`), each write comes to CH_CTRL (`writes_chCtrl_of`) and each event to its body,
and a clause's condition chooses the branch. -/
theorem spoolCommandsAndRows : Obligations.SpoolCommandsAndRows := by
  refine ⟨?status, ?submit, ?resume, ?start, ?abort, ?resumeWrite, ?clear, ?cancelBeforeStart, ?chainStart, ?element, ?cancelled, ?fill, ?stall⟩
  case status => exact fun ch => answers_of splStatus (fun _ _ => rfl) fun c m _ ⟨htarget, hpeg⟩ => splStatus_of_target htarget hpeg
  case submit =>
    exact fun ch => answers_of splSubmit (fun _ _ => rfl) fun c m _ ⟨htarget, hpeg, hflags, hzero, hfirst, halign, hroom⟩ =>
      splSubmit_of_room htarget hpeg hflags hzero hfirst halign hroom
  case resume =>
    exact fun ch => answers_of splResume (fun _ _ => rfl) fun c m _ ⟨htarget, hpeg, hparked, hqueue⟩ =>
      splResume_of_parked htarget hpeg hparked hqueue
  case start =>
    exact fun k n bulk ev ch => writes_chCtrl_of (fun _ => rfl) fun c ⟨hfree, hqueue⟩ => spoolCtrl_start bulk ev hfree hqueue
  case abort => exact fun k n bulk ev ch => writes_chCtrl_of (fun _ => rfl) fun c hrun => spoolCtrl_abort bulk ev hrun
  case resumeWrite =>
    exact fun k n bulk ev ch => writes_chCtrl_of (fun _ => rfl) fun c ⟨hparked, hqueue⟩ => spoolCtrl_resume bulk ev hparked hqueue
  case clear => exact fun k n bulk ev ch => writes_chCtrl_of (fun _ => rfl) fun c hparked => spoolCtrl_clear bulk ev hparked
  case cancelBeforeStart =>
    exact fun k n resume bulk ev ch => writes_chCtrl_of (fun _ => rfl) fun c hfree => spoolCtrl_cancelBeforeStart bulk ev hfree resume
  case chainStart =>
    refine fun ch q l => makesRun_of (fun c => if (chOf c ch).free && !(chOf c ch).queue.isEmpty then startFront ch c else c) (fun _ => rfl)
      fun c _ ⟨hfree, hqueue⟩ => ?_
    have hready : ((chOf c ch).free && !(chOf c ch).queue.isEmpty) = true := by rw [hfree, hqueue]; rfl
    exact (if_pos hready).trans (startFront_of_cons hqueue)
  case element =>
    exact fun ch bs x d => makesRun_of (spoolElement ch) (fun _ => rfl) fun c _ ⟨hrun, hpeg, hgo, hloaded, hdesc, helem⟩ =>
      spoolElement_of_done hrun hpeg hgo hloaded hdesc helem
  case cancelled =>
    exact fun ch => makesRun_of (spoolElement ch) (fun _ => rfl) fun c _ ⟨hrun, hpeg, hcancel⟩ => spoolElement_of_cancelled hrun hpeg hcancel
  case fill => exact fun p bulk x k c hop hup hmay => spElem_fill hop hup hmay
  case stall => exact fun ch => makes_of (spoolStall ch) (fun _ => rfl) fun c _ hrun => spoolStall_of_running hrun

end Sys2Proof.Machine

/-! The sound commands (R641, R648, R659, R662, R664, R682): what each body makes where its checks pass, and obligation O29. -/

namespace Sys2Proof.Machine

/-- BUS SYS is refused to guests only (R659). -/
theorem busBad_eq_false {m : Cmd} {bus : Nat} (h : bus = 3 → m.part = 0) : busBad m bus = false := by
  by_cases hbus : bus = 3
  · simp [busBad, h hbus]
  · simp [busBad, hbus]

/-- Fields of a sample voice within their ranges stage its registers, the key last (R641). -/
theorem sndVoice_of_fields {m : Cmd} {c : Chip} {v : Nat} (hunit : windowUnit c m.part .voice (m.b 8) = some v) (hctrl : bit (m.b 9) 7 = false)
    (hbus : bits (m.b 9) 6 5 = 3 → m.part = 0) (hwhen : m.b 10 ≤ 2) (hzero : m.z 29 1 = true)
    (hfields : voiceFieldsOk (bits (m.b 9) 4 3) (m.f 12 4) (m.f 16 4) (m.f 20 4) (m.f 24 2) (m.f 26 2) (m.b 28) = true)
    (hpeg : isPegged c 7 v = false) :
    sndVoice m c = postCmd m (whenOf (m.b 10) (m.f 30 2))
      [.voice v 0x02 (m.f 12 2), .voice v 0x04 (m.f 14 2), .voice v 0x06 (m.f 16 2), .voice v 0x08 (m.f 18 2), .voice v 0x0A (m.f 20 2),
       .voice v 0x0C (m.f 22 2), .voice v 0x0E (m.f 24 2), .voice v 0x12 (m.b 28 + 256 * m.b 11), .voice v 0x10 (m.f 26 2),
       .voice v 0x00 (m.b 9 % 128)] c := by
  simp only [sndVoice, hunit]
  rw [checked_chk_of_false, checked_chk_of_false hpeg, checked_nil]
  simp only [hctrl, busBad_eq_false hbus, hzero, hfields, Bool.not_true, Bool.or_false, Bool.false_or, decide_eq_false_iff_not]
  omega

/-- The write of envelope register k of a tone voice or a sample voice. -/
def envWrite (tone : Bool) (v k val : Nat) : SndWrite := if tone then .tone v (0x0C + 2 * k) val else .voice v (0x14 + 2 * k) val

/-- A sustain level up to 2^23 stages the envelope registers of the unit that KIND names. -/
theorem sndEnv_of_kind {m : Cmd} {c : Chip} {v : Nat} {tone : Bool} (hkind : m.b 9 = b2n tone)
    (hunit : windowUnit c m.part (if tone then .tone else .voice) (m.b 8) = some v) (hsus : m.f 16 4 ≤ 2 ^ 23)
    (hpeg : isPegged c (if tone then 8 else 7) v = false) :
    sndEnv m c = postCmd m .now
      [envWrite tone v 0 (m.f 10 2), envWrite tone v 1 (m.f 12 2), envWrite tone v 2 (m.f 14 2), envWrite tone v 3 (m.f 16 2),
       envWrite tone v 4 (m.f 18 2)] c := by
  have htone : (m.b 9 == 1) = tone := by cases tone <;> simp [hkind, b2n]
  have hfields : (decide (1 < m.b 9) || decide (2 ^ 23 < m.f 16 4)) = false := by
    have hle : m.b 9 ≤ 1 := by cases tone <;> simp [hkind, b2n]
    simp only [Bool.or_eq_false_iff, decide_eq_false_iff_not]
    omega
  simp only [sndEnv, htone, hunit]
  rw [checked_chk_of_false hfields, checked_chk_of_false hpeg, checked_nil]
  rfl

/-- Fields of a tone voice within their ranges stage its registers, the key last. -/
theorem sndTone_of_fields {m : Cmd} {c : Chip} {n : Nat} (hunit : windowUnit c m.part .tone (m.b 8) = some n) (hctrl : m.b 9 < 64)
    (hbus : bits (m.b 9) 5 4 = 3 → m.part = 0) (hwhen : m.b 10 ≤ 2) (hfreq : m.f 12 4 < 2 ^ 24) (hpan : m.b 17 ≤ 128) (hvol : m.f 18 2 ≤ 8192)
    (hpeg : isPegged c 8 n = false) :
    sndTone m c = postCmd m (whenOf (m.b 10) (m.f 20 2))
      [.tone n 0x02 (m.f 12 2), .tone n 0x04 (m.f 14 2), .tone n 0x06 (m.b 16), .tone n 0x0A (m.b 17 + 256 * m.b 11), .tone n 0x08 (m.f 18 2),
       .tone n 0x00 (m.b 9 % 16 + 32 * bits (m.b 9) 5 4)] c := by
  simp only [sndTone, hunit]
  rw [checked_chk_of_false, checked_chk_of_false hpeg, checked_nil]
  simp only [busBad_eq_false hbus, Bool.or_false, Bool.or_eq_false_iff, decide_eq_false_iff_not]
  omega

/-- Fields of a stream within their ranges stage its registers, EN last (R648). -/
theorem sndStream_of_fields {m : Cmd} {c : Chip} {i : Nat} (hunit : windowUnit c m.part .input (m.b 8) = some i) (hstream : i < 2)
    (hmon : bit (m.b 9) 3 = false) (hctrl : m.b 9 < 64) (hbus : bits (m.b 9) 5 4 = 3 → m.part = 0) (hlow : 4000 ≤ m.f 12 4)
    (hhigh : m.f 12 4 ≤ 48000) (hring : ringFieldsOk (m.f 16 4) (m.b 20) = true) (hpan : m.b 21 ≤ 128) (hvol : m.f 22 2 ≤ 8192)
    (hpeg : isPegged c 9 i = false) :
    sndStream m c = postCmd m .now
      [.input i 0x02 (m.f 16 2), .input i 0x04 (m.f 18 2), .input i 0x06 (m.b 20), .input i 0x08 (m.f 10 2), .input i 0x0A (m.f 12 2),
       .input i 0x0C (m.f 14 2), .input i 0x10 (m.b 21), .input i 0x0E (m.f 22 2), .input i 0x00 (m.b 9 % 8 + 16 * bits (m.b 9) 5 4)] c := by
  simp only [sndStream, hunit]
  rw [checked_chk_of_false, checked_chk_of_false hpeg, checked_nil]
  simp only [hmon, busBad_eq_false hbus, hring, Bool.not_true, Bool.or_false, Bool.or_eq_false_iff, decide_eq_false_iff_not]
  omega

/-- Fields of a capture within their ranges stage its registers, EN last (R648). -/
theorem sndCapture_of_fields {m : Cmd} {c : Chip} {i : Nat} (hunit : windowUnit c m.part .input (m.b 8) = some i) (hcapture : 2 ≤ i)
    (hpcm : bit (m.b 9) 3 = false) (hctrl : m.b 9 < 64) (hbus : bits (m.b 9) 5 4 = 3 → m.part = 0)
    (hring : ringFieldsOk (m.f 12 4) (m.b 16) = true) (hgain : m.b 17 ≤ 7) (hvol : m.f 18 2 ≤ 8192) (hpan : m.b 20 ≤ 128)
    (hpeg : isPegged c 9 i = false) :
    sndCapture m c = postCmd m .now
      [.input i 0x02 (m.f 12 2), .input i 0x04 (m.f 14 2), .input i 0x06 (m.b 16), .input i 0x08 (m.f 10 2), .input i 0x0A (m.b 17),
       .input i 0x10 (m.b 20), .input i 0x0E (m.f 18 2), .input i 0x00 (m.b 9 % 4 + 8 * bits (m.b 9) 2 2 + 16 * bits (m.b 9) 5 4)] c := by
  simp only [sndCapture, hunit]
  rw [checked_chk_of_false, checked_chk_of_false hpeg, checked_nil]
  simp only [hpcm, busBad_eq_false hbus, hring, Bool.not_true, Bool.or_false, Bool.or_eq_false_iff, decide_eq_false_iff_not]
  omega

/-- A stage that exists is set by an origin that may: the stages of P0 by P0 and by external origins with consent. -/
theorem sndGain_of_stage {m : Cmd} {c : Chip} {own : Bool} (hconsent : consentOf c m.org = true) (hstage : gainStage (m.b 8) = some own)
    (howner : own = true → m.org.external = true ∨ m.part = 0) (hwhen : m.b 10 ≤ 2) (hzero : m.z 11 1 = true) (hvalue : m.f 12 2 ≤ 8192) :
    sndGain m c = postCmd m (whenOf (m.b 10) (m.f 14 2)) [gainWrite m.part (m.b 8) (m.b 9) (m.f 12 2)] c := by
  have hmay : (!consentOf c m.org || ((gainStage (m.b 8) == some true) && !m.org.external && m.part != 0)) = false := by
    cases own with
    | false => simp [hconsent, hstage]
    | true =>
      rcases howner rfl with hext | hpart
      · simp [hconsent, hext]
      · simp [hconsent, hpart]
  dsimp only [sndGain]
  rw [checked_chk_of_false hmay, checked_chk_of_false, checked_nil]
  simp only [hstage, hzero, Option.isNone_some, Bool.not_true, Bool.or_false, Bool.false_or, Bool.or_eq_false_iff, decide_eq_false_iff_not]
  omega

/-- P0 sets either cap, and any other origin may lower it (R664). -/
theorem sndCap_of_allowed {m : Cmd} {c : Chip} (hpath : m.b 8 ≤ 1) (hzero : m.z 9 1 = true)
    (hallowed : m.org = .part 0 ∨ m.f 10 2 ≤ if m.b 8 = 0 then c.snd.mix.spkLim.cap else c.snd.mix.i2sLim.cap) :
    sndCap m c = (.ok, modSnd (fun s =>
      { s with mix := if m.b 8 = 0 then { s.mix with spkLim := { s.mix.spkLim with cap := m.f 10 2 } }
                      else { s.mix with i2sLim := { s.mix.i2sLim with cap := m.f 10 2 } } }) c) := by
  have hmay : ¬(m.b 8 ≤ 1 ∧ m.org ≠ .part 0 ∧ (if m.b 8 = 0 then c.snd.mix.spkLim.cap else c.snd.mix.i2sLim.cap) < m.f 10 2) :=
    fun ⟨_, horg, hraise⟩ => hallowed.elim horg (Nat.not_le_of_lt hraise)
  dsimp only [sndCap]
  rw [if_neg hmay, checked_chk_of_false, checked_nil]
  simp only [hzero, Bool.not_true, Bool.or_false, decide_eq_false_iff_not]
  omega

/-- What SND.OUTPUT asks of its fields (R682). -/
structure OutputFields (m : Cmd) : Prop where
  flags : m.b 8 ≤ 1
  releaseLow : 4 ≤ m.b 9
  releaseHigh : m.b 9 ≤ 14
  vrefLow : 2000 ≤ m.f 14 2
  vrefHigh : m.f 14 2 ≤ 5000
  config : m.f 16 4 < 2 ^ 11
  format : (i2sOf m).fmt ≠ 3
  width : (i2sOf m).width ≠ 3
  slots : ∀ k, k < 8 → bits (m.f 20 4) (4 * k + 3) (4 * k) ≤ 5
  leftSlot : bit (m.b 24) 3 = false
  rightSlot : bit (m.b 24) 7 = false
  fmic : m.b 25 ≤ 2

/-- SND.OUTPUT that keeps the form of the I2S output, on a bridge without a fault. -/
theorem sndOutput_of_fields {m : Cmd} {c : Chip} (h : OutputFields m) (hfault : c.snd.bridge.fault = false) (hform : i2sOf m = c.snd.i2s.cfg) :
    sndOutput m c = (.ok, modSnd (fun s =>
      { s with
        bridge := { s.bridge with en := bit (m.b 8) 0, vref := m.f 14 2 }
        mix := { s.mix with relShift := m.b 9, spkLim := { s.mix.spkLim with thr := m.f 10 2 }, i2sLim := { s.mix.i2sLim with thr := m.f 12 2 },
                            fmic := m.b 25 }
        i2s := { s.i2s with next := none } }) c) := by
  obtain ⟨hflags, hrelease, hrelease', hvref, hvref', hconfig, hformat, hwidth, hslots, hleft, hright, hfmic⟩ := h
  have hmap : (List.range 8).any (fun k => decide (5 < bits (m.f 20 4) (4 * k + 3) (4 * k))) = false := by
    simpa only [List.any_eq_false, List.mem_range, decide_eq_true_eq, Nat.not_lt] using hslots
  dsimp only [sndOutput]
  rw [checked_chk_of_false, checked_nil]
  · simp only [modSnd, hform, hfault, Bool.false_eq_true, if_true, if_false]
  · simp only [hmap, hleft, hright, hformat, hwidth, Bool.or_false, Bool.or_eq_false_iff, decide_eq_false_iff_not, not_false_eq_true, and_true]
    omega

/-- Settles O29: a row that runs answers its body (`answers_of`), and each body, where its clause's condition holds, passes its checks, so that
it stages its writes or takes effect at once. -/
theorem soundCommands : Obligations.SoundCommands := by
  refine ⟨?status, ?voice, ?envVoice, ?envTone, ?tone, ?stream, ?capture, ?gain, ?capSpeaker, ?capI2s, ?output⟩
  case status => exact answers_of sndStatus (fun _ _ => rfl) fun _ _ _ _ => rfl
  case voice =>
    exact fun v => answers_of sndVoice (fun _ _ => rfl) fun c m _ ⟨hunit, hctrl, hbus, hwhen, hzero, hfields, hpeg⟩ =>
      sndVoice_of_fields hunit hctrl hbus hwhen hzero hfields hpeg
  case envVoice =>
    exact fun v => answers_of sndEnv (fun _ _ => rfl) fun c m _ ⟨hkind, hunit, hsus, hpeg⟩ => sndEnv_of_kind (tone := false) hkind hunit hsus hpeg
  case envTone =>
    exact fun n => answers_of sndEnv (fun _ _ => rfl) fun c m _ ⟨hkind, hunit, hsus, hpeg⟩ => sndEnv_of_kind (tone := true) hkind hunit hsus hpeg
  case tone =>
    exact fun n => answers_of sndTone (fun _ _ => rfl) fun c m _ ⟨hunit, hctrl, hbus, hwhen, hfreq, hpan, hvol, hpeg⟩ =>
      sndTone_of_fields hunit hctrl hbus hwhen hfreq hpan hvol hpeg
  case stream =>
    exact fun i => answers_of sndStream (fun _ _ => rfl)
      fun c m _ ⟨hunit, hstream, hmon, hctrl, hbus, hlow, hhigh, hring, hpan, hvol, hpeg⟩ =>
        sndStream_of_fields hunit hstream hmon hctrl hbus hlow hhigh hring hpan hvol hpeg
  case capture =>
    exact fun i => answers_of sndCapture (fun _ _ => rfl) fun c m _ ⟨hunit, hcapture, hpcm, hctrl, hbus, hring, hgain, hvol, hpan, hpeg⟩ =>
      sndCapture_of_fields hunit hcapture hpcm hctrl hbus hring hgain hvol hpan hpeg
  case gain =>
    exact fun own => answers_of sndGain (fun _ _ => rfl) fun c m _ ⟨hconsent, hstage, howner, hwhen, hzero, hvalue⟩ =>
      sndGain_of_stage hconsent hstage howner hwhen hzero hvalue
  case capSpeaker =>
    refine answers_of sndCap (fun _ _ => rfl) fun c m _ ⟨hpath, hzero, hallowed⟩ => ?_
    rw [sndCap_of_allowed (by omega) hzero (by rwa [if_pos hpath])]
    simp only [hpath, if_true]
  case capI2s =>
    refine answers_of sndCap (fun _ _ => rfl) fun c m _ ⟨hpath, hzero, hallowed⟩ => ?_
    rw [sndCap_of_allowed (by omega) hzero (by rwa [if_neg (by omega)])]
    simp only [hpath, Nat.one_ne_zero, if_false]
  case output =>
    exact answers_of sndOutput (fun _ _ => rfl) fun c m _
      ⟨hflags, hrelease, hrelease', hvref, hvref', hconfig, hformat, hwidth, hslots, hleft, hright, hfmic, hfault, hform⟩ =>
        sndOutput_of_fields ⟨hflags, hrelease, hrelease', hvref, hvref', hconfig, hformat, hwidth, hslots, hleft, hright, hfmic⟩ hfault hform

end Sys2Proof.Machine

/-! The I2S input after the loss of its clock (R676), and the refutation of obligation O30. -/

namespace Sys2Proof.Machine

/-- An input that has been changed. -/
theorem inOf_modIn_same {i : Nat} (hi : i < 5) (f : SndIn → SndIn) (c : Chip) : inOf (modIn i f c) i = f (inOf c i) := by
  simp only [inOf, modIn, modSnd, vmod, vget, toList_getD_vset _ hi, if_true]

/-- A capture with a ring fault writes nothing. -/
theorem captureWrite_of_fault {i : Nat} {c : Chip} (hfault : (inOf c i).st.fault = true) (x : Int × Int) : captureWrite i x c = c := by
  simp [captureWrite, hfault]

/-- While CLOCK_LOST stands at the monitored I2S input, each sample period queues a sample for the monitor. -/
theorem mon_i2sLostSample {c : Chip} (hlost : (inOf c 4).st.clockLost = true) (hen : (inOf c 4).cfg.en = true)
    (hmon : (inOf c 4).cfg.mon = true) (hfault : (inOf c 4).st.fault = true) :
    (inOf (i2sLostSample c) 4).mon =
      ((inOf c 4).mon ++ [(inOf c 4).latest.1 * ((inOf c 4).lossRamp - 1 : Nat) / 48]).drop ((inOf c 4).mon.length - 255) := by
  have hi : 4 < 5 := by decide
  simp only [i2sLostSample, hlost, hen, Bool.and_self, if_true]
  rw [captureWrite_of_fault (by rw [inOf_modIn_same hi]; exact hfault), inOf_modIn_same hi]
  simp only [hmon, if_true]

/-- What leaves the FIFO changes no input. -/
theorem inOf_takeOut {x : MixOut} {l : List MixOut} {c : Chip} (hfifo : c.snd.out.fifo = x :: l) (i : Nat) :
    inOf (takeOut c).2 i = inOf c i := by
  simp only [takeOut, hfifo]
  rfl

/-- Of what a sample period does, only the sample of an I2S input without a clock changes an input. -/
theorem inOf_audioPeriod {c : Chip} (hruns : soundRuns c = true) (i : Nat) :
    inOf (audioPeriod c) i = inOf (i2sLostSample (takeOut c).2) i := by
  simp only [audioPeriod, hruns, Bool.not_true, Bool.false_eq_true, if_false]
  rfl

/-- A running, monitored I2S input whose ring has a fault and whose CLOCK_LOST stands, its ramp done. -/
def lostInput : SndIn := { cfg := { en := true, mon := true }, st := { fault := true, clockLost := true }, lossRamp := 0 }

/-- The chip after reset with one sample in the FIFO and that input; the I2S interface itself is off and has lost no clock. The flags of
the input and of the interface part when SND.OUTPUT gives an interface that is off a new form, which clears the interface's alone. -/
def lostInputChip : Chip :=
  modIn 4 (fun _ => lostInput) (modSnd (fun s => { s with out := { s.out with fifo := [{}] } }) State.reset.chip)

@[simp] theorem inOf_lostInputChip : inOf lostInputChip 4 = lostInput := inOf_modIn_same (by decide) ..

/-- One sample period queues a zero for the monitor. -/
theorem mon_audioPeriod_lostInputChip : (inOf (audioPeriod lostInputChip) 4).mon = [0] := by
  have hin : inOf (takeOut lostInputChip).2 4 = lostInput := (inOf_takeOut rfl 4).trans inOf_lostInputChip
  rw [inOf_audioPeriod rfl, mon_i2sLostSample (by rw [hin]; rfl) (by rw [hin]; rfl) (by rw [hin]; rfl) (by rw [hin]; rfl), hin]
  decide

/-- Refutes O30: its clause for AUDIO_SAMPLE_PERIOD takes an I2S input whose loss ramp is done for one that delivers nothing more, and says
that no input changes. While CLOCK_LOST stands at the input it goes on to deliver zeros (R676): on `lostInputChip` a zero is queued for the
monitor. -/
theorem not_soundRows : ¬ Obligations.SoundRows := by
  intro ⟨_, _, hperiod, _⟩
  have hsaid := hperiod {} [] { chip := lostInputChip } rfl ⟨rfl, rfl, rfl, rfl, rfl, rfl, by rw [inOf_lostInputChip]; rfl⟩
  have hmade : exec .audioSamplePeriod { chip := lostInputChip } = .next (State.settle { chip := lostInputChip } (audioPeriod lostInputChip)) :=
    onChip_eq (asleep_run rfl) audioPeriod
  have hsame := congrArg (fun s : State => (inOf s.chip 4).mon) (Host.Outcome.next.inj (hsaid.symm.trans hmade))
  have hkept : (inOf lostInputChip 4).mon = (inOf (audioPeriod lostInputChip) 4).mon := hsame
  rw [mon_audioPeriod_lostInputChip, inOf_lostInputChip] at hkept
  exact List.cons_ne_nil _ _ hkept.symm

end Sys2Proof.Machine

/-! The queue of commands (log entry 4): what one step takes from it, and obligations O1 and O2. -/

namespace Sys2Proof.Machine

/-- The one command that can stop the block (R276). -/
theorem eq_stewardExtension_of_stops {i : Instr} (h : stops i = true) : ∃ k w, k.val = 6 ∧ i = .stewardExtension k w := by
  unfold stops at h
  split at h
  case h_1 k w => exact ⟨k, w, beq_iff_eq.mp h, rfl⟩
  case h_2 => exact absurd h Bool.false_ne_true

/-- On an empty queue a step is a tick of Quartz time. -/
theorem step_nil {s : State} (h : s.pending = []) : step s = onChip tick s := by
  rw [step, h]

/-- A state whose queue is set to what it is. -/
theorem with_pending_eq {s : State} {l : List Instr} (h : s.pending = l) : { s with pending := l } = s := by
  rw [← h]

/-- A step takes the front command off the queue and settles the rest of the state on some chip, or it stops at a steward extension. -/
theorem step_cases (s : State) :
    (∃ c, step s = .next ({ s with pending := s.pending.tail }.settle c)) ∨
      (∃ k w rest, k.val = 6 ∧ s.pending = .stewardExtension k w :: rest) ∧ step s = .refused .unpublishedExtension := by
  cases hqueue : s.pending with
  | nil =>
    obtain ⟨c, hc⟩ := onAlways_next (fun c => if asleep c then c else tick c) s
    exact .inl ⟨c, by rw [step_nil hqueue, List.tail_nil, with_pending_eq hqueue]; exact hc⟩
  | cons i rest =>
    rw [step_cons s i rest hqueue, List.tail_cons]
    rcases exec_cases i { s with pending := rest } with hnext | ⟨hstops, hrefused⟩
    · exact .inl hnext
    · obtain ⟨k, w, hk, rfl⟩ := eq_stewardExtension_of_stops hstops
      exact .inr ⟨⟨k, w, rest, hk, rfl⟩, hrefused⟩

/-- A step that goes on leaves the queue's rest. -/
theorem pending_of_step {s t : State} (h : step s = .next t) : t.pending = s.pending.tail := by
  rcases step_cases s with ⟨c, hc⟩ | ⟨_, hrefused⟩
  · rw [← Host.Outcome.next.inj (hc.symm.trans h), settle_pending]
  · cases hrefused.symm.trans h

/-- A step refuses nothing but a steward extension on the steward core (R276). -/
theorem refused_of_step {s : State} {r : Refusal} (h : step s = .refused r) :
    r = .unpublishedExtension ∧ ∃ k w rest, k.val = 6 ∧ s.pending = .stewardExtension k w :: rest := by
  rcases step_cases s with ⟨c, hc⟩ | ⟨hfront, hrefused⟩
  · cases hc.symm.trans h
  · exact ⟨(Host.Outcome.refused.inj (hrefused.symm.trans h)).symm, hfront⟩

/-- No step ends in a fault. -/
theorem step_ne_fault (s : State) (f : Fault) : step s ≠ .fault f := fun h => by
  rcases step_cases s with ⟨c, hc⟩ | ⟨_, hrefused⟩
  · cases hc.symm.trans h
  · cases hrefused.symm.trans h

/-- Settles O1: `step` hands the front command to `exec` with the queue's rest, which for a queue of one command is the empty queue. -/
theorem frontCommandRuns : Obligations.FrontCommandRuns :=
  ⟨fun _ i rest => step_cons _ i rest rfl, fun _ i hempty => (step_cons _ i [] rfl).trans (congrArg (exec i) (with_pending_eq hempty))⟩

/-- Settles O2: whatever the front command is, a step is one of the two cases of `step_cases`; with no command it is a tick, which a sleeping
chip does not take (`onChip_asleep`). -/
theorem queueIsFifo : Obligations.QueueIsFifo :=
  ⟨fun _ _ => pending_of_step, fun _ hempty hawake => (step_nil hempty).trans (onChip_eq hawake tick),
    fun _ hempty hasleep => (step_nil hempty).trans (onChip_asleep hasleep tick), fun _ _ => refused_of_step, step_ne_fault⟩

end Sys2Proof.Machine

/-! The fuses (R778, R782, R788, R801): what blowing one leaves, what a step can make of fuses that are legal, and the refutation of obligation
O3, which speaks of all fuses. -/

namespace Sys2Proof.Machine

/-! ### Slots -/

@[simp] theorem Slot.advance_refl (a : Slot) : Slot.advance a a := .inl rfl

/-- No slot comes back: a key is taken from EMPTY alone, and a destroyed slot stays so. -/
theorem Slot.advance_trans {a b d : Slot} (hab : Slot.advance a b) (hbd : Slot.advance b d) : Slot.advance a d := by
  rcases hbd with rfl | ⟨hb, hd⟩ | ⟨hb, hd, hkey⟩
  · exact hab
  · rcases hab with rfl | ⟨_, hne⟩ | ⟨_, hgone, _⟩
    · exact .inr (.inl ⟨hb, hd⟩)
    · exact absurd hb hne
    · rcases hgone with h | h <;> cases h.symm.trans hb
  · rcases hab with rfl | ⟨ha, _⟩ | ⟨_, hgone, _⟩
    · exact .inr (.inr ⟨hb, hd, hkey⟩)
    · exact .inr (.inl ⟨ha, by rcases hd with h | h <;> rw [h] <;> decide⟩)
    · rcases hgone with h | h <;> cases h.symm.trans hb

/-- Inside an array the value that stands for what is beyond it does not matter. -/
theorem toList_getD_eq {α : Type} {n i : Nat} (v : Vector α n) (hi : i < n) (d e : α) : v.toList.getD i d = v.toList.getD i e := by
  simp only [List.getD_eq_getElem?_getD, List.getElem?_eq_getElem (show i < v.toList.length by rwa [Vector.length_toList]), Option.getD_some]

/-- A slot that is not destroyed is one of the sixteen. -/
theorem lt_of_slot_ne_destroyed {v : Vector Slot 16} {i : Nat} (h : (v.toList.getD i { st := .destroyed }).st ≠ .destroyed) : i < 16 := by
  by_contra hi
  exact h (by rw [List.getD_eq_default _ _ (by rw [Vector.length_toList]; omega)])

/-- An array of slots in which one slot has advanced. -/
theorem slots_advance_vset {v : Vector Slot 16} {i : Nat} {x : Slot} (hi : i < 16) (h : Slot.advance (v.toList.getD i {}) x) (j : Nat) :
    Slot.advance (v.toList.getD j {}) ((vset v i x).toList.getD j {}) := by
  rw [toList_getD_vset v hi]
  split
  case isTrue hj => rwa [hj]
  case isFalse => exact Slot.advance_refl _

/-- An array of slots in which no slot that is not loaded holds a key keeps this when the new slot does. -/
theorem slots_noKey_vset {v : Vector Slot 16} {i : Nat} {x : Slot} (hi : i < 16) (hx : x.st ≠ .loaded → x.key = .none)
    (h : ∀ j, j < 16 → (v.toList.getD j {}).st ≠ .loaded → (v.toList.getD j {}).key = .none) (j : Nat) (hj : j < 16) :
    ((vset v i x).toList.getD j {}).st ≠ .loaded → ((vset v i x).toList.getD j {}).key = .none := by
  rw [toList_getD_vset v hi]
  split
  case isTrue => exact hx
  case isFalse => exact h j hj

/-! ### Blowing a fuse -/

theorem Fuses.Advance.refl (f : Fuses) : Fuses.Advance f f :=
  ⟨rfl, id, id, id, le_rfl, le_rfl, le_rfl, fun _ _ => Slot.advance_refl _⟩

theorem Fuses.Advance.trans {a b d : Fuses} (hab : Fuses.Advance a b) (hbd : Fuses.Advance b d) : Fuses.Advance a d :=
  ⟨hbd.serial.trans hab.serial, hbd.maker ∘ hab.maker, hbd.field ∘ hab.field, hbd.scrap ∘ hab.scrap, hab.entries.trans hbd.entries,
    hab.exits.trans hbd.exits, hab.floor.trans hbd.floor, fun i hi => Slot.advance_trans (hab.slots i hi) (hbd.slots i hi)⟩

/-- Fuses that differ in their slots alone, which have advanced. -/
theorem Fuses.Advance.of_slots {f : Fuses} {v : Vector Slot 16} (h : ∀ j, Slot.advance (f.slots.toList.getD j {}) (v.toList.getD j {})) :
    Fuses.Advance f { f with slots := v } :=
  ⟨rfl, id, id, id, le_rfl, le_rfl, le_rfl, fun j _ => h j⟩

/-- A burn takes legal fuses one way. Only a count that is legal cannot fall: it stops at eight. -/
theorem Fuses.Legal.advance_burn {f : Fuses} (h : Fuses.Legal f) (b : Burn) : Fuses.Advance f (f.burn b) := by
  have hrefl := Fuses.Advance.refl f
  cases b with
  | maker => exact { hrefl with maker := fun _ => rfl }
  | field => exact { hrefl with field := fun _ => rfl }
  | scrap => exact { hrefl with scrap := fun _ => rfl }
  | entry => exact { hrefl with entries := le_min h.entries (Nat.le_succ _) }
  | exit => exact { hrefl with exits := le_min h.exits (Nat.le_succ _) }
  | floor n => exact { hrefl with floor := le_max_left _ _ }
  | load i x =>
    simp only [Fuses.burn]
    split
    case isFalse => exact hrefl
    case isTrue hempty =>
      have hi := lt_of_slot_ne_destroyed (v := f.slots) (i := i) (by rw [hempty]; decide)
      rw [toList_getD_eq _ hi _ {}] at hempty
      exact .of_slots (slots_advance_vset hi (.inr (.inl ⟨hempty, nofun⟩)))
  | destroy i good =>
    simp only [Fuses.burn]
    split
    case isFalse => exact hrefl
    case isTrue hold =>
      have hi := lt_of_slot_ne_destroyed (v := f.slots) (i := i) (by rcases hold with h | h <;> rw [h] <;> decide)
      rw [toList_getD_eq _ hi _ {}] at hold
      refine .of_slots (slots_advance_vset hi ?_)
      rcases hold with hempty | hloaded
      · exact .inr (.inl ⟨hempty, by cases good <;> nofun⟩)
      · exact .inr (.inr ⟨hloaded, by cases good <;> simp, rfl⟩)

/-- A burn keeps fuses legal. -/
theorem Fuses.Legal.burn {f : Fuses} (h : Fuses.Legal f) (b : Burn) : Fuses.Legal (f.burn b) := by
  cases b with
  | maker | field | scrap | floor => exact { h with }
  | entry => exact { h with entries := min_le_left _ _ }
  | exit => exact { h with exits := min_le_left _ _ }
  | load i x =>
    simp only [Fuses.burn]
    split
    case isFalse => exact h
    case isTrue hempty =>
      have hi := lt_of_slot_ne_destroyed (v := f.slots) (i := i) (by rw [hempty]; decide)
      exact { h with keys := slots_noKey_vset hi (fun hne => absurd rfl hne) h.keys }
  | destroy i good =>
    simp only [Fuses.burn]
    split
    case isFalse => exact h
    case isTrue hold =>
      have hi := lt_of_slot_ne_destroyed (v := f.slots) (i := i) (by rcases hold with h | h <;> rw [h] <;> decide)
      exact { h with keys := slots_noKey_vset hi (fun _ => rfl) h.keys }

/-- Any number of burns takes legal fuses one way and keeps them legal. -/
theorem Fuses.Legal.foldl_burn {f : Fuses} (h : Fuses.Legal f) (l : List Burn) :
    Fuses.Advance f (l.foldl Fuses.burn f) ∧ Fuses.Legal (l.foldl Fuses.burn f) := by
  induction l generalizing f with
  | nil => exact ⟨.refl f, h⟩
  | cons b t ih =>
    obtain ⟨hadvance, hlegal⟩ := ih (h.burn b)
    exact ⟨(h.advance_burn b).trans hadvance, hlegal⟩

/-! ### Steps -/

/-- A step that goes on makes nothing of the fuses but a list of burns. -/
theorem fuses_of_step {s t : State} (h : step s = .next t) : ∃ l : List Burn, t.chip.fuses = l.foldl Fuses.burn s.chip.fuses := by
  rcases step_cases s with ⟨c, hc⟩ | ⟨_, hrefused⟩
  · exact ⟨c.burns, by rw [← Host.Outcome.next.inj (hc.symm.trans h)]; rfl⟩
  · cases hrefused.symm.trans h

/-- What obligation O3 says holds of every chip whose fuses are legal, as those of every chip after reset are and stay. -/
theorem legal_fuses_advance_of_step {s t : State} (hlegal : Fuses.Legal s.chip.fuses) (h : step s = .next t) :
    Fuses.Advance s.chip.fuses t.chip.fuses ∧ Fuses.Legal t.chip.fuses := by
  obtain ⟨l, hl⟩ := fuses_of_step h
  rw [hl]
  exact hlegal.foldl_burn l

/-- The fuses of a chip in SERVICE whose counts have passed the eight that a chip can have. -/
def overspentFuses : Fuses := { field := true, entries := 10, exits := 9 }

/-- A chip after reset with those fuses, whose SERVICE is over. -/
def overspentChip : Chip :=
  { State.reset.chip with fuses := overspentFuses, vlt := { svcEnd := some 0 } }

/-- The end of SERVICE blows one exit fuse (R808). -/
theorem burns_leaveService (c : Chip) : (leaveService c).burns = c.burns ++ [.exit] := by
  simp only [leaveService, modVlt, transition, vaultEvent, fire, lintBlock_burns, burnNow]

/-- The end of SERVICE on that chip. -/
theorem serviceEnd_overspentChip : serviceEnd overspentChip = leaveService overspentChip := rfl

/-- Refutes O3: it speaks of every state, and a count of SERVICE that stands above eight falls to eight with the next burn. On `overspentChip`
the end of SERVICE takes the exits from 9 to 8. Of a chip whose counts are legal the statement holds (`legal_fuses_advance_of_step`). -/
theorem not_fusesOnlyBlow : ¬ Obligations.FusesOnlyBlow := by
  intro hblow
  have hstep : step { chip := overspentChip, pending := [.serviceDurationEnd] } =
      .next (State.settle { chip := overspentChip } (leaveService overspentChip)) := by
    rw [step_cons _ _ [] rfl, ← serviceEnd_overspentChip]
    exact onChip_eq (asleep_run rfl) serviceEnd
  obtain ⟨hadvance, _⟩ := hblow _ _ hstep
  have hexits : overspentFuses.exits ≤ (((leaveService overspentChip).burns).foldl Fuses.burn overspentFuses).exits := hadvance.exits
  rw [burns_leaveService] at hexits
  exact absurd hexits (by decide)

end Sys2Proof.Machine

/-! The lint log (R844, R846): when an occurrence merges, what a new entry leaves of the chip, and obligations O8 and O9. -/

namespace Sys2Proof.Machine

/-- The log with an occurrence of a code counted for its lifetime (R846). -/
def LintLog.count (code : Nat) (l : LintLog) : LintLog :=
  { l with counters := sput 0 l.counters code (satAdd 0xFFFFFFFF (sget 0 l.counters code) 1) }

/-- The entry of a first occurrence. -/
def firstEntry (boot : Bool) (code unit origin detail : Nat) (c : Chip) : LintEntry :=
  { code := code, unit := unit, count := 1, origin := origin, boot := boot, first := c.clk.qtime, last := c.clk.qtime, frame := c.beam.frame,
    detail := detail }

/-- An occurrence within a second of the first of its pair's newest entry merges into that entry (R844). -/
theorem lintAs_of_young {code unit i : Nat} {c : Chip} (hnewest : lintNewest c.lint code unit = some i)
    (hyoung : c.clk.qtime < (c.lint.entries.getD i {}).first + 24000000) (boot : Bool) (origin detail : Nat) :
    lintAs boot code unit origin detail c =
      { c with lint := { c.lint.count code with entries := c.lint.entries.set i ((c.lint.entries.getD i {}).again c.clk.qtime) } } := by
  have hfound : lintNewest (c.lint.count code) code unit = some i := hnewest
  unfold LintLog.count at hfound
  simp only [lintAs, hfound, if_pos hyoung]
  rfl

/-- Any other occurrence is a new entry, and fires LINT with a free value (R844). -/
theorem lintAs_of_noYoung {code unit : Nat} {c : Chip}
    (hold : ∀ i, lintNewest c.lint code unit = some i → (c.lint.entries.getD i {}).first + 24000000 ≤ c.clk.qtime)
    (boot : Bool) (origin detail : Nat) :
    lintAs boot code unit origin detail c = fire 0 58 ((freeNat c).1 % 2 ^ 32)
      { (freeNat c).2 with lint := lintWrite (firstEntry boot code unit origin detail c) (c.lint.count code) } := by
  have hsame : lintNewest (c.lint.count code) code unit = lintNewest c.lint code unit := rfl
  unfold LintLog.count at hsame
  simp only [lintAs, hsame]
  cases hnewest : lintNewest c.lint code unit with
  | none => rfl
  | some i =>
    simp only [if_neg (Nat.not_lt.mpr (hold i hnewest))]
    rfl

/-- One more occurrence counts or saturates, sets LAST_QTIME and keeps the rest. -/
theorem LintEntry.again_eq (now : Nat) (e : LintEntry) :
    e.again now = { e with last := now, count := if e.count = 65535 then 65535 else e.count + 1, saturated := e.saturated || e.count == 65535 } := by
  unfold LintEntry.again
  split
  case isTrue hfull => simp [hfull]
  case isFalse hroom => simp [hroom]

/-- A new entry lands where the entries and NEXT say, whatever has been counted. -/
theorem entries_lintWrite_count (e : LintEntry) (code : Nat) (l : LintLog) : (lintWrite e (l.count code)).entries = (lintWrite e l).entries := by
  unfold lintWrite LintLog.count
  split <;> rfl

theorem next_lintWrite (e : LintEntry) (l : LintLog) : (lintWrite e l).next = (l.next + 1) % 256 := by
  unfold lintWrite
  split <;> rfl

theorem counters_lintWrite (e : LintEntry) (l : LintLog) : (lintWrite e l).counters = l.counters := by
  unfold lintWrite
  split <;> rfl

/-- Settles O8: an occurrence either merges (`lintAs_of_young`) or is a new entry (`lintAs_of_noYoung`). -/
theorem lintMerges : Obligations.LintMerges := by
  intro boot code unit origin detail c
  constructor
  · intro i hnewest hyoung
    rw [lintAs_of_young hnewest hyoung, LintEntry.again_eq]
    exact ⟨rfl, rfl, rfl, rfl⟩
  · intro hold
    rw [lintAs_of_noYoung hold]
    exact ⟨entries_lintWrite_count _ code c.lint, next_lintWrite _ _, ⟨_, rfl⟩, rfl⟩

/-- Every occurrence is counted, merged or not. -/
theorem counters_lintAs (boot : Bool) (code unit origin detail : Nat) (c : Chip) :
    (lintAs boot code unit origin detail c).lint.counters = (c.lint.count code).counters := by
  by_cases hold : ∀ i, lintNewest c.lint code unit = some i → (c.lint.entries.getD i {}).first + 24000000 ≤ c.clk.qtime
  · rw [lintAs_of_noYoung hold]
    exact counters_lintWrite ..
  · push Not at hold
    obtain ⟨i, hnewest, hyoung⟩ := hold
    rw [lintAs_of_young hnewest hyoung]

/-- The count after an occurrence is not 0, so its code is listed. -/
theorem counters_count (code : Nat) (l : LintLog) :
    (l.count code).counters = sins l.counters code (min (2 ^ 32 - 1) (sget 0 l.counters code + 1)) :=
  if_neg (by rw [satAdd]; omega)

/-- Settles O9: the counter of the code is the one key that an occurrence lists (`counters_lintAs`, `counters_count`). -/
theorem lintCounters : Obligations.LintCounters := by
  intro boot code unit origin detail c
  simp only [counters_lintAs, counters_count]
  refine ⟨?_, fun other hother => ?_⟩
  · rw [sget, sfind_sins_self, Option.getD_some]
  · rw [sget, sfind_sins_of_ne hother, sget]

end Sys2Proof.Machine

/-! The commands of input and the small ports (R685 to R688, R694 to R709): what each body makes where its checks pass, and obligation O35. -/

namespace Sys2Proof.Machine

/-- A destination that is 0, or that the map lets be written, is not refused. -/
theorem optionalDest_allowed {d : Nat} {ok : Bool} (h : d ≠ 0 → ok = true) (b : Bool) : (d != 0 && b && !ok) = false := by
  by_cases hd : d = 0
  · simp [hd]
  · simp [h hd]

/-! ### The snapshot, keys and touch (R685 to R698) -/

/-- INP.SNAPSHOT: destination 0 disables, any other is aligned and writable (R697). -/
theorem inpSnapshot_of_dest {m : Cmd} {c : Chip} (hdest : m.f 8 4 < 2 ^ 24) (halign : m.f 8 4 % 32 = 0)
    (hmap : m.f 8 4 ≠ 0 → kRangeOk c m.part .w (m.f 8 4) 32 = true) :
    inpSnapshot m c = (.ok, modSnapPart m.part (fun q => { q with en := m.f 8 4 != 0, dest := m.f 8 4 }) c) := by
  dsimp only [inpSnapshot]
  rw [checked_chk_of_false (optionalDest_allowed hmap _), checked_chk_of_false, checked_nil]
  simp only [Bool.or_eq_false_iff, decide_eq_false_iff_not, bne_eq_false_iff_eq]
  omega

/-- What INP.CONFIG asks of its fields. -/
structure InputFields (m : Cmd) : Prop where
  flags : m.b 8 ≤ 3
  debounceLow : 1 ≤ m.b 9
  debounceHigh : m.b 9 ≤ 31
  rowLow : 4 ≤ m.b 10
  rowHigh : m.b 10 ≤ 63
  enable : m.b 11 ≤ 1
  rateLow : 60 ≤ m.f 12 2
  rateHigh : m.f 12 2 ≤ 960
  settle : 1 ≤ m.b 14
  zero : m.z 15 1 = true
  plateLow : 50 ≤ m.f 16 2
  plateHigh : m.f 16 2 ≤ 5000
  threshLow : 100 ≤ m.f 18 2
  threshHigh : m.f 18 2 ≤ 20000

/-- INP.CONFIG that keeps the key mode keeps the debounced states. -/
theorem inpConfig_of_fields {m : Cmd} {c : Chip} (h : InputFields m) (hmode : c.inp.keys.gpioMode = bit (m.b 8) 0) :
    inpConfig m c = (.ok, modInp (fun i => { i with touchCfg := { i.touchCfg with
                                               en := bit (m.b 11) 0, rate := m.f 12 2, settle := m.b 14, plate := m.f 16 2, thresh := m.f 18 2 } })
      (modKeys (fun k => { k with gpioMode := bit (m.b 8) 0, diodes := bit (m.b 8) 1, debMs := m.b 9, rowUs := m.b 10 }) c)) := by
  obtain ⟨hflags, hdeb, hdeb', hrow, hrow', hen, hrate, hrate', hsettle, hzero, hplate, hplate', hthresh, hthresh'⟩ := h
  dsimp only [inpConfig]
  rw [checked_chk_of_false, checked_nil]
  · simp only [modKeys, modInp, if_pos hmode]
  · simp only [hzero, Bool.not_true, Bool.or_false, Bool.or_eq_false_iff, decide_eq_false_iff_not]
    omega

/-! ### GPIO, PWM, rumble and the auxiliary converter (R699 to R702) -/

/-- IO.GPIO whose mask names no pin of the matrix answers the levels that then stand at the pins. -/
theorem ioGpio_of_mask {m : Cmd} {c : Chip} (hmask : m.f 8 4 < 2 ^ 24) (hdir : m.f 12 4 < 2 ^ 24) (hout : m.f 16 4 < 2 ^ 24)
    (hfree : BitVec.ofNat 24 (m.f 8 4) &&& c.inp.keys.matrixPins = 0) :
    ioGpio m c =
      (let put (old : BitVec 24) (v : Nat) := (old &&& ~~~BitVec.ofNat 24 (m.f 8 4)) ||| (BitVec.ofNat 24 v &&& BitVec.ofNat 24 (m.f 8 4))
       let d := modKeys (fun k => { k with dir := put k.dir (m.f 12 4), out := put k.out (m.f 16 4) }) c
       (.res 0 d.inp.keys.live.toNat, d)) := by
  dsimp only [ioGpio]
  rw [checked_chk_of_false, checked_chk_of_false (by rw [hfree]; rfl), checked_nil]
  simp only [Bool.or_eq_false_iff, decide_eq_false_iff_not]
  omega

/-- IO.PWM of a channel, for the rumble channel with its limits (R699, R701). -/
theorem ioPwm_of_fields {m : Cmd} (hch : m.b 8 ≤ 1) (hduty : m.f 10 2 ≤ 1000) (hfreq : 100 ≤ m.f 12 4) (hfreq' : m.f 12 4 ≤ 100000)
    (hms : m.b 8 = 1 → 100 ≤ m.f 16 2 ∧ m.f 16 2 ≤ 10000) (c : Chip) :
    ioPwm m c =
      (let d := modInp (fun i => { i with pwm := vmod i.pwm (m.b 8) fun w =>
         { w with freq := m.f 12 4, rampMs := m.b 9, set := if m.b 8 = 0 then m.f 10 2 else w.set } }) c
       (.ok, applyDuties (if m.b 8 = 1 then modInp (fun i => { i with rumble := { i.rumble with max := m.f 10 2, ms := m.f 16 2 } }) d else d))) := by
  dsimp only [ioPwm]
  rw [checked_chk_of_false, checked_nil]
  simp only [Bool.or_eq_false_iff, Bool.and_eq_false_imp, decide_eq_false_iff_not, beq_iff_eq]
  omega

/-- IO.RUMBLE from P0 or from the partition with focus (Table 14.1). -/
theorem ioRumble_of_focus {m : Cmd} {c : Chip} (hduty : m.f 8 2 ≤ 1000) (hms : m.f 10 2 ≤ 10000) (hmay : m.part = 0 ∨ c.focus = m.part) :
    ioRumble m c = (.ok, applyDuties (modInp (fun i =>
      { i with rumble := { i.rumble with req := some (m.part, m.f 8 2, c.clk.qtime + 24000 * m.f 10 2) } }) c)) := by
  dsimp only [ioRumble]
  rw [checked_chk_of_false, checked_chk_of_false, checked_nil]
  · simpa only [Bool.and_eq_false_iff, bne_eq_false_iff_eq] using hmay
  · simp only [Bool.or_eq_false_iff, decide_eq_false_iff_not]
    omega

/-- IO.ADC answers the code and its voltage in mV (R702). -/
theorem ioAdc_of_channel {m : Cmd} (hch : m.b 8 ≤ 3) (c : Chip) :
    ioAdc m c = (.res 0 (vget c.inp.adc (m.b 8) + 65536 * ((vget c.inp.adc (m.b 8) * 1800 + 2048) / 4096)), c) := by
  dsimp only [ioAdc]
  rw [checked_chk_of_false (decide_eq_false (Nat.not_lt.mpr hch)), checked_nil]

/-! ### I2C, SPI and the UART (R703 to R709) -/

/-- IO.I2C on a bus that is free, or that its recovery has freed, starts the transfer (R703, R706). -/
theorem ioI2c_of_freeLines {lines : BusLines} (hlines : lines ≠ .stuck) {m : Cmd} {c : Chip} (hbus : m.b 8 ≤ 3) (haddr : m.b 9 ≤ 127)
    (hwlen : m.b 10 ≤ 12) (hdest : m.f 12 4 < 2 ^ 24) (hmap : m.f 12 4 ≠ 0 → kRangeOk c 0 .w (m.f 12 4) (m.b 11) = true)
    (hrlen : m.f 12 4 = 0 → m.b 11 ≤ 4) (hidle : (vget c.inp.i2c (m.b 8 % 2)).op = none) :
    ioI2c lines m c = (.wait, modI2c (m.b 8 % 2) (fun x =>
      { x with
        stuck := x.stuck && lines != .recovered
        op := some { handle := m.waitHandle, addr := m.b 9, wdata := pslice m.params 8 (m.b 10), rlen := m.b 11, dest := m.f 12 4 } })
      (modI2c (m.b 8 % 2) (fun x => { x with fast := bit (m.b 8) 1, svc := false }) c)) := by
  dsimp only [ioI2c]
  rw [checked_chk_of_false (optionalDest_allowed hmap _), checked_chk_of_false, checked_chk_of_false (by rw [hidle]; rfl), checked_nil]
  · cases lines with
    | stuck => exact absurd rfl hlines
    | _ => rfl
  · simp only [Bool.or_eq_false_iff, Bool.and_eq_false_imp, decide_eq_false_iff_not, beq_iff_eq]
    omega

/-- What IO.SPI asks of its fields (R709). -/
structure SpiFields (m : Cmd) : Prop where
  select : m.b 8 ≤ 1
  mode : m.b 9 ≤ 7
  some : 1 ≤ m.f 10 2
  most : m.f 10 2 ≤ 4096
  source : m.f 12 4 < 2 ^ 24
  dest : m.f 16 4 < 2 ^ 24
  slow : 100000 ≤ m.f 20 4
  fast : m.f 20 4 ≤ 24000000

/-- IO.SPI on an idle controller sends what P0's map lets it read, where no byte is poison. -/
theorem ioSpi_of_fields {m : Cmd} {c : Chip} (h : SpiFields m) (hsrc : kRangeOk c 0 .r (m.f 12 4) (m.f 10 2) = true)
    (hdest : m.f 16 4 ≠ 0 → kRangeOk c 0 .w (m.f 16 4) (m.f 10 2) = true) (hidle : c.inp.spi.op = none)
    (hsound : anyPoison (readK 0 (m.f 12 4) (m.f 10 2) c).1 = false) :
    ioSpi m c = (.wait, modInp (fun i => { i with spi := { svc := false,
                                                           op := some { handle := m.waitHandle, cs := m.b 8, mode := m.b 9,
                                                                        div := (24000000 + m.f 20 4 - 1) / m.f 20 4,
                                                                        out := plain (readK 0 (m.f 12 4) (m.f 10 2) c).1, dest := m.f 16 4 } } })
      (readK 0 (m.f 12 4) (m.f 10 2) c).2) := by
  obtain ⟨hselect, hmode, hsome, hmost, hsource, hdest24, hslow, hfast⟩ := h
  have hallowed := optionalDest_allowed hdest true
  rw [Bool.and_true] at hallowed
  have hrange : (decide (1 < m.b 8) || decide (7 < m.b 9) || !(decide (1 ≤ m.f 10 2) && decide (m.f 10 2 ≤ 4096)) || decide (2 ^ 24 ≤ m.f 12 4) ||
      decide (2 ^ 24 ≤ m.f 16 4) || decide (m.f 20 4 < 100000) || decide (24000000 < m.f 20 4)) = false := by
    simp only [decide_eq_true hsome, decide_eq_true hmost, Bool.and_self, Bool.not_true, Bool.or_false, Bool.or_eq_false_iff,
      decide_eq_false_iff_not]
    omega
  simp only [ioSpi, hsrc, hallowed, hrange, hidle, hsound, Bool.not_true, Bool.or_self, Bool.and_false, Bool.false_eq_true, if_false,
    Option.isSome_none]

/-- IO.UART. -/
theorem ioUart_of_fields {m : Cmd} (hbaud : 300 ≤ m.f 8 4) (hbaud' : m.f 8 4 ≤ 3000000) (hformat : m.b 12 < 32) (hparity : m.b 12 % 4 ≠ 3) (c : Chip) :
    ioUart m c = (.ok, modUart (fun u => { u with baud := m.f 8 4, format := m.b 12 }) c) := by
  dsimp only [ioUart]
  rw [checked_chk_of_false, checked_nil]
  simp only [Bool.or_eq_false_iff, decide_eq_false_iff_not, beq_eq_false_iff_ne]
  omega

/-- Settles O35: a row that runs answers its body (`answers_of`), and each body, where its clause's condition holds, passes its checks and
makes its one effect. -/
theorem inputAndPortCommands : Obligations.InputAndPortCommands := by
  refine ⟨?snapshot, ?config, ?touchCal, ?gpio, ?backlight, ?rumbleLimits, ?rumble, ?adc, ?i2c, ?spi, ?uart⟩
  case snapshot =>
    exact answers_of inpSnapshot (fun _ _ => rfl) fun c m _ ⟨hdest, halign, hmap⟩ => inpSnapshot_of_dest hdest halign hmap
  case config =>
    exact answers_of inpConfig (fun _ _ => rfl)
      fun c m _ ⟨hflags, hdeb, hdeb', hrow, hrow', hen, hrate, hrate', hsettle, hzero, hplate, hplate', hthresh, hthresh', hmode⟩ =>
        inpConfig_of_fields ⟨hflags, hdeb, hdeb', hrow, hrow', hen, hrate, hrate', hsettle, hzero, hplate, hplate', hthresh, hthresh'⟩ hmode
  case touchCal => exact answers_of inpTouchCal (fun _ _ => rfl) fun _ _ _ _ => rfl
  case gpio =>
    exact answers_of ioGpio (fun _ _ => rfl) fun c m _ ⟨hmask, hdir, hout, hfree⟩ => ioGpio_of_mask hmask hdir hout hfree
  case backlight =>
    refine answers_of ioPwm (fun _ _ => rfl) fun c m _ ⟨hch, hduty, hfreq, hfreq'⟩ => ?_
    rw [ioPwm_of_fields (by omega) hduty hfreq hfreq' (by omega)]
    simp only [hch, Nat.zero_ne_one, if_true, if_false]
  case rumbleLimits =>
    refine answers_of ioPwm (fun _ _ => rfl) fun c m _ ⟨hch, hduty, hfreq, hfreq', hms, hms'⟩ => ?_
    rw [ioPwm_of_fields (by omega) hduty hfreq hfreq' (fun _ => ⟨hms, hms'⟩)]
    simp only [hch, Nat.one_ne_zero, if_true, if_false]
  case rumble => exact answers_of ioRumble (fun _ _ => rfl) fun c m _ ⟨hduty, hms, hmay⟩ => ioRumble_of_focus hduty hms hmay
  case adc => exact answers_of ioAdc (fun _ _ => rfl) fun c m _ hch => ioAdc_of_channel hch c
  case i2c =>
    exact fun lines hlines => answers_of (ioI2c lines) (fun _ _ => rfl) fun c m _ ⟨hbus, haddr, hwlen, hdest, hmap, hrlen, hidle⟩ =>
      ioI2c_of_freeLines hlines hbus haddr hwlen hdest hmap hrlen hidle
  case spi =>
    exact answers_of ioSpi (fun _ _ => rfl)
      fun c m _ ⟨hselect, hmode, hsome, hmost, hsource, hdest24, hslow, hfast, hsrc, hdest, hidle, hsound⟩ =>
        ioSpi_of_fields ⟨hselect, hmode, hsome, hmost, hsource, hdest24, hslow, hfast⟩ hsrc hdest hidle hsound
  case uart =>
    exact answers_of ioUart (fun _ _ => rfl) fun c m _ ⟨hbaud, hbaud', hformat, hparity⟩ => ioUart_of_fields hbaud hbaud' hformat hparity c

end Sys2Proof.Machine

/-! The events of touch, keys and the small ports (R684 to R693, R699 to R709): what each event makes of the chip, and obligation O36. -/

namespace Sys2Proof.Machine

/-- In phase `run` the input block samples. -/
theorem inputRuns_of_awake {c : Chip} (h : awake c) : inputRuns c = true := by
  simp only [inputRuns, show c.pwr.phase = .run from h]
  rfl

/-! ### Touch (R684 to R688) -/

section
variable {c : Chip} (hrun : awake c) (hen : c.inp.touchCfg.en = true)
include hrun hen

/-- With the pen down, an X or Y at either end of the range is a fault of the panel (R686). -/
theorem touchSample_of_railed {x1 x2 x3 y1 y2 y3 : Nat}
    (hrail : median3 x1 x2 x3 = 0 ∨ median3 x1 x2 x3 = 4095 ∨ median3 y1 y2 y3 = 0 ∨ median3 y1 y2 y3 = 4095) (z1 z2 : Nat) :
    touchSample true x1 x2 x3 y1 y2 y3 z1 z2 c = lintBlock 0x0E02 0xFF 0 (modTouch (fun t => { t with fault := true }) c) := by
  have hfault : (true && (median3 x1 x2 x3 == 0 || median3 x1 x2 x3 == 4095 || median3 y1 y2 y3 == 0 || median3 y1 y2 y3 == 4095)) = true := by
    simpa only [Bool.true_and, Bool.or_eq_true, beq_iff_eq, or_assoc] using hrail
  simp only [touchSample, inputRuns_of_awake hrun, hen, hfault, Bool.not_true, Bool.or_self, Bool.false_eq_true, if_true, if_false]

/-- With the pen up there is no contact, and the second such sample ends the contact reported. -/
theorem touchSample_of_penUp (x1 x2 x3 y1 y2 y3 z1 z2 : Nat) :
    touchSample false x1 x2 x3 y1 y2 y3 z1 z2 c = modTouch (fun t =>
      { t with x := median3 x1 x2 x3, y := median3 y1 y2 y3, z1 := z1, z2 := z2, last := false, press := 0,
               contact := if t.last then t.contact else false }) c := by
  have htapped (t : TouchSt) : (t.tapped || ((if false = t.last then false else t.contact) && !t.contact)) = t.tapped := by
    cases t.last <;> simp
  have hcontact (t : TouchSt) : (if false = t.last then false else t.contact) = if t.last then t.contact else false := by
    cases t.last <;> rfl
  simp only [touchSample, inputRuns_of_awake hrun, hen, touchContact, htapped, Bool.not_true, Bool.or_self, Bool.false_and, Bool.false_eq_true,
    if_false]
  simp only [hcontact]

/-- A sample with contact, inside the panel: the second in a row is a contact reported, and it gives pressure and position. -/
theorem touchSample_of_contact {x1 x2 x3 y1 y2 y3 z1 z2 : Nat} (hx : 0 < median3 x1 x2 x3 ∧ median3 x1 x2 x3 < 4095)
    (hy : 0 < median3 y1 y2 y3 ∧ median3 y1 y2 y3 < 4095) (hcontact : touchContact c.inp.touchCfg true (median3 x1 x2 x3) z1 z2 = true) :
    touchSample true x1 x2 x3 y1 y2 y3 z1 z2 c =
      (let g := c.inp.touchCfg
       let x := median3 x1 x2 x3
       let y := median3 y1 y2 y3
       modTouch (fun t =>
        { t with x := x, y := y, z1 := z1, z2 := z2, last := true, contact := t.last || t.contact, tapped := t.tapped || (t.last && !t.contact),
                 press := min 0xFFFF (touchRt g.plate x z1 z2),
                 posX := touchPos (vget g.cal 0) (vget g.cal 1) (vget g.cal 2) x y c.beam.hactive,
                 posY := touchPos (vget g.cal 3) (vget g.cal 4) (vget g.cal 5) x y c.beam.vactive }) c) := by
  have hsound : (median3 x1 x2 x3 == 0 || median3 x1 x2 x3 == 4095 || median3 y1 y2 y3 == 0 || median3 y1 y2 y3 == 4095) = false := by
    simp only [Bool.or_eq_false_iff, beq_eq_false_iff_ne]
    omega
  have hreported (t : TouchSt) : (if true = t.last then true else t.contact) = (t.last || t.contact) := by cases t.last <;> rfl
  have htapped (t : TouchSt) : ((t.last || t.contact) && !t.contact) = (t.last && !t.contact) := by cases t.contact <;> simp
  simp only [touchSample, inputRuns_of_awake hrun, hen, hsound, hcontact, hreported, htapped, Bool.not_true, Bool.or_self, Bool.and_false,
    Bool.false_eq_true, if_true, if_false]

end

/-! ### Keys and the home key (R689 to R693) -/

/-- A scan while ghosting stands already, or that finds none. -/
theorem keyScan_of_noNewGhost {c : Chip} (hrun : awake c) {keys : BitVec 36} {pins : BitVec 24}
    (hghost : c.inp.keys.ghost = true ∨ (c.inp.keys.scan keys pins).ghost = false) :
    keyScan keys pins c = modKeys (Keys.scan keys pins) c := by
  have hsame : ((modKeys (Keys.scan keys pins) c).inp.keys.ghost && !c.inp.keys.ghost) = false := by
    show ((c.inp.keys.scan keys pins).ghost && !c.inp.keys.ghost) = false
    rcases hghost with h | h <;> simp [h]
  simp only [keyScan, inputRuns_of_awake hrun, hsame, Bool.not_true, Bool.false_eq_true, if_false]

/-- A scan in which ghosting begins is logged (R692). -/
theorem keyScan_of_newGhost {c : Chip} (hrun : awake c) {keys : BitVec 36} {pins : BitVec 24} (hold : c.inp.keys.ghost = false)
    (hnew : (c.inp.keys.scan keys pins).ghost = true) :
    keyScan keys pins c = lintBlock 0x0E01 0xFF 0 (modKeys (Keys.scan keys pins) c) := by
  have hbegins : ((modKeys (Keys.scan keys pins) c).inp.keys.ghost && !c.inp.keys.ghost) = true := by
    show ((c.inp.keys.scan keys pins).ghost && !c.inp.keys.ghost) = true
    rw [hold, hnew]
    rfl
  simp only [keyScan, inputRuns_of_awake hrun, hbegins, Bool.not_true, Bool.false_eq_true, if_true, if_false]

/-- A change of the home key fires HOME (R693). -/
theorem homeEdge_of_change {c : Chip} (hrun : awake c) {down : Bool} (hchange : c.inp.homeDown ≠ down) :
    homeEdge down c = fire 0 54 (if down then 1 else 2) (modInp (fun s => { s with homeDown := down }) c) := by
  simp only [homeEdge, inputRuns_of_awake hrun, beq_eq_false_iff_ne.mpr hchange, Bool.not_true, Bool.or_self, Bool.false_eq_true, if_false]

/-- The home key held for 2 s (R693). -/
theorem homeHold_of_down {c : Chip} (hrun : awake c) (hdown : c.inp.homeDown = true) : homeHold c = fire 0 54 3 c := by
  simp only [homeHold, inputRuns_of_awake hrun, hdown, Bool.and_self, if_true]

/-! ### The auxiliary converter and rumble (R701, R702) -/

/-- A conversion of the auxiliary converter. -/
theorem auxConversion_of_awake {c : Chip} (hrun : awake c) (ch v : Nat) :
    auxConversion ch v c = modInp (fun i => { i with adc := vset i.adc ch v }) c := if_pos (inputRuns_of_awake hrun)

/-- The requested duration of rumble ends. -/
theorem rumbleEnd_of_req {c : Chip} {p d t : Nat} (hreq : c.inp.rumble.req = some (p, d, t)) :
    rumbleEnd c = applyDuties (modInp (fun i => { i with rumble := { i.rumble with req := none } }) (atTime t c)) := by
  simp only [rumbleEnd, hreq, endRumble]

/-- Rumble has gone on for the longest time it may (R701). -/
theorem rumbleTimeout_of_since {c : Chip} {t : Nat} (hsince : c.inp.rumble.since = some t) :
    rumbleTimeout c = lintBlock 0x0E09 0xFF 0
      (applyDuties (modInp (fun i => { i with rumble := { i.rumble with req := none } }) (atTime (t + 24000 * c.inp.rumble.ms) c))) := by
  simp only [rumbleTimeout, hsince, endRumble]

/-! ### I2C and SPI (R703 to R706, R709) -/

/-- A transfer without a destination delivers what it read in its RESULT. -/
theorem i2cEnd_of_done {b : Nat} {o : I2cOp} {c : Chip} (hop : (vget c.inp.i2c b).op = some o) (hdest : o.dest = 0) (bs : List Byte) :
    i2cEnd b (.done bs) c = i2cDone b o .ok 0 o.total (leNat (pslice bs 0 o.rlen)) c := by
  simp only [i2cEnd, hop, hdest, if_true]

/-- A target that does not answer its address ends the transfer. -/
theorem i2cEnd_of_nackAddress {b : Nat} {o : I2cOp} {c : Chip} (hop : (vget c.inp.i2c b).op = some o) (n : Byte) :
    i2cEnd b (.nackAddress n) c = i2cDone b o .partialDone 1 n.toNat 0 c := by
  simp only [i2cEnd, hop]

/-- A target that stretches SCL for too long, on a bus that recovers (R705, R706). -/
theorem i2cStretch_of_recovers {b : Nat} {o : I2cOp} {c : Chip} (hop : (vget c.inp.i2c b).op = some o) (n : Nat) :
    i2cStretch b n true c = i2cDone b o .timeout 3 n 0 (lintBlock 0x0E03 0xFF o.addr c) := by
  simp only [i2cStretch, hop, if_true]

/-- A transfer of SPI with a destination stores what came in. -/
theorem spiEnd_of_dest {o : SpiOp} {c : Chip} (hop : c.inp.spi.op = some o) (hdest : o.dest ≠ 0) (bs : List Byte) :
    spiEnd bs c = finish o.handle .ok 0 0 (modInp (fun i => { i with spi := { op := none, svc := true } })
      (writeK 0 o.dest (clean (pslice bs 0 o.out.length)) c)) := by
  simp only [spiEnd, hop, if_neg hdest]

/-! ### The UART (R707, R708, R721) -/

/-- A byte without an error is received, or overruns a full FIFO. -/
theorem uartRx_of_on {c : Chip} (hrun : awake c) (hon : c.inp.uart.on = true) (b : Byte) :
    uartRx b false false false c =
      if c.inp.uart.rx.length < 64 then modUart (fun u => { u with rx := u.rx ++ [b] }) c else uartError 2 c := by
  simp only [uartRx, inputRuns_of_awake hrun, hon, Bool.not_true, Bool.or_self, Bool.false_and, Bool.false_eq_true, if_false]

/-- The byte at the front of the FIFO leaves while CTS is asserted. -/
theorem uartTx_of_cts {c : Chip} (hrun : awake c) (hon : c.inp.uart.on = true) {b : Byte} {l : List Byte} (htx : c.inp.uart.tx = b :: l) :
    uartTx true c = modUart (fun u => { u with tx := l, sent := some b }) c := by
  simp only [uartTx, htx, inputRuns_of_awake hrun, hon, Bool.true_or, Bool.and_self, if_true]

/-- The UART's data register stands at 0x110 of the input window, for P0 alone. -/
theorem inputWrite_uartData {c : Chip} (hroom : c.inp.uart.tx.length < 64) (b : Byte) :
    inputWrite 0 0x9110 b.toNat c = modUart (fun u => { u with tx := u.tx ++ [b] }) c := by
  show modUart (fun u => if u.tx.length < 64 then { u with tx := u.tx ++ [BitVec.ofNat 8 b.toNat] } else u) c = _
  simp only [modUart, modInp, if_pos hroom, BitVec.ofNat_toNat, BitVec.setWidth_eq]

/-- P0 reads a received byte and takes it; any other partition reads 0. -/
theorem inputRead_uartData (p : Nat) (c : Chip) :
    inputRead p 0x9110 c = (if p = 0 then (c.inp.uart.rx.headD 0).toNat else 0,
      if p = 0 then modUart (fun u => { u with rx := u.rx.drop 1 }) c else c) := by
  by_cases hp : p = 0
  · rw [hp]
    rfl
  · simp only [if_neg hp]
    exact if_pos ⟨by decide, hp⟩

/-- Settles O36: each event comes to its body (`makes_of`) and each access of the UART to its register (`writes_of`, `reads_of`), and a
clause's condition chooses the branch of that body. -/
theorem inputAndPortRows : Obligations.InputAndPortRows := by
  refine ⟨?railed, ?penUp, ?contact, ?scan, ?ghost, ?press, ?release, ?hold, ?aux, ?rumbleEnd, ?rumbleTimeout, ?i2cDone, ?i2cNack, ?i2cStretch,
    ?spiEnd, ?rx, ?rxOverrun, ?tx, ?dataWrite, ?dataRead⟩
  case railed =>
    exact fun x1 x2 x3 y1 y2 y3 z1 z2 => makes_of (touchSample true x1 x2 x3 y1 y2 y3 z1 z2) (fun _ => rfl)
      fun c hrun ⟨hen, hrail⟩ => touchSample_of_railed hrun hen hrail z1 z2
  case penUp =>
    exact fun x1 x2 x3 y1 y2 y3 z1 z2 => makes_of (touchSample false x1 x2 x3 y1 y2 y3 z1 z2) (fun _ => rfl)
      fun c hrun hen => touchSample_of_penUp hrun hen ..
  case contact =>
    exact fun x1 x2 x3 y1 y2 y3 z1 z2 => makes_of (touchSample true x1 x2 x3 y1 y2 y3 z1 z2) (fun _ => rfl)
      fun c hrun ⟨hen, hx, hx', hy, hy', hcontact⟩ => touchSample_of_contact hrun hen ⟨hx, hx'⟩ ⟨hy, hy'⟩ hcontact
  case scan =>
    exact fun keys pins => makes_of (keyScan keys pins) (fun _ => rfl) fun c hrun hghost => keyScan_of_noNewGhost hrun hghost
  case ghost =>
    exact fun keys pins => makes_of (keyScan keys pins) (fun _ => rfl) fun c hrun ⟨hold, hnew⟩ => keyScan_of_newGhost hrun hold hnew
  case press =>
    exact makes_of (homeEdge true) (fun _ => rfl) fun c hrun hup => homeEdge_of_change hrun (by rw [hup]; decide)
  case release =>
    exact makes_of (homeEdge false) (fun _ => rfl) fun c hrun hdown => homeEdge_of_change hrun (by rw [hdown]; decide)
  case hold => exact makes_of homeHold (fun _ => rfl) fun c hrun hdown => homeHold_of_down hrun hdown
  case aux => exact fun ch v => makes_of (auxConversion ch v) (fun _ => rfl) fun c hrun _ => auxConversion_of_awake hrun ch v
  case rumbleEnd => exact fun p d t => makes_of rumbleEnd (fun _ => rfl) fun c _ hreq => rumbleEnd_of_req hreq
  case rumbleTimeout => exact fun t => makes_of rumbleTimeout (fun _ => rfl) fun c _ hsince => rumbleTimeout_of_since hsince
  case i2cDone =>
    exact fun b o bs => makes_of (i2cEnd b (.done bs)) (fun _ => rfl) fun c _ ⟨hop, hdest⟩ => i2cEnd_of_done hop hdest bs
  case i2cNack =>
    exact fun b o n => makes_of (i2cEnd b (.nackAddress n)) (fun _ => rfl) fun c _ hop => i2cEnd_of_nackAddress hop n
  case i2cStretch =>
    exact fun b o n => makes_of (i2cStretch b n.toNat true) (fun _ => rfl) fun c _ hop => i2cStretch_of_recovers hop n.toNat
  case spiEnd => exact fun o bs => makes_of (spiEnd bs) (fun _ => rfl) fun c _ ⟨hop, hdest⟩ => spiEnd_of_dest hop hdest bs
  case rx =>
    exact fun b => makes_of (uartRx b false false false) (fun _ => rfl) fun c hrun ⟨hon, hroom⟩ => (uartRx_of_on hrun hon b).trans (if_pos hroom)
  case rxOverrun =>
    exact fun b => makes_of (uartRx b false false false) (fun _ => rfl)
      fun c hrun ⟨hon, hfull⟩ => (uartRx_of_on hrun hon b).trans (if_neg (Nat.not_lt.mpr hfull))
  case tx => exact fun b l => makes_of (uartTx true) (fun _ => rfl) fun c hrun ⟨hon, htx⟩ => uartTx_of_cts hrun hon htx
  case dataWrite =>
    refine fun k b => writes_of (v := b.toNat) (by decide) (b.isLt.trans (by decide)) (fun _ => rfl) fun c hopen ⟨hp, hroom⟩ => ?_
    rw [winWrite_input hopen rfl, hp, inputWrite_uartData hroom]
  case dataRead =>
    refine fun k => reads_of (by decide) (fun _ => rfl) fun c hopen => ?_
    rw [winRead_input hopen rfl, inputRead_uartData]

end Sys2Proof.Machine

/-! The commands of the link (R725, R735, R755, R763 to R766, R776, Table 15.11): what each body makes where its checks pass, and obligation
O38. -/

namespace Sys2Proof.Machine

/-! ### Status, configuration and channels (R725, R735, R755) -/

/-- LNK.STATUS of a port. -/
theorem lnkStatus_port {m : Cmd} (hport : m.b 8 ≤ 3) (c : Chip) :
    lnkStatus m c =
      (.res (min 65535 ((linkPort c (m.b 8)).hop.retrTimes.filter (c.clk.qtime < · + 24000000)).length)
        ((linkPort c (m.b 8)).st.code + 16 * (linkPort c (m.b 8)).rate + 65536 * (linkPort c (m.b 8)).nbr.getD 0), c) := by
  have hnode : m.b 8 ≠ 0xFF := by omega
  simp only [lnkStatus, if_neg hnode, if_neg (Nat.not_lt.mpr hport)]

/-- LNK.CONFIG with settings in range takes them. -/
theorem lnkConfig_of_inRange {m : Cmd} (hmode : m.b 8 < 8) (hrate : 1 ≤ m.b 9 ∧ m.b 9 ≤ 3) (hports : m.b 11 < 16)
    (hlag : 1 ≤ m.b 14 ∧ m.b 14 ≤ 8) (c : Chip) : lnkConfig m c = (.ok, applyLinkCfg m.linkCfg c) := by
  dsimp only [lnkConfig]
  rw [checked_chk_of_false, checked_nil]
  simp only [Bool.or_eq_false_iff, decide_eq_false_iff_not, beq_eq_false_iff_ne]
  omega

/-- LNK.CHANNEL of a channel that is not pegged, and not enabled twice: the channel is closed, set, and opened where EN is 1. -/
theorem lnkChannel_of_fields {m : Cmd} {c : Chip} {ch : Nat} (hunit : windowUnit c m.pno .link (m.b 8) = some ch) (hctrl : m.b 9 < 8)
    (hrchan : m.b 12 < 32) (hzero : m.z 14 2 = true) (hcfg : m.chanCfg.ok = true) (hrx : m.f 16 4 < 2 ^ 24) (htx : m.f 20 4 < 2 ^ 24)
    (hpeg : isPegged c 0x0A ch = false) (hstate : ¬(bit (m.b 9) 0 = true ∧ (linkChan c ch).cfg.en = true)) :
    lnkChannel m c =
      (let d := modChan ch (fun x => { x with cfg := m.chanCfg }) (closeChan ch c)
       (.ok, if bit (m.b 9) 0 then openChan ch d else d)) := by
  have hrx' : m.chanCfg.rxBase < 2 ^ 24 := hrx
  have htx' : m.chanCfg.txBase < 2 ^ 24 := htx
  simp only [lnkChannel, hunit]
  rw [checked_chk_of_false, checked_chk_of_false hpeg, checked_chk_of_false (by rwa [← Bool.not_eq_true, Bool.and_eq_true]),
    checked_nil]
  simp only [hzero, hcfg, Bool.not_true, Bool.or_false, Bool.or_eq_false_iff, decide_eq_false_iff_not]
  omega

/-! ### Remote mailboxes and exports (R763, R766) -/

/-- A node to which a route leads is not UNREACHABLE. -/
theorem routeLost_eq_false {c : Chip} {node : Nat} (h : routeOf c node false none ≠ .lost) : (routeOf c node false none == .lost) = false :=
  beq_eq_false_iff_ne.mpr h

/-- LNK.REMOTE to a node to which a route leads, with data that the map lets be read, is noted and its record goes out (R766). -/
theorem lnkRemote_of_fields {m : Cmd} {c : Chip} (hdest : m.f 12 4 < 2 ^ 24) (htime : m.f 10 2 ≠ 0) (hdata : m.f 48 4 < 2 ^ 24)
    (hlen : m.f 52 4 ≤ 458752) (hmap : 0 < m.f 52 4 → kRangeOk c m.pno .r (m.f 48 4) (m.f 52 4) = true)
    (hroute : routeOf c (m.f 8 2) false none ≠ .lost) :
    lnkRemote m c =
      (let d := modLink (fun l => { l with remotes := l.remotes ++ [{ handle := m.waitHandle, part := m.pno, node := m.f 8 2, dest := m.f 12 4,
                                                                      dsrc := m.f 48 4, dlen := m.f 52 4, ends := c.clk.qtime + m.f 10 2 * 240000 }] }) c
       (.wait, sendPkt (mgmtPkt d (m.f 8 2) 0 (.record (clean (pslice m.params 8 32)))) none d)) := by
  have hread : (decide (0 < m.f 52 4) && !kRangeOk c m.pno .r (m.f 48 4) (m.f 52 4)) = false := by
    simpa only [Bool.and_eq_false_imp, decide_eq_true_eq, Bool.not_eq_false'] using hmap
  dsimp only [lnkRemote]
  rw [checked_chk_of_false, checked_chk_of_false hread, checked_chk_of_false (routeLost_eq_false hroute), checked_nil]
  simp only [Bool.or_eq_false_iff, decide_eq_false_iff_not, beq_eq_false_iff_ne]
  omega

/-- What LNK.EXPORT asks of the fields of an export (R763). -/
structure ExportFields (m : Cmd) (c : Chip) : Prop where
  notify : bits (m.b 9) 6 5 = 0
  channel : bit (m.b 9) 7 = true → (windowUnit c m.pno .link (m.b 9 % 32)).isSome = true
  base : m.f 12 4 < 2 ^ 24
  some : m.f 16 4 ≠ 0
  most : m.f 16 4 ≤ 2 ^ 24
  allow : bit (m.f 10 2) 15 = true → m.f 10 2 ≤ 32768 + 63

/-- LNK.EXPORT of an export that no other partition holds: bit 7 removes it, and otherwise it is set (R763). -/
theorem lnkExport_of_fields {m : Cmd} {c : Chip} (hslot : bits (m.b 8) 6 3 = 0) (hset : bit (m.b 8) 7 = false → ExportFields m c)
    (hmine : ∀ e, exportOf c (m.b 8 % 8) = some e → e.part = m.pno) :
    lnkExport m c = (.ok, modLink (fun l => { l with exports := vset l.exports (m.b 8 % 8) (if bit (m.b 8) 7 then none else some
      { part := m.pno, allow := m.f 10 2, notify := if bit (m.b 9) 7 then windowUnit c m.pno .link (m.b 9 % 32) else none,
        base := m.f 12 4, len := m.f 16 4 }) }) c) := by
  dsimp only [lnkExport]
  rw [checked_chk_of_false ?fields, checked_chk_of_false ?held, checked_nil]
  case held =>
    split
    case h_1 e hexp => exact bne_eq_false_iff_eq.mpr (hmine e hexp)
    case h_2 => rfl
  case fields =>
    cases hremove : bit (m.b 8) 7 with
    | true => simp only [hslot, Bool.not_true, Bool.false_and, Bool.or_false, bne_self_eq_false]
    | false =>
      obtain ⟨hnotify, hchan, hbase, hsome, hmost, hallow⟩ := hset hremove
      have hchan' : (bit (m.b 9) 7 && (windowUnit c m.pno .link (m.b 9 % 32)).isNone) = false := by
        simpa only [Bool.and_eq_false_imp, Option.isNone_eq_false_iff] using hchan
      have hallow' : (bit (m.f 10 2) 15 && decide (32768 + 63 < m.f 10 2)) = false := by
        simpa only [Bool.and_eq_false_imp, decide_eq_false_iff_not, Nat.not_lt] using hallow
      simp only [hslot, hnotify, hchan', hallow', Bool.not_false, Bool.true_and, Bool.or_false, Bool.false_or, bne_self_eq_false,
        Bool.or_eq_false_iff, decide_eq_false_iff_not, beq_eq_false_iff_ne]
      omega

/-! ### Block transfers and the beat (R753, R754, R763, R765) -/

/-- What LNK.BLOCK asks of its fields (R763). -/
structure BlockFields (m : Cmd) (c : Chip) : Prop where
  slot : m.b 10 < 8
  zero : m.z 11 1 = true
  source : m.f 12 4 < 2 ^ 24
  some : m.f 20 4 ≠ 0
  most : m.f 20 4 ≤ 65536
  map : kRangeOk c m.pno .r (m.f 12 4) (m.f 20 4) = true

/-- LNK.BLOCK to a node to which a route leads is noted, and its packets go out (R765). -/
theorem lnkBlock_node {m : Cmd} {c : Chip} (h : BlockFields m c) (hnode : bit (m.f 8 2) 15 = false)
    (hroute : routeOf c (m.f 8 2) false none ≠ .lost) :
    lnkBlock m c =
      (let d := readK m.pno (m.f 12 4) (m.f 20 4) c
       (.wait, (blockPkts d.2.link.node.id (m.f 8 2) (m.b 10) (m.f 16 4) m.waitHandle d.1).foldl (fun c k => sendPkt k none c)
         (modLink (fun l =>
           { l with blocks := l.blocks ++ [{ handle := m.waitHandle, node := m.f 8 2, x := m.b 10, since := d.2.clk.qtime }] }) d.2))) := by
  obtain ⟨hslot, hzero, hsource, hsome, hmost, hmap⟩ := h
  dsimp only [lnkBlock]
  rw [checked_chk_of_false, checked_chk_of_false (by rw [hmap]; rfl), checked_chk_of_false (by rw [routeLost_eq_false hroute, Bool.and_false]),
    checked_nil]
  · simp only [hnode, Bool.false_eq_true, if_false]
  · simp only [hzero, hnode, Bool.not_true, Bool.false_and, Bool.or_false, Bool.or_eq_false_iff, decide_eq_false_iff_not,
      beq_eq_false_iff_ne]
    omega

/-- LNK.BLOCK to a group goes out on every port of the tree, where there is one (R743, R765). -/
theorem lnkBlock_group {m : Cmd} {c : Chip} (h : BlockFields m c) (hgroup : bit (m.f 8 2) 15 = true) (hmember : m.f 8 2 ≤ 32768 + 63)
    (htree : treePorts (readK m.pno (m.f 12 4) (m.f 20 4) c).2 ≠ []) :
    lnkBlock m c =
      (let d := readK m.pno (m.f 12 4) (m.f 20 4) c
       (.wait, (blockPkts d.2.link.node.id (m.f 8 2) (m.b 10) (m.f 16 4) m.waitHandle d.1).foldl (fun c k => (spreadPkt k none c).2) d.2)) := by
  obtain ⟨hslot, hzero, hsource, hsome, hmost, hmap⟩ := h
  dsimp only [lnkBlock]
  rw [checked_chk_of_false, checked_chk_of_false (by rw [hmap]; rfl), checked_chk_of_false (by rw [hgroup]; rfl), checked_nil]
  · simp only [hgroup, List.isEmpty_eq_false_iff.mpr htree, Bool.false_eq_true, if_true, if_false]
  · simp only [hzero, Bool.not_true, Bool.or_false, Bool.or_eq_false_iff, Bool.and_eq_false_imp, decide_eq_false_iff_not,
      beq_eq_false_iff_ne]
    omega

/-- LNK.BEAT_TX at the root (R753). -/
theorem lnkBeatTx_of_root {m : Cmd} {c : Chip} (hlen : m.b 8 ≤ 32) (hzero : m.z 9 7 = true) (hroot : c.link.node.root = true) :
    lnkBeatTx m c = (.ok, modAlign (fun a => { a with tx := pslice m.params 8 (m.b 8) }) c) := by
  dsimp only [lnkBeatTx]
  rw [checked_chk_of_false (by rw [decide_eq_false (Nat.not_lt.mpr hlen), hzero]; rfl), checked_chk_of_false (by rw [hroot]; rfl), checked_nil]

/-- LNK.BEAT_RX: destination 0 disables, any other is aligned and writable (R754). -/
theorem lnkBeatRx_of_dest {m : Cmd} {c : Chip} (hdest : m.f 8 4 < 2 ^ 24) (halign : m.f 8 4 % 64 = 0)
    (hmap : m.f 8 4 ≠ 0 → kRangeOk c m.pno .w (m.f 8 4) 64 = true) :
    lnkBeatRx m c =
      (.ok, modAlign (fun a => { a with dest := vset a.dest m.pno (if m.f 8 4 = 0 then none else some (m.f 8 4)) }) c) := by
  dsimp only [lnkBeatRx]
  rw [checked_chk_of_false (optionalDest_allowed hmap _), checked_chk_of_false, checked_nil]
  simp only [Bool.or_eq_false_iff, decide_eq_false_iff_not, bne_eq_false_iff_eq]
  omega

/-- Settles O38: a row that runs answers its body (`answers_of`, `answersLinked_of`), and each body, where its clause's condition holds, passes
its checks and makes its one effect. -/
theorem linkCommands : Obligations.LinkCommands := by
  refine ⟨?node, ?port, ?config, ?channel, ?group, ?remote, ?unexport, ?exports, ?block, ?blockGroup, ?beatTx, ?beatRx⟩
  case node => exact answers_of lnkStatus (fun _ _ => rfl) fun c m _ hnode => if_pos hnode
  case port => exact answers_of lnkStatus (fun _ _ => rfl) fun c m _ hport => lnkStatus_port hport c
  case config =>
    exact answersLinked_of lnkConfig (fun _ _ => rfl) fun c m _ ⟨hmode, hrate, hrate', hports, hlag, hlag'⟩ =>
      lnkConfig_of_inRange hmode ⟨hrate, hrate'⟩ hports ⟨hlag, hlag'⟩ c
  case channel =>
    exact fun ch => answersLinked_of lnkChannel (fun _ _ => rfl)
      fun c m _ ⟨hunit, hctrl, hrchan, hzero, hcfg, hrx, htx, hpeg, hstate⟩ =>
        lnkChannel_of_fields hunit hctrl hrchan hzero hcfg hrx htx hpeg hstate
  case group => exact answersLinked_of lnkGroup (fun _ _ => rfl) fun _ _ _ _ => rfl
  case remote =>
    exact answersLinked_of lnkRemote (fun _ _ => rfl) fun c m _ ⟨hdest, htime, hdata, hlen, hmap, hroute⟩ =>
      lnkRemote_of_fields hdest htime hdata hlen hmap hroute
  case unexport =>
    refine answersLinked_of lnkExport (fun _ _ => rfl) fun c m _ ⟨hslot, hremove, hmine⟩ => ?_
    rw [lnkExport_of_fields hslot (fun hset => absurd hset (by rw [hremove]; decide)) hmine, hremove, if_pos rfl]
  case exports =>
    refine answersLinked_of lnkExport (fun _ _ => rfl) fun c m _ ⟨hslot, hset, hnotify, hchan, hbase, hsome, hmost, hallow, hmine⟩ => ?_
    rw [lnkExport_of_fields hslot (fun _ => ⟨hnotify, hchan, hbase, hsome, hmost, hallow⟩) hmine, hset, if_neg Bool.false_ne_true]
  case block =>
    exact answersLinked_of lnkBlock (fun _ _ => rfl) fun c m _ ⟨hnode, hslot, hzero, hsource, hsome, hmost, hmap, hroute⟩ =>
      lnkBlock_node ⟨hslot, hzero, hsource, hsome, hmost, hmap⟩ hnode hroute
  case blockGroup =>
    exact answersLinked_of lnkBlock (fun _ _ => rfl) fun c m _ ⟨hgroup, hmember, hslot, hzero, hsource, hsome, hmost, hmap, htree⟩ =>
      lnkBlock_group ⟨hslot, hzero, hsource, hsome, hmost, hmap⟩ hgroup hmember htree
  case beatTx => exact answersLinked_of lnkBeatTx (fun _ _ => rfl) fun c m _ ⟨hlen, hzero, hroot⟩ => lnkBeatTx_of_root hlen hzero hroot
  case beatRx => exact answersLinked_of lnkBeatRx (fun _ _ => rfl) fun c m _ ⟨hdest, halign, hmap⟩ => lnkBeatRx_of_dest hdest halign hmap

end Sys2Proof.Machine

/-! A port of the link (R724 to R728, R731, R733, R768, R770, R772): what each of its events makes of the chip, and obligation O39. -/

namespace Sys2Proof.Machine

section
variable {c : Chip} {q : Nat}

/-! ### Training (R725 to R728) -/

/-- A port that runs and is DOWN, with no time to wait for, begins its training. -/
theorem presence_of_down (hruns : portRuns c q = true) (hdown : (linkPort c q).st = .down) (hfree : (linkPort c q).tr.until_ = none) :
    presence q c = sendTrain q (modLPort q (fun p => { p with st := .train, rate := 1, tr := { fails := p.tr.fails } }) c) := by
  simp only [presence, hruns, hdown, hfree, Option.isNone_none, beq_self_eq_true, Bool.and_self, if_true]

/-- A rate from a peer of the same mode is agreed on as the lower of the two. -/
theorem trainLcw_of_rate (htrain : (linkPort c q).st = .train) {a b : Nat} (hmode : b = c.link.node.cfg.mode) (hrate : 1 ≤ a ∧ a ≤ 3) :
    trainLcw q a b c = modLPort q (fun p =>
      { p with rate := min c.link.node.cfg.rateMax a, tr := { p.tr with agreed := true, ready := false, peerReady := false, peerMode := b } }) c := by
  have hready : a ≠ 0xFF := by omega
  simp only [trainLcw, htrain, ← hmode, ne_eq, not_true_eq_false, reduceCtorEq, if_false, if_neg hready, if_pos hrate]

/-- The peer is ready. -/
theorem trainLcw_of_ready (htrain : (linkPort c q).st = .train) {b : Nat} (hmode : b = c.link.node.cfg.mode) :
    trainLcw q 0xFF b c = enterHello q (modTrain q (fun t => { t with peerReady := true }) c) := by
  simp only [trainLcw, htrain, ← hmode, ne_eq, not_true_eq_false, reduceCtorEq, if_false, if_true]

/-- A peer of another mode is a mismatch (R725). -/
theorem trainLcw_of_otherMode (htrain : (linkPort c q).st = .train) {b : Nat} (hmode : b ≠ c.link.node.cfg.mode) (a : Nat) :
    trainLcw q a b c = modTrain q (fun t => { t with peerMode := b }) (portDownAs .mismatch q 0 none (lint 0x0F03 (portUnit q) 0xFF 1 c)) := by
  simp only [trainLcw, htrain, ne_eq, not_true_eq_false, reduceCtorEq, if_false, if_pos hmode]

/-- The symbols without an error that make this side ready (R726). -/
theorem trainClean_of_agreed (htrain : (linkPort c q).st = .train) (hagreed : (linkPort c q).tr.agreed = true)
    (hnew : (linkPort c q).tr.ready = false) :
    trainClean q c = enterHello q (putLine q (.lcw 0x04 0xFF c.link.node.cfg.mode) (modTrain q (fun t => { t with ready := true }) c)) := by
  simp only [trainClean, htrain, hagreed, hnew, beq_self_eq_true, Bool.not_false, Bool.and_self, if_true]

/-- The time that a failed training keeps a port down ends. -/
theorem holdoffEnd_of_until {t : Nat} (hdown : (linkPort c q).st = .down) (huntil : (linkPort c q).tr.until_ = some t) :
    holdoffEnd q c = modTrain q (fun t => { t with until_ := none }) (atTime t c) := by
  simp only [holdoffEnd, hdown, huntil]

/-- A symbol error in training is logged, and at the lowest rate it fails the training. -/
theorem symbolError_of_train (htrain : (linkPort c q).st = .train) :
    symbolError q c =
      if (linkPort c q).rate ≤ 1 then failTraining q (lintKind q 1 c)
      else modLPort q (fun p => { p with rate := p.rate - 1, tr := { p.tr with ready := false, peerReady := false } }) (lintKind q 1 c) := by
  simp only [symbolError, htrain]

/-- Fewer than 256 symbol errors within 1 ms of a joined port are counted and logged (R724). -/
theorem symbolError_of_joined (hjoined : (linkPort c q).st = .joined)
    (hfew : ((linkPort c q).hop.symErrs.filter (c.clk.qtime < · + 24000)).length < 255) :
    symbolError q c = lintKind q 1 (modHop q (fun h =>
      { h with symErrs := (linkPort c q).hop.symErrs.filter (c.clk.qtime < · + 24000) ++ [c.clk.qtime] }) c) := by
  have hroom : ¬ 256 ≤ ((linkPort c q).hop.symErrs.filter (c.clk.qtime < · + 24000) ++ [c.clk.qtime]).length := by
    simp only [List.length_append, List.length_singleton]
    omega
  simp only [symbolError, hjoined, if_neg hroom]

/-! ### HELLO and authentication (R725, R768) -/

/-- A HELLO that neither side follows with authentication joins the port. -/
theorem helloReceive_of_open (hhello : (linkPort (takeInbox 6 c) q).st = .hello) (hauth : (takeInbox 6 c).link.node.cfg.authReq = false)
    (serial id : Nat) :
    helloReceive q serial id false c = joinPort q false (modLPort q (fun p =>
      { p with nbr := some id, serial := some serial, tr := { p.tr with peerAuth := false } }) (takeInbox 6 c)) := by
  have hopen : ∀ f : LPort → LPort, (modLPort q f (takeInbox 6 c)).link.node.cfg.authReq = false := fun _ => hauth
  simp only [helloReceive, hhello, hopen, ne_eq, not_true_eq_false, if_false, Bool.not_false, Bool.and_self, if_true]

/-- The responder answers a challenge with its nonce and its MAC. -/
theorem authChal_of_responder {nI mac : List Byte} {serI : Nat} (hauth : (linkPort (takeInbox 6 c) q).st = .auth)
    (hrole : (linkPort (takeInbox 6 c) q).tr.init = false)
    (hmac : hopMac (entropy16 (takeInbox 6 c)).2 serI (entropy16 (takeInbox 6 c)).2.fuses.serial nI (entropy16 (takeInbox 6 c)).1 0x52 = some mac) :
    authChal q nI serI c =
      (let d := entropy16 (takeInbox 6 c)
       sendNbr q 1 6 (.resp d.1 d.2.fuses.serial mac) (modLPort q (fun p =>
         { p with serial := some serI, tr := { p.tr with nI := nI, nR := d.1, since := d.2.clk.qtime } }) d.2)) := by
  simp only [authChal, hauth, hrole, hmac, ne_eq, not_true_eq_false, Bool.false_eq_true, or_self, if_false]

/-- The initiator takes the right MAC of the responder, sends its own and is joined. -/
theorem authResp_of_mac {nR mac fin : List Byte} {serR : Nat} (hauth : (linkPort (takeInbox 6 c) q).st = .auth)
    (hrole : (linkPort (takeInbox 6 c) q).tr.init = true)
    (hmac : hopMac (takeInbox 6 c) (takeInbox 6 c).fuses.serial serR (linkPort (takeInbox 6 c) q).tr.nI nR 0x52 = some mac)
    (hfin : hopMac (takeInbox 6 c) (takeInbox 6 c).fuses.serial serR (linkPort (takeInbox 6 c) q).tr.nI nR 0x49 = some fin) :
    authResp q nR serR mac c = joinPort q true (sendNbr q 1 6 (.fin fin) (takeInbox 6 c)) := by
  simp only [authResp, hauth, hrole, hmac, hfin, ne_eq, not_true_eq_false, Bool.not_true, Bool.false_eq_true, or_self, if_false, if_true]

/-- The responder takes the right MAC of the initiator and is joined. -/
theorem authFin_of_mac {mac : List Byte} (hauth : (linkPort (takeInbox 6 c) q).st = .auth) (hrole : (linkPort (takeInbox 6 c) q).tr.init = false)
    (hnonce : (linkPort (takeInbox 6 c) q).tr.nR ≠ [])
    (hmac : hopMac (takeInbox 6 c) ((linkPort (takeInbox 6 c) q).serial.getD 0) (takeInbox 6 c).fuses.serial (linkPort (takeInbox 6 c) q).tr.nI
      (linkPort (takeInbox 6 c) q).tr.nR 0x49 = some mac) :
    authFin q mac c = joinPort q true (takeInbox 6 c) := by
  simp only [authFin, hauth, hrole, hnonce, hmac, ne_eq, not_true_eq_false, Bool.false_eq_true, or_self, if_false, if_true]

/-! ### Control words and timers of a hop (R731, R733, R772) -/

/-- An acknowledgement releases the packets up to its SEQ (R731). -/
theorem takeAck_of_found {seq i : Nat} (hfound : (linkPort c q).hop.replay.findIdx? (·.seq == seq) = some i) :
    takeAck q seq c = pump q (((linkPort c q).hop.replay.take (i + 1)).foldl (fun c k => acked k c)
      (modHop q (fun h => { h with replay := h.replay.drop (i + 1), retr := 0 }) c)) := by
  simp only [takeAck, hfound]

/-- A NAK sends again the packets from the SEQ it names (R731). -/
theorem nakLcw_of_found {seq i : Nat} (hfound : (linkPort c q).hop.replay.findIdx? (·.seq == seq) = some i) :
    nakLcw q seq c = retransmit q i c := by
  simp only [nakLcw, hfound]

/-- Credits of a joined port: more than the buffers of their channel take the port down (R733). -/
theorem creditLcw_of_joined (hjoined : (linkPort c q).st = .joined) (vc n : Nat) (full : Bool) :
    creditLcw q vc n full c =
      if vcBuffers vc < (if full then n else vget (linkPort c q).hop.credits vc + n) then portDrop q (lintKind q 5 c)
      else pump q (modHop q (fun h =>
        { h with credits := vset h.credits vc (if full then n else vget (linkPort c q).hop.credits vc + n) }) c) := by
  simp only [creditLcw, hjoined, beq_self_eq_true, Bool.or_true, Bool.not_true, Bool.false_eq_true, if_false]

/-- The free buffers of a joined port go out as absolute state (R772). -/
theorem creditRepeat_of_joined (hjoined : (linkPort c q).st = .joined) :
    creditRepeat q c =
      (List.range 4).foldl (fun d vc => putLine q (.lcw 0x03 vc (vcBuffers vc - vget (linkPort c q).hop.used vc)) d) c := by
  simp only [creditRepeat, hjoined, beq_self_eq_true, Bool.or_true, if_true]

end

/-- Settles O39: each event comes to its body (`makesLinked_of`), and a clause's condition chooses the branch of that body. -/
theorem linkPortRows : Obligations.LinkPortRows := by
  intro q
  refine ⟨?presence, ?rate, ?peerReady, ?otherMode, ?clean, ?holdoff, ?lowestRate, ?lowerRate, ?symbolError, ?presenceLoss, ?depart, ?hello, ?chal,
    ?resp, ?fin, ?authTimeout, ?quarantine, ?ack, ?nak, ?retransmit, ?credit, ?creditExcess, ?ackDelay, ?creditRepeat⟩
  case presence =>
    exact makesLinked_of (presence q) (fun _ => rfl) fun c _ ⟨hruns, hdown, hfree⟩ => presence_of_down hruns hdown hfree
  case rate =>
    exact fun a b => makesLinked_of (trainLcw q a.toNat b.toNat) (fun _ => rfl)
      fun c _ ⟨htrain, hmode, hrate⟩ => trainLcw_of_rate htrain hmode hrate
  case peerReady =>
    exact fun b => makesLinked_of (trainLcw q 0xFF b.toNat) (fun _ => rfl) fun c _ ⟨htrain, hmode⟩ => trainLcw_of_ready htrain hmode
  case otherMode =>
    exact fun a b => makesLinked_of (trainLcw q a.toNat b.toNat) (fun _ => rfl)
      fun c _ ⟨htrain, hmode⟩ => trainLcw_of_otherMode htrain hmode a.toNat
  case clean =>
    exact makesLinked_of (trainClean q) (fun _ => rfl) fun c _ ⟨htrain, hagreed, hnew⟩ => trainClean_of_agreed htrain hagreed hnew
  case holdoff =>
    exact fun t => makesLinked_of (holdoffEnd q) (fun _ => rfl) fun c _ ⟨hdown, huntil⟩ => holdoffEnd_of_until hdown huntil
  case lowestRate =>
    exact makesLinked_of (symbolError q) (fun _ => rfl) fun c _ ⟨htrain, hrate⟩ => (symbolError_of_train htrain).trans (if_pos hrate)
  case lowerRate =>
    exact makesLinked_of (symbolError q) (fun _ => rfl)
      fun c _ ⟨htrain, hrate⟩ => (symbolError_of_train htrain).trans (if_neg (Nat.not_le.mpr hrate))
  case symbolError =>
    exact makesLinked_of (symbolError q) (fun _ => rfl) fun c _ ⟨hjoined, hfew⟩ => symbolError_of_joined hjoined hfew
  case presenceLoss => exact makesLinked_of (presenceLoss q) (fun _ => rfl) fun c _ hup => if_neg hup
  case depart => exact fun cause => makesLinked_of (departLcw q cause.toNat) (fun _ => rfl) fun c _ hup => if_neg hup
  case hello =>
    exact fun serial id => makesLinked_of (helloReceive q serial.toNat id.toNat false) (fun _ => rfl)
      fun c _ ⟨hhello, hauth⟩ => helloReceive_of_open hhello hauth serial.toNat id.toNat
  case chal =>
    exact fun n serial mac => makesLinked_of (authChal q (bytes16 n) serial.toNat) (fun _ => rfl)
      fun c _ ⟨hauth, hrole, hmac⟩ => authChal_of_responder hauth hrole hmac
  case resp =>
    exact fun n serial mac f => makesLinked_of (authResp q (bytes16 n) serial.toNat (bytes16 mac)) (fun _ => rfl)
      fun c _ ⟨hauth, hrole, hmac, hfin⟩ => authResp_of_mac hauth hrole hmac hfin
  case fin =>
    exact fun mac => makesLinked_of (authFin q (bytes16 mac)) (fun _ => rfl)
      fun c _ ⟨hauth, hrole, hnonce, hmac⟩ => authFin_of_mac hauth hrole hnonce hmac
  case authTimeout => exact makesLinked_of (authTimeout q) (fun _ => rfl) fun c _ hauth => if_pos hauth
  case quarantine => exact makesLinked_of (quarantineExpiry q) (fun _ => rfl) fun c _ hquarantined => if_pos hquarantined
  case ack => exact fun seq i => makesLinked_of (takeAck q seq.toNat) (fun _ => rfl) fun c _ hfound => takeAck_of_found hfound
  case nak => exact fun seq i => makesLinked_of (nakLcw q seq.toNat) (fun _ => rfl) fun c _ hfound => nakLcw_of_found hfound
  case retransmit => exact makesLinked_of (retransmit q 0) (fun _ => rfl) fun _ _ _ => rfl
  case credit =>
    exact fun vc n full => makesLinked_of (creditLcw q vc n.toNat full) (fun _ => rfl)
      fun c _ ⟨hjoined, hfits⟩ => (creditLcw_of_joined hjoined ..).trans (if_neg (Nat.not_lt.mpr hfits))
  case creditExcess =>
    exact fun vc n full => makesLinked_of (creditLcw q vc n.toNat full) (fun _ => rfl)
      fun c _ ⟨hjoined, hexcess⟩ => (creditLcw_of_joined hjoined ..).trans (if_pos hexcess)
  case ackDelay => exact makesLinked_of (ackDelay q) (fun _ => rfl) fun c _ hacks => if_neg (Nat.pos_iff_ne_zero.mp hacks)
  case creditRepeat => exact makesLinked_of (creditRepeat q) (fun _ => rfl) fun c _ hjoined => creditRepeat_of_joined hjoined

end Sys2Proof.Machine

/-! The node of the link among its neighbours (R735 to R739, R744 to R746, R751): what each event makes of the chip, and obligation O41. -/

namespace Sys2Proof.Machine

/-! ### Election (R735, R736) -/

/-- An advertisement of at most 511 hops is held, and election runs. -/
theorem topoAdvert_of_near {q hops : Nat} {c : Chip} (hjoined : isJoined (takeInbox 5 c) q = true) (hnear : hops < 511) (pri serial : Nat) :
    topoAdvert q pri serial hops c = elect (modLPort q (fun p =>
      { p with adv := some { pri := pri, serial := serial, hops := hops + 1, time := (takeInbox 5 c).clk.qtime } }) (takeInbox 5 c)) := by
  have hfar : ¬ 511 < hops + 1 := by omega
  simp only [topoAdvert, hjoined, Bool.not_true, Bool.false_eq_true, if_neg hfar, if_false]

/-- An advertisement beyond 511 hops is logged alone. -/
theorem topoAdvert_of_far {q hops : Nat} {c : Chip} (hjoined : isJoined (takeInbox 5 c) q = true) (hfar : 511 ≤ hops) (pri serial : Nat) :
    topoAdvert q pri serial hops c = lint 0x0F0E nodeUnit 0xFF 0 (takeInbox 5 c) := by
  simp only [topoAdvert, hjoined, Bool.not_true, Bool.false_eq_true, if_pos (Nat.lt_succ_of_le hfar), if_false]

/-- An advertisement that has not been refreshed is dropped, and election runs. -/
theorem advertExpiry_of_held {q : Nat} {a : Advert} {c : Chip} (hheld : (linkPort c q).adv = some a) :
    advertExpiry q c = loseRoute (elect (modLPort q (fun p => { p with adv := none }) (atTime (a.time + 720000) c))) := by
  simp only [advertExpiry, hheld]

/-- A node that hears of no better root becomes root. -/
theorem electionTimeout_of_alone {c : Chip} (hon : c.link.node.cfg.on = true) (hroot : c.link.node.root = false)
    (hbest : c.link.node.best = none) : electionTimeout c = becomeRoot (atTime (c.link.node.lastBetter + 1200000) c) := by
  simp only [electionTimeout, hon, hroot, hbest, Option.isNone_none, Bool.not_false, Bool.and_self, if_true]

/-! ### Identities (R737, R738) -/

section
variable {q : Nat} {c : Chip} (hjoined : isJoined (takeInbox 5 c) q = true)
include hjoined

/-- The first offer in a grid gives the node its ID, which it offers in turn. -/
theorem gridOffer_first (hgrid : (takeInbox 5 c).link.node.cfg.mode = 3) (hnew : (takeInbox 5 c).link.node.enumerated = false) (at_ id : Nat) :
    gridOffer q at_ id c = offerId (modNode (fun n => { n with id := gridIdFrom at_ id, enumerated := true })
      (modLPort q (fun p => { p with nbr := some id }) (takeInbox 5 c))) := by
  simp only [gridOffer, hjoined, hgrid, hnew, Bool.not_true, Bool.false_eq_true, ne_eq, not_true_eq_false, or_self, if_false]

/-- A later offer that disagrees is logged. -/
theorem gridOffer_disagrees {at_ id : Nat} (hgrid : (takeInbox 5 c).link.node.cfg.mode = 3)
    (hknown : (takeInbox 5 c).link.node.enumerated = true) (hother : gridIdFrom at_ id ≠ (takeInbox 5 c).link.node.id) :
    gridOffer q at_ id c = lint 0x0F0D nodeUnit 0xFF id (modLPort q (fun p => { p with nbr := some id }) (takeInbox 5 c)) := by
  simp only [gridOffer, hjoined, hgrid, hknown, Bool.not_true, Bool.false_eq_true, ne_eq, not_true_eq_false, or_self, if_false, if_true,
    if_neg hother]

/-- The root answers a request with the ID it assigns, and learns the way to it. -/
theorem idRequest_root (hmode : (takeInbox 5 c).link.node.cfg.mode ≠ 3) (hroot : (takeInbox 5 c).link.node.root = true) (serial : Nat) :
    idRequest q serial c =
      (let a := rootAssign serial (takeInbox 5 c).link.node
       let d := modNode (fun _ => a.2) (takeInbox 5 c)
       sendNbr q 1 5 (.idRep serial a.1) (a.1.elim d fun i => learnRoute q i d)) := by
  simp only [idRequest, hjoined, hmode, hroot, Bool.not_true, Bool.false_eq_true, or_self, if_false, if_true]
  cases (rootAssign serial (takeInbox 5 c).link.node).1 <;> rfl

/-- Another node passes a request on to its parent. -/
theorem idRequest_parent {up : Nat} (hmode : (takeInbox 5 c).link.node.cfg.mode ≠ 3) (hroot : (takeInbox 5 c).link.node.root = false)
    (hparent : (takeInbox 5 c).link.node.parent = some up) (serial : Nat) :
    idRequest q serial c = sendNbr up 1 5 (.idReq serial) (modNode (fun n => { n with idAsks := sins n.idAsks serial q }) (takeInbox 5 c)) := by
  simp only [idRequest, hjoined, hmode, hroot, hparent, Bool.not_true, Bool.false_eq_true, or_self, if_false]

/-- A reply for this node sets its ID, or refuses it one. -/
theorem idReply_own {serial : Nat} (hown : serial = (takeInbox 5 c).fuses.serial) (id : Option Nat) :
    idReply q serial id c = id.elim (lint 0x0F0D nodeUnit 0xFF 0 (takeInbox 5 c))
      fun i => modNode (fun n => { n with id := i, enumerated := true }) (takeInbox 5 c) := by
  simp only [idReply, hjoined, ← hown, Bool.not_true, Bool.false_eq_true, if_false, if_true]
  cases id <;> rfl

end

/-! ### System time (R744, R745) -/

/-- An enumerated node that is not the root asks its parent. -/
theorem timeAsk_of_parent {q : Nat} {c : Chip} (hroot : c.link.node.root = false) (hparent : c.link.node.parent = some q)
    (hknown : c.link.node.enumerated = true) :
    timeAsk c = sendNbr q 0 2 .timeReq (modLink (fun l => { l with time := { l.time with asked := true } }) c) := by
  simp only [timeAsk, hroot, hparent, hknown, if_true]

/-- A reply whose exchange shows a delay out of range is discarded. -/
theorem timeReply_of_badDelay {q t1 t2 t3 t4 : Nat} {c : Chip} (hasked : (takeInbox 2 c).link.time.asked = true)
    (hparent : (takeInbox 2 c).link.node.parent = some q)
    (hbad : ((t2 : Int) - t1) + ((t4 : Int) - t3) < 0 ∨ 128000 < ((t2 : Int) - t1) + ((t4 : Int) - t3)) :
    timeReply t1 t2 t3 t4 c = modLink (fun l => { l with time := { l.time with asked := false } }) (lintKind q 9 (takeInbox 2 c)) := by
  simp only [timeReply, hasked, hparent, if_pos hbad]

/-- A reply in range disciplines system time; where time is locked already nothing else follows. -/
theorem timeReply_of_locked {q t1 t2 t3 t4 : Nat} {c : Chip} (hasked : (takeInbox 2 c).link.time.asked = true)
    (hparent : (takeInbox 2 c).link.node.parent = some q)
    (hrange : 0 ≤ ((t2 : Int) - t1) + ((t4 : Int) - t3) ∧ ((t2 : Int) - t1) + ((t4 : Int) - t3) ≤ 128000)
    (hlocked : (takeInbox 2 c).link.time.locked = true) :
    timeReply t1 t2 t3 t4 c = discipline (((t2 : Int) - t1) - ((t4 : Int) - t3)) (takeInbox 2 c) := by
  have hgood : ¬(((t2 : Int) - t1) + ((t4 : Int) - t3) < 0 ∨ 128000 < ((t2 : Int) - t1) + ((t4 : Int) - t3)) := by omega
  simp only [timeReply, hasked, hparent, if_neg hgood, hlocked, Bool.not_true, Bool.false_and, Bool.false_eq_true, if_false]

/-! ### The beat and holdover (R746, R751) -/

/-- The root's BEATs are taken by a node that is not the root and knows of no other root. -/
def beatMine (src : Nat) (c : Chip) : Prop := c.link.node.root = false ∧ (c.link.node.rootId = none ∨ c.link.node.rootId = some src)

/-- What a BEAT of the root leaves, before it is kept or discarded. -/
def beatNoted (src : Nat) (b : Beat) (c : Chip) : Chip :=
  modAlign (fun a => { a with lastFrame := some b.frame }) (modNode (fun n => { n with rootId := some src }) c)

/-- The node takes no BEAT from this source. -/
theorem not_beatMine_iff (src : Nat) (c : Chip) :
    ¬ beatMine src c ↔ c.link.node.root = true ∨ (c.link.node.rootId.isSome = true ∧ c.link.node.rootId ≠ some src) := by
  rw [beatMine, not_and_or, not_or, Bool.not_eq_false, ← ne_eq, Option.ne_none_iff_isSome]

/-- A BEAT that is not the root's is discarded. -/
theorem beatReceive_of_other {src : Nat} {c : Chip} (h : ¬ beatMine src (takeInbox 1 c)) (q : Nat) (b : Beat) :
    beatReceive q src b c = lintKind q 8 (takeInbox 1 c) := if_pos ((not_beatMine_iff ..).mp h)

/-- A BEAT of the root whose number follows the last one's, or is the first. -/
theorem beatReceive_of_next {src : Nat} {b : Beat} {c : Chip} (hmine : beatMine src (takeInbox 1 c))
    (hnext : ∀ f, (takeInbox 1 c).link.align.lastFrame = some f → b.frame = (f + 1) % 2 ^ 32) (q : Nat) :
    beatReceive q src b c = keepBeat b (beatNoted src b (takeInbox 1 c)) := by
  refine (if_neg (mt (not_beatMine_iff ..).mpr (not_not.mpr hmine))).trans (if_pos ?_)
  split
  case h_1 => rfl
  case h_2 f hf => exact beq_iff_eq.mpr (hnext f hf)

/-- A BEAT of the root with any other number is discarded. -/
theorem beatReceive_of_gap {src f : Nat} {b : Beat} {c : Chip} (hmine : beatMine src (takeInbox 1 c))
    (hlast : (takeInbox 1 c).link.align.lastFrame = some f) (hgap : b.frame ≠ (f + 1) % 2 ^ 32) (q : Nat) :
    beatReceive q src b c = lintKind q 8 (beatNoted src b (takeInbox 1 c)) := by
  refine (if_neg (mt (not_beatMine_iff ..).mpr (not_not.mpr hmine))).trans (if_neg ?_)
  have hlast' : (modNode (fun n => { n with rootId := some src }) (takeInbox 1 c)).link.align.lastFrame = some f := hlast
  simpa only [hlast', beq_iff_eq] using hgap

/-- Without a route to the root, holdover ends after 10 s. -/
theorem holdoverExpiry_of_alone {c : Chip} (hst : c.link.align.st = .holdover) (hparent : c.link.node.parent = none) :
    holdoverExpiry c = setAlign .free (atTime (c.link.align.since + 240000000) c) :=
  if_pos ⟨hst, by rw [hparent]; rfl⟩

/-- Settles O41: each event comes to its body (`makesLinked_of`), and a clause's condition chooses the branch of that body. -/
theorem linkNodeRows : Obligations.LinkNodeRows := by
  refine ⟨fun q pri serial hops => ⟨?near, ?far⟩, ?advertiseOwn, ?advertise, ?advertExpiry, ?election, fun q a id => ⟨?gridFirst, ?gridOther⟩,
    fun q serial => ⟨?noId, ?assigned, ?passOn, ?idSet, ?idRefused⟩, ?timeAsk, ?timeRequest, fun q t1 t2 t3 t4 => ⟨?badDelay, ?discipline⟩,
    fun q src frame time asc ht vt pclk lag payload => ⟨?beatNext, ?beatGap, ?beatOther⟩, ?holdover⟩
  case near =>
    exact makesLinked_of (topoAdvert q pri.toNat serial.toNat hops.toNat) (fun _ => rfl)
      fun c _ ⟨hjoined, hnear⟩ => topoAdvert_of_near hjoined hnear ..
  case far =>
    exact makesLinked_of (topoAdvert q pri.toNat serial.toNat hops.toNat) (fun _ => rfl)
      fun c _ ⟨hjoined, hfar⟩ => topoAdvert_of_far hjoined hfar ..
  case advertiseOwn => exact makesLinked_of advertise (fun _ => rfl) fun c _ hbest => by simp only [advertise, hbest]
  case advertise => exact fun b => makesLinked_of advertise (fun _ => rfl) fun c _ hbest => by simp only [advertise, hbest]
  case advertExpiry => exact fun q a => makesLinked_of (advertExpiry q) (fun _ => rfl) fun c _ hheld => advertExpiry_of_held hheld
  case election =>
    exact makesLinked_of electionTimeout (fun _ => rfl) fun c _ ⟨hon, hroot, hbest⟩ => electionTimeout_of_alone hon hroot hbest
  case gridFirst =>
    exact makesLinked_of (gridOffer q a id.toNat) (fun _ => rfl) fun c _ ⟨hjoined, hgrid, hnew⟩ => gridOffer_first hjoined hgrid hnew ..
  case gridOther =>
    exact makesLinked_of (gridOffer q a id.toNat) (fun _ => rfl)
      fun c _ ⟨hjoined, hgrid, hknown, hother⟩ => gridOffer_disagrees hjoined hgrid hknown hother
  case noId =>
    refine makesLinked_of (idRequest q serial.toNat) (fun _ => rfl) fun c _ ⟨hjoined, hmode, hroot, hnone⟩ => ?_
    simp only [idRequest_root hjoined hmode hroot, hnone, Option.elim_none]
  case assigned =>
    refine fun i => makesLinked_of (idRequest q serial.toNat) (fun _ => rfl) fun c _ ⟨hjoined, hmode, hroot, hsome⟩ => ?_
    simp only [idRequest_root hjoined hmode hroot, hsome, Option.elim_some]
  case passOn =>
    exact fun up => makesLinked_of (idRequest q serial.toNat) (fun _ => rfl)
      fun c _ ⟨hjoined, hmode, hroot, hparent⟩ => idRequest_parent hjoined hmode hroot hparent _
  case idSet =>
    exact fun i => makesLinked_of (idReply q serial.toNat (some i.toNat)) (fun _ => rfl) fun c _ ⟨hjoined, hown⟩ => idReply_own hjoined hown _
  case idRefused =>
    exact makesLinked_of (idReply q serial.toNat none) (fun _ => rfl) fun c _ ⟨hjoined, hown⟩ => idReply_own hjoined hown _
  case timeAsk =>
    exact fun q => makesLinked_of timeAsk (fun _ => rfl) fun c _ ⟨hroot, hparent, hknown⟩ => timeAsk_of_parent hroot hparent hknown
  case timeRequest => exact fun q t2 t3 => makesLinked_of (timeRequest q t2 t3) (fun _ => rfl) fun c _ hjoined => if_pos hjoined
  case badDelay =>
    exact makesLinked_of (timeReply t1 t2 t3 t4) (fun _ => rfl) fun c _ ⟨hasked, hparent, hbad⟩ => timeReply_of_badDelay hasked hparent hbad
  case discipline =>
    exact makesLinked_of (timeReply t1 t2 t3 t4) (fun _ => rfl)
      fun c _ ⟨hasked, hparent, hlow, hhigh, hlocked⟩ => timeReply_of_locked hasked hparent ⟨hlow, hhigh⟩ hlocked
  case beatNext =>
    exact makesLinked_of (beatReceive q src.toNat _) (fun _ => rfl) fun c _ ⟨hmine, hnext⟩ => beatReceive_of_next hmine hnext q
  case beatGap =>
    exact makesLinked_of (beatReceive q src.toNat _) (fun _ => rfl) fun c _ ⟨hmine, f, hlast, hgap⟩ => beatReceive_of_gap hmine hlast hgap q
  case beatOther =>
    exact makesLinked_of (beatReceive q src.toNat _) (fun _ => rfl) fun c _ hother => beatReceive_of_other hother q _
  case holdover => exact makesLinked_of holdoverExpiry (fun _ => rfl) fun c _ ⟨hst, hparent⟩ => holdoverExpiry_of_alone hst hparent

end Sys2Proof.Machine

/-! A core's writes to the registers of a channel (R757, R758, R762, R777, Table 15.12): what each write makes of the channel, and obligation
O42. -/

namespace Sys2Proof.Machine

/-- A unit that a window shows is one of its kind. -/
theorem lt_of_windowUnit {c : Chip} {p n i : Nat} {k : UnitKind} (h : windowUnit c p k n = some i) : i < (ownVec c k).length := by
  have hlocal : unitOfLocal c p k n = some i := by
    unfold windowUnit at h
    split at h
    case h_1 j hj =>
      rw [Option.ite_none_right_eq_some] at h
      rw [hj, h.2]
    case h_2 => cases h
  unfold unitOfLocal at hlocal
  split at hlocal
  case isTrue =>
    rw [Option.ite_none_right_eq_some] at hlocal
    obtain ⟨hn, hni⟩ := hlocal
    exact Option.some.inj hni ▸ hn
  case isFalse =>
    obtain ⟨hin, _⟩ := List.mem_filter.mp (List.mem_of_getElem? hlocal)
    exact List.mem_range.mp hin

/-- The channel behind a window is one of the 32. -/
theorem chan_lt_of_windowUnit {c : Chip} {p n i : Nat} (h : windowUnit c p .link n = some i) : i < 32 := by
  have hlen : (ownVec c .link).length = 32 := c.own.links.length_toList
  exact hlen ▸ lt_of_windowUnit h

/-- A channel just changed is read back changed. -/
theorem linkChan_modChan_same {i : Nat} (hi : i < 32) (f : LChan → LChan) (c : Chip) : linkChan (modChan i f c) i = f (linkChan c i) := by
  simp only [linkChan, modChan, modLink, toList_getD_vset _ hi, if_true]

/-! ### The registers of a channel's block -/

section
variable {c : Chip} {p i : Nat} {ch : Fin 32} (hunit : windowUnit c p .link ch = some i)
include hunit

/-- CH_CTRL. -/
theorem linkWrite_chCtrl (v : Nat) : linkWrite p (0xA000 + 0x40 * ch.val - 0xA000) v c = writeChCtrl i v c := by
  have hblock : ¬ 0x800 ≤ 0xA000 + 0x40 * ch.val - 0xA000 := by omega
  have hch : (0xA000 + 0x40 * ch.val - 0xA000) / 64 = ch := by omega
  have hreg : (0xA000 + 0x40 * ch.val - 0xA000) % 64 = 0x00 := by omega
  simp only [linkWrite, if_neg hblock, hch, hunit, hreg]

/-- RX_CONS. -/
theorem linkWrite_rxCons (v : Nat) : linkWrite p (0xA00E + 0x40 * ch.val - 0xA000) v c = writeRxCons i v c := by
  have hblock : ¬ 0x800 ≤ 0xA00E + 0x40 * ch.val - 0xA000 := by omega
  have hch : (0xA00E + 0x40 * ch.val - 0xA000) / 64 = ch := by omega
  have hreg : (0xA00E + 0x40 * ch.val - 0xA000) % 64 = 0x0E := by omega
  simp only [linkWrite, if_neg hblock, hch, hunit, hreg]

/-- TX_PROD. -/
theorem linkWrite_txProd (v : Nat) : linkWrite p (0xA014 + 0x40 * ch.val - 0xA000) v c = writeTxProd i v c := by
  have hblock : ¬ 0x800 ≤ 0xA014 + 0x40 * ch.val - 0xA000 := by omega
  have hch : (0xA014 + 0x40 * ch.val - 0xA000) / 64 = ch := by omega
  have hreg : (0xA014 + 0x40 * ch.val - 0xA000) % 64 = 0x14 := by omega
  simp only [linkWrite, if_neg hblock, hch, hunit, hreg]

end

/-! ### What the writes do (R757, R758, R762) -/

/-- The bits of CH_CTRL as a core writes them. -/
theorem bit_chCtrl (en bulk mcast : Bool) :
    bit (bitsToNat [en, bulk, mcast]) 0 = en ∧ bit (bitsToNat [en, bulk, mcast]) 1 = bulk ∧ bit (bitsToNat [en, bulk, mcast]) 2 = mcast := by
  cases en <;> cases bulk <;> cases mcast <;> decide

/-- EN 1 in a closed channel opens it as BULK and MCAST say. -/
theorem writeChCtrl_enable {i : Nat} {c : Chip} (hclosed : (linkChan c i).cfg.en = false) (bulk mcast : Bool) :
    writeChCtrl i (bitsToNat [true, bulk, mcast]) c =
      openChan i (modChan i (fun x => { x with cfg := { x.cfg with bulk := bulk, mcast := mcast } }) c) := by
  obtain ⟨hen, hbulk, hmcast⟩ := bit_chCtrl true bulk mcast
  simp only [writeChCtrl, hclosed, hen, hbulk, hmcast, Bool.false_eq_true, if_false, if_true]

/-- EN in an open channel: 1 leaves it open, with its settings, and 0 closes it. -/
theorem writeChCtrl_of_open {i : Nat} {c : Chip} (hopen : (linkChan c i).cfg.en = true) (en bulk mcast : Bool) :
    writeChCtrl i (bitsToNat [en, bulk, mcast]) c = if en then c else closeChan i c := by
  obtain ⟨hen, _, _⟩ := bit_chCtrl en bulk mcast
  simp only [writeChCtrl, hopen, hen, if_true]

/-- An RX_CONS that frees less than a quarter of the slots since the last announcement announces nothing. -/
theorem writeRxCons_of_few {i : Nat} {c : Chip} (hi : i < 32) {v : Word}
    (hfew : idxDiff v.toNat (linkChan (modChan i (fun x => { x with rxCons := v.toNat }) c) i).annCons
      < max 1 ((linkChan (modChan i (fun x => { x with rxCons := v.toNat }) c) i).cfg.slots / 4)) :
    writeRxCons i v.toNat c = modChan i (fun x => { x with rxCons := v.toNat }) c := by
  rw [linkChan_modChan_same hi] at hfew
  simp only [writeRxCons, Nat.mod_eq_of_lt v.isLt, linkChan_modChan_same hi, decide_eq_false (Nat.not_le.mpr hfew), Bool.and_false,
    Bool.false_eq_true, if_false]

/-- Settles O42: each write comes to its register (`writes_of`, `linkWrite_chCtrl` and its like), and a clause's condition chooses the branch of
what the register does. -/
theorem linkWindowRows : Obligations.LinkWindowRows := by
  intro k ch i
  have hctrl (en bulk mcast : Bool) : bitsToNat [en, bulk, mcast] < 65536 := by cases en <;> cases bulk <;> cases mcast <;> decide
  refine ⟨?enable, ?enabled, ?disable, ?txProd, ?rxCons⟩
  case enable =>
    refine fun bulk mcast => writes_of (by omega) (hctrl true bulk mcast) (fun _ => rfl) fun c hopen ⟨hunit, hclosed⟩ => ?_
    rw [winWrite_link hopen (by omega), linkWrite_chCtrl hunit, writeChCtrl_enable hclosed]
  case enabled =>
    refine fun bulk mcast => writes_of (by omega) (hctrl true bulk mcast) (fun _ => rfl) fun c hopen ⟨hunit, hen⟩ => ?_
    rw [winWrite_link hopen (by omega), linkWrite_chCtrl hunit, writeChCtrl_of_open hen, if_pos rfl]
  case disable =>
    refine fun bulk mcast => writes_of (by omega) (hctrl false bulk mcast) (fun _ => rfl) fun c hopen ⟨hunit, hen⟩ => ?_
    rw [winWrite_link hopen (by omega), linkWrite_chCtrl hunit, writeChCtrl_of_open hen, if_neg Bool.false_ne_true]
  case txProd =>
    refine fun v => writes_of (by omega) v.isLt (fun _ => rfl) fun c hopen hunit => ?_
    rw [winWrite_link hopen (by omega), linkWrite_txProd hunit, writeTxProd, Nat.mod_eq_of_lt v.isLt]
  case rxCons =>
    refine fun v => writes_of (by omega) v.isLt (fun _ => rfl) fun c hopen ⟨hunit, hfew⟩ => ?_
    rw [winWrite_link hopen (by omega), linkWrite_rxCons hunit, writeRxCons_of_few (chan_lt_of_windowUnit hunit) hfew]

end Sys2Proof.Machine

/-! Channels of the link (R757 to R762): what sending, receiving and control packets make of the chip, and obligation O43. -/

namespace Sys2Proof.Machine

/-! ### Sending and announcing (R757 to R760) -/

/-- The head of the TX ring of a unicast channel waits for a credit. -/
theorem sendMessage_of_noCredit {ch : Nat} {c : Chip} (hen : (linkChan c ch).cfg.en = true) (huni : (linkChan c ch).cfg.mcast = false)
    (hhead : (linkChan c ch).txNext ≠ (linkChan c ch).txProd) (hcredits : (linkChan c ch).credits = 0) : sendMessage ch c = noteWait ch c := by
  simp only [sendMessage, hen, huni, hhead, hcredits, Bool.not_true, Bool.not_false, Bool.false_eq_true, or_self, if_false, true_and,
    if_true]

/-- The address of the message at the head of a channel's TX ring. -/
def txHead (c : Chip) (ch : Nat) : Nat := (linkChan c ch).cfg.slotAt (linkChan c ch).cfg.txBase (linkChan c ch).txNext

/-- The header at the head of a channel's TX ring, as its owner's map reads it. -/
def txHeader (c : Chip) (ch : Nat) : List PByte × Chip := readK (ownerOf c .link ch) (txHead c ch) 16 c

/-- The LEN of that header. -/
def txLen (c : Chip) (ch : Nat) : Nat := leNat (plain ((txHeader c ch).1.take 2))

/-- The message at the head of an open unicast channel may go out: a credit is held, a route leads to the node, and header and payload are
sound and readable (R758, R759, R761). -/
structure MaySend (c : Chip) (ch : Nat) : Prop where
  en : (linkChan c ch).cfg.en = true
  unicast : (linkChan c ch).cfg.mcast = false
  head : (linkChan c ch).txNext ≠ (linkChan c ch).txProd
  credit : (linkChan c ch).credits ≠ 0
  route : routeOf c (linkChan c ch).cfg.node false none ≠ .lost
  header : kRangeOk c (ownerOf c .link ch) .r (txHead c ch) 16 = true
  sound : anyPoison ((txHeader c ch).1.take 2) = false
  fits : txLen c ch ≤ (linkChan c ch).cfg.slotBytes - 16
  payload : kRangeOk (txHeader c ch).2 (ownerOf c .link ch) .r ((txHead c ch + 16) % 2 ^ 24) (txLen c ch) = true

/-- Such a message goes out, and takes a credit (R758, R759). -/
theorem sendMessage_of_maySend {ch : Nat} {c : Chip} (h : MaySend c ch) :
    sendMessage ch c =
      (let e := readK (ownerOf c .link ch) ((txHead c ch + 16) % 2 ^ 24) (txLen c ch) (txHeader c ch).2
       let f := modChan ch (fun x =>
         { x with txNext := (x.txNext + 1) % 65536, txOut := x.txOut ++ [false], wait := none, credits := x.credits - 1 }) e.2
       noteWait ch ((msgPkts (linkChan c ch).cfg f.link.node.id ch e.1).foldl (sendData (linkChan c ch).cfg) f)) := by
  obtain ⟨hen, huni, hhead, hcredit, hroute, hheader, hsound, hfits, hpayload⟩ := h
  unfold txHeader txHead at hsound
  unfold txLen txHeader txHead at hfits
  unfold txLen txHeader txHead at hpayload
  unfold txHead at hheader
  have hskip : ¬((linkChan c ch).cfg.slotBytes - 16 < leNat (plain ((readK (ownerOf c .link ch)
      ((linkChan c ch).cfg.slotAt (linkChan c ch).cfg.txBase (linkChan c ch).txNext) 16 c).1.take 2))) := Nat.not_lt.mpr hfits
  simp only [sendMessage, hen, huni, hhead, hcredit, routeLost_eq_false hroute, hheader, hsound, hskip, hpayload, Bool.not_true, Bool.not_false,
    Bool.true_and, Bool.false_eq_true, or_self, and_false, if_false]
  rfl

/-- Slots that the receiver has freed are announced in time (R757). -/
theorem announceTimer_of_advanced {ch : Nat} {c : Chip} (hen : (linkChan c ch).cfg.en = true)
    (hfreed : (linkChan c ch).rxCons ≠ (linkChan c ch).annCons) : announceTimer ch c = announce ch c := by
  simp only [announceTimer, hen, bne_iff_ne.mpr hfreed, Bool.and_self, if_true]

/-- A head that has waited for too long drops the whole ring (R760). -/
theorem stallTimeout_of_wait {ch t : Nat} {c : Chip} (hwait : (linkChan c ch).wait = some t) :
    stallTimeout ch c =
      (let d := modChan ch (fun x =>
         { x with dropped := satAdd 0xFFFF x.dropped (idxDiff x.txProd x.txCons), txCons := x.txProd, txNext := x.txProd, txOut := [],
                  wait := none, st := { x.st with stalled := true } }) (forgetMsgs ch (atTime (t + 2400000) c))
       sendCtrl (linkChan d ch).cfg (.nak .stalled) (lint 0x0F0C (chanUnit ch) 0xFF 0 d)) := by
  simp only [stallTimeout, hwait]

/-! ### Control packets (R757, R760, R762) -/

/-- Free slots announced by the node that a channel listens to are its credits. -/
theorem ctrlCredits_of_heard {node ch : Nat} {c : Chip} (hheard : hears (linkChan (takeInbox 7 c) ch) node = true) (free : Nat) :
    ctrlCredits node ch free c =
      noteWait ch (modChan ch (fun x => { x with credits := free, annFrom := some node }) (takeInbox 7 c)) := by
  simp only [ctrlCredits, hheard, Bool.not_true, Bool.false_eq_true, if_false]

/-- The node that a channel listens to has closed its own. -/
theorem ctrlClose_of_heard {node ch : Nat} {c : Chip} (hheard : hears (linkChan (takeInbox 7 c) ch) node = true) :
    ctrlClose node ch c = noteWait ch (modChan ch (fun x =>
      { x with credits := 0, annFrom := none, st := if x.cfg.en then { x.st with peerClosed := true, opened := false } else x.st })
      (takeInbox 7 c)) := by
  simp only [ctrlClose, hheard, Bool.not_true, Bool.false_eq_true, if_false]

/-- The peer of an open unicast channel has opened its own. -/
theorem ctrlOpen_of_peer {node ch free : Nat} {c : Chip} (hen : (linkChan (ctrlCredits node ch free c) ch).cfg.en = true)
    (huni : (linkChan (ctrlCredits node ch free c) ch).cfg.mcast = false) (hpeer : (linkChan (ctrlCredits node ch free c) ch).cfg.node = node) :
    ctrlOpen node ch free c = modChSt ch (fun s => { s with opened := true }) (ctrlCredits node ch free c) :=
  if_pos ⟨hen, by rw [huni]; rfl, hpeer⟩

/-! ### Messages received (R758, R759, R762) -/

/-- What the message that has come whole leaves of the chip. -/
theorem dataReceive_of_cons {m : RxMsg} {rest : List RxMsg} {c : Chip} (hmsgs : c.link.msgs = m :: rest) :
    dataReceive c = takeMessage m (modLink (fun l => { l with msgs := rest }) c) := by
  simp only [dataReceive, hmsgs]

/-- A message for an open channel from its peer, with a free slot that it fits, is written into the RX ring. -/
theorem takeMessage_of_room {m : RxMsg} {c : Chip} (huni : m.group = none) (hen : (linkChan c m.chan).cfg.en = true)
    (hmcast : (linkChan c m.chan).cfg.mcast = false) (hpeer : (linkChan c m.chan).cfg.node = m.src) (hroom : (linkChan c m.chan).free ≠ 0)
    (hfits : m.bytes.length ≤ (linkChan c m.chan).cfg.slotBytes - 16) (hsound : anyPoison m.bytes = false) :
    takeMessage m c = putRx m.chan (rxHeader m.bytes.length m.src (linkChan c m.chan).cfg.rchan false c.beam.frame) m.bytes c := by
  simp only [takeMessage, huni, hen, hmcast, hpeer, hroom, if_neg (Nat.not_lt.mpr hfits), hsound, Bool.not_true, Bool.false_eq_true, ne_eq,
    not_true_eq_false, or_self, if_false]

/-- A message for a closed channel is answered CLOSED and logged. -/
theorem takeMessage_of_closed {m : RxMsg} {c : Chip} (huni : m.group = none) (hclosed : (linkChan c m.chan).cfg.en = false) :
    takeMessage m c = nakMsg m .closed (lintKind m.port 13 c) := by
  simp only [takeMessage, huni, hclosed, Bool.not_false, true_or, if_true]

/-- Settles O43: each event comes to its body (`makesLinked_of`), and a clause's condition chooses the branch of that body. -/
theorem linkChannelRows : Obligations.LinkChannelRows := by
  refine ⟨fun ch => ⟨?noCredit, ?send, ?announce, ?stall, fun node free => ⟨?credit, ?close, ?opened⟩, ?unreachable, ?stalled, ?closed⟩, ?block,
    ?remote, ?receive, ?refused⟩
  case noCredit =>
    exact makesLinked_of (sendMessage ch) (fun _ => rfl)
      fun c _ ⟨hen, huni, hhead, hcredits⟩ => sendMessage_of_noCredit hen huni hhead hcredits
  case send =>
    exact makesLinked_of (sendMessage ch) (fun _ => rfl)
      fun c _ ⟨hen, huni, hhead, hcredit, hroute, hheader, hsound, hfits, hpayload⟩ =>
        sendMessage_of_maySend ⟨hen, huni, hhead, hcredit, hroute, hheader, hsound, hfits, hpayload⟩
  case announce => exact makesLinked_of (announceTimer ch) (fun _ => rfl) fun c _ ⟨hen, hfreed⟩ => announceTimer_of_advanced hen hfreed
  case stall => exact fun t => makesLinked_of (stallTimeout ch) (fun _ => rfl) fun c _ hwait => stallTimeout_of_wait hwait
  case credit =>
    exact makesLinked_of (ctrlCredits node.toNat ch free) (fun _ => rfl) fun c _ hheard => ctrlCredits_of_heard hheard free
  case close => exact makesLinked_of (ctrlClose node.toNat ch) (fun _ => rfl) fun c _ hheard => ctrlClose_of_heard hheard
  case opened =>
    exact makesLinked_of (ctrlOpen node.toNat ch free) (fun _ => rfl) fun c _ ⟨hen, huni, hpeer⟩ => ctrlOpen_of_peer hen huni hpeer
  case unreachable => exact makesLinked_of (ctrlNak (.channel ch) .unreachable) (fun _ => rfl) fun _ _ _ => rfl
  case stalled => exact makesLinked_of (ctrlNak (.channel ch) .stalled) (fun _ => rfl) fun _ _ _ => rfl
  case closed => exact makesLinked_of (ctrlNak (.channel ch) .closed) (fun _ => rfl) fun _ _ _ => rfl
  case block => exact fun node x why => makesLinked_of (ctrlNak (.block node x) (nakOf why)) (fun _ => rfl) fun _ _ _ => rfl
  case remote => exact fun node => makesLinked_of (ctrlNak (.remote node) .unreachable) (fun _ => rfl) fun _ _ _ => rfl
  case receive =>
    exact fun m rest => makesLinked_of dataReceive (fun _ => rfl)
      fun c _ ⟨hmsgs, huni, hen, hmcast, hpeer, hroom, hfits, hsound⟩ =>
        (dataReceive_of_cons hmsgs).trans (takeMessage_of_room huni hen hmcast hpeer hroom hfits hsound)
  case refused =>
    exact fun m rest => makesLinked_of dataReceive (fun _ => rfl)
      fun c _ ⟨hmsgs, huni, hclosed⟩ => (dataReceive_of_cons hmsgs).trans (takeMessage_of_closed huni hclosed)

end Sys2Proof.Machine

/-! The commands of the vault (R783 to R797, R801, R807, R808): what each body makes where its checks pass, and obligation O45. -/

namespace Sys2Proof.Machine

/-! ### Destinations (R215) -/

/-- The map of a partition lets it write a destination. -/
theorem destDenied_part {m : Cmd} {c : Chip} {p dest n : Nat} (horg : m.org = .part p) (hdest : dest < 2 ^ 24)
    (hmap : kRangeOk c p .w dest n = true) : destDenied m c dest n = false := by
  simp only [destDenied, horg, Nat.mod_eq_of_lt hdest, hmap, Bool.not_true]

/-- A destination of a partition is one of 24 bits. -/
theorem dest24_part {m : Cmd} {p dest : Nat} (horg : m.org = .part p) (hdest : dest < 2 ^ 24) : dest24 m dest = true := by
  simp only [dest24, horg, Origin.external, decide_eq_true hdest, Bool.not_false, Bool.true_or, Bool.and_self]

/-- An external origin names no destination. -/
theorem dest24_zero {m : Cmd} {dest : Nat} (hdest : dest = 0) : dest24 m dest = true := by
  simp only [dest24, hdest, beq_self_eq_true, Bool.or_true, Bool.and_true, decide_eq_true_eq]
  decide

/-- In class 1 a fuse may be blown (R783). -/
theorem noBlow_of_class1 {c : Chip} (h : c.pwr.cls = 1) : noBlow c = false := bne_eq_false_iff_eq.mpr h

/-! ### What the vault tells (R781, R795, R796) -/

theorem length_leBytes (n x : Nat) : (leBytes n x).length = n := by
  induction n generalizing x with
  | zero => rfl
  | succ n ih => rw [leBytes, List.length_cons, ih]

/-- A record of VLT.SLOT_INFO is 16 bytes long. -/
theorem length_slotRecord (c : Chip) (i : Nat) : (slotRecord c i).length = 16 := by
  simp only [slotRecord, List.length_append, length_leBytes]

/-- The records of all sixteen slots. -/
theorem length_slotRecords (c : Chip) : ((List.range 16).flatMap (slotRecord c)).length = 256 := by
  rw [List.length_flatMap]
  simp only [length_slotRecord]
  rfl

/-- VLT.SLOT_INFO with a destination that is not refused. -/
theorem vltSlotInfo_of_dest {m : Cmd} {c : Chip} (hmap : destDenied m c (m.f 8 4) 256 = false) (hdest : dest24 m (m.f 8 4) = true) :
    vltSlotInfo m c = answerBlock m (m.f 8 4) 0 0 ((List.range 16).flatMap (slotRecord c)) c := by
  dsimp only [vltSlotInfo]
  rw [checked_chk_of_false hmap, checked_chk_of_false (by rw [hdest]; rfl), checked_nil]

/-- VLT.NONCE with a destination that is not refused: 16 bytes of entropy, outstanding for 60 s (R795). -/
theorem vltNonce_of_dest {m : Cmd} {c : Chip} (hmap : destDenied m c (m.f 8 4) 16 = false) (hdest : dest24 m (m.f 8 4) = true) :
    vltNonce m c = answerBlock m (m.f 8 4) 0 0 (entropy16 c).1
      (modVlt (fun v => { v with nonce := some ((entropy16 c).1, (entropy16 c).2.clk.qtime + 60 * 24000000) }) (entropy16 c).2) := by
  dsimp only [vltNonce]
  rw [checked_chk_of_false hmap, checked_chk_of_false (by rw [hdest]; rfl), checked_nil]

/-- VLT.PROVE with a DEVICE key to prove by (R796). -/
theorem vltProve_of_slot {m : Cmd} {c : Chip} {i : Nat} (hmap : destDenied m c (m.f 8 4) 16 = false) (hdest : dest24 m (m.f 8 4) = true)
    (hslot : (slotsFor c 2 0).head? = some i) :
    vltProve m c = answerBlock m (m.f 8 4) 0 0 (hmac16 (keyOf c i) (proveMsg c (pslice m.params 4 16))) c := by
  dsimp only [vltProve]
  rw [checked_chk_of_false hmap, checked_chk_of_false (by rw [hdest]; rfl), checked_chk_of_false (by rw [hslot]; rfl), checked_nil, hslot,
    Option.getD_some]

/-- What VLT.VERIFY asks of its fields for a cartridge image (R798). -/
structure VerifyFields (m : Cmd) : Prop where
  select : m.b 8 ≤ 1
  kind : m.b 9 = 2
  zero : m.z 10 2 = true
  some : 256 ≤ m.f 16 4
  most : m.f 16 4 ≤ 2 ^ 28
  inside : m.f 12 4 + m.f 16 4 ≤ 2 ^ 28

/-- VLT.VERIFY of a cartridge image whose signature is good answers what its block says (R799). -/
theorem vltVerify_of_good {m : Cmd} {c : Chip} {keyId rollback : Nat} {owner : Bool} (h : VerifyFields m)
    (hpeg : isPegged c 0x0B (m.b 8) = false) (hmedia : m.b 8 = 1 → c.mem.cart ≠ .absent)
    (hgood : verifyImage c 2 0 (pfield (c.mem.bytes (flashBase + 0x10000000 * m.b 8 + m.f 12 4) (m.f 16 4)) 0x10 8)
      (c.mem.bytes (flashBase + 0x10000000 * m.b 8 + m.f 12 4) (m.f 16 4)) = .good keyId rollback owner) :
    vltVerify m c = (.res keyId rollback, c) := by
  obtain ⟨hselect, hkind, hzero, hsome, hmost, hinside⟩ := h
  dsimp only [vltVerify]
  rw [checked_chk_of_false, checked_chk_of_false hpeg, checked_chk_of_false (cartMissing_eq_false hmedia), checked_nil]
  · have hcart : ¬ (2 : Nat) = 1 := by decide
    simp only [hkind, if_neg hcart, if_true, Option.map_some, hgood]
  · simp only [hkind, hzero, Bool.not_true, Bool.or_false, Bool.or_eq_false_iff, decide_eq_false_iff_not, beq_eq_false_iff_ne]
    omega

/-! ### Keys (R787 to R789, R792 to R794) -/

/-- What VLT.LOAD asks of a key in whatever state (Table 16.2, R793). -/
structure LoadFields (m : Cmd) (c : Chip) : Prop where
  low : 1 ≤ m.b 8
  high : m.b 8 ≤ 14
  cls : m.b 9 ∈ loadable (lifeOf c)
  usage : m.b 10 &&& usagePermitted (m.b 9) = m.b 10
  parts : m.b 11 &&& 0x81 = 0
  zero : m.z 14 2 = true
  supply : c.pwr.cls = 1
  empty : (slotOf c (m.b 8)).st = .empty

/-- The key of a VLT.LOAD whose fields are right: in its plain form in MAKER, and later wrapped under the nonce (R793, R794). -/
def loadKey (m : Cmd) (c : Chip) : Reply × Chip :=
  if lifeOf c == .maker then (.ok, burnNow (.load (m.b 8) (loadedSlot m (pslice m.params 8 32))) c)
  else match nonceOf c with
    | none => authFail m c
    | some n => match unwrapKey m n c with
      | none => authFail m (useNonce c)
      | some k => (.ok, burnNow (.load (m.b 8) (loadedSlot m k)) (useNonce c))

/-- VLT.LOAD whose fields are right goes on to the key. -/
theorem vltLoad_of_fields {m : Cmd} {c : Chip} (h : LoadFields m c) (hlife : lifeOf c = .maker ∨ lifeOf c = .field ∨ lifeOf c = .service)
    (hplain : lifeOf c = .maker → m.z 48 16 = true) : vltLoad m c = loadKey m c := by
  obtain ⟨hlow, hhigh, hcls, husage, hparts, hzero, hsupply, hempty⟩ := h
  have hplace : (m.b 8 == 0 || m.b 8 == 15) = false := by
    simp only [Bool.or_eq_false_iff, beq_eq_false_iff_ne]
    omega
  have hform : (lifeOf c == .maker && !m.z 48 16) = false := by
    simpa only [Bool.and_eq_false_imp, beq_iff_eq, Bool.not_eq_false'] using hplain
  have hstate : (lifeOf c == .maker || lifeOf c == .field || lifeOf c == .service) = true := by
    simpa only [Bool.or_eq_true, beq_iff_eq, or_assoc] using hlife
  dsimp only [vltLoad]
  rw [checked_chk_of_false hplace, checked_chk_of_false ?fields, checked_chk_of_false (by rw [hstate, noBlow_of_class1 hsupply]; rfl),
    checked_chk_of_false (by rw [hempty]; rfl), checked_nil]
  case fields =>
    rw [hform, List.contains_iff_mem.mpr hcls, husage, hparts, hzero, decide_eq_false (by omega), bne_self_eq_false, bne_self_eq_false]
    rfl
  rfl

/-- In MAKER the key comes as it is. -/
theorem loadKey_maker {c : Chip} (hlife : lifeOf c = .maker) (m : Cmd) :
    loadKey m c = (.ok, burnNow (.load (m.b 8) (loadedSlot m (pslice m.params 8 32))) c) := if_pos (beq_iff_eq.mpr hlife)

section
variable {m : Cmd} {c : Chip} (hlife : lifeOf c = .field ∨ lifeOf c = .service)
include hlife

theorem lifeOf_ne_maker : lifeOf c ≠ .maker := by rcases hlife with h | h <;> rw [h] <;> decide

/-- The classes that may be loaded after MAKER (Table 16.2). -/
theorem mem_loadable_of_later (hcls : m.b 9 ∈ [3, 4, 6]) : m.b 9 ∈ loadable (lifeOf c) := by
  rcases hlife with h | h <;> rwa [h]

/-- Later it comes wrapped, and its nonce is consumed. -/
theorem loadKey_wrapped {n k : List Byte} (hnonce : nonceOf c = some n) (hkey : unwrapKey m n c = some k) :
    loadKey m c = (.ok, burnNow (.load (m.b 8) (loadedSlot m k)) (useNonce c)) := by
  simp only [loadKey, beq_iff_eq, if_neg (lifeOf_ne_maker hlife), hnonce, hkey]

/-- Without a nonce there is nothing that it could be wrapped under. -/
theorem loadKey_noNonce (hnonce : nonceOf c = none) : loadKey m c = authFail m c := by
  simp only [loadKey, beq_iff_eq, if_neg (lifeOf_ne_maker hlife), hnonce]

end

/-- VLT.DERIVE of a LINK key (context 2) from a family key (R792, Table 16.6). -/
theorem vltDerive_link {m : Cmd} {c : Chip} (hlow : 1 ≤ m.b 8) (hhigh : m.b 8 ≤ 14) (hcls : (slotOf c (m.b 9)).cls = 1)
    (hallows : (slotOf c (m.b 9)).allows 1 (lifeOf c) = true) (hctx : m.b 10 = 2)
    (hlife : lifeOf c = .maker ∨ lifeOf c = .field ∨ lifeOf c = .service) (husage : m.b 11 &&& usagePermitted 6 = m.b 11) (hzero : m.z 14 2 = true)
    (hsupply : c.pwr.cls = 1) (hempty : (slotOf c (m.b 8)).st = .empty) :
    vltDerive m c = (.ok, burnNow (.load (m.b 8)
      { st := .loaded, cls := 6, usage := m.b 11, keyId := m.f 12 2,
        key := .bytes (hkdf (keyOf c (m.b 9)) (pslice m.params 8 16) (ascii "SUKEN-LINK") 32) }) c) := by
  have hplace : (m.b 8 == 0 || m.b 8 == 15) = false := by
    simp only [Bool.or_eq_false_iff, beq_eq_false_iff_ne]
    omega
  have hstate : (lifeOf c == .maker || lifeOf c == .field || lifeOf c == .service) = true := by
    simpa only [Bool.or_eq_true, beq_iff_eq, or_assoc] using hlife
  have hlink : ¬ (2 : Nat) = 1 := by decide
  dsimp only [vltDerive]
  rw [hctx]
  simp only [if_neg hlink]
  rw [checked_chk_of_false (by rw [hplace, hcls, hallows, hstate]; rfl), checked_chk_of_false ?fields, checked_chk_of_false (noBlow_of_class1 hsupply),
    checked_chk_of_false (by rw [hempty]; rfl), checked_nil]
  case fields =>
    rw [husage, hzero, decide_eq_false (by omega), bne_self_eq_false]
    rfl

/-- The slots that VLT.DESTROY names and that hold a key. -/
def doomed (m : Cmd) (c : Chip) : List Nat := (List.range 16).filter fun i => bit (m.f 8 2) i && (slotOf c i).st == .loaded

/-- VLT.DESTROY all of whose slots blow answers the mask of the slots destroyed (R787, R788). -/
theorem vltDestroy_of_good {m : Cmd} {c : Chip} {bad : BitVec 16} (hfirst : bit (m.f 8 2) 0 = false) (hlast : bit (m.f 8 2) 15 = false)
    (hsupply : c.pwr.cls = 1) (hgood : ∀ i ∈ doomed m c, bad.getLsbD i = false) :
    vltDestroy bad m c =
      (let d := (doomed m c).foldl (fun c i => destroySlot (!bad.getLsbD i) i c) c
       (.res (slotMask d .destroyed) 0, d)) := by
  have hnone : ((doomed m c).any fun i => bad.getLsbD i) = false := by
    simpa only [List.any_eq_false, Bool.not_eq_true] using hgood
  unfold doomed at hnone
  dsimp only [vltDestroy]
  rw [checked_chk_of_false (by rw [hfirst, hlast]; rfl), checked_chk_of_false (noBlow_of_class1 hsupply), checked_nil, hnone,
    if_neg Bool.false_ne_true]
  rfl

/-! ### The life cycle, SERVICE and the floor (R784, R785, R790, R801, R807) -/

/-- The destination of VLT.LIFECYCLE is well formed for whatever origin. -/
theorem dest24_of_lt {m : Cmd} {dest : Nat} (hdest : dest < 2 ^ 24) (hext : m.org.external = true → dest = 0) : dest24 m dest = true := by
  cases horg : m.org.external with
  | false => simp only [dest24, horg, decide_eq_true hdest, Bool.not_false, Bool.true_or, Bool.and_self]
  | true => exact dest24_zero (hext horg)

/-- VLT.LIFECYCLE from MAKER to FIELD, with the keys and the image that FIELD asks for (Table 16.4). -/
theorem vltLifecycle_field {bad : BitVec 16} {m : Cmd} {c : Chip} (htarget : m.b 8 = 2) (hconfirm : m.b 9 = 0) (hzero : m.z 10 2 = true)
    (hdest : dest24 m (m.f 12 4) = true) (hsupply : c.pwr.cls = 1) (hlife : lifeOf c = .maker) (hdevice : slotsFor c 2 0 ≠ [])
    (himage : slotsFor c 3 2 ≠ []) (howner : c.pwr.imgOwner = true) : vltLifecycle bad m c = (.ok, transition .field c) := by
  dsimp only [vltLifecycle]
  rw [checked_chk_of_false (by rw [htarget]; rfl), checked_chk_of_false (by rw [htarget, hconfirm, hzero, hdest]; rfl), checked_chk_of_false,
    checked_nil, htarget]
  · rfl
  · rw [htarget, noBlow_of_class1 hsupply, hlife, List.isEmpty_eq_false_iff.mpr hdevice, List.isEmpty_eq_false_iff.mpr himage, howner]
    rfl

/-- VLT.LIFECYCLE to SCRAP (R790). -/
theorem vltLifecycle_scrap {bad : BitVec 16} {m : Cmd} {c : Chip} (htarget : m.b 8 = 4) (hconfirm : m.b 9 = 0xA5) (hzero : m.z 10 2 = true)
    (hdest : dest24 m (m.f 12 4) = true) (hsupply : c.pwr.cls = 1) (hmap : destDenied m c (m.f 12 4) 24 = false) (hlife : lifeOf c ≠ .scrap) :
    vltLifecycle bad m c = scrap bad m c := by
  dsimp only [vltLifecycle]
  rw [checked_chk_of_false (by rw [hmap, Bool.and_false]), checked_chk_of_false (by rw [htarget, hconfirm, hzero, hdest]; rfl), checked_chk_of_false,
    checked_nil, htarget]
  · rfl
  · rw [htarget, noBlow_of_class1 hsupply, beq_eq_false_iff_ne.mpr hlife]
    rfl

/-- VLT.SERVICE with a token that one of the SERVICE keys gives enters SERVICE for its minutes (R807). -/
theorem vltService_enter {m : Cmd} {c : Chip} {n : List Byte} {i : Nat} (henter : m.b 8 = 1) (hzero : m.z 9 1 = true) (hlow : 1 ≤ m.f 10 2)
    (hhigh : m.f 10 2 ≤ 1440) (hsupply : c.pwr.cls = 1) (hlife : lifeOf c = .field) (hleft : c.fuses.entries ≠ 8) (hnonce : nonceOf c = some n)
    (hslot : i ∈ slotsFor c 5 5) (htoken : serviceToken c (keyOf c i) n (m.f 10 2) = pslice m.params 4 16) :
    vltService m c = (.ok, modVlt (fun v => { v with svcEnd := some ((useNonce c).clk.qtime + m.f 10 2 * 60 * 24000000) })
      (transition .entry (useNonce c))) := by
  have hgood : ((slotsFor c 5 5).any fun i => serviceToken c (keyOf c i) n (m.f 10 2) == pslice m.params 4 16) = true :=
    List.any_eq_true.mpr ⟨i, hslot, beq_iff_eq.mpr htoken⟩
  dsimp only [vltService]
  rw [if_neg ?unspent, checked_chk_of_false ?fields, checked_chk_of_false ?state, checked_nil]
  case unspent =>
    simp only [beq_eq_false_iff_ne.mpr hleft, Bool.and_false, Bool.false_and, Bool.false_eq_true, not_false_eq_true]
  case fields =>
    simp only [henter, hzero, Bool.not_true, beq_self_eq_true, if_true, Bool.or_eq_false_iff, decide_eq_false_iff_not, beq_eq_false_iff_ne]
    refine ⟨⟨rfl, trivial⟩, ?_⟩
    omega
  case state =>
    rw [noBlow_of_class1 hsupply, henter, hlife]
    rfl
  simp only [henter, hnonce, hgood, beq_self_eq_true, Bool.not_true, Bool.false_eq_true, if_false, if_true]

/-- VLT.SERVICE ends SERVICE (R808). -/
theorem vltService_leave {m : Cmd} {c : Chip} (hleave : m.b 8 = 2) (hzero : m.z 9 1 = true) (hminutes : m.f 10 2 = 0) (htoken : m.z 12 16 = true)
    (hsupply : c.pwr.cls = 1) (hlife : lifeOf c = .service) : vltService m c = (.ok, leaveService c) := by
  dsimp only [vltService]
  have hother : ((2 : Nat) == 1) = false := rfl
  rw [hleave, hother]
  simp only [Bool.false_and, Bool.false_eq_true, if_false]
  rw [checked_chk_of_false (by rw [hzero, hminutes, htoken]; rfl), checked_chk_of_false, checked_nil]
  · rfl
  · rw [noBlow_of_class1 hsupply, hlife]
    rfl

/-- After eight entries there is no SERVICE any more (R785). -/
theorem vltService_spent {m : Cmd} {c : Chip} (henter : m.b 8 = 1) (hzero : m.z 9 1 = true) (hlow : 1 ≤ m.f 10 2) (hhigh : m.f 10 2 ≤ 1440)
    (hspent : c.fuses.entries = 8) : vltService m c = (.fail .badState, lintBlock 0x1007 0xFF 0 c) := by
  dsimp only [vltService]
  rw [henter, hspent, decide_eq_true hlow, decide_eq_true hhigh, hzero]
  exact if_pos rfl

/-- VLT.FLOOR above the floor and up to what the running, confirmed image says (R801). -/
theorem vltFloor_of_raise {m : Cmd} {c : Chip} (hlow : 1 ≤ m.b 8) (hhigh : m.b 8 ≤ 64) (hsupply : c.pwr.cls = 1) (hraise : c.fuses.floor < m.b 8)
    (himage : m.b 8 ≤ c.pwr.imgRollback) (hconfirmed : slotConfirmed c = true) :
    vltFloor m c = (.ok, lintBlock 0x1006 0xFF (m.b 8) (burnNow (.floor (m.b 8)) c)) := by
  dsimp only [vltFloor]
  rw [checked_chk_of_false, checked_chk_of_false, checked_nil]
  · rw [noBlow_of_class1 hsupply, hconfirmed, decide_eq_false (Nat.not_le.mpr hraise), decide_eq_false (Nat.not_lt.mpr himage)]
    rfl
  · simp only [Bool.or_eq_false_iff, decide_eq_false_iff_not, beq_eq_false_iff_ne]
    omega

/-- Settles O45: a row that runs answers its body (`answers_of`), and each body, where its clause's condition holds, passes its checks and
makes its one effect. -/
theorem vaultCommands : Obligations.VaultCommands := by
  refine ⟨?status, ?slotInfo, ?slotInfoExternal, ?nonce, ?load, ?wrapped, ?noNonce, ?derive, ?destroy, ?prove, ?verify, ?field, ?scrap, ?enter, ?leave,
    ?spent, ?floor⟩
  case status => exact answers_of vltStatus (fun _ _ => rfl) fun _ _ _ _ => rfl
  case slotInfo =>
    refine fun p => answers_of vltSlotInfo (fun _ _ => rfl) fun c m _ ⟨horg, hdest, hmap⟩ => ?_
    rw [vltSlotInfo_of_dest (destDenied_part horg hdest hmap) (dest24_part horg hdest),
      answerBlock_part horg (by rwa [length_slotRecords]), Reply.ok]
  case slotInfoExternal =>
    refine answers_of vltSlotInfo (fun _ _ => rfl) fun c m _ ⟨hext, hdest⟩ => ?_
    rw [vltSlotInfo_of_dest (destDenied_external hext ..) (dest24_zero hdest), answerBlock_external hext]
  case nonce =>
    exact fun p => answers_of vltNonce (fun _ _ => rfl) fun c m _ ⟨horg, hdest, hmap⟩ =>
      vltNonce_of_dest (destDenied_part horg hdest hmap) (dest24_part horg hdest)
  case load =>
    refine answers_of vltLoad (fun _ _ => rfl)
      fun c m _ ⟨hlife, hlow, hhigh, hcls, husage, hparts, hzero, hplain, hsupply, hempty⟩ => ?_
    rw [vltLoad_of_fields ⟨hlow, hhigh, by rwa [hlife], husage, hparts, hzero, hsupply, hempty⟩ (.inl hlife) (fun _ => hplain),
      loadKey_maker hlife]
  case wrapped =>
    refine fun n k => answers_of vltLoad (fun _ _ => rfl)
      fun c m _ ⟨hlife, hlow, hhigh, hcls, husage, hparts, hzero, hsupply, hempty, hnonce, hkey⟩ => ?_
    rw [vltLoad_of_fields ⟨hlow, hhigh, mem_loadable_of_later hlife hcls, husage, hparts, hzero, hsupply, hempty⟩ (.inr hlife)
      (fun hmaker => absurd hmaker (lifeOf_ne_maker hlife)), loadKey_wrapped hlife hnonce hkey]
  case noNonce =>
    refine answers_of vltLoad (fun _ _ => rfl)
      fun c m _ ⟨hlife, hlow, hhigh, hcls, husage, hparts, hzero, hsupply, hempty, hnonce⟩ => ?_
    rw [vltLoad_of_fields ⟨hlow, hhigh, mem_loadable_of_later hlife hcls, husage, hparts, hzero, hsupply, hempty⟩ (.inr hlife)
      (fun hmaker => absurd hmaker (lifeOf_ne_maker hlife)), loadKey_noNonce hlife hnonce, authFail]
  case derive =>
    exact answers_of vltDerive (fun _ _ => rfl)
      fun c m _ ⟨hlow, hhigh, hcls, hallows, hctx, hlife, husage, hzero, hsupply, hempty⟩ =>
        vltDerive_link hlow hhigh hcls hallows hctx hlife husage hzero hsupply hempty
  case destroy =>
    refine fun bad => answers_of (vltDestroy bad) (fun _ _ => rfl) fun c m _ ⟨hfirst, hlast, hsupply, hgood⟩ => ?_
    refine vltDestroy_of_good hfirst hlast hsupply fun i hi => ?_
    simp only [doomed, List.mem_filter, List.mem_range, Bool.and_eq_true, beq_iff_eq] at hi
    obtain ⟨hlt, hnamed, hloaded⟩ := hi
    exact hgood i hlt hnamed hloaded
  case prove =>
    refine fun p i => answers_of vltProve (fun _ _ => rfl) fun c m _ ⟨horg, hdest, hmap, hslot, hlength⟩ => ?_
    rw [vltProve_of_slot (destDenied_part horg hdest hmap) (dest24_part horg hdest) hslot, answerBlock_part horg (by rwa [hlength]), Reply.ok]
  case verify =>
    exact fun keyId rollback owner => answers_of vltVerify (fun _ _ => rfl)
      fun c m _ ⟨hselect, hkind, hzero, hsome, hmost, hinside, hpeg, hmedia, hgood⟩ =>
        vltVerify_of_good ⟨hselect, hkind, hzero, hsome, hmost, hinside⟩ hpeg hmedia hgood
  case field =>
    exact fun bad => answers_of (vltLifecycle bad) (fun _ _ => rfl)
      fun c m _ ⟨htarget, hconfirm, hzero, hdest, hext, hsupply, hlife, hdevice, himage, howner⟩ =>
        vltLifecycle_field htarget hconfirm hzero (dest24_of_lt hdest hext) hsupply hlife hdevice himage howner
  case scrap =>
    exact fun bad => answers_of (vltLifecycle bad) (fun _ _ => rfl)
      fun c m _ ⟨htarget, hconfirm, hzero, hdest, hext, hsupply, hmap, hlife⟩ =>
        vltLifecycle_scrap htarget hconfirm hzero (dest24_of_lt hdest hext) hsupply hmap hlife
  case enter =>
    exact fun n i => answers_of vltService (fun _ _ => rfl)
      fun c m _ ⟨henter, hzero, hlow, hhigh, hsupply, hlife, hleft, hnonce, hslot, htoken⟩ =>
        vltService_enter henter hzero hlow hhigh hsupply hlife hleft hnonce hslot htoken
  case leave =>
    exact answers_of vltService (fun _ _ => rfl) fun c m _ ⟨hleave, hzero, hminutes, htoken, hsupply, hlife⟩ =>
      vltService_leave hleave hzero hminutes htoken hsupply hlife
  case spent =>
    exact answers_of vltService (fun _ _ => rfl) fun c m _ ⟨henter, hzero, hlow, hhigh, hspent⟩ =>
      vltService_spent henter hzero hlow hhigh hspent
  case floor =>
    exact answers_of vltFloor (fun _ _ => rfl) fun c m _ ⟨hlow, hhigh, hsupply, hraise, himage, hconfirmed⟩ =>
      vltFloor_of_raise hlow hhigh hsupply hraise himage hconfirmed

end Sys2Proof.Machine

/-! The commands of the service block (R816 to R842, R847 to R849): what each body makes where its checks pass, and obligation O46. -/

namespace Sys2Proof.Machine

/-! ### Units and their generations (R816, R819 to R821) -/

theorem firstFail_chk_of_false {bad : Bool} (h : bad = false) (st : Status) (l : List (Bool × Reply)) : firstFail (chk bad st :: l) = firstFail l := by
  rw [h]
  rfl

/-- A command that names a unit's generation right goes on to the checks after it. -/
theorem withGen_of_gen {m : Cmd} {u : UnitId} {gen : Nat} {before after : List (Bool × Reply)} {eff : Chip → Reply × Chip} {c : Chip} {r : UnitReg}
    (hbefore : firstFail before = none) (hreg : unitReg? c u = some r) (hgen : r.gen = gen) :
    withGen m u gen before after eff c = checked after eff c := by
  simp only [withGen, hbefore, hreg, hgen, ne_eq, not_true_eq_false, if_false]

/-- A command that names an old generation is STALE and leaves a lint entry (R816). -/
theorem withGen_stale {m : Cmd} {u : UnitId} {gen : Nat} {before after : List (Bool × Reply)} {eff : Chip → Reply × Chip} {c : Chip} {r : UnitReg}
    (hbefore : firstFail before = none) (hreg : unitReg? c u = some r) (hgen : r.gen ≠ gen) :
    withGen m u gen before after eff c = (.done .stale r.gen r.st.code [], lint 0x1102 u.code m.org.lintCode 0 c) := by
  simp only [withGen, hbefore, hreg, if_pos hgen]

/-- SVC.UNIT_STATUS of a unit that the issuer may ask about. -/
theorem svcUnitStatus_of_allowed {m : Cmd} {c : Chip} {r : UnitReg} (hreg : unitReg? c (unitOfCode (m.f 8 2)) = some r)
    (hown : ∀ p, m.org = .part p → p = 0 ∨ unitOwner c (unitOfCode (m.f 8 2)) = p) :
    svcUnitStatus m c = (.res (faultCount c (unitOfCode (m.f 8 2)))
      (r.st.code + 2 ^ 8 * r.gen + 2 ^ 16 * unitOwner c (unitOfCode (m.f 8 2)) + 2 ^ 24 * b2n r.admitBit), c) := by
  dsimp only [svcUnitStatus]
  rw [hreg]
  cases horg : m.org with
  | part p =>
    have hallowed : ¬ (p ≠ 0 ∧ unitOwner c (unitOfCode (m.f 8 2)) ≠ p) := fun ⟨hguest, hother⟩ => (hown p horg).elim hguest hother
    simp only [decide_eq_false hallowed, Bool.false_eq_true, if_false]
  | host | usb | link n => rfl

/-- SVC.PEG of an old generation. -/
theorem svcPeg_stale {m : Cmd} {c : Chip} {r : UnitReg} (hreg : unitReg? c (unitOfCode (m.f 8 2)) = some r) (hgen : r.gen ≠ m.b 10) :
    svcPeg m c = (.done .stale r.gen r.st.code [], lint 0x1102 (unitOfCode (m.f 8 2)).code m.org.lintCode 0 c) := by
  dsimp only [svcPeg]
  rw [withGen_stale rfl hreg hgen]

/-- SVC.PEG of an active unit (R819). -/
theorem svcPeg_of_active {m : Cmd} {c : Chip} {r : UnitReg} (hreg : unitReg? c (unitOfCode (m.f 8 2)) = some r) (hgen : r.gen = m.b 10)
    (hactive : unitState c (unitOfCode (m.f 8 2)) = .active) :
    svcPeg m c = (.ok, lint 0x1103 (unitOfCode (m.f 8 2)).code m.org.lintCode 0 (pegAny (unitOfCode (m.f 8 2)) c)) := by
  have hpegged : ¬ UnitState.active = UnitState.pegged := by decide
  dsimp only [svcPeg]
  rw [withGen_of_gen rfl hreg hgen, hactive, checked_chk_of_false (by rfl), checked_nil, if_neg hpegged]

/-- SVC.UNIT_RESET of a unit that is no chip select (R821). -/
theorem svcUnitReset_of_state {m : Cmd} {c : Chip} {r : UnitReg} (hreg : unitReg? c (unitOfCode (m.f 8 2)) = some r) (hgen : r.gen = m.b 10)
    (hstate : unitState c (unitOfCode (m.f 8 2)) = .pegged ∨ unitState c (unitOfCode (m.f 8 2)) = .active) (hkind : (unitOfCode (m.f 8 2)).kind ≠ 11) :
    svcUnitReset m c = (.ok, unitBack (unitOfCode (m.f 8 2)) (resetUnit (unitOfCode (m.f 8 2)) (resetRunning (unitOfCode (m.f 8 2)) c))) := by
  dsimp only [svcUnitReset]
  rw [withGen_of_gen rfl hreg hgen, checked_chk_of_false, checked_nil, decide_eq_false hkind, Bool.false_and, if_neg Bool.false_ne_true]
  rcases hstate with h | h <;> rw [h] <;> rfl

/-! ### Sparing (R823 to R828) -/

section
variable {m : Cmd} {c : Chip} {r : UnitReg} (hplace : m.b 8 ≤ 31) (hpeg : isPegged c 2 (vget c.mem.patch (m.b 8)) = false)
  (hreg : unitReg? c ⟨2, vget c.mem.patch (m.b 8)⟩ = some r) (hgen : r.gen = m.b 9)
include hplace hpeg

/-- The checks of SVC.SPARE_MACRO that stand before the generation. -/
theorem spareMacro_before : firstFail [chk (decide (31 < m.b 8)) .badParam, chk (isPegged c 2 (vget c.mem.patch (m.b 8))) .fenced] = none := by
  rw [firstFail_chk_of_false (decide_eq_false (Nat.not_lt.mpr hplace)), firstFail_chk_of_false hpeg]
  rfl

include hreg hgen

/-- SVC.SPARE_MACRO with a spare begins the copy (R823). -/
theorem svcSpareMacro_of_spare {k : Nat} (hspare : spareMacro c = some k) (hfree : c.mem.copy = none) :
    svcSpareMacro m c =
      (.wait, setUnitState ⟨2, k⟩ .copying (modMem (fun x => { x with copy := some { logical := m.b 8, spare := k, handle := m.waitHandle } }) c)) := by
  dsimp only [svcSpareMacro]
  rw [withGen_of_gen (spareMacro_before hplace hpeg) hreg hgen, checked_nil, hspare, hfree]
  rfl

/-- Without one the command fails and leaves a lint entry. -/
theorem svcSpareMacro_of_none (hspare : spareMacro c = none) : svcSpareMacro m c = (.fail .badState, lintBlock 0x1107 0xFF 0 c) := by
  dsimp only [svcSpareMacro]
  rw [withGen_of_gen (spareMacro_before hplace hpeg) hreg hgen, checked_nil, hspare]

end

section
variable {m : Cmd} {c : Chip} {r : UnitReg} (hdev : m.b 8 ≤ 5) (hforce : m.b 11 ≤ 1) (hpeg : isPegged c 3 (m.b 8) = false)
  (hreg : unitReg? c ⟨3, m.b 8⟩ = some r) (hgen : r.gen = m.b 9)
include hdev hforce hpeg

/-- The checks of SVC.XMEM that stand before the generation. -/
theorem xmem_before (hlow : 1 ≤ m.b 10) (hhigh : m.b 10 ≤ 2) :
    firstFail [chk (decide (5 < m.b 8) || m.b 10 == 0 || decide (2 < m.b 10) || decide (1 < m.b 11)) .badParam, chk (isPegged c 3 (m.b 8)) .fenced]
      = none := by
  rw [firstFail_chk_of_false, firstFail_chk_of_false hpeg]
  · rfl
  · simp only [Bool.or_eq_false_iff, decide_eq_false_iff_not, beq_eq_false_iff_ne]
    omega

include hreg hgen

/-- SVC.XMEM retires an active device, the last check of its channel only by force (R826). -/
theorem svcXmem_retire (hact : m.b 10 = 1) (hactive : unitState c ⟨3, m.b 8⟩ = .active) (hlast : lastCheck c = true → bit (m.b 11) 0 = true) :
    svcXmem m c = (.ok, retireDevice (m.b 8) c) := by
  have hcheck : (lastCheck c && !bit (m.b 11) 0) = false := by
    simpa only [Bool.and_eq_false_imp, Bool.not_eq_false'] using hlast
  dsimp only [svcXmem]
  rw [withGen_of_gen (xmem_before hdev hforce hpeg (by omega) (by omega)) hreg hgen, hact, hactive, if_pos rfl, hcheck, checked_chk_of_false (by rfl),
    checked_chk_of_false (by rfl), checked_nil, if_pos rfl]

/-- SVC.XMEM takes a retired device back by a resilver (R827). -/
theorem svcXmem_resilver (hact : m.b 10 = 2) (hretired : unitState c ⟨3, m.b 8⟩ = .retired) (hfree : c.mem.resilver = none) :
    svcXmem m c = startResilver m (m.b 8) c := by
  have hback : ¬ (2 : Nat) = 1 := by decide
  dsimp only [svcXmem]
  rw [withGen_of_gen (xmem_before hdev hforce hpeg (by omega) (by omega)) hreg hgen, hact, hretired, hfree, if_neg hback, checked_chk_of_false (by rfl),
    checked_chk_of_false (by rfl), checked_nil, if_neg hback]

end

/-! ### Migration, the shadow check and reinstatement (R829 to R836, R853) -/

/-- SVC.MIGRATE of an active core that is not held, with a spare core and nothing else at work (R835). -/
theorem svcMigrate_of_spare {m : Cmd} {c : Chip} {r : UnitReg} {k : Nat} (hcore : m.b 8 ≤ 5) (hflags : m.b 10 ≤ 1)
    (hpeg : isPegged c 1 (m.b 8) = false) (hreg : unitReg? c ⟨1, m.b 8⟩ = some r) (hgen : r.gen = m.b 9)
    (hactive : unitState c ⟨1, m.b 8⟩ = .active) (hrun : (coreOf c (m.b 8)).run ≠ .held) (hspare : spareCoreOf c = some k)
    (hnone : c.svc.migrations = []) (htest : c.svc.test = none) :
    svcMigrate m c = (.wait, modSvc (fun s => { s with migrations :=
      [{ src := m.b 8, spare := k, retire := bit (m.b 10) 0, handle := m.waitHandle, byCmd := true }] }) c) := by
  dsimp only [svcMigrate]
  rw [withGen_of_gen ?before hreg hgen, hactive, hspare, hnone, htest, beq_eq_false_iff_ne.mpr hrun, checked_chk_of_false (by rfl),
    checked_chk_of_false (by rfl), checked_nil, hspare, Option.getD_some]
  case before =>
    rw [firstFail_chk_of_false, firstFail_chk_of_false hpeg]
    · rfl
    · rw [decide_eq_false (Nat.not_lt.mpr hcore), decide_eq_false (Nat.not_lt.mpr hflags), Bool.or_false]

/-- SVC.SHADOW; the check stops in SERVICE only (R829). -/
theorem svcShadow_of_fields {m : Cmd} {c : Chip} (hon : m.b 8 ≤ 1) (hzero : m.z 9 1 = true) (hlow : 100 ≤ m.f 10 2) (hhigh : m.f 10 2 ≤ 60000)
    (hlife : m.b 8 = 0 → lifeOf c = .service) :
    svcShadow m c = (.ok, modSvc (fun s => { s with shadowEn := bit (m.b 8) 0, shadowMs := m.f 10 2, shadow := if m.b 8 = 0 then none else s.shadow }) c) := by
  dsimp only [svcShadow]
  rw [checked_chk_of_false, checked_chk_of_false, checked_nil]
  · simpa only [Bool.and_eq_false_imp, beq_iff_eq, bne_eq_false_iff_eq] using hlife
  · simp only [hzero, Bool.not_true, Bool.or_false, Bool.or_eq_false_iff, decide_eq_false_iff_not]
    omega

/-- SVC.REINSTATE of a retired core or macro begins its self-test. -/
theorem svcReinstate_of_retired {m : Cmd} {c : Chip} {r : UnitReg} (hkind : (unitOfCode (m.f 8 2)).kind = 1 ∨ (unitOfCode (m.f 8 2)).kind = 2)
    (hreg : unitReg? c (unitOfCode (m.f 8 2)) = some r) (hgen : r.gen = m.b 10) (hretired : unitState c (unitOfCode (m.f 8 2)) = .retired)
    (hlife : lifeOf c = .service) (htest : c.svc.test = none) :
    svcReinstate m c = (.wait, modSvc (fun s => { s with test := some (.reinstate (unitOfCode (m.f 8 2)).code m.waitHandle) }) c) := by
  dsimp only [svcReinstate]
  rw [withGen_of_gen ?before hreg hgen, hretired, hlife, htest, checked_chk_of_false (by rfl), checked_chk_of_false (by rfl), checked_nil]
  case before =>
    rw [firstFail_chk_of_false, firstFail_chk_of_false (by rw [hretired]; rfl)]
    · rfl
    · rw [hreg]
      rcases hkind with h | h <;> rw [h] <;> rfl

/-! ### Images and restarts (R837 to R841) -/

/-- A partition may read the source range that its map has. -/
theorem srcDenied_part {m : Cmd} {c : Chip} {p src n : Nat} (horg : m.org = .part p) (hmap : kRangeOk c p .r src n = true) :
    srcDenied m c src n = false := by
  simp only [srcDenied, horg, hmap, Bool.not_true]

/-- What SVC.STAGE of a partition asks of its fields (R841, Table 17.8). -/
structure StageFields (m : Cmd) : Prop where
  slot : m.b 8 ≤ 1
  zero : m.z 9 3 = true
  addr : m.f 12 4 < 2 ^ 24
  some : 256 ≤ m.f 16 4
  most : m.f 16 4 ≤ 458752

/-- SVC.STAGE of a partition, into the slot that does not run, starts with the data that its map reads (R841). -/
theorem svcStage_of_data {m : Cmd} {c d : Chip} {p : Nat} {bs : List Byte} (h : StageFields m) (horg : m.org = .part p)
    (hmap : kRangeOk c p .r (m.f 12 4) (m.f 16 4) = true) (hpeg : isPegged c 0x0B 0 = false) (hother : m.b 8 ≠ c.pwr.slot)
    (hdata : sourceData m (m.f 12 4) (m.f 16 4) c = (some bs, d)) :
    svcStage m c = startFlash m
      { handle := m.waitHandle, kind := .stage (m.b 8) (m.f 20 4), cs := 0, offset := slotOffset d (m.b 8), left := (m.f 16 4 + 4095) / 4096,
        total := (m.f 16 4 + 4095) / 4096, data := bs } d := by
  obtain ⟨hslot, hzero, haddr, hsome, hmost⟩ := h
  have hinside : m.org.external = false := by rw [horg]; rfl
  dsimp only [svcStage]
  rw [checked_chk_of_false (srcDenied_part horg hmap), checked_chk_of_false ?fields, checked_chk_of_false hpeg,
    checked_chk_of_false (by rw [beq_eq_false_iff_ne.mpr hother, Bool.and_false]), checked_nil, hinside, Bool.false_and, if_neg Bool.false_ne_true,
    hdata]
  case fields =>
    simp only [hinside, hzero, Bool.not_true, Bool.false_and, Bool.or_false, Bool.or_eq_false_iff, decide_eq_false_iff_not]
    omega

/-- SVC.SWAP to an eligible slot that does not run, outside recovery mode (R839). -/
theorem svcSwap_of_eligible {m : Cmd} {c : Chip} (hrun : awake c) (hslot : m.b 8 ≤ 1) (helig : slotEligible c (m.b 8) = true)
    (hother : m.b 8 ≠ c.pwr.slot) : svcSwap m c = (.wait, startRestart (m.b 8) true (some m) (useAttempt (m.b 8) c)) := by
  have hphase : c.pwr.phase = .run := hrun
  have hrecovery : ¬ Phase.run = Phase.recovery := by decide
  dsimp only [svcSwap]
  rw [checked_chk_of_false (decide_eq_false (Nat.not_lt.mpr hslot)),
    checked_chk_of_false (by rw [helig, beq_eq_false_iff_ne.mpr hother, Bool.and_false]; rfl), checked_nil, hphase, if_neg hrecovery]

/-- SVC.RESTART outside recovery mode (R837). -/
theorem svcRestart_of_run {c : Chip} (hrun : awake c) (m : Cmd) : svcRestart m c = (.wait, startRestart c.pwr.slot false (some m) c) := by
  have hphase : c.pwr.phase = .run := hrun
  have hrecovery : ¬ c.pwr.phase = .recovery := by
    rw [hphase]
    decide
  exact if_neg hrecovery

/-! ### The lint log and the slack trend (R847 to R849) -/

section
variable {m : Cmd} (hext : m.org.external = true) (hdest : m.f 12 4 = 0)
include hext hdest

/-- SVC.LINT_READ for an external origin: the header, and then the places asked for. -/
theorem svcLintRead_external (c : Chip) (hfirst : m.f 8 2 ≤ 255) (hsome : 1 ≤ m.f 10 2) (hmost : m.f 10 2 ≤ 31) :
    svcLintRead m c = (.done .ok 0 0 (c.lint.header ++ (List.range (m.f 10 2)).flatMap fun i => c.lint.place (m.f 8 2 + i)), c) := by
  dsimp only [svcLintRead]
  rw [checked_chk_of_false (destDenied_external hext ..), checked_chk_of_false, checked_nil, answerBlock_external hext]
  simp only [hext, if_true, dest24_zero hdest, Bool.not_true, Bool.or_false, Bool.or_eq_false_iff, decide_eq_false_iff_not, beq_eq_false_iff_ne]
  omega

/-- SVC.LINT_COUNTS for an external origin: the 31 counters of a block. -/
theorem svcLintCounts_external (c : Chip) (hblock : m.b 8 ≤ 0x11) (hzero : m.z 9 3 = true) :
    svcLintCounts m c =
      (.done .ok 0 0 ((List.range 31).flatMap fun i => leBytes 4 (sget 0 c.lint.counters (256 * m.b 8 + i + 1))), c) := by
  dsimp only [svcLintCounts]
  rw [checked_chk_of_false (destDenied_external hext ..), checked_chk_of_false, checked_nil, answerBlock_external hext]
  rw [hzero, dest24_zero hdest, decide_eq_false (Nat.not_lt.mpr hblock)]
  rfl

/-- SVC.TREND for an external origin: the newest hourly records. -/
theorem svcTrend_external (c : Chip) (hhours : m.b 8 = 0) (hzero : m.z 9 1 = true) (hsome : 1 ≤ m.f 10 2) (hmost : m.f 10 2 ≤ 64) :
    svcTrend m c = (.done .ok 0 0 ((lastN (m.f 10 2) c.svc.hours).flatMap HourRec.bytes), c) := by
  dsimp only [svcTrend]
  rw [checked_chk_of_false (destDenied_external hext ..), checked_chk_of_false, checked_nil, answerBlock_external hext, if_pos hhours]
  simp only [hhours, hext, if_true, hzero, dest24_zero hdest, Bool.not_true, Bool.or_false, Bool.or_eq_false_iff, decide_eq_false_iff_not,
    beq_eq_false_iff_ne]
  omega

end

/-- SVC.LINT_CLEAR in SERVICE. -/
theorem svcLintClear_of_service {c : Chip} (hlife : lifeOf c = .service) (m : Cmd) : svcLintClear m c = (.ok, { c with lint := {} }) := by
  rw [svcLintClear, hlife, checked_chk_of_false (by rfl), checked_nil]

/-- Settles O46: a row that runs answers its body (`answers_of`), and each body, where its clause's condition holds, passes its checks, the
generation among them, and makes its one effect. -/
theorem serviceCommands : Obligations.ServiceCommands := by
  refine ⟨?status, ?stale, ?peg, ?reset, ?spare, ?noSpare, ?retire, ?resilver, ?migrate, ?shadow, ?reinstate, ?stage, ?swap, ?restart, ?lintRead,
    ?lintCounts, ?lintClear, ?trend⟩
  case status => exact fun r => answers_of svcUnitStatus (fun _ _ => rfl) fun c m _ ⟨hreg, hown⟩ => svcUnitStatus_of_allowed hreg hown
  case stale => exact fun r => answers_of svcPeg (fun _ _ => rfl) fun c m _ ⟨hreg, hgen⟩ => svcPeg_stale hreg hgen
  case peg => exact fun r => answers_of svcPeg (fun _ _ => rfl) fun c m _ ⟨hreg, hgen, hactive⟩ => svcPeg_of_active hreg hgen hactive
  case reset =>
    exact fun r => answers_of svcUnitReset (fun _ _ => rfl) fun c m _ ⟨hreg, hgen, hstate, hkind⟩ => svcUnitReset_of_state hreg hgen hstate hkind
  case spare =>
    exact fun r k => answers_of svcSpareMacro (fun _ _ => rfl) fun c m _ ⟨hplace, hpeg, hreg, hgen, hspare, hfree⟩ =>
      svcSpareMacro_of_spare hplace hpeg hreg hgen hspare hfree
  case noSpare =>
    exact fun r => answers_of svcSpareMacro (fun _ _ => rfl) fun c m _ ⟨hplace, hpeg, hreg, hgen, hspare⟩ =>
      svcSpareMacro_of_none hplace hpeg hreg hgen hspare
  case retire =>
    exact fun r => answers_of svcXmem (fun _ _ => rfl) fun c m _ ⟨hdev, hact, hforce, hpeg, hreg, hgen, hactive, hlast⟩ =>
      svcXmem_retire hdev hforce hpeg hreg hgen hact hactive hlast
  case resilver =>
    exact fun r => answers_of svcXmem (fun _ _ => rfl) fun c m _ ⟨hdev, hact, hforce, hpeg, hreg, hgen, hretired, hfree⟩ =>
      svcXmem_resilver hdev hforce hpeg hreg hgen hact hretired hfree
  case migrate =>
    exact fun r k => answers_of svcMigrate (fun _ _ => rfl)
      fun c m _ ⟨hcore, hflags, hpeg, hreg, hgen, hactive, hrun, hspare, hnone, htest⟩ =>
        svcMigrate_of_spare hcore hflags hpeg hreg hgen hactive hrun hspare hnone htest
  case shadow =>
    exact answers_of svcShadow (fun _ _ => rfl) fun c m _ ⟨hon, hzero, hlow, hhigh, hlife⟩ => svcShadow_of_fields hon hzero hlow hhigh hlife
  case reinstate =>
    exact fun r => answers_of svcReinstate (fun _ _ => rfl) fun c m _ ⟨hkind, hreg, hgen, hretired, hlife, htest⟩ =>
      svcReinstate_of_retired hkind hreg hgen hretired hlife htest
  case stage =>
    exact fun p bs d => answers_if flashFree svcStage (fun _ _ => rfl) (fun c m ⟨hfree, _⟩ => hfree)
      fun c m _ ⟨_, horg, hmap, hslot, hzero, haddr, hsome, hmost, hpeg, hother, hdata⟩ =>
        svcStage_of_data ⟨hslot, hzero, haddr, hsome, hmost⟩ horg hmap hpeg hother hdata
  case swap =>
    exact answers_of svcSwap (fun _ _ => rfl) fun c m hrun ⟨hslot, helig, hother⟩ => svcSwap_of_eligible hrun hslot helig hother
  case restart => exact answers_of svcRestart (fun _ _ => rfl) fun c m hrun _ => svcRestart_of_run hrun m
  case lintRead =>
    exact answers_of svcLintRead (fun _ _ => rfl) fun c m _ ⟨hext, hfirst, hsome, hmost, hdest⟩ =>
      svcLintRead_external hext hdest c hfirst hsome hmost
  case lintCounts =>
    exact answers_of svcLintCounts (fun _ _ => rfl) fun c m _ ⟨hext, hblock, hzero, hdest⟩ => svcLintCounts_external hext hdest c hblock hzero
  case lintClear => exact answers_of svcLintClear (fun _ _ => rfl) fun c m _ hlife => svcLintClear_of_service hlife m
  case trend =>
    exact answers_of svcTrend (fun _ _ => rfl) fun c m _ ⟨hext, hhours, hzero, hsome, hmost, hdest⟩ =>
      svcTrend_external hext hdest c hhours hzero hsome hmost

end Sys2Proof.Machine

/-! Events of the vault and of the service block (R795, R808, R821, R829, R833, R834, R848, R849): what each body makes, and obligation O47. -/

namespace Sys2Proof.Machine

/-! ### Ends that time brings (R795, R808, R821) -/

/-- A nonce expires at its time. -/
theorem nonceExpiry_of_some {c : Chip} {n : List Byte} {t : Nat} (h : c.vlt.nonce = some (n, t)) : nonceExpiry c = useNonce (atTime t c) := by
  simp only [nonceExpiry, h]

/-- SERVICE ends when its minutes have passed. -/
theorem serviceEnd_of_service {c : Chip} {t : Nat} (hend : c.vlt.svcEnd = some t) (hlife : lifeOf c = .service) (hsupply : c.pwr.cls = 1) :
    serviceEnd c = leaveService (atTime t c) := by
  simp only [serviceEnd, hend, hlife, hsupply, and_self, if_true]

/-- A unit whose reset takes too long is pegged. -/
theorem unitResetTimeout_of_find {c : Chip} {n : Nat} {r : Nat × Option Long} (h : c.svc.resets.find? (·.1 == n) = some r) :
    unitResetTimeout n c = finish r.2 .hwFault 0 0 (lint 0x110B n 0xFF 0
      (pegAny (unitOfCode n) (modSvc (fun s => { s with resets := delFirst (· == r) s.resets }) c))) := by
  simp only [unitResetTimeout, h]

/-! ### The shadow check and self-tests (R829, R833, R834) -/

/-- Nothing is shadowed yet: the spare begins with the first core that can be. -/
theorem shadowRotate_of_none {c : Chip} (hrun : awake c) (hon : c.svc.shadowEn = true) (hspare : (spareCoreOf c).isSome = true)
    (hnone : c.svc.shadow = none) :
    shadowRotate c = modSvc (fun s => { s with shadow := ((List.range 6).filter (shadowable c)).head?.map fun k => (k, c.clk.qtime) }) c := by
  have hgoes : ¬ (!c.svc.shadowEn || (spareCoreOf c).isNone || c.pwr.phase != .run) = true := by
    rw [hon, Option.isNone_eq_false_iff.mpr hspare, show c.pwr.phase = .run from hrun]
    decide
  simp only [shadowRotate, if_neg hgoes, hnone]

/-- A unit under reinstatement that passes is a spare again. -/
theorem selfTest_reinstate_ok {c : Chip} {n : Nat} {h : Option Long} (htest : c.svc.test = some (.reinstate n h)) (b : Bool) :
    selfTest true b c = finish h .ok 0 0 (setUnitState (unitOfCode n) .spare (modSvc (fun s => { s with test := none }) c)) := by
  simp only [selfTest, htest, if_true]

/-- One that fails stays as it was. -/
theorem selfTest_reinstate_fail {c : Chip} {n : Nat} {h : Option Long} (htest : c.svc.test = some (.reinstate n h)) (b : Bool) :
    selfTest false b c = finish h .hwFault 0 0 (modSvc (fun s => { s with test := none }) c) := by
  simp only [selfTest, htest, Bool.false_eq_true, if_false]

/-- Without a test on command the two cores of a mismatch are meant. -/
theorem selfTest_mismatch {c : Chip} {k t spare : Nat} (htest : c.svc.test = none) (hshadow : c.svc.shadow = some (k, t))
    (hspare : spareCoreOf c = some spare) (a b : Bool) : selfTest a b c = shadowMismatch k spare a b c := by
  simp only [selfTest, htest, hshadow, hspare]

/-! ### The monthly record (R849) -/

/-- A month with less than 100 hours in the band tells nothing of the baseline. -/
theorem trendMonthly_short {c : Chip} (h : (monthOf c.svc).hours < 100) :
    trendMonthly c = modSvc (fun s => { s with months := lastN 12 (s.months ++ [monthOf c.svc]) }) c := if_pos h

/-- The first three months with enough hours make the baseline. -/
theorem trendMonthly_baseline {c : Chip} (hhours : 100 ≤ (monthOf c.svc).hours) (hfew : c.svc.baseline.length < 3) :
    trendMonthly c = modSvc (fun s => { s with baseline := s.baseline ++ [(monthOf c.svc).band] })
      (modSvc (fun s => { s with months := lastN 12 (s.months ++ [monthOf c.svc]) }) c) :=
  (if_neg (Nat.not_lt.mpr hhours)).trans (if_pos hfew)

/-- Settles O47: each event comes to its body (`makes_of`), and a clause's condition chooses the branch of that body. -/
theorem vaultAndServiceRows : Obligations.VaultAndServiceRows := by
  refine ⟨?nonce, ?service, ?reset, ?rotate, ?pass, ?fail, ?mismatch, ?hourly, ?short, ?baseline⟩
  case nonce => exact fun n t => makes_of nonceExpiry (fun _ => rfl) fun c _ h => nonceExpiry_of_some h
  case service =>
    exact fun t => makes_of serviceEnd (fun _ => rfl) fun c _ ⟨hend, hlife, hsupply⟩ => serviceEnd_of_service hend hlife hsupply
  case reset => exact fun unit r => makes_of (unitResetTimeout unit.toNat) (fun _ => rfl) fun c _ h => unitResetTimeout_of_find h
  case rotate =>
    exact makes_of shadowRotate (fun _ => rfl) fun c hrun ⟨hon, hspare, hnone⟩ => shadowRotate_of_none hrun hon hspare hnone
  case pass => exact fun b n h => makes_of (selfTest true b) (fun _ => rfl) fun c _ htest => selfTest_reinstate_ok htest b
  case fail => exact fun b n h => makes_of (selfTest false b) (fun _ => rfl) fun c _ htest => selfTest_reinstate_fail htest b
  case mismatch =>
    exact fun a b k t spare => makes_of (selfTest a b) (fun _ => rfl) fun c _ ⟨htest, hshadow, hspare⟩ =>
      selfTest_mismatch htest hshadow hspare a b
  case hourly => exact fun vcore tj slack => makes_of (trendHourly vcore.toNat tj slack.toNat) (fun _ => rfl) fun _ _ _ => rfl
  case short => exact makes_of trendMonthly (fun _ => rfl) fun c _ h => trendMonthly_short h
  case baseline => exact makes_of trendMonthly (fun _ => rfl) fun c _ ⟨hhours, hfew⟩ => trendMonthly_baseline hhours hfew

end Sys2Proof.Machine
